-- ==== Sys2Proof/Word.lean ====
section
/-! DEFINITION. The word types of the 4T60: bytes, the modular numbers of its cells, and lane time. -/

namespace Sys2Proof

/-- One byte of a cell, a slice, the start record or the service line. -/
abbrev Byte := BitVec 8

/-- A 32-bit count: lane time and superframe counts, modulo 2^32 (00 "Time"). -/
abbrev Count32 := BitVec 32

/-- An 8-bit number compared modulo 256: pictures, probes, blocks, tokens, tags (00 "Numbers"). -/
abbrev Num8 := BitVec 8

/-- A 16-bit sample number (R119). -/
abbrev Num16 := BitVec 16

/-- A 4-bit sequence number of a flow (R56). -/
abbrev Seq := BitVec 4

/-- CRC-16 values: cell checks and hop checks (00 "Check codes"). -/
abbrev Crc := BitVec 16

end Sys2Proof
end

