-- ==== Sys2Proof/Config.lean ====
section
/-! DEFINITION. The validated start record (R198, R199) and the fixed numbers of the part.
The spec leaves no computed value open, so this file declares no free value. -/

namespace Sys2Proof

/-- The function a status output carries (R187; codes in the layout of byte 94, R199). -/
inductive OutFn where
  | laneFault | rateLow | shed | attention | superframePulse | slipPulse | fixedLow | fixedHigh
deriving DecidableEq, Repr

/-- The parameters of one paced flow (section 4.1). -/
structure FlowParams where
  peak : Nat := 480
  floor : Nat := 48
  start : Nat := 160
  rise : Nat := 24
  fall : Nat := 64
  fade : Nat := 32
  spacing : Nat := 32
  interval : Nat := 8
  patience : Nat := 3
  idleReset : Nat := 512
  burst : Nat := 32
  scarce : Nat := 60
  ease : Nat := 90
  low : Nat := 180
  ok : Nat := 240
deriving DecidableEq, Repr

/-- Gain and offset of one monitor channel (R149). -/
structure Scale where
  gain : Nat
  offset : Int
deriving DecidableEq, Repr

/-- What the start record says of one domain number: its override bit, its initial wanted bit, its priority and its
nominal draw in 10 mW units (bytes 62 to 75 of the layout, R199). -/
structure DomainWord where
  override : Bool := false
  wanted : Bool := false
  priority : Nat := 0
  nominal : Nat := 0
deriving DecidableEq, Repr

/-- The idle pattern of an audio flow, channel 1 and channel 2 (R130). -/
structure IdlePattern where
  ch1 : Int := 0
  ch2 : Int := 0
deriving DecidableEq, Repr

/-- The validated start record: every field of the layout of R199 that a block reads. -/
structure Params where
  flowL : FlowParams := {}
  flowR : FlowParams := {}
  crowd : Nat := 6
  podAudio : Bool := false
  twoOut : Bool := true
  twoIn : Bool := true
  idleOut : IdlePattern := {}
  idleIn : IdlePattern := {}
  volume : Nat := 6
  sidetone : Nat := 15
  motionRate : Nat := 1
  wearLink : Bool := true
  domains : List DomainWord := [{}, {}, {}, {}, {}, {}]
  rail : Scale := { gain := 3840, offset := 0 }
  load : Scale := { gain := 256, offset := 0 }
  aux : Scale := { gain := 256, offset := 0 }
  admitMv : Nat := 11000
  shedMv : Nat := 10400
  cutoffMv : Nat := 9800
  brownoutMv : Nat := 9000
  strapLimit : Nat := 10000
  batteryFloor : Nat := 6400
  mask : BitVec 19 := BitVec.allOnes 19
  outA : OutFn := .laneFault
  outB : OutFn := .shed
deriving DecidableEq, Repr

/-- The default value of every field (R198, the layout table of R199). -/
def Params.default : Params := {}

end Sys2Proof
end

