-- ==== Sys2Proof/Syntax.lean ====
section
/-! DEFINITION. The commands of the 4T60: one constructor of `Instr` for each row of spec/opcode_table.json. -/

namespace Sys2Proof

/-- A station of the tether; its number is its role (R197). -/
inductive Station where
  | console | pod | headset | strap
deriving DecidableEq, Repr

/-- Station numbers 0 to 3 (00 "The tether"). -/
def Station.num : Station → Nat
  | .console => 0 | .pod => 1 | .headset => 2 | .strap => 3

/-- The two one-way lanes. -/
inductive Lane where
  | down | up
deriving DecidableEq, Repr

/-- The two eyes; left is flow 0 and right is flow 1 (R47). -/
inductive Eye where
  | left | right
deriving DecidableEq, Repr

/-- The eight kinds of a cell (R27), in the order of their header codes (R46). -/
inductive Kind where
  | idle | align | data | probe | reply | power | control | relay
deriving DecidableEq, Repr

/-- The destination field of a header (R27): a station, the broadcast code 7, or one of the codes 4, 5, 6 that are
not valid (as 0, 1, 2). -/
inductive Dest where
  | to (s : Station)
  | invalid (n : Fin 3)
  | broadcast
deriving DecidableEq, Repr

/-- The three button lines (R144). -/
inductive Button where
  | volUp | volDown | mute
deriving DecidableEq, Repr

/-- The two status outputs (R187). -/
inductive StatusPin where
  | a | b
deriving DecidableEq, Repr

/-- One cell as it stands in a slot (R27, R28): the six header fields, the 32 payload bytes and the check it carries,
right or wrong. -/
structure Cell where
  kind : Kind
  src : Station
  dst : Dest
  flow : BitVec 3
  seq : Seq
  start : Bool
  payload : List Byte
  check : Crc
deriving DecidableEq, Repr

/-- The six axes of a sensor read (R119). -/
structure Axes where
  gx : BitVec 16
  gy : BitVec 16
  gz : BitVec 16
  ax : BitVec 16
  ay : BitVec 16
  az : BitVec 16
deriving DecidableEq, Repr

/-- The commands: the rows of spec/opcode_table.json in the table's order, with what each brings from outside. -/
inductive Instr where
  | powerOn
  | pin
  | brownout
  /-- The straps as sampled when LOADING begins (R197). -/
  | endOfReset (stn : Station) (sup : BitVec 2) (srec : Bool)
  /-- The bytes that came from the start memory in the read (R198). -/
  | endOfLoading (memory : List Byte)
  | rolesSettle
  | endOfLinking
  | linkingTimeout
  | signalPresent (lane : Lane)
  | signalAbsent (lane : Lane)
  | candidateAlignmentCell (lane : Lane) (cell : Cell)
  /-- What stands at the expected position: a cell, or silence (R9). -/
  | expectedAlignmentCell (lane : Lane) (found : Option Cell)
  | stationTableTimeout (lane : Lane)
  | alignmentCellSent (lane : Lane)
  | payloadSlotReceived (lane : Lane) (cell : Cell)
  | idleSlotArbitration (lane : Lane)
  | dataCellTaken (lane : Lane) (cell : Cell)
  | probeTaken (lane : Lane) (cell : Cell)
  | replyTaken (lane : Lane) (cell : Cell)
  | powerReportTaken (lane : Lane) (cell : Cell)
  | echoTaken (lane : Lane) (cell : Cell)
  | delayTaken (lane : Lane) (cell : Cell)
  | echoBackTaken (lane : Lane) (cell : Cell)
  | resurveyTaken (lane : Lane) (cell : Cell)
  | volumeCellTaken (lane : Lane) (cell : Cell)
  | muteCellTaken (lane : Lane) (cell : Cell)
  | buttonCellTaken (lane : Lane) (cell : Cell)
  | relayRequestTaken (lane : Lane) (cell : Cell)
  | relayAnswerTaken (lane : Lane) (cell : Cell)
  | relayWaitExpiry
  /-- The five fields of a slice and its bytes; `layer` is the raw layer code, `length` the length offered (R90). -/
  | sliceOffered (eye : Eye) (picture : Num8) (index : BitVec 6) (layer : BitVec 2) (length : Nat) (data : List Byte)
  | endOfStream (eye : Eye)
  | displayReadyRise (eye : Eye)
  | pictureTaken (eye : Eye) (n : Num8)
  | dataReadyEdge
  | readCompletion (axes : Axes)
  | motionReadyRise
  /-- The proximity line's level at the boundary: worn or not (R122). -/
  | localSuperframeBoundary (worn : Bool)
  /-- The debounced wear state the change goes to (R122). -/
  | wearChange (worn : Bool)
  | notWornCountExpiry
  | wakeHoldExpiry
  | sensorSilent
  | surveyTimeout (station : Station)
  | echoDiscardFailure (station : Station)
  | delayWaitExpiry
  /-- The port's input sample frame, channels 1 and 2 (section 7.1). -/
  | frameClockEdge (ch1 ch2 : BitVec 24)
  | frameClockAbsent
  | buttonPress (button : Button)
  | buttonRelease (button : Button)
  /-- The three 10-bit codes of the conversion (R149). -/
  | sampleEvent (rail load aux : BitVec 10)
  | supplyTrip
  | supplyReclose
  | powerRiBoundary
  | viewEntrySilent (station : Station)
  | keepAliveCall
  | statusPulseEnd (out : StatusPin)
  | noticeTake
  | countersTake (group : Byte)
  | tableRead (table index : Byte)
  | tableNext
  | domainWant (domain onOff : Byte)
  | volume (step : Byte)
  | micMute (onOff : Byte)
  | summary
  /-- The station byte and the inner request, code first (R189). -/
  | relay (station : Byte) (inner : List Byte)
  | relayTake
  /-- A byte that comes where the parser looks for a code (R190). -/
  | unknownCode (code : Byte)
  | framingError
  | idleGap
  | discardEnd
  /-- The levels of the three button lines at the boundary, pressed or not (R144). -/
  | localRiBoundary (volUp volDown mute : Bool)
  | frameStart
  | superframePulseStart
  | answerByteSent
  | displayReadyFall (eye : Eye)
  | motionReadyFall
deriving DecidableEq, Repr

end Sys2Proof
end

