-- ==== Sys2Proof/Machine/Request.lean ====
section
/-! DEFINITION. The requests of the service line as bytes (R189): codes, lengths, and the request a full byte string
spells. -/

namespace Sys2Proof.Machine

/-- The codes the service line knows (R189). -/
def serviceCodes : List Byte := [0x10, 0x11, 0x12, 0x13, 0x14, 0x15, 0x16, 0x17, 0x18, 0x19]

/-- The length in bytes that a request's code fixes (R189); a RELAY takes the length of its inner request. -/
def requestLength : List Byte → Option Nat
  | [] => none
  | c :: rest =>
    if c = 0x10 ∨ c = 0x13 ∨ c = 0x17 ∨ c = 0x19 then some 1
    else if c = 0x11 ∨ c = 0x15 ∨ c = 0x16 then some 2
    else if c = 0x12 ∨ c = 0x14 then some 3
    else if c = 0x18 then
      match rest with
      | [] => none
      | _ :: inner => (requestLength inner).map (· + 2)
    else none

/-- A request whose bytes are complete (R189). -/
inductive Request where
  | noticeTake
  | countersTake (group : Byte)
  | tableRead (table index : Byte)
  | tableNext
  | domainWant (domain onOff : Byte)
  | volume (step : Byte)
  | micMute (onOff : Byte)
  | summary
  | relay (station : Byte) (inner : List Byte)
  | relayTake
deriving DecidableEq, Repr

/-- The request that a byte string spells: its code's, when its length is the one the code fixes (R189). -/
def parseRequest (bs : List Byte) : Option Request :=
  if requestLength bs ≠ some bs.length then none
  else
    match bs with
    | [c] =>
      if c = 0x10 then some .noticeTake
      else if c = 0x13 then some .tableNext
      else if c = 0x17 then some .summary
      else if c = 0x19 then some .relayTake
      else none
    | c :: a :: rest =>
      if c = 0x18 then some (.relay a rest)
      else if c = 0x11 then some (.countersTake a)
      else if c = 0x15 then some (.volume a)
      else if c = 0x16 then some (.micMute a)
      else if c = 0x12 then some (.tableRead a (rest.headD 0))
      else if c = 0x14 then some (.domainWant a (rest.headD 0))
      else none
    | [] => none

/-- The bytes of a request, code to last argument (R189). -/
def Request.bytes : Request → List Byte
  | .noticeTake => [0x10]
  | .countersTake g => [0x11, g]
  | .tableRead t i => [0x12, t, i]
  | .tableNext => [0x13]
  | .domainWant d v => [0x14, d, v]
  | .volume v => [0x15, v]
  | .micMute v => [0x16, v]
  | .summary => [0x17]
  | .relay st inner => 0x18 :: st :: inner
  | .relayTake => [0x19]

/-- The code byte a request begins with (R189). -/
def Request.code : Request → Byte
  | .noticeTake => 0x10
  | .countersTake _ => 0x11
  | .tableRead _ _ => 0x12
  | .tableNext => 0x13
  | .domainWant _ _ => 0x14
  | .volume _ => 0x15
  | .micMute _ => 0x16
  | .summary => 0x17
  | .relay _ _ => 0x18
  | .relayTake => 0x19

/-- The largest answer of a request, in bytes (table of R189). -/
def Request.largest : Request → Nat
  | .noticeTake => 13
  | .countersTake _ => 23
  | .tableRead _ _ => 197
  | .tableNext => 197
  | .domainWant _ _ => 2
  | .volume _ => 2
  | .micMute _ => 2
  | .summary => 15
  | .relay _ _ => 2
  | .relayTake => 56

end Sys2Proof.Machine
end

