-- ==== Sys2Proof/WellFormed.lean ====
section
/-! DEFINITION. What it takes for a command to be one the surroundings can send: the shapes the spec fixes and the
types of the operands do not. -/

namespace Sys2Proof

/-- A cell is 36 bytes: 2 of header, 32 of payload, 2 of check (section 2.1). -/
def Cell.wellFormed (c : Cell) : Bool := c.payload.length == 32

/-- The kinds of the cells a block takes under its own row (R31). -/
def Cell.ofKind (c : Cell) (k : Kind) : Bool := c.wellFormed && c.kind == k

/-- Byte 0 of a CONTROL cell is its subtype (R46). -/
def Cell.ofSubtype (c : Cell) (n : Byte) : Bool := c.ofKind .control && c.payload.head? == some n

/-- Byte 0, bit 7 of a RELAY cell is its direction: set for an answer (R46). -/
def Cell.ofRelay (c : Cell) (answer : Bool) : Bool :=
  c.ofKind .relay && (c.payload.headD 0).getLsbD 7 == answer

/-- The operands the spec's formats allow: cells of 36 bytes of the row's kind and subtype, at most 96 bytes from the start
memory, a slice whose data is as long as its length says, a relay whose inner request has the length of its code, and a
byte that is no code where an unknown code is sent. -/
def Instr.wellFormed : Instr → Bool
  | .endOfLoading memory => memory.length ≤ 96
  | .candidateAlignmentCell _ c => c.wellFormed
  | .expectedAlignmentCell _ found => found.all Cell.wellFormed
  | .payloadSlotReceived _ c => c.wellFormed
  | .dataCellTaken _ c => c.ofKind .data
  | .probeTaken _ c => c.ofKind .probe
  | .replyTaken _ c => c.ofKind .reply
  | .powerReportTaken _ c => c.ofKind .power
  | .echoTaken _ c => c.ofSubtype 1
  | .echoBackTaken _ c => c.ofSubtype 2
  | .delayTaken _ c => c.ofSubtype 3
  | .resurveyTaken _ c => c.ofSubtype 4
  | .volumeCellTaken _ c => c.ofSubtype 5
  | .buttonCellTaken _ c => c.ofSubtype 6
  | .muteCellTaken _ c => c.ofSubtype 7
  | .relayRequestTaken _ c => c.ofRelay false
  | .relayAnswerTaken _ c => c.ofRelay true
  | .sliceOffered _ _ _ _ length data => data.length == length
  | .relay _ inner => Machine.requestLength inner == some inner.length
  | .unknownCode code => !Machine.serviceCodes.contains code
  | .powerOn | .pin | .brownout | .endOfReset _ _ _ | .rolesSettle | .endOfLinking | .linkingTimeout
  | .signalPresent _ | .signalAbsent _ | .stationTableTimeout _ | .alignmentCellSent _ | .idleSlotArbitration _
  | .relayWaitExpiry | .endOfStream _ | .displayReadyRise _ | .pictureTaken _ _ | .dataReadyEdge
  | .readCompletion _ | .motionReadyRise | .localSuperframeBoundary _ | .wearChange _ | .notWornCountExpiry
  | .wakeHoldExpiry | .sensorSilent | .surveyTimeout _ | .echoDiscardFailure _ | .delayWaitExpiry
  | .frameClockEdge _ _ | .frameClockAbsent | .buttonPress _ | .buttonRelease _ | .sampleEvent _ _ _
  | .supplyTrip | .supplyReclose | .powerRiBoundary | .viewEntrySilent _ | .keepAliveCall | .statusPulseEnd _
  | .noticeTake | .countersTake _ | .tableRead _ _ | .tableNext | .domainWant _ _ | .volume _ | .micMute _
  | .summary | .relayTake | .framingError | .idleGap | .discardEnd | .localRiBoundary _ _ _ | .frameStart
  | .superframePulseStart | .answerByteSent | .displayReadyFall _ | .motionReadyFall => true

end Sys2Proof
end

