-- ==== Sys2Proof/Decode.lean ====
section
/-! DEFINITION. The table's words. The 4T60 is a block: it has no instruction decoder, and no row of
spec/opcode_table.json gives bits, so no word spells a command. -/

namespace Sys2Proof

/-- The command a word spells by the table's bits: none, since no row of the table gives any. -/
def decodeTableWord (_nbits _w : Nat) : Option Instr := none

end Sys2Proof
end

