-- ==== Sys2Proof/Machine/State.lean ====
section
/-! DEFINITION. The state of one 4T60 node as plain data, the reasons a step can stop, and the state after reset. -/

namespace Sys2Proof.Machine

/-! ### Families of like things -/

/-- One value for each lane. -/
structure PerLane (α : Type) where
  down : α
  up : α
deriving DecidableEq, Repr

/-- One value for each eye. -/
structure PerEye (α : Type) where
  left : α
  right : α
deriving DecidableEq, Repr

/-- One value for each station. -/
structure PerStation (α : Type) where
  console : α
  pod : α
  headset : α
  strap : α
deriving DecidableEq, Repr

/-- The five planned flows (R47). -/
inductive FlowId where
  | pictureL | pictureR | motion | audioOut | audioIn
deriving DecidableEq, Repr

/-- One value for each planned flow. -/
structure PerFlow (α : Type) where
  pictureL : α
  pictureR : α
  motion : α
  audioOut : α
  audioIn : α
deriving DecidableEq, Repr

/-! ### Start (file 11) -/

/-- The start states (R200), in the order of their SUMMARY codes (R191). -/
inductive StartState where
  | reset | loading | linking | running
deriving DecidableEq, Repr

/-- The kinds of reset (R202), in the order of their RESET_CAUSE values (R184). -/
inductive Cause where
  | powerOn | pin | brownout
deriving DecidableEq, Repr

/-- Levels that the outside holds on pins of the node: line activity on each lane port (R7), the display's ready line of
each eye (R104), the motion output's ready line (R127). -/
structure Pins where
  signal : PerLane Bool
  displayReady : PerEye Bool
  motionReady : Bool
deriving DecidableEq, Repr

/-! ### Lanes (files 01, 02, 09) -/

/-- The four states of a receiver (section 1.3), in the order of their LANE_STATE codes (R184). -/
inductive RxState where
  | dark | search | confirm | locked
deriving DecidableEq, Repr

/-- The roles of a transmitter (R15 to R20). `silent` is the time before LINKING (R26). -/
inductive TxRole where
  | silent | origin | repeating | substitute | terminal | provisional
deriving DecidableEq, Repr

/-- The four lane states (chapter 9), in the order of their codes (R46). -/
inductive LaneState where
  | active | light | deep | waking
deriving DecidableEq, Repr

/-- The fields of an alignment cell (R4), its word apart. -/
structure AlignInfo where
  frame : BitVec 4
  origin : Station
  lane : LaneState
  fault : Bool
  count : Count32
  status : Byte
  hop : Crc
deriving DecidableEq, Repr

/-- One lane receiver (section 1.3). -/
structure Rx where
  state : RxState
  /-- Correct cells counted in CONFIRM (R8). -/
  confirm : Nat
  /-- Run of alignment errors (R10). -/
  errRun : Nat
  /-- Results of the last 16 evaluated frames, latest first, `true` for a failure (R11). -/
  history : List Bool
  /-- Lane state in effect (R9). -/
  inEffect : Option LaneState
  /-- Received superframe count (R8, R9). -/
  count : Option Count32
  /-- Frame number of the receiver's timing (R8). -/
  frame : BitVec 4
  /-- Slots since that frame began. -/
  offset : Nat
  /-- Fault-seen (R14). -/
  fault : Bool
  /-- Values of the last correct alignment cell since SEARCH, run on by the receiver's timing (R4). -/
  info : Option AlignInfo
  /-- The alignment cell of the current frame was correct (R4, R5). -/
  infoOk : Bool
  /-- The last correct cell's status byte by position, since LOCKED (R5). -/
  bytes : PerStation (Option Byte)
  /-- This frame's alignment cell was correct and carried ACTIVE; the same of the frame before (R36). -/
  activeThis : Bool
  activePrev : Bool
  /-- Lane state in effect for the payload slots of the current frame (R3, R11). -/
  payloadState : Option LaneState
  /-- CRC of the payload cells of this frame as they arrived (R11). -/
  crc : Crc
  /-- Slots since the receiver left LOCKED, up to 65 536 (R23). -/
  outOfLock : Nat
  /-- Lane counters (R25). -/
  alignErrors : Nat
  hopErrors : Nat
  cellErrors : Nat
  relocks : Nat
  /-- Cells dropped or copied here and not yet taken by their block, in the order of their slots (R31, R32, R34). -/
  handed : List Cell
deriving DecidableEq, Repr

/-- A power report (R167); powers in 10 mW units. -/
structure Report where
  number : Num8
  draw : Nat
  waiting : Nat
  top : Nat
  offer : Nat
  level : Nat
  rail : Nat
  tripped : Bool
deriving DecidableEq, Repr

/-- A cell in a CONTROL FIFO, with what its block put into it (R41). -/
inductive Ctl where
  | probe (eye : Eye) (number : Num8) (ar offered peak : Nat)
  | reply (eye : Eye) (number : Num8) (ar offered peak : Nat) (congested noRise hold : Bool)
  /-- `serial` names the outstanding report that this is a copy of (R179, log entry 47); it is no part of the cell. -/
  | power (r : Report) (serial : Nat)
  | echo (target : Station) (token : Num8)
  /-- `takenAt` is the local slot in which the ECHO was taken; h is filled in at insertion (R38, R118). -/
  | echoBack (token : Num8) (takenAt : Nat)
  | delay (target : Station) (token : Num8) (d : Count32)
  | resurvey
  | volume (target : Station) (quieter : Bool)
  | button (b : Button)
  | mute (target : Station)
  | relay (target : Station) (answer : Bool) (index : Nat) (tag : Num8) (parts : Nat) (bytes : List Byte)
deriving DecidableEq, Repr

/-- The lane-quiet machine of an ORIGIN (R171). -/
structure Quiet where
  lane : LaneState
  quietCount : Nat
  wakeCount : Nat
  /-- In the superframe in which WAKING began, which is not counted (R175). -/
  wakeBegins : Bool
  /-- The superframe's observations so far: any showed need; any showed need, hold, owed or fresh (R172, R173). -/
  sawNeed : Bool
  sawAny : Bool
deriving DecidableEq, Repr

/-- One lane transmitter (sections 1.4, 2.4, 2.5). -/
structure Tx where
  role : TxRole
  /-- A provisional origin that follows its receiver from the next correct frame-0 cell (R20). -/
  follows : Bool
  /-- Superframe count and frame number of its frames (R3). -/
  count : Count32
  frame : BitVec 4
  /-- Slots since that frame began. -/
  offset : Nat
  /-- A first frame has begun (R19). -/
  begun : Bool
  /-- Lane states carried by the alignment cells it sent for this frame and for the frame before (R36). -/
  sentThis : Option LaneState
  sentPrev : Option LaneState
  quiet : Option Quiet
  /-- The hop check under construction (R6): CRC, payload cells sent, and whether the frame is sent in one role. -/
  crc : Crc
  sent : Nat
  whole : Bool
  /-- CONTROL FIFO, head first (R41). -/
  fifo : List Ctl
  /-- Train count, the flow of the train's latest cell, gap owed, turn (R39, R40). -/
  train : Nat
  trainEye : Option Eye
  gapOwed : Bool
  turn : Eye
  /-- The frame now being sent is one of its own timing: clear from the loss of lock to a SUBSTITUTE's first own frame (R16). -/
  own : Bool
  /-- The alignment cell still to be sent for the frame whose cell the receiver took as it lost lock (R16, log entry 23). -/
  carry : Option AlignInfo
  /-- What the transmitter sent in its last slot (R2). -/
  line : Option Cell
deriving DecidableEq, Repr

/-- A station table entry (R22, R24). -/
structure StationEntry where
  present : Bool
  status : Byte
  absentRun : Nat
  delay : Option Count32
deriving DecidableEq, Repr

/-! ### Flows, allowed rate, pictures (files 03, 04, 05) -/

/-- States of a destination record (R57). -/
inductive DstState where
  | closed | listening | holding
deriving DecidableEq, Repr

/-- A destination record (R57). -/
structure DstRec where
  state : DstState
  expected : Option Seq
deriving DecidableEq, Repr

/-- The counters of a flow's group (R64, R88, R109, R128, R147). -/
structure FlowCounters where
  gaps : Nat
  misrouted : Nat
  layerDrops : Nat
  staleRefusals : Nat
  purges : Nat
  roomRefusals : Nat
  staleReplies : Nat
  breaks : Nat
  refusals : Nat
  orphans : Nat
  overruns : Nat
  underflows : Nat
  overflows : Nat
  lateBlocks : Nat
deriving DecidableEq, Repr

/-- States of a paced source record (section 3.2). -/
inductive PacedState where
  | idle | active | held | draining
deriving DecidableEq, Repr

/-- Rate bands (R86), in the order of their RATE_BAND values (R184). -/
inductive Band where
  | full | low | scarce
deriving DecidableEq, Repr

/-- Slice layers (chapter 5), in the order of their codes (R46). -/
inductive Layer where
  | base | refine1 | refine2
deriving DecidableEq, Repr

/-- A slice in a send queue (R92). -/
structure SliceRec where
  picture : Num8
  index : BitVec 6
  layer : Layer
  length : Nat
  total : Nat
  sent : Nat
  data : List Byte
deriving DecidableEq, Repr

/-- Why the slice input port refuses (R90). -/
inductive Refused where
  | notRunning | malformed | draining | layer | stale | room
deriving DecidableEq, Repr

/-- The answer of the slice input port (R90). -/
inductive SliceAnswer where
  | accepted
  | refused (reason : Refused)
deriving DecidableEq, Repr

/-- A paced source record (section 3.2, section 4.1, R95). -/
structure Paced where
  state : PacedState
  idleSince : Option Count32
  discarded : Nat
  queue : List SliceRec
  newest : Option Num8
  lastEntered : Option Num8
  ar : Nat
  credit : Nat
  unanswered : Nat
  lastProbe : Num8
  cellsSince : Nat
  probeAt : Option Count32
  probeWaiting : Bool
  dataAt : Option Count32
  band : Band
  answer : Option SliceAnswer
deriving DecidableEq, Repr

/-- Reassembly states (section 5.4). -/
inductive Reasm where
  | waitStart | filling | skipping
deriving DecidableEq, Repr

/-- A slice in a slice buffer (R99). -/
structure BufRec where
  picture : Num8
  index : BitVec 6
  layer : Layer
  length : Nat
  expected : Nat
  received : Nat
  complete : Bool
  data : List Byte
deriving DecidableEq, Repr

/-- The highest layer released for a slice index (R105). -/
inductive Level where
  | none | base | r1 | r2
deriving DecidableEq, Repr

/-- A layer map entry: a picture and the level of each slice index 0 to 63 (R105). -/
structure LayerEntry where
  picture : Num8
  levels : List Level
deriving DecidableEq, Repr

/-- The reply part of a last-probe-seen entry (R77). -/
structure ReplySeen where
  offered : Nat
  congested : Bool
  noRise : Bool
  hold : Bool
deriving DecidableEq, Repr

/-- A last-probe-seen entry (R77). -/
structure ProbeSeen where
  number : Num8
  ar : Nat
  fill : Nat
  reply : Option ReplySeen
deriving DecidableEq, Repr

/-- A slice handed to the display bridge (R104). -/
structure Released where
  picture : Num8
  index : BitVec 6
  layer : Layer
  length : Nat
  data : List Byte
deriving DecidableEq, Repr

/-- One eye's picture state at HEADSET (sections 5.4, 5.5). -/
structure EyeDst where
  reasm : Reasm
  buffer : List BufRec
  lastTaken : Option Num8
  /-- Newer entry first (R105). -/
  map : List LayerEntry
  probeSeen : Option ProbeSeen
  /-- The slices that the latest release handed over. -/
  out : List Released
deriving DecidableEq, Repr

/-! ### Motion and lane time (file 06) -/

/-- Motion states (section 6.4), in the order of their MOTION_STATE values (R184). -/
inductive MotionState where
  | off | sampling | doze | waking
deriving DecidableEq, Repr

/-- A motion sample (R119, R46). -/
structure Sample where
  number : Num16
  time : Count32
  doze : Bool
  unsettled : Bool
  lapse : Bool
  restart : Bool
  axes : Axes
deriving DecidableEq, Repr

/-- A sensor read in progress: what the taken edge captured (R119). -/
structure Reading where
  time : Count32
  unsettled : Bool
  doze : Bool
deriving DecidableEq, Repr

/-- The motion unit at HEADSET (sections 6.3 to 6.5). -/
structure Motion where
  state : MotionState
  worn : Bool
  wearRun : Nat
  notWorn : Nat
  wakeHold : Nat
  silence : Nat
  decimation : Nat
  reading : Option Reading
  next : Num16
  restart : Nat
  queue : List Sample
deriving DecidableEq, Repr

/-- A sample in CONSOLE's output queue (section 6.6). -/
structure OutSample where
  sample : Sample
  missing : Num16
  first : Bool
deriving DecidableEq, Repr

/-- The motion output at CONSOLE (section 6.6). -/
structure MotionOut where
  expected : Option Num16
  restartRun : Bool
  queue : List OutSample
  /-- The samples that the latest delivery handed over. -/
  out : List OutSample
deriving DecidableEq, Repr

/-- Survey states at CONSOLE (section 6.2). -/
inductive SurveyState where
  | idle | sending | waiting
deriving DecidableEq, Repr

/-- A survey record (section 6.2). -/
structure Survey where
  state : SurveyState
  token : Num8
  failed : Nat
  insertedAt : Nat
  waited : Nat
  unknown : Bool
  /-- The current ECHO was discarded at offer (R116). -/
  discarded : Bool
deriving DecidableEq, Repr

/-- The surveyed side at a station other than CONSOLE (R113, R114, R118). -/
structure Surveyed where
  offset : Count32
  known : Bool
  awaited : Option Num8
  wait : Nat
deriving DecidableEq, Repr

/-! ### Audio (file 07) -/

/-- One sample frame: channel 1 and channel 2 (a one-channel flow does not use channel 2) (section 7.1). -/
structure Frame where
  ch1 : Int
  ch2 : Int
deriving DecidableEq, Repr

/-- A block in a source queue (R132). -/
structure Block where
  number : Num8
  dst : Station
  frames : List Frame
deriving DecidableEq, Repr

/-- An audio source (R132, R133). -/
structure Source where
  opened : Bool
  position : Nat
  frames : List Frame
  next : Num8
  queue : List Block
deriving DecidableEq, Repr

/-- Sink states (R135). -/
inductive SinkState where
  | muted | priming | playing
deriving DecidableEq, Repr

/-- A block in an elastic buffer or a play register: a received block's frames, or an idle block (R130). -/
inductive PlayBlock where
  | received (frames : List Frame)
  | idle
deriving DecidableEq, Repr

/-- An audio sink (section 7.3). -/
structure Sink where
  state : SinkState
  buffer : List PlayBlock
  play : PlayBlock
  position : Nat
  expected : Option Num8
  repeatDone : Bool
deriving DecidableEq, Repr

/-- A button line (R144). -/
structure ButtonLine where
  pressed : Bool
  run : Nat
deriving DecidableEq, Repr

/-- The audio unit (file 07). A station sources at most one flow and sinks at most one (section 7.1). -/
structure Audio where
  clock : Bool
  source : Source
  sink : Sink
  volume : Nat
  muted : Bool
  volUp : ButtonLine
  volDown : ButtonLine
  mute : ButtonLine
  /-- The output frame of the latest edge. -/
  out : Option Frame
deriving DecidableEq, Repr

/-! ### Power and reports (files 08, 09) -/

/-- Domain states (R153), in the order of their DOMAIN_STATE values (R184). -/
inductive DomainState where
  | off | waiting | on | shed
deriving DecidableEq, Repr

/-- A domain table entry (R151); the nominal draw in mW. -/
structure Domain where
  number : Nat
  priority : Nat
  nominal : Nat
  wanted : Bool
  state : DomainState
deriving DecidableEq, Repr

/-- States of a peer power view entry (R157). -/
inductive ViewState where
  | unknown | heard | silent
deriving DecidableEq, Repr

/-- A peer power view entry (R157). -/
structure View where
  state : ViewState
  age : Nat
  report : Report
deriving DecidableEq, Repr

/-- The power unit (file 08). -/
structure Power where
  rail : Nat
  load : Nat
  aux : Nat
  p : Nat
  converting : Bool
  brownRun : Nat
  overRun : Nat
  domains : List Domain
  applied : Nat
  supplyLevel : Nat
  droop : Bool
  switchClosed : Bool
  tripped : Bool
  tripWait : Nat
  battery : Bool
  nextReport : Num8
deriving DecidableEq, Repr

/-- An outstanding report: its serial, the lanes on which a copy waits, and whether a copy was inserted (R177, R179). -/
structure Outstanding where
  serial : Nat
  waitDown : Bool
  waitUp : Bool
  inserted : Bool
deriving DecidableEq, Repr

/-- The report balance (R177, R180). -/
structure Balance where
  b : Int
  age : Nat
  forced : Bool
  event : Bool
  fresh : Bool
  outstanding : List Outstanding
  /-- Reports that have joined the list since reset: the serial of the next one (R178; model's own field, log entry 47). -/
  built : Nat
deriving DecidableEq, Repr

/-! ### Notices and service line (file 10) -/

/-- Notice kinds (R184), in the order of their codes 1 to 19. -/
inductive NoticeKind where
  | rateBand | slip | motionState | sensorSilent | drainDone | laneState | lateNeighbour | domainState
  | stationPresent | stationAbsent | delaySet | delayUnknown | supplyLevel | supplyTrip | supplyReclose
  | relayReady | relayTimeout | resetCause | button
deriving DecidableEq, Repr

/-- Notice subjects (R184). -/
inductive Subject where
  | flow (f : FlowId)
  | lane (l : Lane)
  | domain (n : Nat)
  | station (s : Station)
  | supply | relay | reset | buttons
deriving DecidableEq, Repr

/-- A notice (R184). -/
structure Notice where
  kind : NoticeKind
  subject : Subject
  value : BitVec 32
  time : Count32
  settled : Bool
deriving DecidableEq, Repr

/-- The parser of the service line (R189, R190). -/
inductive Parser where
  | waiting
  | collecting (bytes : List Byte)
  | discard
deriving DecidableEq, Repr

/-- States of the relay holder (R193). -/
inductive HolderState where
  | idle | outstanding | ready
deriving DecidableEq, Repr

/-- The relay holder (R193, R195). `parts` holds each received part under its index. -/
structure Holder where
  state : HolderState
  target : Station
  tag : Num8
  wait : Nat
  count : Option Nat
  parts : List (Nat × List Byte)
  answer : List Byte
  tags : Num8
deriving DecidableEq, Repr

/-- The service port's line side (R189, R192, R193). -/
structure Service where
  parser : Parser
  /-- The answer FIFO, head first. -/
  answers : List Byte
  /-- The byte that last left on the transmit wire. -/
  sent : Option Byte
  /-- The table cursor: a table code and a next index (R192). -/
  cursor : Option (Nat × Nat)
  holder : Holder
deriving DecidableEq, Repr

/-- The remaining slots of each output's pulse (R187). -/
structure Pulses where
  a : Nat
  b : Nat
deriving DecidableEq, Repr

/-! ### The state of a node -/

/-- Everything the spec gives one node, and the queue of waiting commands. -/
structure State where
  start : StartState
  cause : Cause
  station : Station
  sup : BitVec 2
  srec : Bool
  cfg : Params
  settledRoles : Bool
  farNeighbour : Bool
  lateSeen : Bool
  localSlot : Nat
  clock : Count32
  pins : Pins
  rx : PerLane Rx
  tx : PerLane Tx
  stations : PerStation StationEntry
  dst : PerFlow (Option DstRec)
  seqs : PerFlow Seq
  counters : PerFlow FlowCounters
  paced : PerEye Paced
  eyes : PerEye EyeDst
  surveyed : Surveyed
  surveys : PerStation Survey
  tokens : Num8
  motion : Motion
  motionOut : MotionOut
  audio : Audio
  power : Power
  views : PerStation View
  balance : Balance
  notices : List Notice
  pulses : Pulses
  service : Service
  pending : List Instr
deriving DecidableEq, Repr

/-- Why a step can fault: never. No rule of the spec stops the part; errors on its lines and ports are counted, answered or
discarded (safe: the model makes no stop that the part does not make). -/
inductive Fault where
deriving DecidableEq, Repr

/-- Why a step can be refused. -/
inductive Refusal where
  /-- Raised by `exec` alone, for a command whose meaning is not modelled yet; no arm uses it now (safe: it stops). -/
  | notModelled (mnemonic : String)
deriving DecidableEq, Repr

/-! ### Values after reset -/

/-- Receiver state after reset (R26). -/
def Rx.reset : Rx :=
  { state := .dark, confirm := 0, errRun := 0, history := [], inEffect := none, count := none, frame := 0, offset := 0,
    fault := false, info := none, infoOk := false, bytes := ⟨none, none, none, none⟩, activeThis := false,
    activePrev := false, payloadState := none, crc := 0xFFFF, outOfLock := 0, alignErrors := 0, hopErrors := 0,
    cellErrors := 0, relocks := 0, handed := [] }

/-- Transmitter state after reset (R26, R45). -/
def Tx.reset : Tx :=
  { role := .silent, follows := false, count := 0, frame := 0, offset := 0, begun := false, sentThis := none,
    sentPrev := none, quiet := none, crc := 0xFFFF, sent := 0, whole := false, fifo := [], train := 0,
    trainEye := none, gapOwed := false, turn := .left, own := false, carry := none, line := none }

/-- Station table entry after reset (R26). R24 and R26 give the own entry no status byte before the station first writes one into
an alignment cell, though the STATIONS table can be read then: it is 0 (DESIGN CHOICE, log entry 2). -/
def StationEntry.reset : StationEntry := { present := false, status := 0, absentRun := 0, delay := none }

/-- Flow counters after reset (R65). -/
def FlowCounters.reset : FlowCounters :=
  { gaps := 0, misrouted := 0, layerDrops := 0, staleRefusals := 0, purges := 0, roomRefusals := 0, staleReplies := 0,
    breaks := 0, refusals := 0, orphans := 0, overruns := 0, underflows := 0, overflows := 0, lateBlocks := 0 }

/-- Paced source record before its parameters are read (R65, R89, R111). -/
def Paced.reset : Paced :=
  { state := .idle, idleSince := none, discarded := 0, queue := [], newest := none, lastEntered := none, ar := 0,
    credit := 0, unanswered := 0, lastProbe := 255, cellsSince := 0, probeAt := none, probeWaiting := false,
    dataAt := none, band := .low, answer := none }

/-- Picture destination state after reset (R89, R111). -/
def EyeDst.reset : EyeDst :=
  { reasm := .waitStart, buffer := [], lastTaken := none, map := [], probeSeen := none, out := [] }

/-- Survey record after reset (R129). The rule gives the state, the attempts failed and the mark; token, insertion time,
boundaries waited and the note of a discarded ECHO are 0 or clear (DESIGN CHOICE, log entry 2). -/
def Survey.reset : Survey :=
  { state := .idle, token := 0, failed := 0, insertedAt := 0, waited := 0, unknown := false, discarded := false }

/-- Motion unit after reset (R129). -/
def Motion.reset : Motion :=
  { state := .off, worn := true, wearRun := 0, notWorn := 0, wakeHold := 0, silence := 0, decimation := 0,
    reading := none, next := 0, restart := 0, queue := [] }

/-- Audio source after reset (R148). -/
def Source.reset : Source := { opened := false, position := 0, frames := [], next := 0, queue := [] }

/-- Audio sink after reset (R148). -/
def Sink.reset : Sink :=
  { state := .muted, buffer := [], play := .idle, position := 0, expected := none, repeatDone := false }

/-- Audio unit after reset (R148). -/
def Audio.reset : Audio :=
  { clock := false, source := Source.reset, sink := Sink.reset, volume := Params.default.volume, muted := false,
    volUp := ⟨false, 0⟩, volDown := ⟨false, 0⟩, mute := ⟨false, 0⟩, out := none }

/-- Power unit after reset (R170); the supply switch open, as from POWER_ON (R164). -/
def Power.reset : Power :=
  { rail := 0, load := 0, aux := 0, p := 0, converting := false, brownRun := 0, overRun := 0, domains := [],
    applied := 0, supplyLevel := 0, droop := false, switchClosed := false, tripped := false, tripWait := 0,
    battery := false, nextReport := 0 }

/-- A view entry before its first report (R170). -/
def View.reset : View :=
  { state := .unknown, age := 0,
    report := { number := 0, draw := 0, waiting := 0, top := 0, offer := 0, level := 0, rail := 0, tripped := false } }

/-- Report balance after reset (R183). -/
def Balance.reset : Balance :=
  { b := 0, age := 0, forced := false, event := false, fresh := false, outstanding := [], built := 0 }

/-- Relay holder after reset (R196). -/
def Holder.reset : Holder :=
  { state := .idle, target := .console, tag := 0, wait := 0, count := none, parts := [], answer := [], tags := 0 }

/-- Service port after reset (R196). -/
def Service.reset : Service :=
  { parser := .waiting, answers := [], sent := none, cursor := none, holder := Holder.reset }

/-- The node right after reset: every field at the value the spec states after POWER_ON, in RESET, and the values of log
entries 2 and 4 where it states none. The station is CONSOLE until the straps are sampled, so the up TX is not fitted and
holds TERMINAL (R1, R26). -/
def State.reset : State :=
  { start := .reset, cause := .powerOn, station := .console, sup := 0, srec := false, cfg := Params.default,
    settledRoles := false, farNeighbour := false, lateSeen := false, localSlot := 0, clock := 0,
    pins := { signal := ⟨false, false⟩, displayReady := ⟨false, false⟩, motionReady := false },
    rx := ⟨Rx.reset, Rx.reset⟩, tx := ⟨Tx.reset, { Tx.reset with role := .terminal }⟩,
    stations := ⟨StationEntry.reset, StationEntry.reset, StationEntry.reset, StationEntry.reset⟩,
    dst := ⟨none, none, none, none, none⟩, seqs := ⟨0, 0, 0, 0, 0⟩,
    counters := ⟨FlowCounters.reset, FlowCounters.reset, FlowCounters.reset, FlowCounters.reset, FlowCounters.reset⟩,
    paced := ⟨Paced.reset, Paced.reset⟩, eyes := ⟨EyeDst.reset, EyeDst.reset⟩,
    surveyed := { offset := 0, known := false, awaited := none, wait := 0 },
    surveys := ⟨Survey.reset, Survey.reset, Survey.reset, Survey.reset⟩, tokens := 0,
    motion := Motion.reset,
    motionOut := { expected := none, restartRun := false, queue := [], out := [] },
    audio := Audio.reset, power := Power.reset,
    views := ⟨View.reset, View.reset, View.reset, View.reset⟩, balance := Balance.reset, notices := [],
    pulses := ⟨0, 0⟩, service := Service.reset, pending := [] }

end Sys2Proof.Machine
end

