-- ==== Sys2Proof/Machine/Codec.lean ====
section
/-! DEFINITION. Bytes and cells: byte order (section 2.8: most significant byte first), CRC-16 (00 "Check codes"), and the
layouts of R46 as the transmitter fills them. -/

namespace Sys2Proof.Machine

/-! ### Bytes -/

/-- The low `n` bytes of a number, most significant first (section 2.8). -/
def beBytes : Nat → Nat → List Byte
  | 0, _ => []
  | n + 1, v => BitVec.ofNat 8 (v / 256 ^ n) :: beBytes n v

/-- A signed number in `n` bytes, two's complement (section 2.8). -/
def beSigned (n : Nat) (v : Int) : List Byte := beBytes n (v % (256 ^ n : Nat)).toNat

/-- Byte `i` of a payload; bytes a list does not hold read as zero (R46). -/
def byteAt (bs : List Byte) (i : Nat) : Nat := (bs.getD i 0).toNat

/-- The unsigned number in `n` bytes from byte `i`, most significant first. -/
def fieldAt (bs : List Byte) (i : Nat) : Nat → Nat
  | 0 => 0
  | n + 1 => fieldAt bs i n * 256 + byteAt bs (i + n)

/-- A number of `w` bits read as two's complement. -/
def signedOf (w v : Nat) : Int := (BitVec.ofNat w v).toInt

/-- A payload filled with zeros to 32 bytes (R46). -/
def pad32 (bs : List Byte) : List Byte := (bs ++ List.replicate 32 0).take 32

/-! ### Check codes -/

/-- One bit step of the CRC register with polynomial x^16 + x^12 + x^5 + 1. -/
def crcShift (r : Crc) : Crc := if r.getMsbD 0 then (r <<< 1) ^^^ 0x1021 else r <<< 1

/-- One byte into the CRC register, most significant bit first. -/
def crcByte (r : Crc) (b : Byte) : Crc := Nat.repeat crcShift 8 (r ^^^ (b.zeroExtend 16 <<< 8))

/-- Further bytes into a CRC register. -/
def crcMore (r : Crc) (bs : List Byte) : Crc := bs.foldl crcByte r

/-- CRC-16 of a byte string: initial value all ones, no reflection, no inversion. -/
def crc16 (bs : List Byte) : Crc := crcMore 0xFFFF bs

/-! ### Headers and checks -/

/-- Header code of a kind (R46). -/
def Kind.code : Kind → Nat
  | .idle => 0 | .align => 1 | .data => 2 | .probe => 3 | .reply => 4 | .power => 5 | .control => 6 | .relay => 7

/-- Header code of a destination (R46). -/
def Dest.code : Dest → Nat
  | .to s => s.num
  | .invalid n => 4 + n.val
  | .broadcast => 7

/-- The 16-bit header of a cell (R46). -/
def headerOf (c : Cell) : Nat :=
  Kind.code c.kind * 8192 + c.src.num * 2048 + Dest.code c.dst * 256 + c.flow.toNat * 32 + c.seq.toNat * 2 +
    (if c.start then 1 else 0)

/-- The 34 bytes of header and payload in transmission order (R28). -/
def checkedBytes (c : Cell) : List Byte := beBytes 2 (headerOf c) ++ c.payload

/-- The check a cell should carry (R28). -/
def checkOf (c : Cell) : Crc := crc16 (checkedBytes c)

/-- A cell whose check is correct (R28). -/
def checkOk (c : Cell) : Bool := c.check == checkOf c

/-- The 36 bytes of a cell as they stand in a slot. -/
def cellBytes (c : Cell) : List Byte := checkedBytes c ++ beBytes 2 c.check.toNat

/-- A cell with its check computed (R28). -/
def sealCell (c : Cell) : Cell := { c with check := checkOf c }

/-- A cell as a transmitter completes it at insertion (R38). -/
def mkCell (kind : Kind) (src : Station) (dst : Dest) (flow : BitVec 3) (seq : Seq) (start : Bool) (payload : List Byte) :
    Cell :=
  sealCell { kind := kind, src := src, dst := dst, flow := flow, seq := seq, start := start, payload := pad32 payload,
             check := 0 }

/-- The IDLE cell a station sends in an idle slot (R29). -/
def idleCell (src : Station) : Cell := mkCell .idle src (.to .console) 0 0 false []

/-! ### Stations, flows, lanes by number -/

/-- The station of a number, taken modulo 4. -/
def stationOf (n : Nat) : Station :=
  match n % 4 with
  | 0 => .console | 1 => .pod | 2 => .headset | _ => .strap

/-- Flow numbers of the plan (R47). -/
def FlowId.num : FlowId → Nat
  | .pictureL => 0 | .pictureR => 1 | .motion => 2 | .audioOut => 3 | .audioIn => 4

/-- The planned flow of a flow field; 5, 6 and 7 have no plan entry (R47). -/
def flowOf (f : BitVec 3) : Option FlowId :=
  match f.toNat with
  | 0 => some .pictureL | 1 => some .pictureR | 2 => some .motion | 3 => some .audioOut | 4 => some .audioIn
  | _ => none

/-- The flow of an eye (R47). -/
def Eye.flow : Eye → FlowId
  | .left => .pictureL | .right => .pictureR

/-- The eye of a paced flow field. -/
def eyeOf (f : BitVec 3) : Option Eye :=
  match f.toNat with
  | 0 => some .left | 1 => some .right | _ => none

/-! ### Alignment cells (R4, R46) -/

/-- Code of a lane state (R46). -/
def LaneState.code : LaneState → Nat
  | .active => 0 | .light => 1 | .deep => 2 | .waking => 3

/-- The lane state of a code, taken modulo 4. -/
def laneStateOf (n : Nat) : LaneState :=
  match n % 4 with
  | 0 => .active | 1 => .light | 2 => .deep | _ => .waking

/-- The alignment word of a frame number (R4). -/
def alignWord (frame : BitVec 4) : Nat := if frame.toNat % 2 = 0 then 0x1D6B else 0xE294

/-- The alignment cell a station sends (R4, R46). -/
def alignCell (src : Station) (i : AlignInfo) : Cell :=
  mkCell .align src .broadcast 0 0 false
    (beBytes 2 (alignWord i.frame) ++
      [BitVec.ofNat 8 i.frame.toNat,
       BitVec.ofNat 8 (i.origin.num + LaneState.code i.lane * 4 + (if i.fault then 16 else 0))] ++
      beBytes 4 i.count.toNat ++ [i.status] ++ beBytes 2 i.hop.toNat)

/-! ### Picture cells (R93, R46) -/

/-- Code of a layer (R46). -/
def Layer.code : Layer → Nat
  | .base => 0 | .refine1 => 1 | .refine2 => 2

/-- The layer of a code; 3 is no layer (R46). -/
def layerOf (n : Nat) : Option Layer :=
  match n with
  | 0 => some .base | 1 => some .refine1 | 2 => some .refine2 | _ => none

/-- Cells of a slice of a length: 1 + ceil(max(0, L − 28) / 32) (R93). -/
def sliceCells (length : Nat) : Nat := 1 + (length - 28 + 31) / 32

/-- Payload of the next unsent cell of a slice (R93, R98). -/
def slicePayload (r : SliceRec) : List Byte :=
  if r.sent = 0 then
    beBytes 1 r.picture.toNat ++ beBytes 1 (r.index.toNat * 4 + Layer.code r.layer) ++ beBytes 2 r.length ++ r.data.take 28
  else (r.data.drop (28 + 32 * (r.sent - 1))).take 32

/-! ### Motion and audio cells (R46) -/

/-- A flag as a number. -/
def bit (b : Bool) : Nat := if b then 1 else 0

/-- Payload of a motion sample cell (R46). -/
def samplePayload (s : Sample) : List Byte :=
  beBytes 2 s.number.toNat ++ beBytes 4 s.time.toNat ++
    [BitVec.ofNat 8 (bit s.doze * 8 + bit s.unsettled * 4 + bit s.lapse * 2 + bit s.restart), 0] ++
    beBytes 2 s.axes.gx.toNat ++ beBytes 2 s.axes.gy.toNat ++ beBytes 2 s.axes.gz.toNat ++
    beBytes 2 s.axes.ax.toNat ++ beBytes 2 s.axes.ay.toNat ++ beBytes 2 s.axes.az.toNat

/-- Payload of an audio block cell of one or two channels (R46). -/
def blockPayload (two : Bool) (b : Block) : List Byte :=
  beBytes 1 b.number.toNat ++ [if two then 2 else 1] ++
    (b.frames.map fun f => if two then beSigned 3 f.ch1 ++ beSigned 3 f.ch2 else beSigned 3 f.ch1).flatten

/-! ### Cells of the CONTROL FIFO (R46) -/

/-- Payload of a probe or reply (R46). -/
def ratePayload (number : Num8) (ar offered peak : Nat) (congested noRise hold : Bool) : List Byte :=
  beBytes 1 number.toNat ++ beBytes 2 ar ++ beBytes 2 offered ++ beBytes 2 peak ++
    [BitVec.ofNat 8 (bit congested + bit noRise * 2 + bit hold * 4)]

/-- Payload of a power report (R46). -/
def reportPayload (r : Report) : List Byte :=
  beBytes 1 r.number.toNat ++ beBytes 2 r.draw ++ beBytes 2 r.waiting ++ beBytes 1 r.top ++ beBytes 2 r.offer ++
    beBytes 1 r.level ++ beBytes 2 r.rail ++ beBytes 1 (bit r.tripped)

/-- Code of a button (R46). -/
def Button.code : Button → Nat
  | .volUp => 0 | .volDown => 1 | .mute => 2

/-- The flow field of an eye's probes and replies. -/
def eyeField (e : Eye) : BitVec 3 := BitVec.ofNat 3 (FlowId.num (Eye.flow e))

/-- The cell that a queued CONTROL-class cell becomes when it is inserted at a station in a local slot (R38, R46). -/
def ctlCell (own : Station) (slot : Nat) : Ctl → Cell
  | .probe e n ar o p => mkCell .probe own (.to .headset) (eyeField e) 0 true (ratePayload n ar o p false false false)
  | .reply e n ar o p c r h => mkCell .reply own (.to .console) (eyeField e) 0 true (ratePayload n ar o p c r h)
  | .power r _ => mkCell .power own .broadcast 0 0 true (reportPayload r)
  | .echo t k => mkCell .control own (.to t) 0 0 true [1, k]
  | .echoBack k takenAt => mkCell .control own (.to .console) 0 0 true ([2, k] ++ beBytes 4 (slot - takenAt))
  | .delay t k d => mkCell .control own (.to t) 0 0 true ([3, k] ++ beBytes 4 d.toNat)
  | .resurvey => mkCell .control own (.to .console) 0 0 true [4]
  | .volume t q => mkCell .control own (.to t) 0 0 true [5, BitVec.ofNat 8 (bit q)]
  | .button b => mkCell .control own (.to .console) 0 0 true [6, BitVec.ofNat 8 (Button.code b)]
  | .mute t => mkCell .control own (.to t) 0 0 true [7]
  | .relay t answer i tag n bytes =>
    mkCell .relay own (.to t) 0 0 true
      ([BitVec.ofNat 8 (bit answer * 128 + i), tag, BitVec.ofNat 8 n, BitVec.ofNat 8 bytes.length] ++ bytes)

end Sys2Proof.Machine
end

