-- ==== Sys2Proof/Machine/Operands.lean ====
section
/-! DEFINITION. What a received cell says: the fields of R46's layouts read from the payload, with the range checks of
R46. A reader answers `none` where the cell has a field out of range. -/

namespace Sys2Proof.Machine

/-- The fields of an alignment cell whose kind, check and word are right and whose frame number is in range: the tests
R8 makes of a candidate, and those of R9 but the expected frame number. -/
def readAlign (c : Cell) : Option AlignInfo :=
  let f := byteAt c.payload 2
  let flags := byteAt c.payload 3
  if c.kind = .align ∧ checkOk c = true ∧ f < 16 ∧ fieldAt c.payload 0 2 = alignWord (BitVec.ofNat 4 f) then
    some { frame := BitVec.ofNat 4 f, origin := stationOf flags, lane := laneStateOf (flags / 4),
           fault := flags / 16 % 2 = 1, count := BitVec.ofNat 32 (fieldAt c.payload 4 4), status := c.payload.getD 8 0,
           hop := BitVec.ofNat 16 (fieldAt c.payload 9 2) }
  else none

/-- What a PROBE or REPLY carries (R46). -/
structure RateCell where
  number : Num8
  ar : Nat
  offered : Nat
  peak : Nat
  congested : Bool
  noRise : Bool
  hold : Bool
deriving DecidableEq, Repr

/-- The fields of a probe or reply; out of range when the allowed rate or the offer exceeds 1008 or the peak lies outside
16..1008 (R46, R74, R78). -/
def readRate (c : Cell) : Option RateCell :=
  let ar := fieldAt c.payload 1 2
  let offered := fieldAt c.payload 3 2
  let peak := fieldAt c.payload 5 2
  let marks := byteAt c.payload 7
  if ar ≤ 1008 ∧ offered ≤ 1008 ∧ 16 ≤ peak ∧ peak ≤ 1008 then
    some { number := c.payload.getD 0 0, ar := ar, offered := offered, peak := peak,
           congested := marks % 2 = 1, noRise := marks / 2 % 2 = 1, hold := marks / 4 % 2 = 1 }
  else none

/-- The fields of a power report; out of range when the level exceeds 7 or the top waiting priority exceeds 8 (R168). -/
def readReport (c : Cell) : Option Report :=
  let top := byteAt c.payload 5
  let level := byteAt c.payload 8
  if top ≤ 8 ∧ level ≤ 7 then
    some { number := c.payload.getD 0 0, draw := fieldAt c.payload 1 2, waiting := fieldAt c.payload 3 2, top := top,
           offer := fieldAt c.payload 6 2, level := level, rail := fieldAt c.payload 9 2,
           tripped := byteAt c.payload 11 % 2 = 1 }
  else none

/-- A motion sample's fields (R46). -/
def readSample (c : Cell) : Sample :=
  let flags := byteAt c.payload 6
  let axis (i : Nat) : BitVec 16 := BitVec.ofNat 16 (fieldAt c.payload i 2)
  { number := BitVec.ofNat 16 (fieldAt c.payload 0 2), time := BitVec.ofNat 32 (fieldAt c.payload 2 4),
    doze := flags / 8 % 2 = 1, unsettled := flags / 4 % 2 = 1, lapse := flags / 2 % 2 = 1, restart := flags % 2 = 1,
    axes := { gx := axis 8, gy := axis 10, gz := axis 12, ax := axis 14, ay := axis 16, az := axis 18 } }

/-- Sample frame `i` of a block cell of one or two channels (R46). -/
def readFrame (c : Cell) (two : Bool) (i : Nat) : Frame :=
  if two then
    { ch1 := signedOf 24 (fieldAt c.payload (2 + 6 * i) 3), ch2 := signedOf 24 (fieldAt c.payload (5 + 6 * i) 3) }
  else { ch1 := signedOf 24 (fieldAt c.payload (2 + 3 * i) 3), ch2 := 0 }

/-- An audio block's number and frames, when its channel count is the flow's configured count (R46). -/
def readBlock (c : Cell) (two : Bool) : Option (Num8 × List Frame) :=
  if byteAt c.payload 1 = (if two then 2 else 1) then
    some (c.payload.getD 0 0, [readFrame c two 0, readFrame c two 1, readFrame c two 2, readFrame c two 3])
  else none

/-- The length field of a picture cell with its start bit set, bits 12 to 0 of bytes 2 and 3 (R46). -/
def sliceLength (c : Cell) : Nat := fieldAt c.payload 2 2 % 8192

/-- A slice header as a first cell carries it (R46). -/
structure SliceHead where
  picture : Num8
  index : BitVec 6
  layer : Layer
  length : Nat
deriving DecidableEq, Repr

/-- The header of a first cell; out of range when the length exceeds 4096 or the layer code is 3 (R46, R103). -/
def readHead (c : Cell) : Option SliceHead :=
  match layerOf (byteAt c.payload 1 % 4) with
  | none => none
  | some layer =>
    if sliceLength c ≤ 4096 then
      some { picture := c.payload.getD 0 0, index := BitVec.ofNat 6 (byteAt c.payload 1 / 4), layer := layer,
             length := sliceLength c }
    else none

/-- What a RELAY cell carries (R46). -/
structure RelayCell where
  answer : Bool
  index : Nat
  tag : Num8
  count : Nat
  bytes : List Byte
deriving DecidableEq, Repr

/-- The fields of a RELAY cell; out of range when the part count is not 1 to 4, the part index is not below it, or the part
does not hold 1 to 28 bytes (R46). -/
def readRelay (c : Cell) : Option RelayCell :=
  let b0 := byteAt c.payload 0
  let n := byteAt c.payload 2
  let len := byteAt c.payload 3
  if 1 ≤ n ∧ n ≤ 4 ∧ b0 % 16 < n ∧ 1 ≤ len ∧ len ≤ 28 then
    some { answer := b0 / 128 = 1, index := b0 % 16, tag := c.payload.getD 1 0, count := n,
           bytes := (c.payload.drop 4).take len }
  else none

/-- A cell dropped here or copied here: addressed to this station, or a broadcast (R31, R32). -/
def addressed (own : Station) (c : Cell) : Bool := c.dst == .to own || c.dst == .broadcast

/-- A CONTROL cell whose subtype, 0 or above 7, is out of range: no block takes it (R46). -/
def subtypeLost (c : Cell) : Bool := c.kind == .control && (byteAt c.payload 0 == 0 || decide (7 < byteAt c.payload 0))

/-- A CONTROL cell of a subtype that is addressed here (R31, R46). -/
def isControl (own : Station) (c : Cell) (subtype : Nat) : Bool :=
  c.kind == .control && addressed own c && byteAt c.payload 0 == subtype

end Sys2Proof.Machine
end

