-- ==== Sys2Proof/Machine/Ops.lean ====
section
/-! DEFINITION. The operations every block shares: access to the families of like things, saturating counters, lane time,
notices, stations and roles, the CONTROL FIFO. -/

namespace Sys2Proof.Machine

/-! ### Access -/

/-- The value of a lane. -/
def PerLane.get {α : Type} (p : PerLane α) : Lane → α
  | .down => p.down | .up => p.up

/-- The family with one lane's value replaced. -/
def PerLane.set {α : Type} (p : PerLane α) (l : Lane) (v : α) : PerLane α :=
  match l with
  | .down => { p with down := v } | .up => { p with up := v }

/-- The value of an eye. -/
def PerEye.get {α : Type} (p : PerEye α) : Eye → α
  | .left => p.left | .right => p.right

/-- The family with one eye's value replaced. -/
def PerEye.set {α : Type} (p : PerEye α) (e : Eye) (v : α) : PerEye α :=
  match e with
  | .left => { p with left := v } | .right => { p with right := v }

/-- The value of a station. -/
def PerStation.get {α : Type} (p : PerStation α) : Station → α
  | .console => p.console | .pod => p.pod | .headset => p.headset | .strap => p.strap

/-- The family with one station's value replaced. -/
def PerStation.set {α : Type} (p : PerStation α) (s : Station) (v : α) : PerStation α :=
  match s with
  | .console => { p with console := v } | .pod => { p with pod := v }
  | .headset => { p with headset := v } | .strap => { p with strap := v }

/-- The value of a flow. -/
def PerFlow.get {α : Type} (p : PerFlow α) : FlowId → α
  | .pictureL => p.pictureL | .pictureR => p.pictureR | .motion => p.motion
  | .audioOut => p.audioOut | .audioIn => p.audioIn

/-- The family with one flow's value replaced. -/
def PerFlow.set {α : Type} (p : PerFlow α) (f : FlowId) (v : α) : PerFlow α :=
  match f with
  | .pictureL => { p with pictureL := v } | .pictureR => { p with pictureR := v } | .motion => { p with motion := v }
  | .audioOut => { p with audioOut := v } | .audioIn => { p with audioIn := v }

/-- The state with one receiver changed. -/
def State.modRx (s : State) (l : Lane) (f : Rx → Rx) : State := { s with rx := s.rx.set l (f (s.rx.get l)) }

/-- The state with one transmitter changed. -/
def State.modTx (s : State) (l : Lane) (f : Tx → Tx) : State := { s with tx := s.tx.set l (f (s.tx.get l)) }

/-- The state with one paced source record changed. -/
def State.modPaced (s : State) (e : Eye) (f : Paced → Paced) : State :=
  { s with paced := s.paced.set e (f (s.paced.get e)) }

/-- The state with one eye's destination state changed. -/
def State.modEye (s : State) (e : Eye) (f : EyeDst → EyeDst) : State := { s with eyes := s.eyes.set e (f (s.eyes.get e)) }

/-! ### Start states -/

/-- From the end of LOADING onward: LINKING and RUNNING. -/
abbrev State.live (s : State) : Prop := s.start = .linking ∨ s.start = .running

/-- The station is RUNNING. -/
abbrev State.running (s : State) : Prop := s.start = .running

/-! ### Counters -/

/-- A 16-bit counter's step: it saturates at 65 535 (00 "Numbers", R188). -/
def satInc (n : Nat) : Nat := min (n + 1) 65535

/-- A flow counter rises only while the station is RUNNING (R64). -/
def State.count (s : State) (f : FlowId) (g : FlowCounters → FlowCounters) : State :=
  if s.running then { s with counters := s.counters.set f (g (s.counters.get f)) } else s

/-! ### Roles -/

/-- A receiver is fitted at every station but for CONSOLE's down RX (R1, R197). -/
def fitted (station : Station) : Lane → Bool
  | .down => station != .console
  | .up => true

/-- A receiver is in use, from the moment roles settle: the down RX of a station other than CONSOLE, the up RX of a
station with a far neighbour (R1). -/
def State.inUse (s : State) : Lane → Bool
  | .down => s.settledRoles && s.station != .console
  | .up => s.settledRoles && s.farNeighbour

/-- A lane counter rises only while the station is RUNNING and the receiver is in use (R25). -/
def State.laneCount (s : State) (l : Lane) (n : Nat) : Nat := if s.running ∧ s.inUse l = true then satInc n else n

/-- A transmitter that sends on its lane: not before LINKING, and not as TERMINAL (R18, R26). -/
def TxRole.sends : TxRole → Bool
  | .origin | .repeating | .substitute | .provisional => true
  | .silent | .terminal => false

/-- This station's audio station judgement (R48). -/
def State.audioStation (s : State) : Station :=
  if s.cfg.podAudio = true ∧ s.stations.pod.present = true then .pod else .headset

/-- This station judges itself the audio station. -/
def State.isAudio (s : State) : Bool := s.audioStation == s.station

/-! ### Lane time (section 6.1) -/

/-- (superframe count × 16 + frame number) × 64 + slot, modulo 2^32 (R112, R113). -/
def slotTime (count : Count32) (frame : BitVec 4) (slot : Nat) : Count32 :=
  BitVec.ofNat 32 ((count.toNat * 16 + frame.toNat) * 64 + slot)

/-- The lane-time clock follows while the down RX is LOCKED with its superframe count known (R113). -/
def State.following (s : State) : Bool :=
  s.station != .console && s.rx.down.state == .locked && s.rx.down.count.isSome

/-- What the lane-time clock should read: CONSOLE's from its down TX (R112), a following clock from the received timing plus
the offset (R113), a free-running clock what it holds. -/
def State.laneTime (s : State) : Count32 :=
  if s.station = .console then
    if s.live then slotTime s.tx.down.count s.tx.down.frame s.tx.down.offset else s.clock
  else if s.following then
    slotTime (s.rx.down.count.getD 0) s.rx.down.frame s.rx.down.offset + s.surveyed.offset
  else s.clock

/-- Time is settled (R112 at CONSOLE, R114 elsewhere). -/
def State.settled (s : State) : Bool :=
  if s.station = .console then s.live
  else s.surveyed.known && s.rx.down.state == .locked && s.rx.down.count.isSome && !s.rx.down.fault

/-- Start afresh the pulse of each output whose function is `f` (R187). -/
def State.startPulse (s : State) (f : OutFn) : State :=
  { s with pulses := { a := if s.cfg.outA = f then 64 else s.pulses.a, b := if s.cfg.outB = f then 64 else s.pulses.b } }

/-- The lane-time clock takes a value; reaching a multiple of 1 024, by a step or by a jump that lands on one, starts a
SUPERFRAME_PULSE (R187). -/
def State.setClock (s : State) (t : Count32) : State :=
  let s' := { s with clock := t }
  if t ≠ s.clock ∧ t.toNat % 1024 = 0 ∧ s.live then s'.startPulse .superframePulse else s'

/-- The clock takes the value R112 and R113 give it. -/
def State.syncClock (s : State) : State := s.setClock s.laneTime

/-! ### Notices (section 10.1) -/

/-- A notice joins the queue: in place of its subject's entry, else at the tail (R185). -/
def putNotice (n : Notice) : List Notice → List Notice
  | [] => [n]
  | m :: rest => if m.subject = n.subject then n :: rest else m :: putNotice n rest

/-- Post a notice; before the end of LOADING the queue takes none (R184). -/
def State.post (s : State) (kind : NoticeKind) (subject : Subject) (value : Nat) : State :=
  if s.live then
    { s with
      notices :=
        putNotice { kind := kind, subject := subject, value := BitVec.ofNat 32 value, time := s.clock, settled := s.settled }
          s.notices }
  else s

/-- The press count of the buttons entry, 0 when there is none (R185). -/
def pressCount (q : List Notice) : Nat :=
  match q.find? (fun n => n.subject == .buttons) with
  | some n => n.value.toNat / 256
  | none => 0

/-- Post a BUTTON notice: the press count rises by one, saturating at 255, and the last button is this one (R185). -/
def State.postButton (s : State) (button : Nat) : State :=
  s.post .button .buttons (min (pressCount s.notices + 1) 255 * 256 + button)

/-- Receiver states' codes in LANE_STATE (R184). -/
def RxState.code : RxState → Nat
  | .dark => 0 | .search => 1 | .confirm => 2 | .locked => 3

/-- Transmitter roles' codes in LANE_STATE (R184); a transmitter still silent is coded as TERMINAL, which also sends
nothing. -/
def TxRole.code : TxRole → Nat
  | .origin => 0 | .repeating => 1 | .substitute => 2 | .terminal => 3 | .provisional => 4 | .silent => 3

/-- Post LANE_STATE for a lane with its receiver's state and its transmitter's role as they stand (R13, R184). -/
def State.postLane (s : State) (l : Lane) : State :=
  s.post .laneState (.lane l) (RxState.code (s.rx.get l).state * 16 + TxRole.code (s.tx.get l).role)

/-! ### Routing and the CONTROL FIFO (sections 2.3, 2.5) -/

/-- The lane a cell for another station takes: down to a higher number, up to a lower one (R35). -/
def laneTo (own target : Station) : Option Lane :=
  if own.num < target.num then some .down else if target.num < own.num then some .up else none

/-- A POWER cell takes the place of the queued POWER cell nearest the head (R42): the FIFO after, and the serial of the
report whose copy was replaced. -/
def replacePower (c : Ctl) : List Ctl → Option (List Ctl × Nat)
  | [] => none
  | .power _ old :: rest => some (c :: rest, old)
  | x :: rest => (replacePower c rest).map fun p => (x :: p.1, p.2)

/-- What became of a cell offered to a CONTROL FIFO. -/
structure Offered where
  fifo : List Ctl
  accepted : Bool
  /-- Serial of the report whose copy it replaced. -/
  replaced : Option Nat
deriving DecidableEq, Repr

/-- Offer a cell to the FIFO of a transmitter (R35, R41, R42): discarded where the transmitter is TERMINAL; appended while
the FIFO holds fewer than 8; else a POWER cell replaces one and any other cell is discarded. -/
def offerFifo (role : TxRole) (fifo : List Ctl) (c : Ctl) : Offered :=
  if role.sends = false then { fifo := fifo, accepted := false, replaced := none }
  else if fifo.length < 8 then { fifo := fifo ++ [c], accepted := true, replaced := none }
  else
    match c with
    | .power _ _ =>
      match replacePower c fifo with
      | some (q, n) => { fifo := q, accepted := true, replaced := some n }
      | none => { fifo := fifo, accepted := false, replaced := none }
    | _ => { fifo := fifo, accepted := false, replaced := none }

/-- What the FIFO of a lane makes of an offer. -/
def State.offerResult (s : State) (l : Lane) (c : Ctl) : Offered := offerFifo (s.tx.get l).role (s.tx.get l).fifo c

/-- Offer a cell to the CONTROL FIFO of a lane (R41, R42). -/
def State.offer (s : State) (l : Lane) (c : Ctl) : State := s.modTx l fun t => { t with fifo := (s.offerResult l c).fifo }

/-- Offer a cell for a station to the FIFO of the lane toward it; a cell for this station is discarded (R35). -/
def State.offerTo (s : State) (target : Station) (c : Ctl) : State :=
  match laneTo s.station target with
  | some l => s.offer l c
  | none => s

/-- Whether a cell for a station is accepted into a FIFO. -/
def State.accepts (s : State) (target : Station) (c : Ctl) : Bool :=
  match laneTo s.station target with
  | some l => (s.offerResult l c).accepted
  | none => false

/-- A block has taken a handed-over cell: it no longer waits (R34; model's own field, log entry 5). -/
def State.taken (s : State) (l : Lane) (c : Cell) : State := s.modRx l fun r => { r with handed := r.handed.erase c }

/-- A cell is the next that a lane's receiver hands to its block: the oldest of those waiting (R34). -/
def State.nextHanded (s : State) (l : Lane) (c : Cell) : Bool := (s.rx.get l).handed.head? == some c

/-- A block takes a cell in lane order (R34): the oldest one waiting leaves the list and is judged by `f`; a command that names
any other cell leaves the state as it is (log entries 1 and 5). -/
def State.take (s : State) (l : Lane) (c : Cell) (f : State → State) : State :=
  if s.nextHanded l c then f (s.taken l c) else s

end Sys2Proof.Machine
end

