-- ==== Sys2Proof/Machine/Flags.lean ====
section
/-! DEFINITION. Every flag the spec computes: domain tests, offers, need and hold (R62, R63), the status byte (R5, R46), the
frames' openness (R36), the attention line, the status outputs and the enables (R151, R186, R187). -/

namespace Sys2Proof.Machine

/-! ### Domains and offers -/

/-- The domain of a number is ON (R151). -/
def State.domainOn (s : State) (n : Nat) : Bool := s.power.domains.any fun d => d.number == n && d.state == .on

/-- A domain's enable output: asserted while it is ON (R151). -/
def State.enable (s : State) (n : Nat) : Bool := s.domainOn n

/-- Sum of nominal draws of the domains in a state, mW. -/
def State.drawOf (s : State) (st : DomainState) : Nat := ((s.power.domains.filter fun d => d.state == st).map (·.nominal)).sum

/-- Lowest priority number among WAITING domains, 8 if none (R167). -/
def State.topWaiting (s : State) : Nat :=
  ((s.power.domains.filter fun d => d.state == .waiting).map (·.priority)).foldl min 8

/-- CONSOLE's supply limit from the SUP straps (R162). -/
def State.supplyLimit (s : State) : Nat := 12000 + 6000 * s.sup.toNat

/-- This station's own offer, mW: CONSOLE's limit while its switch is closed (R162); STRAP's limit while the battery is
available and the charger (domain 1) is not ON (R165); 0 elsewhere. -/
def State.ownOffer (s : State) : Nat :=
  match s.station with
  | .console => if s.power.switchClosed then s.supplyLimit else 0
  | .strap => if s.power.battery = true ∧ s.domainOn 1 = false then s.cfg.strapLimit else 0
  | _ => 0

/-- STRAP's supply output into the cable is enabled while its offer is above 0 (R165). -/
def State.supplyOutput (s : State) : Bool := s.station == .strap && 0 < s.ownOffer

/-- Shed-active: the applied level is above 0 or a domain is SHED (R154). -/
def State.shedActive (s : State) : Bool := 0 < s.power.applied || s.power.domains.any fun d => d.state == .shed

/-! ### Audio and motion gates -/

/-- The AUDIO-IN or AUDIO-OUT source's domain (R55): core at CONSOLE, mic at POD, audio at HEADSET. -/
def sourceDomain : Station → Nat
  | .console => 0 | .pod => 2 | .headset => 3 | .strap => 0

/-- The sink's domain (section 7.1): core at CONSOLE, headphone amp at POD, audio at HEADSET. -/
def sinkDomain : Station → Nat
  | .console => 0 | .pod => 1 | .headset => 3 | .strap => 0

/-- The station holds an audio source record (R47): AUDIO-OUT at CONSOLE, AUDIO-IN at the audio station. -/
def State.holdsSource (s : State) : Bool := s.station == .console || s.isAudio

/-- The flow a station sources on its audio port. -/
def sourceFlow : Station → FlowId
  | .console => .audioOut | _ => .audioIn

/-- The flow a station sinks on its audio port. -/
def sinkFlow : Station → FlowId
  | .console => .audioIn | _ => .audioOut

/-- The lane of a station's audio source (R47). -/
def sourceLane : Station → Lane
  | .console => .down | _ => .up

/-- The source is open while its port's frame clock is present and its domain is ON (R55). -/
def State.sourceOpen (s : State) : Bool := s.holdsSource && s.audio.clock && s.domainOn (sourceDomain s.station)

/-- The destination record of a flow is LISTENING. -/
def State.listening (s : State) (f : FlowId) : Bool :=
  match s.dst.get f with
  | some r => r.state == .listening
  | none => false

/-! ### Paced flows -/

/-- Cells left to send in a send queue (R92). -/
def cellsLeft (q : List SliceRec) : Nat := (q.map fun r => r.total - r.sent).sum

/-- A paced record owes END: DRAINING with an empty send queue (R51, R52). -/
def Paced.owesEnd (p : Paced) : Bool := p.state == .draining && p.queue.isEmpty

/-- A cell to send: the next cell of the queue, or END (R39, R98). -/
def Paced.hasCell (p : Paced) : Bool := 0 < cellsLeft p.queue || p.owesEnd

/-- The parameters of an eye's flow. -/
def State.params (s : State) : Eye → FlowParams
  | .left => s.cfg.flowL | .right => s.cfg.flowR

/-- The superframe count of CONSOLE's down TX, against which the paced records measure (section 3.2). -/
abbrev State.superframe (s : State) : Count32 := s.tx.down.count

/-- A paced flow is open (R53). The superframe boundaries since idle since are counted modulo 2^32, as R69 and R85 count theirs;
R53 does not say (DEDUCED, log entry 40). -/
def State.pacedOpen (s : State) (e : Eye) : Bool :=
  let p := s.paced.get e
  match p.state with
  | .idle =>
    match p.idleSince with
    | some t => (s.superframe - t).toNat < (s.params e).idleReset
    | none => false
  | _ => true

/-- Train limit of a band (R40, R87). -/
def trainLimit : Band → Nat
  | .full => 8 | _ => 4

/-- A picture flow is eligible (R39). -/
def State.eligible (s : State) (e : Eye) : Bool :=
  let p := s.paced.get e
  p.state != .held && p.hasCell && 16 ≤ p.credit && s.tx.down.train < trainLimit p.band

/-! ### Need, hold and the status byte -/

/-- A report lane of the station: its transmitter is not TERMINAL (R177). -/
def State.reportLane (s : State) (l : Lane) : Bool := (s.tx.get l).role.sends

/-- The station shows need on a lane (R62). -/
def State.need (s : State) (l : Lane) : Bool :=
  !(s.tx.get l).fifo.isEmpty ||
  (l == .up && s.station == .headset && !s.motion.queue.isEmpty) ||
  (l == sourceLane s.station && !s.audio.source.queue.isEmpty) ||
  (l == .down && s.station == .console && (s.paced.left.hasCell || s.paced.right.hasCell)) ||
  (s.balance.forced && s.reportLane l)

/-- The station shows hold on a lane (R63). -/
def State.hold (s : State) (l : Lane) : Bool :=
  (l == .down && s.station == .console && (s.pacedOpen .left || s.pacedOpen .right)) ||
  (l == sourceLane s.station && s.audio.source.opened) ||
  (l == .up && s.station == .headset && s.motion.state != .off)

/-- The station's own status byte (R5, R181; layout in R46). -/
def State.statusByte (s : State) : Byte :=
  BitVec.ofNat 8
    (bit s.live * 128 + bit (s.need .down) * 64 + bit (s.hold .down) * 32 + bit (s.need .up) * 16 +
      bit (s.hold .up) * 8 + bit (1 ≤ s.balance.b) * 4 + bit s.balance.fresh * 2 + bit s.shedActive)

/-- Bit of a lane's need flag in a status byte (R46). -/
def needBit : Lane → Nat
  | .down => 6 | .up => 4

/-- Bit of a lane's hold flag in a status byte (R46). -/
def holdBit : Lane → Nat
  | .down => 5 | .up => 3

/-- The status bytes an origin's observation reads: its own flags and the latest byte of every other present station
(R171). -/
def State.observedBytes (s : State) : List Byte :=
  s.statusByte ::
    ([Station.console, .pod, .headset, .strap].filter fun t =>
      t != s.station && (s.stations.get t).present).map fun t => (s.stations.get t).status

/-- The observation of a lane shows need (R171). -/
def State.observesNeed (s : State) (l : Lane) : Bool := s.observedBytes.any fun b => b.getLsbD (needBit l)

/-- The observation of a lane shows hold (R171). -/
def State.observesHold (s : State) (l : Lane) : Bool := s.observedBytes.any fun b => b.getLsbD (holdBit l)

/-- The observation shows report-owed or fresh-pending (R171). -/
def State.observesReports (s : State) : Bool := s.observedBytes.any fun b => b.getLsbD 2 || b.getLsbD 1

/-! ### Frames -/

/-- The frame a lane is in is open to insertion (R36); a SUBSTITUTE's always is, the rest of the frame in which lock was lost
included. -/
def State.frameOpen (s : State) (l : Lane) : Bool :=
  match (s.tx.get l).role with
  | .origin => (s.tx.get l).sentThis == some .active && (s.tx.get l).sentPrev == some .active
  | .repeating => (s.rx.get l).activeThis && (s.rx.get l).activePrev
  | .substitute => true
  | .silent | .terminal | .provisional => false

/-- The payload slots of the frame a lane is in are silent: a DEEP frame (R3, R29). -/
def State.payloadSilent (s : State) (l : Lane) : Bool :=
  match (s.tx.get l).role with
  | .origin => (s.tx.get l).sentPrev == some .deep
  | .repeating => (s.rx.get l).payloadState == some .deep
  | .substitute => !(s.tx.get l).own && (s.tx.get l).sentPrev == some .deep
  | .provisional => false
  | .silent | .terminal => true

/-- Cells the station holds queued for a lane: its backlog (R72). -/
def State.backlog (s : State) (l : Lane) : Nat :=
  (s.tx.get l).fifo.length +
  (if l = sourceLane s.station then s.audio.source.queue.length else 0) +
  (if l = .up ∧ s.station = .headset then s.motion.queue.length else 0) +
  (if l = .down ∧ s.station = .console then cellsLeft s.paced.left.queue + cellsLeft s.paced.right.queue else 0)

/-- Half crowd (R66). -/
def State.halfCrowd (s : State) : Nat := max 1 (s.cfg.crowd / 2)

/-! ### Attention line and status outputs (section 10.2) -/

/-- Code of a notice kind, 1 to 19 (R184). -/
def NoticeKind.code : NoticeKind → Nat
  | .rateBand => 1 | .slip => 2 | .motionState => 3 | .sensorSilent => 4 | .drainDone => 5 | .laneState => 6
  | .lateNeighbour => 7 | .domainState => 8 | .stationPresent => 9 | .stationAbsent => 10 | .delaySet => 11
  | .delayUnknown => 12 | .supplyLevel => 13 | .supplyTrip => 14 | .supplyReclose => 15 | .relayReady => 16
  | .relayTimeout => 17 | .resetCause => 18 | .button => 19

/-- The attention line: an entry of an enabled kind waits; deasserted until the end of LOADING (R186). -/
def State.attention (s : State) : Bool :=
  s.live && s.notices.any fun n => s.cfg.mask.getLsbD (NoticeKind.code n.kind - 1)

/-- A receiver in use that is not LOCKED, or roles not settled yet (LANE_FAULT of R187). -/
def State.laneFault (s : State) : Bool :=
  !s.settledRoles || (s.inUse .down && s.rx.down.state != .locked) || (s.inUse .up && s.rx.up.state != .locked)

/-- A status output carrying a function, with the slots left of its pulse (R187). -/
def State.outputOf (s : State) (f : OutFn) (pulse : Nat) : Bool :=
  s.live &&
    match f with
    | .laneFault => s.laneFault
    | .rateLow => s.station == .console && (s.paced.left.band != .full || s.paced.right.band != .full)
    | .shed => s.shedActive
    | .attention => s.attention
    | .superframePulse | .slipPulse => 0 < pulse
    | .fixedLow => false
    | .fixedHigh => true

/-- Status output A or B: low until the end of LOADING, then as its function gives (R187). -/
def State.output (s : State) : StatusPin → Bool
  | .a => s.outputOf s.cfg.outA s.pulses.a
  | .b => s.outputOf s.cfg.outB s.pulses.b

end Sys2Proof.Machine
end

