-- ==== Sys2Proof/Machine/Reports.lean ====
section
/-! DEFINITION. The report balance (section 9.3), the fresh rule (section 9.4) and the power report (section 8.10). -/

namespace Sys2Proof.Machine

/-- The power report built from the state at this moment (R167). -/
def State.report (s : State) : Report :=
  { number := s.power.nextReport, draw := s.drawOf .on / 10, waiting := s.drawOf .waiting / 10, top := s.topWaiting,
    offer := s.ownOffer / 10,
    level := if s.station = .console ∨ s.station = .strap then s.power.supplyLevel else 0,
    rail := s.power.rail, tripped := s.station == .console && s.power.tripped }

/-- Net balance n = b − w (R178). -/
def Balance.net (b : Balance) : Int := b.b - b.outstanding.length

/-- A report has been sent (R179): b falls by one, the age becomes 0, fresh-pending is cleared, and forced need too once b is
below 8. -/
def Balance.sent (b : Balance) : Balance :=
  { b with b := b.b - 1, age := 0, fresh := false, forced := b.forced && !decide (b.b - 1 < 8) }

/-- A copy on a lane no longer waits. -/
def Outstanding.without (o : Outstanding) (l : Lane) (inserted : Bool) : Outstanding :=
  match l with
  | .down => { o with waitDown := false, inserted := o.inserted || inserted }
  | .up => { o with waitUp := false, inserted := o.inserted || inserted }

/-- The copy of the report of a serial on a lane stops waiting, inserted or replaced; when no copy of it waits any more that
one report leaves the list, sent or superseded (R179). -/
def Balance.copyGone (b : Balance) (l : Lane) (serial : Nat) (inserted : Bool) : Balance :=
  match b.outstanding.find? (fun o => o.serial == serial) with
  | none => b
  | some o =>
    let o' := o.without l inserted
    let others := b.outstanding.eraseP fun x => x.serial == serial
    if o'.waitDown || o'.waitUp then
      { b with outstanding := b.outstanding.map fun x => if x.serial = serial then o' else x }
    else if o'.inserted then { b with outstanding := others }.sent
    else { b with outstanding := others }

/-- The copy that an offer replaced, if any, stops waiting (R179). -/
def Balance.replaced (b : Balance) (l : Lane) : Option Nat → Balance
  | none => b
  | some k => b.copyGone l k false

/-- The report joins the outstanding list, a copy waiting on each lane that accepted one, and event pending is cleared; where no
lane did, neither happens (R178). -/
def Balance.join (b : Balance) (down up : Bool) : Balance :=
  if down || up then
    { b with
      event := false, built := b.built + 1,
      outstanding := b.outstanding ++ [{ serial := b.built, waitDown := down, waitUp := up, inserted := false }] }
  else b

/-- Build one report and offer a copy to the FIFO of each report lane (R167, R178). The number is spent whether or not a copy
is accepted; the copies that the new one replaced stop waiting (R179). -/
def State.buildReport (s : State) : State :=
  let c := Ctl.power s.report s.balance.built
  let d := s.offerResult .down c
  let u := s.offerResult .up c
  let s1 := (s.offer .down c).offer .up c
  { s1 with
    power := { s1.power with nextReport := s.power.nextReport + 1 },
    balance := ((s.balance.join d.accepted u.accepted).replaced .down d.replaced).replaced .up u.replaced }

/-- A report lane counts as ACTIVE while the alignment cell its transmitter last sent carried ACTIVE (R177). -/
def State.laneActive (s : State) (l : Lane) : Bool := (s.tx.get l).sentThis == some .active

/-- Every report lane is ACTIVE (R178). -/
def State.reportLanesActive (s : State) : Bool :=
  (!s.reportLane .down || s.laneActive .down) && (!s.reportLane .up || s.laneActive .up)

/-- A test for a report builds one: an event report or a regular one, only while RUNNING (R178). -/
def State.reportDue (s : State) : Bool :=
  s.running &&
    ((s.balance.event && decide (-8 < s.balance.net)) || (decide (1 ≤ s.balance.net) && s.reportLanesActive))

/-- A CONTROL FIFO of the station holds more cells than before. -/
def fifoGrew (before after : State) : Bool :=
  decide (before.tx.down.fifo.length < after.tx.down.fifo.length) || decide (before.tx.up.fifo.length < after.tx.up.fifo.length)

/-- The tests that a build brings: one for each report that left the list by it, sent or superseded (R178, R179). The one
exception is a regular report that left none sent and each of whose copies took the place of another in a full FIFO: the next
regular report would take the place of just these copies, and so on without end (DESIGN CHOICE, log entry 12). -/
def testsAfter (before after : State) : Nat :=
  if before.balance.event = false ∧ after.balance.b = before.balance.b ∧ fifoGrew before after = false then 0
  else before.balance.outstanding.length + (after.balance.built - before.balance.built) - after.balance.outstanding.length

/-- `due` tests for a report, with those that their builds bring (R178, R179). One test brings fewer than 100: the builds that
bring tests are at most one event report, 16 regular ones that put a cell into a FIFO with room, and 16 that leave reports
sent, and each brings at most two. -/
def State.reportTests : (fuel due : Nat) → State → State
  | fuel + 1, due + 1, s =>
    if s.reportDue then State.reportTests fuel (due + testsAfter s s.buildReport) s.buildReport else s
  | _, _, s => s

/-- One test whether to build a report, and the tests that the reports it makes leave the list bring (R178). -/
def State.reportTest (s : State) : State := State.reportTests 100 1 s

/-- A call for an event report: event pending is set and the test is made (R177, R178). -/
def State.callEvent (s : State) : State := { s with balance := { s.balance with event := true } }.reportTest

/-- Fresh-pending is set, which calls for an event report (R180). -/
def State.setFresh (s : State) : State := { s with balance := { s.balance with fresh := true } }.callEvent

/-- The insertion of a copy of a report is reported; a report that thereby leaves the list brings a test (R178, R179). -/
def State.copyInserted (s : State) (l : Lane) (serial : Nat) : State :=
  let b := s.balance.copyGone l serial true
  let s' := { s with balance := b }
  if b.outstanding.length < s.balance.outstanding.length then s'.reportTest else s'

/-- The calls for an event report that the changes made at one event bring, one for each (R178): every domain whose state
changed (R153), a change of the own supply level (R162), CONSOLE's switch opened by a trip or closed by a reclose (R163), a
change of STRAP's offer (R165). -/
def callsFor (before after : State) : Nat :=
  ((before.power.domains.zip after.power.domains).filter fun p => p.1.state != p.2.state).length +
    bit (before.power.supplyLevel != after.power.supplyLevel) +
    bit (after.station == .console && before.power.switchClosed != after.power.switchClosed) +
    bit (after.station == .strap && before.ownOffer != after.ownOffer)

/-- A number of calls for an event report, one after another (R178). -/
def State.callEvents : Nat → State → State
  | 0, s => s
  | n + 1, s => State.callEvents n s.callEvent

/-- The calls that the changes between two states bring, made once all of them stand (R153, R162, R163, R165; log entry 11). -/
def State.callOnChange (before after : State) : State := State.callEvents (callsFor before after) after

/-- One event's changes, with the calls for event reports that they bring. A POWER cell that such a call builds is offered to the
CONTROL FIFO after the cells that the changes themselves offer (R41 leaves the order open; DESIGN CHOICE, log entry 52). -/
def State.calling (s : State) (f : State → State) : State := State.callOnChange s (f s)

end Sys2Proof.Machine
end

