-- ==== Sys2Proof/Machine/Domains.lean ====
section
/-! DEFINITION. The domain table's changes, the applied shed level, and the units that follow a domain (sections 8.2, 8.3;
R57, R121, R123, R135, R165). -/

namespace Sys2Proof.Machine

/-! ### The picture records follow the display domain (R57, R108) -/

/-- The picture destination state on entering HOLDING from LISTENING: buffer and layer map emptied, reassembly in WAIT_START
(R108). -/
def EyeDst.hold (e : EyeDst) : EyeDst := { e with buffer := [], map := [], reasm := .waitStart }

/-- The picture destination state on entering LISTENING (R108). -/
def EyeDst.listen (e : EyeDst) : EyeDst :=
  { e with buffer := [], map := [], reasm := .waitStart, lastTaken := none }

/-- A picture record enters LISTENING (R57, R108). -/
def State.listenEye (s : State) (e : Eye) : State :=
  { s.modEye e EyeDst.listen with dst := s.dst.set (Eye.flow e) (some ⟨.listening, none⟩) }

/-- A picture record enters HOLDING (R57, R108). -/
def State.holdEye (s : State) (e : Eye) : State :=
  { s.modEye e EyeDst.hold with dst := s.dst.set (Eye.flow e) (some ⟨.holding, none⟩) }

/-- One eye's record follows the display domain, domain 1 of HEADSET (R57). -/
def State.followEye (s : State) (e : Eye) : State :=
  match s.dst.get (Eye.flow e) with
  | some ⟨.listening, _⟩ => if s.domainOn 1 then s else s.holdEye e
  | some ⟨.holding, _⟩ => if s.domainOn 1 then s.listenEye e else s
  | _ => s

/-- The picture records follow the display domain (R57). -/
def State.followDisplay (s : State) : State := if s.station = .headset then (s.followEye .left).followEye .right else s

/-! ### Domain changes -/

/-- Code of a domain state (R184). -/
def DomainState.code : DomainState → Nat
  | .off => 0 | .waiting => 1 | .on => 2 | .shed => 3

/-- Post DOMAIN_STATE for every domain whose state differs (R153), in the order of the domain numbers (DEDUCED, log entry
10). -/
def State.postDomains (s : State) : List Domain → List Domain → State
  | old :: olds, new :: news =>
    (if new.state = old.state then s
     else s.post .domainState (.domain new.number) (DomainState.code new.state)).postDomains olds news
  | _, _ => s

/-- Every domain changed by `f` at once, with its notice (R153). -/
def State.changeDomains (s : State) (f : Domain → Domain) : State :=
  let new := s.power.domains.map f
  { s with power := { s.power with domains := new } }.postDomains s.power.domains new

/-- A write of a wanted flag and its effect on the state: a clearing write leaves a priority-0 domain as it is (R152,
R153). -/
def Domain.want (d : Domain) (v : Bool) : Domain :=
  if d.wanted = v ∨ (v = false ∧ d.priority = 0) then d
  else { d with wanted := v, state := if v then (if d.state = .off then .waiting else d.state) else .off }

/-- A write of the wanted flag of one domain number (R152). -/
def wantOf (n : Nat) (v : Bool) (d : Domain) : Domain := if d.number = n then d.want v else d

/-- The wear link writes the display domain's wanted flag at HEADSET while it is enabled (R123). -/
def State.wearLink (s : State) (v : Bool) : State :=
  if s.station = .headset ∧ s.cfg.wearLink = true then (s.changeDomains (wantOf 1 v)).followDisplay else s

/-! ### The motion unit follows the sensors domain (R121) -/

/-- Code of a motion state (R184). -/
def MotionState.code : MotionState → Nat
  | .off => 0 | .sampling => 1 | .doze => 2 | .waking => 3

/-- A queue of at most 16: when it is full the oldest leaves first (R125). -/
def append16 {α : Type} (q : List α) (x : α) : List α := if q.length < 16 then q ++ [x] else q.drop 1 ++ [x]

/-- A sample of the next number joins the sample queue, and the number advances (R119, R121, R125). -/
def Motion.form (m : Motion) (time : Count32) (unsettled doze lapse : Bool) (axes : Axes) : Motion :=
  { m with
    next := m.next + 1,
    queue := append16 m.queue
      { number := m.next, time := time, doze := doze, unsettled := unsettled, lapse := lapse,
        restart := decide (m.restart < 16), axes := axes } }

/-- The axes of a lapse sample (R121). -/
def zeroAxes : Axes := { gx := 0, gy := 0, gz := 0, ax := 0, ay := 0, az := 0 }

/-- The motion unit changes state, which posts MOTION_STATE (R121). -/
def State.motionTo (s : State) (f : Motion → Motion) : State :=
  let s' := { s with motion := f s.motion }
  s'.post .motionState (.flow .motion) (MotionState.code s'.motion.state)

/-- Entry to SAMPLING: not-worn count and silence count start from 0 (R123, R124). -/
def Motion.toSampling (m : Motion) : Motion := { m with state := .sampling, notWorn := 0, silence := 0 }

/-- Entry to DOZE from SAMPLING or OFF: the decimation count is set to 0 (R120). -/
def Motion.toDoze (m : Motion) : Motion := { m with state := .doze, decimation := 0 }

/-- Entry to WAKING with the wake hold at 16 (R123). -/
def Motion.toWaking (m : Motion) : Motion := { m with state := .waking, wakeHold := 16 }

/-- Entry to OFF with the lapse sample; a read in progress is abandoned (R121). -/
def Motion.toOff (m : Motion) (time : Count32) (unsettled : Bool) : Motion :=
  { m.form time unsettled (m.state == .doze || m.state == .waking) true zeroAxes with state := .off, reading := none }

/-- The motion unit follows the sensors domain, domain 2 of HEADSET (R121, R123). MOTION_STATE is posted before the DOMAIN_STATE
of the display domain that the wear link writes, which no rule gives (DESIGN CHOICE, log entry 48). -/
def State.followSensors (s : State) : State :=
  if s.station ≠ .headset then s
  else if s.domainOn 2 then
    if s.motion.state ≠ .off then s
    else if s.motion.worn then (s.motionTo Motion.toSampling).wearLink true
    else (s.motionTo Motion.toDoze).wearLink false
  else if s.motion.state = .off then s
  else s.motionTo fun m => m.toOff s.clock (!s.settled)

/-! ### The audio source and sink follow their domains (R55, R132, R135) -/

/-- The source opens or closes; on every change the position becomes 0 and gathered frames are discarded (R132). -/
def State.followSource (s : State) : State :=
  if s.sourceOpen = s.audio.source.opened then s
  else
    { s with
      audio := { s.audio with source := { s.audio.source with opened := s.sourceOpen, position := 0, frames := [] } } }

/-- A sink on entering MUTED (R135). -/
def Sink.mute (k : Sink) : Sink :=
  { k with state := .muted, buffer := [], play := .idle, expected := none, repeatDone := false }

/-- A sink on leaving MUTED (R135). -/
def Sink.prime (k : Sink) : Sink := { k with state := .priming, buffer := [], expected := none }

/-- The sink is out of MUTED while its record is LISTENING and its domain is ON (R135). -/
def State.sinkAwake (s : State) : Bool := s.listening (sinkFlow s.station) && s.domainOn (sinkDomain s.station)

/-- The sink enters or leaves MUTED (R135). -/
def State.followSink (s : State) : State :=
  if s.sinkAwake then
    if s.audio.sink.state = .muted then { s with audio := { s.audio with sink := s.audio.sink.prime } } else s
  else if s.audio.sink.state = .muted then s
  else { s with audio := { s.audio with sink := s.audio.sink.mute } }

/-! ### The applied shed level (R154) -/

/-- The level a supply station contributes: this station's own, or that of a present station's HEARD report (R154). -/
def State.levelOf (s : State) (t : Station) : Nat :=
  if s.station = t then s.power.supplyLevel
  else if (s.stations.get t).present = true ∧ (s.views.get t).state = .heard then (s.views.get t).report.level
  else 0

/-- The applied level its inputs give (R154). -/
def State.appliedLevel (s : State) : Nat := max (s.levelOf .console) (s.levelOf .strap)

/-- The applied level takes its value and posts SUPPLY_LEVEL when it changes; used where it can only fall (R154). -/
def State.lowerLevel (s : State) : State :=
  if s.appliedLevel = s.power.applied then s
  else { s with power := { s.power with applied := s.appliedLevel } }.post .supplyLevel .supply s.appliedLevel

/-- STRAP's supply level becomes 0 when its offer becomes 0, and stays 0 (R166). Where the charger's going ON takes the offer to
0 (R165), its DOMAIN_STATE is already posted and the SUPPLY_LEVEL of the fall comes after it, which no rule orders (DESIGN
CHOICE, log entry 48). -/
def State.followOffer (s : State) : State :=
  if s.station = .strap ∧ s.ownOffer = 0 then { s with power := { s.power with supplyLevel := 0 } }.lowerLevel else s

/-- The units that depend on a domain follow the domain table as it stands (R151, R153). It runs once every DOMAIN_STATE of the
change has been posted, so MOTION_STATE comes after them, which no rule gives (DESIGN CHOICE, log entry 48). -/
def State.follow (s : State) : State := s.followSensors.followDisplay.followSource.followSink.followOffer

/-- Shed the ON domains that satisfy a test, at once (R153); every DOMAIN_STATE is posted before the units follow (DESIGN
CHOICE, log entry 48). -/
def State.shedWhere (s : State) (p : Domain → Bool) : State :=
  (s.changeDomains fun d => if d.state = .on ∧ p d = true then { d with state := .shed } else d).follow

/-- The applied level is worked out afresh: on a change every ON domain it does not allow is SHED and SUPPLY_LEVEL is posted
(R154), after the notices of the domains it sheds, which no rule orders (DESIGN CHOICE, log entry 48). -/
def State.relevel (s : State) : State :=
  let level := s.appliedLevel
  if level = s.power.applied then s
  else
    ({ s with power := { s.power with applied := level } }.shedWhere fun d => decide (8 - level ≤ d.priority)).post
      .supplyLevel .supply level

/-- A write of a domain's wanted flag, with the units following (R152); its DOMAIN_STATE is posted before the MOTION_STATE it
may bring (DESIGN CHOICE, log entry 48). -/
def State.want (s : State) (n : Nat) (v : Bool) : State := (s.changeDomains (wantOf n v)).follow

end Sys2Proof.Machine
end

