-- ==== Sys2Proof/Machine/Rate.lean ====
section
/-! DEFINITION. Allowed rate (file 04): credit, probes, replies, bands; with the paced source states of section 3.2 and
the meanings of PROBE_TAKEN, REPLY_TAKEN and FRAME_START. -/

namespace Sys2Proof.Machine

/-- ceil(a / b). -/
def ceilDiv (a b : Nat) : Nat := (a + b - 1) / b

/-- The rise amount, ceil(peak × rise / 256) (R66). -/
def riseAmount (p : FlowParams) : Nat := ceilDiv (p.peak * p.rise) 256

/-- The credit cap, 16 × burst (R66). -/
def creditCap (p : FlowParams) : Nat := 16 * p.burst

/-! ### Bands (section 4.8) -/

/-- The band on loading, from start (R86). -/
def loadBand (p : FlowParams) : Band :=
  if p.ok ≤ p.start then .full else if p.start < p.scarce then .scarce else .low

/-- The band after a change of AR, with hysteresis (R86). -/
def bandAfter (p : FlowParams) (band : Band) (ar : Nat) : Band :=
  if ar < p.scarce then .scarce
  else
    match band with
    | .scarce => if p.ok ≤ ar then .full else if p.ease ≤ ar then .low else .scarce
    | .full => if ar < p.low then .low else .full
    | .low => if p.ok ≤ ar then .full else .low

/-- Code of a band (R184). -/
def Band.code : Band → Nat
  | .full => 0 | .low => 1 | .scarce => 2

/-- A band change that lowers the limit of the flow that inserted the train's latest cell to or below the current count closes
the train (R40). -/
def Tx.bandChange (t : Tx) (e : Eye) (old new : Band) : Tx :=
  if t.trainEye = some e ∧ trainLimit new < trainLimit old ∧ trainLimit new ≤ t.train then
    { t with gapOwed := true, train := 0 }
  else t

/-- A paced record's AR takes a value and its band is re-evaluated; a change of band posts RATE_BAND (R86, R87). -/
def State.setRate (s : State) (e : Eye) (ar : Nat) : State :=
  let p := s.paced.get e
  let band := bandAfter (s.params e) p.band ar
  let s1 := s.modPaced e fun p => { p with ar := ar, band := band }
  if band = p.band then s1
  else (s1.modTx .down fun t => t.bandChange e p.band band).post .rateBand (.flow (Eye.flow e)) (Band.code band)

/-! ### Probes (section 4.3) -/

/-- AR after a fade: AR − ceil(AR × fade / 256), not below floor (R70). -/
def fadedRate (p : FlowParams) (ar : Nat) : Nat := max (ar - ceilDiv (ar * p.fade) 256) p.floor

/-- A probe is due for a paced source record (R69). -/
def State.probeDue (s : State) (e : Eye) : Bool :=
  let p := s.paced.get e
  (s.params e).spacing ≤ p.cellsSince ||
    match p.probeAt with
    | none => true
    | some t => (s.params e).interval ≤ (s.superframe - t).toNat

/-- Queue a probe: fade, number, build, offer, count (R70, R71). -/
def State.queueProbe (s : State) (e : Eye) : State :=
  let fp := s.params e
  let p := s.paced.get e
  let s1 := if fp.patience ≤ p.unanswered then s.setRate e (fadedRate fp p.ar) else s
  let n := p.lastProbe + 1
  let c := Ctl.probe e n (s1.paced.get e).ar fp.peak fp.peak
  (s1.offerTo .headset c).modPaced e fun q =>
    { q with
      lastProbe := n, unanswered := min (p.unanswered + 1) 255, cellsSince := 0, probeAt := some s.superframe,
      probeWaiting := s1.accepts .headset c }

/-- The check of R69: a due probe is queued when the record is ACTIVE, HELD or DRAINING and no probe of it waits. -/
def State.probeCheck (s : State) (e : Eye) : State :=
  if (s.paced.get e).state ≠ .idle ∧ (s.paced.get e).probeWaiting = false ∧ s.probeDue e = true then s.queueProbe e else s

/-! ### Source states (section 3.2) -/

/-- A paced record enters IDLE, which sets idle since (R49). -/
def State.toIdle (s : State) (e : Eye) : State :=
  s.modPaced e fun p => { p with state := .idle, idleSince := some s.superframe }

/-- An ACTIVE record whose queue holds no cell left to send becomes IDLE (R49). -/
def State.idleIfEmpty (s : State) (e : Eye) : State :=
  if (s.paced.get e).state = .active ∧ cellsLeft (s.paced.get e).queue = 0 then s.toIdle e else s

/-- A paced record enters ACTIVE, HELD or DRAINING, at which it checks for a due probe (R69). -/
def State.enterPaced (s : State) (e : Eye) (st : PacedState) : State :=
  (s.modPaced e fun p => { p with state := st }).probeCheck e

/-- The slices of a queue removed by a hold, and counted (R51). -/
def Paced.dropHeld (p : Paced) : Paced := { p with queue := [], discarded := p.discarded + p.queue.length }

/-! ### Credit (section 4.2) -/

/-- The frame-start addition of one record: AR, up to the cap (R67). -/
def State.accrue (s : State) (e : Eye) : State :=
  s.modPaced e fun p => { p with credit := min (p.credit + p.ar) (creditCap (s.params e)) }

/-- The frame-start addition of both records, in RUNNING at CONSOLE (R67). -/
def State.accrueAll (s : State) : State :=
  if s.station = .console ∧ s.running then (s.accrue .left).accrue .right else s

/-- FRAME_START (R67): at the start of a silent DEEP frame of CONSOLE's down TX, whose timing steps to it, each paced record
adds its AR to its credit. -/
def execFrameStart (s : State) : Host.Outcome State Fault Refusal :=
  if s.station = .console ∧ s.tx.down.role = .origin ∧ s.tx.down.sentThis = some .deep ∧ s.tx.down.frame ≠ 15 then
    .next
      ((s.modTx .down fun t => { t with frame := t.frame + 1, offset := 0, sentPrev := some .deep }).syncClock.accrueAll)
  else .next s

/-! ### At the destination (section 4.5) -/

/-- Cells reserved in a slice buffer: the sum of cells expected (R99). -/
def reserved (b : List BufRec) : Nat := (b.map (·.expected)).sum

/-- The destination's offer at peak P and fill f (R75). -/
def destOffer (peak f : Nat) : Nat := if f ≤ 256 then peak else peak * (1024 - f) / 768

/-- What a destination answers to a probe at fill f (R75, R76). -/
def replySeen (r : RateCell) (f : Nat) (holding : Bool) : ReplySeen :=
  { offered := min r.offered (destOffer r.peak f), congested := r.congested || 768 ≤ f,
    noRise := r.noRise || (512 ≤ f && f < 768), hold := r.hold || holding }

/-- HEADSET answers a judged probe of an eye (R74 to R77). -/
def State.answerProbe (s : State) (e : Eye) (d : DstState) (r : RateCell) : State :=
  let f := if d = .holding then 0 else reserved (s.eyes.get e).buffer
  let ans := replySeen r f (d == .holding)
  let seen : ProbeSeen :=
    { number := r.number, ar := r.ar, fill := f, reply := if d = .closed then none else some ans }
  let s1 := s.modEye e fun x => { x with probeSeen := some seen }
  if d = .closed then s1
  else s1.offerTo .console (.reply e r.number r.ar ans.offered r.peak ans.congested ans.noRise ans.hold)

/-- PROBE_TAKEN (R74): a PROBE dropped at HEADSET from CONSOLE with its fields in range is answered by its destination
record's state; any other is discarded without a count. -/
def execProbeTaken (lane : Lane) (cell : Cell) (s : State) : Host.Outcome State Fault Refusal :=
  .next <|
    s.take lane cell fun t =>
      if t.live ∧ t.station = .headset ∧ cell.kind = .probe ∧ cell.dst = .to t.station ∧ cell.src = .console then
        match eyeOf cell.flow, readRate cell with
        | some e, some r =>
          match t.dst.get (Eye.flow e) with
          | some d => t.answerProbe e d.state r
          | none => t
        | _, _ => t
      else t

/-! ### At the source (section 4.6) -/

/-- AR after the marks of an accepted reply, the cap at its offer and the clamp (R80, R81). -/
def rateAfterReply (p : FlowParams) (ar : Nat) (r : RateCell) : Nat :=
  let moved :=
    if r.congested then ar - ceilDiv (ar * p.fall) 256 else if r.noRise then ar else ar + riseAmount p
  max p.floor (min (min moved r.offered) p.peak)

/-- The record state after an accepted reply (R50, R51, R82): the state, and whether it entered HELD or ACTIVE. -/
def State.replyState (s : State) (e : Eye) (hold : Bool) : State :=
  let p := s.paced.get e
  if hold then
    match p.state with
    | .draining => s.modPaced e Paced.dropHeld
    | _ => s.modPaced e fun q => { q with state := .held }
  else if p.state = .held then
    if 0 < cellsLeft p.queue then s.modPaced e fun q => { q with state := .active } else s.toIdle e
  else s

/-- CONSOLE takes a judged reply: accepted inside the window, else stale (R79 to R82). An entry to HELD or ACTIVE checks for a
due probe once the reply's own effects are made (R69, log entry 14). -/
def State.takeReply (s : State) (e : Eye) (r : RateCell) : State :=
  let p := s.paced.get e
  let d := (p.lastProbe - r.number).toNat
  if d < p.unanswered then
    let s1 := s.modPaced e fun q => { q with unanswered := d }
    let s2 := (s1.replyState e r.hold).setRate e (rateAfterReply (s.params e) p.ar r)
    if (s2.paced.get e).state = p.state then s2 else s2.probeCheck e
  else s.count (Eye.flow e) fun c => { c with staleReplies := satInc c.staleReplies }

/-- REPLY_TAKEN (R78, R79): CONSOLE takes a REPLY of flow 0 or 1 from HEADSET with its fields in range; any other is discarded
without a count. -/
def execReplyTaken (lane : Lane) (cell : Cell) (s : State) : Host.Outcome State Fault Refusal :=
  .next <|
    s.take lane cell fun t =>
      if t.live ∧ t.station = .console ∧ cell.kind = .reply ∧ addressed t.station cell = true ∧ cell.src = .headset then
        match eyeOf cell.flow, readRate cell with
        | some e, some r => t.takeReply e r
        | _, _ => t
      else t

end Sys2Proof.Machine
end

