-- ==== Sys2Proof/Machine/Picture.lean ====
section
/-! DEFINITION. Picture slices (file 05): the slice input port and its entry policy at CONSOLE; reassembly, the layer map and
release at HEADSET; with the meanings of SLICE_OFFERED, END_OF_STREAM, DISPLAY_READY_RISE, DISPLAY_READY_FALL and
PICTURE_TAKEN. -/

namespace Sys2Proof.Machine

/-- Picture `p` is newer than picture `q` (00 "Numbers"). -/
def newer (p q : Num8) : Bool := let d := (p - q).toNat; 1 ≤ d && d ≤ 127

/-! ### The slice input port (section 5.1) -/

/-- The port's answer to an offer (R90). -/
def State.answerSlice (s : State) (e : Eye) (a : SliceAnswer) : State := s.modPaced e fun p => { p with answer := some a }

/-- A flow has been silent for idle reset superframe boundaries or more, or has never sent (R85). -/
def State.longSilent (s : State) (e : Eye) : Bool :=
  match (s.paced.get e).dataAt with
  | none => true
  | some t => (s.params e).idleReset ≤ (s.superframe - t).toNat

/-- The idle reset check of R85, made at an offer to an IDLE record. -/
def State.idleReset (s : State) (e : Eye) : State :=
  let p := s.paced.get e
  if p.state = .idle ∧ s.longSilent e = true then s.setRate e (min p.ar (s.params e).start) else s

/-- Whether a band lets a layer enter (R94). -/
def bandTakes : Band → Layer → Bool
  | .full, _ => true
  | .low, l => l != .refine2
  | .scarce, l => l == .base

/-- The reference picture of the stale check (R95). -/
def Paced.reference (p : Paced) : Option Num8 := if p.queue.isEmpty then p.lastEntered else p.newest

/-- A picture is stale against a reference (R95). -/
def staleAgainst (p : Num8) : Option Num8 → Bool
  | none => false
  | some n => newer (n - 1) p

/-- A queued slice that a newer picture makes worthless: unstarted, and two to 127 pictures older (R96). -/
def superseded (p : Num8) (r : SliceRec) : Bool :=
  let d := (p - r.picture).toNat
  r.sent == 0 && (2 ≤ d && d ≤ 127)

/-- The supersede purge applies: the queue is not empty and `p` is newer than its newest picture (R96). -/
def Paced.purges (p : Paced) (picture : Num8) : Bool :=
  !p.queue.isEmpty &&
    match p.newest with
    | some n => newer picture n
    | none => false

/-- Purged records leave the queue and are counted (R96, R97); an ACTIVE record left without cells to send becomes IDLE
(R49). -/
def State.leaveQueue (s : State) (e : Eye) (q : List SliceRec) : State :=
  let k := (s.paced.get e).queue.length - q.length
  ((s.modPaced e fun p => { p with queue := q }).count (Eye.flow e) fun c =>
    { c with purges := min (c.purges + k) 65535 }).idleIfEmpty e

/-- The supersede purge (R96). -/
def State.supersede (s : State) (e : Eye) (picture : Num8) : State :=
  let p := s.paced.get e
  if p.purges picture then s.leaveQueue e (p.queue.filter fun r => !superseded picture r) else s

/-- A queue of `cells` cells in `n` records has room for a slice of `c` cells (R97). -/
def hasRoom (c cells n : Nat) : Bool := cells + c ≤ 1024 && n ≤ 63

/-- An unstarted refinement, which may give way (R97). -/
def mayGiveWay (r : SliceRec) : Bool := r.sent == 0 && r.layer != .base

/-- Remove unstarted refinements, most recently entered first, until there is room (R97). The queue is given newest first
with its cell count and number of records. -/
def makeRoom (c : Nat) : Nat → Nat → List SliceRec → List SliceRec
  | _, _, [] => []
  | cells, n, r :: rest =>
    if hasRoom c cells n then r :: rest
    else if mayGiveWay r then makeRoom c (cells - r.total) (n - 1) rest
    else r :: makeRoom c cells n rest

/-- The queue as room making leaves it for a slice of `c` cells: none where the slice is refused with ROOM (R97). -/
def roomFor (q : List SliceRec) (layer : Layer) (c : Nat) : Option (List SliceRec) :=
  if hasRoom c (cellsLeft q) q.length then some q
  else
    let base := q.filter fun r => !mayGiveWay r
    if layer = .base ∧ hasRoom c (cellsLeft base) base.length = true then
      some (makeRoom c (cellsLeft q) q.length q.reverse).reverse
    else none

/-- A slice joins the tail of the queue (R90, R95). -/
def Paced.accept (p : Paced) (r : SliceRec) : Paced :=
  { p with
    queue := p.queue ++ [r],
    lastEntered := some r.picture,
    newest :=
      match p.queue, p.newest with
      | _ :: _, some n => if newer r.picture n then some r.picture else some n
      | _, _ => some r.picture,
    answer := some .accepted }

/-- The last step of an accepted entry: an IDLE record becomes ACTIVE (R49, R69). -/
def State.acceptSlice (s : State) (e : Eye) (r : SliceRec) : State :=
  let s' := s.modPaced e fun p => p.accept r
  if (s'.paced.get e).state = .idle then s'.enterPaced e .active else s'

/-- The entry policy, from band drop to room making (R94 to R97). -/
def State.entryPolicy (s : State) (e : Eye) (r : SliceRec) : State :=
  let flow := Eye.flow e
  if bandTakes (s.paced.get e).band r.layer = false then
    (s.count flow fun c => { c with layerDrops := satInc c.layerDrops }).answerSlice e (.refused .layer)
  else if staleAgainst r.picture (s.paced.get e).reference then
    (s.count flow fun c => { c with staleRefusals := satInc c.staleRefusals }).answerSlice e (.refused .stale)
  else
    let s1 := s.supersede e r.picture
    match roomFor (s1.paced.get e).queue r.layer r.total with
    | some q => (s1.leaveQueue e q).acceptSlice e r
    | none => (s1.count flow fun c => { c with roomRefusals := satInc c.roomRefusals }).answerSlice e (.refused .room)

/-- A slice record as it enters (R92). -/
def newSlice (picture : Num8) (index : BitVec 6) (layer : Layer) (length : Nat) (data : List Byte) : SliceRec :=
  { picture := picture, index := index, layer := layer, length := length, total := sliceCells length, sent := 0,
    data := data }

/-- SLICE_OFFERED (R90): CONSOLE's port tests the offer in R90's order and answers. -/
def execSliceOffered (e : Eye) (picture : Num8) (index : BitVec 6) (layer : BitVec 2) (length : Nat) (data : List Byte)
    (s : State) : Host.Outcome State Fault Refusal :=
  let refuse (r : Refused) : State :=
    (s.count (Eye.flow e) fun c => { c with roomRefusals := satInc c.roomRefusals }).answerSlice e (.refused r)
  if s.station ≠ .console then .next s
  else if s.start ≠ .running then .next (s.answerSlice e (.refused .notRunning))
  else
    match layerOf layer.toNat with
    | none => .next (refuse .malformed)
    | some k =>
      if length = 0 ∨ 4096 < length then .next (refuse .malformed)
      else if (s.paced.get e).state = .draining then .next (refuse .draining)
      else .next ((s.idleReset e).entryPolicy e (newSlice picture index k length data))

/-- END_OF_STREAM (R91, R51): the record becomes DRAINING; a HELD record's queue is emptied at once. -/
def execEndOfStream (e : Eye) (s : State) : Host.Outcome State Fault Refusal :=
  if s.station ≠ .console ∨ s.start ≠ .running then .next s
  else
    match (s.paced.get e).state with
    | .draining => .next s
    | .held => .next ((s.modPaced e Paced.dropHeld).enterPaced e .draining)
    | .idle | .active => .next (s.enterPaced e .draining)

/-! ### Release to the display (section 5.5) -/

/-- A fresh layer map entry, every index NONE (R105). -/
def freshEntry (x : Num8) : LayerEntry := { picture := x, levels := List.replicate 64 .none }

/-- The layer map with an entry for picture `x` (R105): none where the slice is outdated. -/
def mapFor (x : Num8) (m : List LayerEntry) : Option (List LayerEntry) :=
  if m.any fun t => t.picture == x then some m
  else
    match m with
    | [] => some [freshEntry x]
    | a :: rest =>
      if newer x a.picture then some [freshEntry x, a]
      else
        match rest with
        | [] => some [a, freshEntry x]
        | b :: _ => if newer x b.picture then some [a, freshEntry x] else none

/-- The layer test: the index's new level when the slice is released, none when it is orphaned (R105). -/
def layerTest : Layer → Level → Option Level
  | .base, .none => some .base
  | .base, l => some l
  | .refine1, .base => some .r1
  | .refine2, .r1 => some .r2
  | _, _ => none

/-- The level that a map shows for a picture's index. -/
def levelAt (m : List LayerEntry) (x : Num8) (i : Nat) : Level :=
  match m.find? fun t => t.picture == x with
  | some t => t.levels.getD i .none
  | none => .none

/-- The map with the level of a picture's index set. -/
def setLevel (m : List LayerEntry) (x : Num8) (i : Nat) (l : Level) : List LayerEntry :=
  m.map fun t => if t.picture = x then { t with levels := t.levels.set i l } else t

/-- The map's judgement of a head record: the map after, and whether the slice goes to the bridge (R105). -/
def judgeRelease (m : List LayerEntry) (r : BufRec) : List LayerEntry × Bool :=
  match mapFor r.picture m with
  | none => (m, false)
  | some m' =>
    match layerTest r.layer (levelAt m' r.picture r.index.toNat) with
    | some l => (setLevel m' r.picture r.index.toNat l, true)
    | none => (m', false)

/-- What a run of releases leaves: the map, the buffer, the slices handed over and the slices turned away. -/
structure ReleaseRun where
  map : List LayerEntry
  buffer : List BufRec
  out : List Released
  orphans : Nat
deriving DecidableEq, Repr

/-- Consider each record at the head in turn while it is COMPLETE (R104). -/
def releaseRun (m : List LayerEntry) : List BufRec → ReleaseRun
  | [] => { map := m, buffer := [], out := [], orphans := 0 }
  | r :: rest =>
    if r.complete then
      let j := judgeRelease m r
      let t := releaseRun j.1 rest
      if j.2 then
        { t with
          out := { picture := r.picture, index := r.index, layer := r.layer, length := r.length, data := r.data } :: t.out }
      else { t with orphans := t.orphans + 1 }
    else { map := m, buffer := r :: rest, out := [], orphans := 0 }

/-- The port considers the head of an eye's buffer: release while the ready line is high (R104). -/
def State.considerRelease (s : State) (e : Eye) : State :=
  if s.listening (Eye.flow e) = true ∧ s.pins.displayReady.get e = true then
    let t := releaseRun (s.eyes.get e).map (s.eyes.get e).buffer
    (s.modEye e fun x =>
        { x with map := t.map, buffer := t.buffer, out := if t.out.isEmpty then x.out else t.out }).count (Eye.flow e)
      fun c => { c with orphans := min (c.orphans + t.orphans) 65535 }
  else s

/-- DISPLAY_READY_RISE (R104): the eye's ready line goes high, and COMPLETE head records are released in turn. -/
def execDisplayReadyRise (e : Eye) (s : State) : Host.Outcome State Fault Refusal :=
  .next (({ s with pins := { s.pins with displayReady := s.pins.displayReady.set e true } }).considerRelease e)

/-- DISPLAY_READY_FALL (R104): the bridge lowers the eye's ready line. -/
def execDisplayReadyFall (e : Eye) (s : State) : Host.Outcome State Fault Refusal :=
  .next { s with pins := { s.pins with displayReady := s.pins.displayReady.set e false } }

/-! ### Reassembly (section 5.4) -/

/-- A break at an eye (R102): a FILLING slice is removed and counted; reassembly goes to SKIPPING. -/
def State.breakEye (s : State) (e : Eye) : State :=
  if (s.eyes.get e).reasm = .filling then
    (s.modEye e fun x => { x with reasm := .skipping, buffer := x.buffer.filter fun r => r.complete }).count (Eye.flow e)
      fun c => { c with breaks := satInc c.breaks }
  else s.modEye e fun x => { x with reasm := .skipping }

/-- A first cell is stale against the last taken picture (R100). -/
def staleFirst (p : Num8) : Option Num8 → Bool
  | none => false
  | some t => !newer p (t - 1)

/-- The record a first cell makes (R99 to R101). -/
def firstRecord (h : SliceHead) (c : Cell) : BufRec :=
  { picture := h.picture, index := h.index, layer := h.layer, length := h.length, expected := sliceCells h.length,
    received := 1, complete := sliceCells h.length == 1, data := ((c.payload.drop 4).take 28).take h.length }

/-- A first cell is judged in WAIT_START or SKIPPING (R100). -/
def State.judgeFirst (s : State) (e : Eye) (h : SliceHead) (c : Cell) : State :=
  let x := s.eyes.get e
  if staleFirst h.picture x.lastTaken = true ∨ hasRoom (sliceCells h.length) (reserved x.buffer) x.buffer.length = false then
    (s.modEye e fun x => { x with reasm := .skipping }).count (Eye.flow e) fun c => { c with refusals := satInc c.refusals }
  else
    let r := firstRecord h c
    (s.modEye e fun x =>
      { x with buffer := x.buffer ++ [r], reasm := if r.complete then .waitStart else .filling }).considerRelease e

/-- The FILLING record with the next cell's data stored (R101). -/
def growRecord (c : Cell) (r : BufRec) : BufRec :=
  if r.complete then r
  else
    { r with
      received := r.received + 1,
      complete := decide (r.expected ≤ r.received + 1),
      data := r.data ++ (c.payload.take 32).take (r.length - r.data.length) }

/-- The next cell of the slice being filled (R101). -/
def State.nextCell (s : State) (e : Eye) (c : Cell) : State :=
  let buffer := (s.eyes.get e).buffer.map (growRecord c)
  (s.modEye e fun x =>
    { x with buffer := buffer, reasm := if buffer.all fun r => r.complete then .waitStart else .filling }).considerRelease e

/-- A cell with its start bit set, of length above 0, judged after any break of what was being filled (R100, R103). -/
def State.startCell (s : State) (e : Eye) (c : Cell) : State :=
  let s' := if (s.eyes.get e).reasm = .filling then s.breakEye e else s
  match readHead c with
  | some h => s'.judgeFirst e h c
  | none =>
    (s'.modEye e fun x => { x with reasm := .skipping }).count (Eye.flow e) fun c =>
      { c with misrouted := satInc c.misrouted }

/-- An END cell (R103). -/
def State.endCell (s : State) (e : Eye) : State :=
  let s' := if (s.eyes.get e).reasm = .filling then s.breakEye e else s
  s'.modEye e fun x => { x with reasm := .waitStart }

/-- Reassembly takes a picture cell, marked with or without a gap before it (R100 to R103). -/
def State.takePictureCell (s : State) (e : Eye) (gap : Bool) (c : Cell) : State :=
  let s' := if gap then s.breakEye e else s
  if c.start = false then if (s'.eyes.get e).reasm = .filling then s'.nextCell e c else s'
  else if sliceLength c = 0 then s'.endCell e
  else s'.startCell e c

/-- The buffer records a picture-taken event removes: those of older pictures (R106). -/
def purgeTaken (n : Num8) (b : List BufRec) : List BufRec := b.filter fun r => !newer n r.picture

/-- PICTURE_TAKEN (R106): in LISTENING, t becomes n and older pictures' records leave; a FILLING one is broken. -/
def execPictureTaken (e : Eye) (n : Num8) (s : State) : Host.Outcome State Fault Refusal :=
  if s.listening (Eye.flow e) then
    let x := s.eyes.get e
    let broken := x.buffer.any fun r => !r.complete && newer n r.picture
    let s1 := if broken then s.breakEye e else s
    .next ((s1.modEye e fun y => { y with lastTaken := some n, buffer := purgeTaken n y.buffer }).considerRelease e)
  else .next s

end Sys2Proof.Machine
end

