-- ==== Sys2Proof/Machine/Motion.lean ====
section
/-! DEFINITION. Motion samples and lane time (file 06): the delay survey, the sensor port, motion states and wear, the motion
output; with the meanings of the commands of that file. -/

namespace Sys2Proof.Machine

/-! ### The survey at CONSOLE (section 6.2) -/

/-- The state with one survey record changed. -/
def State.modSurvey (s : State) (t : Station) (f : Survey → Survey) : State :=
  { s with surveys := s.surveys.set t (f (s.surveys.get t)) }

/-- An attempt begins: a new token, an ECHO offered, the record SENDING (R116). -/
def State.beginAttempt (s : State) (t : Station) : State :=
  let token := s.tokens + 1
  let c := Ctl.echo t token
  ({ s with tokens := token }.offerTo t c).modSurvey t fun v =>
    { v with state := .sending, token := token, discarded := !s.accepts t c }

/-- A survey for another station starts (R115). -/
def State.startSurvey (s : State) (t : Station) : State :=
  if s.station = .console ∧ s.running ∧ t ≠ .console then
    (s.modSurvey t fun v => { v with failed := 0, unknown := false }).beginAttempt t
  else s

/-- An attempt fails (R116): the next begins at once, or after the third the survey ends with DELAY_UNKNOWN. -/
def State.failAttempt (s : State) (t : Station) : State :=
  let n := (s.surveys.get t).failed + 1
  if n < 3 then (s.modSurvey t fun v => { v with failed := n }).beginAttempt t
  else
    (s.modSurvey t fun v => { v with state := .idle, failed := 3, unknown := true, discarded := false }).post .delayUnknown
      (.station t) 3

/-- The record of a station that becomes absent (R115). -/
def Survey.abandon (v : Survey) : Survey := { v with state := .idle, failed := 0, discarded := false }

/-- A WAITING attempt fails when it has waited its four boundaries (R116). -/
def State.surveyTimeout (s : State) (t : Station) : State :=
  if (s.surveys.get t).state = .waiting then s.failAttempt t else s

/-- An attempt whose ECHO was discarded at offer fails (R116). -/
def State.echoDiscarded (s : State) (t : Station) : State :=
  if (s.surveys.get t).state = .sending ∧ (s.surveys.get t).discarded = true then s.failAttempt t else s

/-- A local superframe boundary at a survey record (R116). -/
def State.surveyBoundary (s : State) (t : Station) : State :=
  let v := s.surveys.get t
  match v.state with
  | .idle => s
  | .sending => s.echoDiscarded t
  | .waiting =>
    let s' := s.modSurvey t fun v => { v with waited := v.waited + 1 }
    if 4 ≤ v.waited + 1 then s'.surveyTimeout t else s'

/-- SURVEY_TIMEOUT (R116): a WAITING attempt fails at its fourth boundary. -/
def execSurveyTimeout (t : Station) (s : State) : Host.Outcome State Fault Refusal :=
  if s.station = .console then .next (s.surveyTimeout t) else .next s

/-- ECHO_DISCARD_FAILURE (R116): the attempt of an ECHO discarded at offer fails. -/
def execEchoDiscardFailure (t : Station) (s : State) : Host.Outcome State Fault Refusal :=
  if s.station = .console then .next (s.echoDiscarded t) else .next s

/-- RESURVEY_TAKEN (R115): a RESURVEY from a present station starts a survey for it. -/
def execResurveyTaken (lane : Lane) (cell : Cell) (s : State) : Host.Outcome State Fault Refusal :=
  .next <|
    s.take lane cell fun t =>
      if t.station = .console ∧ t.running ∧ isControl t.station cell 4 = true ∧
          (t.stations.get cell.src).present = true then
        t.startSurvey cell.src
      else t

/-- A matching ECHO_BACK with its h (R117): the delay is set and DELAY offered, or the attempt fails. -/
def State.echoAnswered (s : State) (t : Station) (h : Nat) : State :=
  let v := s.surveys.get t
  let span := s.localSlot - v.insertedAt
  if span < h then s.failAttempt t
  else
    let d : Count32 := BitVec.ofNat 32 ((span - h) / 2)
    (({ s with stations := s.stations.set t { s.stations.get t with delay := some d } }.modSurvey t fun v =>
          { v with state := .idle, failed := 0 }).post .delaySet (.station t) d.toNat).offerTo t (.delay t v.token d)

/-- ECHO_BACK_TAKEN (R117): a matching ECHO_BACK ends its attempt; every other is discarded. -/
def execEchoBackTaken (lane : Lane) (cell : Cell) (s : State) : Host.Outcome State Fault Refusal :=
  .next <|
    s.take lane cell fun t =>
      let v := t.surveys.get cell.src
      if t.station = .console ∧ isControl t.station cell 2 = true ∧ cell.src ≠ .console ∧ v.state = .waiting ∧
          v.token = cell.payload.getD 1 0 then
        t.echoAnswered cell.src (fieldAt cell.payload 2 4)
      else t

/-! ### The surveyed side (R118) -/

/-- ECHO_TAKEN (R118): ECHO_BACK is offered, the token awaited, the DELAY wait set to 8. -/
def execEchoTaken (lane : Lane) (cell : Cell) (s : State) : Host.Outcome State Fault Refusal :=
  .next <|
    s.take lane cell fun t =>
      if t.station ≠ .console ∧ t.running ∧ isControl t.station cell 1 = true then
        let token : Num8 := cell.payload.getD 1 0
        { t with surveyed := { t.surveyed with awaited := some token, wait := 8 } }.offerTo .console
          (.echoBack token t.localSlot)
      else t

/-- DELAY_TAKEN (R118): a DELAY with the awaited token sets the offset and delay known. -/
def execDelayTaken (lane : Lane) (cell : Cell) (s : State) : Host.Outcome State Fault Refusal :=
  .next <|
    s.take lane cell fun t =>
      if t.station ≠ .console ∧ t.running ∧ isControl t.station cell 3 = true ∧
          t.surveyed.awaited = some (cell.payload.getD 1 0) then
        let d : Count32 := BitVec.ofNat 32 (fieldAt cell.payload 2 4)
        { t with surveyed := { offset := d, known := true, awaited := none, wait := 0 } }.syncClock.post .delaySet
          (.station t.station) d.toNat
      else t

/-- A station other than CONSOLE offers RESURVEY (R118). -/
def State.offerResurvey (s : State) : State := if s.station = .console then s else s.offerTo .console .resurvey

/-- The DELAY wait ends with the token still awaited (R118). -/
def State.delayWaitExpiry (s : State) : State :=
  if s.surveyed.awaited.isSome then
    { s with surveyed := { s.surveyed with awaited := none, wait := 0 } }.offerResurvey
  else s

/-- The DELAY wait at a local superframe boundary (R118). -/
def State.delayBoundary (s : State) : State :=
  if s.surveyed.awaited.isSome then
    let w := s.surveyed.wait - 1
    let s' := { s with surveyed := { s.surveyed with wait := w } }
    if w = 0 then s'.delayWaitExpiry else s'
  else s

/-- DELAY_WAIT_EXPIRY (R118): RESURVEY is offered and the awaited token cleared. -/
def execDelayWaitExpiry (s : State) : Host.Outcome State Fault Refusal := .next s.delayWaitExpiry

/-! ### The sensor port (section 6.3) -/

/-- What a taken edge captures (R119). -/
def State.edgeReading (s : State) : Reading :=
  { time := s.clock, unsettled := !s.settled, doze := s.motion.state == .doze || s.motion.state == .waking }

/-- Whether decimation lets an edge through, and the decimation count after it (R120). -/
def Motion.decimate (m : Motion) : Bool × Nat :=
  if m.state = .sampling then (true, m.decimation) else (m.decimation == 0, (m.decimation + 1) % 8)

/-- DATA_READY_EDGE (R119, R120, R124): the edge is ignored in OFF, an overrun during a read, decimated, or taken. -/
def execDataReadyEdge (s : State) : Host.Outcome State Fault Refusal :=
  if s.station ≠ .headset ∨ s.motion.state = .off then .next s
  else
    let m := if s.motion.state = .sampling then { s.motion with silence := 0 } else s.motion
    if m.reading.isSome then
      .next ({ s with motion := m }.count .motion fun c => { c with overruns := satInc c.overruns })
    else
      let d := m.decimate
      .next
        { s with
          motion := { m with decimation := d.2, reading := if d.1 then some s.edgeReading else none } }

/-- READ_COMPLETION (R119): the read's sample is formed, numbered and queued. -/
def execReadCompletion (axes : Axes) (s : State) : Host.Outcome State Fault Refusal :=
  match s.motion.reading with
  | some r =>
    .next { s with motion := { s.motion.form r.time r.unsettled r.doze false axes with reading := none } }
  | none => .next s

/-! ### Wear and the motion states (section 6.4) -/

/-- The debounced wear state changes (R122, R123). MOTION_STATE is posted before the DOMAIN_STATE of the display domain that the
wear link writes, which no rule gives (DESIGN CHOICE, log entry 48). -/
def State.wearTo (s : State) (worn : Bool) : State :=
  let s' := { s with motion := { s.motion with worn := worn, wearRun := 0 } }
  match s.motion.state, worn with
  | .doze, true => (s'.motionTo Motion.toWaking).wearLink true
  | .waking, false => (s'.motionTo fun m => { m with state := .doze }).wearLink false
  | .sampling, true => { s' with motion := { s'.motion with notWorn := 0 } }
  | _, _ => s'

/-- SAMPLING gives way to DOZE at the end of the not-worn count (R123); the order of notices is that of `wearTo` (DESIGN CHOICE,
log entry 48). -/
def State.fallAsleep (s : State) : State :=
  if s.motion.state = .sampling then (s.motionTo Motion.toDoze).wearLink false else s

/-- WAKING gives way to SAMPLING at the end of the wake hold (R123). -/
def State.wakeUp (s : State) : State := if s.motion.state = .waking then s.motionTo Motion.toSampling else s

/-- The motion counts at a local superframe boundary (R123). -/
def State.motionBoundary (s : State) : State :=
  match s.motion.state with
  | .sampling =>
    let n := if s.motion.worn then 0 else s.motion.notWorn + 1
    let s' := { s with motion := { s.motion with notWorn := n } }
    if 4096 ≤ n then s'.fallAsleep else s'
  | .waking =>
    let n := s.motion.wakeHold - 1
    let s' := { s with motion := { s.motion with wakeHold := n } }
    if n = 0 then s'.wakeUp else s'
  | .off | .doze => s

/-- The proximity line is sampled (R122). -/
def State.sampleWear (s : State) (worn : Bool) : State :=
  if worn = s.motion.worn then { s with motion := { s.motion with wearRun := 0 } }
  else if 4 ≤ s.motion.wearRun + 1 then s.wearTo worn
  else { s with motion := { s.motion with wearRun := s.motion.wearRun + 1 } }

/-- The boundary at the survey records, in the order POD, HEADSET, STRAP, which no rule gives (DESIGN CHOICE, log entry 44). -/
def State.surveyBoundaries (s : State) : State := ((s.surveyBoundary .pod).surveyBoundary .headset).surveyBoundary .strap

/-- LOCAL_SUPERFRAME_BOUNDARY (R149, R116, R118, R122, R123): a conversion begins, the survey and motion counts step, and
the proximity line is sampled; the motion counts and the wear sample each make the calls that their changes bring. A RESURVEY
of the DELAY wait is offered before a POWER cell of those calls (DESIGN CHOICE, log entry 52). -/
def execLocalSuperframeBoundary (worn : Bool) (s : State) : Host.Outcome State Fault Refusal :=
  if s.live then
    let s1 := { s with power := { s.power with converting := true } }
    match s.station with
    | .console => .next s1.surveyBoundaries
    | .headset => .next ((s1.delayBoundary.calling State.motionBoundary).calling fun t => t.sampleWear worn)
    | .pod | .strap => .next s1.delayBoundary
  else .next s

/-- WEAR_CHANGE (R122, R123): the debounced wear state becomes the level sampled. -/
def execWearChange (worn : Bool) (s : State) : Host.Outcome State Fault Refusal :=
  if s.live ∧ s.station = .headset ∧ s.motion.worn ≠ worn then .next (s.calling fun t => t.wearTo worn) else .next s

/-- NOT_WORN_COUNT_EXPIRY (R123): SAMPLING gives way to DOZE. -/
def execNotWornCountExpiry (s : State) : Host.Outcome State Fault Refusal :=
  if s.live ∧ s.station = .headset ∧ s.motion.worn = false then .next (s.calling State.fallAsleep) else .next s

/-- WAKE_HOLD_EXPIRY (R123): WAKING gives way to SAMPLING. -/
def execWakeHoldExpiry (s : State) : Host.Outcome State Fault Refusal :=
  if s.live ∧ s.station = .headset then .next s.wakeUp else .next s

/-- Expected motion rate in Hz, by the start record's code (R124, R199). -/
def motionHz (rate : Nat) : Nat := if rate = 0 then 500 else if rate = 1 then 1000 else 2000

/-- The silence threshold, 8 expected periods, in slots (R124). -/
def silenceThreshold (rate : Nat) : Nat := if rate = 0 then 640000 else if rate = 1 then 320000 else 160000

/-- The silence count reaches its threshold, once (R124). -/
def State.sensorSilent (s : State) : State :=
  if s.motion.state = .sampling ∧ s.motion.silence < silenceThreshold s.cfg.motionRate then
    { s with motion := { s.motion with silence := silenceThreshold s.cfg.motionRate } }.post .sensorSilent (.flow .motion)
      (motionHz s.cfg.motionRate)
  else s

/-- SENSOR_SILENT (R124): the notice is posted, and the count stops until an edge. -/
def execSensorSilent (s : State) : Host.Outcome State Fault Refusal :=
  if s.live ∧ s.station = .headset then .next s.sensorSilent else .next s

/-! ### The motion output at CONSOLE (section 6.6) -/

/-- The missing count and first mark of a taken sample (R126). -/
def MotionOut.judge (o : MotionOut) (x : Sample) : OutSample :=
  if x.restart = true ∧ o.restartRun = false then { sample := x, missing := 0, first := true }
  else
    match o.expected with
    | some e => { sample := x, missing := x.number - e, first := false }
    | none => { sample := x, missing := 0, first := true }

/-- A discarded oldest sample passes its count on (R127). -/
def passCount (old : OutSample) : List OutSample → List OutSample
  | [] => []
  | x :: rest =>
    (if old.first then { x with first := true, missing := 0 } else { x with missing := x.missing + old.missing + 1 }) :: rest

/-- A sample joins the output queue; when it is full the oldest is discarded first (R127). -/
def appendOut (q : List OutSample) (x : OutSample) : List OutSample :=
  if q.length < 16 then q ++ [x]
  else
    match q with
    | [] => [x]
    | old :: rest => passCount old (rest ++ [x])

/-- The port delivers every queued sample while its ready line is high (R127). -/
def State.deliver (s : State) : State :=
  if s.pins.motionReady = true ∧ s.motionOut.queue.isEmpty = false then
    { s with motionOut := { s.motionOut with queue := [], out := s.motionOut.queue } }
  else s

/-- CONSOLE takes a sample (R126, R127). -/
def State.takeSample (s : State) (x : Sample) : State :=
  { s with
    motionOut :=
      { s.motionOut with
        expected := some (x.number + 1), restartRun := x.restart,
        queue := appendOut s.motionOut.queue (s.motionOut.judge x) } }.deliver

/-- The restart run is cleared (R126). -/
def State.endRestartRun (s : State) : State := { s with motionOut := { s.motionOut with restartRun := false } }

/-- MOTION_READY_RISE (R127): the ready line goes high and the queue is delivered. -/
def execMotionReadyRise (s : State) : Host.Outcome State Fault Refusal :=
  .next { s with pins := { s.pins with motionReady := true } }.deliver

/-- MOTION_READY_FALL (R127): the ready line falls and delivery stops. -/
def execMotionReadyFall (s : State) : Host.Outcome State Fault Refusal :=
  .next { s with pins := { s.pins with motionReady := false } }

end Sys2Proof.Machine
end

