-- ==== Sys2Proof/Machine/Audio.lean ====
section
/-! DEFINITION. Audio paths (file 07): sources, sinks, the mixer and the buttons; with the meanings of the commands of that
file. -/

namespace Sys2Proof.Machine

/-- The state with the source changed. -/
def State.modSource (s : State) (f : Source → Source) : State :=
  { s with audio := { s.audio with source := f s.audio.source } }

/-- The state with the sink changed. -/
def State.modSink (s : State) (f : Sink → Sink) : State := { s with audio := { s.audio with sink := f s.audio.sink } }

/-! ### Flow settings (R130) -/

/-- The flow this station sources has two channels. -/
def State.sourceTwo (s : State) : Bool := if s.station = .console then s.cfg.twoOut else s.cfg.twoIn

/-- The flow this station sinks has two channels. -/
def State.sinkTwo (s : State) : Bool := if s.station = .console then s.cfg.twoIn else s.cfg.twoOut

/-- One frame of an idle pattern; a one-channel flow does not use channel 2 (R130). -/
def idleFrame (p : IdlePattern) (two : Bool) : Frame := { ch1 := p.ch1, ch2 := if two then p.ch2 else 0 }

/-- The idle frame of the flow this station sinks (R130). -/
def State.sinkIdle (s : State) : Frame :=
  idleFrame (if s.station = .console then s.cfg.idleIn else s.cfg.idleOut) s.sinkTwo

/-! ### Sources (section 7.2) -/

/-- The input frame as the builder stores it: channel 2 is not used in a one-channel flow (R130). -/
def State.inputFrame (s : State) (ch1 ch2 : BitVec 24) : Frame :=
  { ch1 := ch1.toInt, ch2 := if s.sourceTwo then ch2.toInt else 0 }

/-- A block joins the source queue; when it holds 4 the oldest is discarded first (R133). -/
def queueBlock (q : List Block) (b : Block) : List Block := if q.length < 4 then q ++ [b] else q.drop 1 ++ [b]

/-- The frames a block carries: the idle pattern while microphone mute is set at the AUDIO-IN builder (R134). -/
def State.blockFrames (s : State) (frames : List Frame) : List Frame :=
  if s.station ≠ .console ∧ s.audio.muted = true then List.replicate 4 (idleFrame s.cfg.idleIn s.cfg.twoIn) else frames

/-- The destination of a block built now (R132). -/
def State.blockDst (s : State) : Station := if s.station = .console then s.audioStation else .console

/-- One frame clock edge at the block builder of the source record this station holds (R132). -/
def State.buildStep (s : State) (f : Frame) : State :=
  let k := s.audio.source
  let frames := if k.opened then k.frames ++ [f] else []
  if k.position < 3 then s.modSource fun k => { k with position := k.position + 1, frames := frames }
  else
    let b : Block := { number := k.next, dst := s.blockDst, frames := s.blockFrames frames }
    s.modSource fun k =>
      { k with
        position := 0, frames := [], next := k.next + 1,
        queue := if k.opened then queueBlock k.queue b else k.queue }

/-! ### The sink (section 7.3) -/

/-- A SLIP notice for the flow this station sinks (R184). -/
def State.postSlip (s : State) (value : Nat) : State := s.post .slip (.flow (sinkFlow s.station)) value

/-- A block joins the elastic buffer; on a full buffer the oldest is discarded, an overflow slip (R137). -/
def State.appendBlock (s : State) (b : PlayBlock) : State :=
  let k := s.audio.sink
  let s1 :=
    if k.buffer.length < 16 then s.modSink fun k => { k with buffer := k.buffer ++ [b] }
    else
      (((s.modSink fun k => { k with buffer := k.buffer.drop 1 ++ [b] }).count (sinkFlow s.station) fun c =>
          { c with overflows := satInc c.overflows }).postSlip 2).startPulse .slipPulse
  if s1.audio.sink.state = .priming ∧ 8 ≤ s1.audio.sink.buffer.length then s1.modSink fun k => { k with state := .playing }
  else s1

/-- Idle blocks of a short gap, each appended on its own (R136, R137). -/
def State.appendIdle : Nat → State → State
  | 0, s => s
  | n + 1, s => State.appendIdle n (s.appendBlock .idle)

/-- After a judgement other than late (R136). -/
def State.judged (s : State) (n : Num8) : State :=
  s.modSink fun k => { k with expected := some (n + 1), repeatDone := false }

/-- A discontinuity (R136): the buffer is flushed, the block appended, and a PLAYING sink enters PRIMING. -/
def State.discontinuity (s : State) (b : PlayBlock) : State :=
  ((s.modSink fun k => { k with state := .priming, buffer := [] }).postSlip 3).appendBlock b

/-- The sink judges an arriving block (R136). -/
def State.takeBlock (s : State) (n : Num8) (frames : List Frame) : State :=
  let b := PlayBlock.received frames
  if s.audio.sink.state = .muted then s
  else
    match s.audio.sink.expected with
    | none => (s.appendBlock b).judged n
    | some e =>
      let d := (n - e).toNat
      if d ≤ 4 then ((State.appendIdle d s).appendBlock b).judged n
      else if d ≤ 127 then (s.discontinuity b).judged n
      else s.count (sinkFlow s.station) fun c => { c with lateBlocks := satInc c.lateBlocks }

/-- The loading of the play register at a block boundary (R138). -/
def State.loadPlay (s : State) : State :=
  match s.audio.sink.state, s.audio.sink.buffer with
  | .muted, _ => s.modSink fun k => { k with play := .idle }
  | .priming, _ => s.modSink fun k => { k with play := .idle }
  | .playing, b :: rest => s.modSink fun k => { k with play := b, buffer := rest, repeatDone := false }
  | .playing, [] =>
    if s.audio.sink.repeatDone then
      (s.modSink fun k => { k with play := .idle, state := .priming, expected := none }).postSlip 1
    else
      (((s.modSink fun k => { k with repeatDone := true }).count (sinkFlow s.station) fun c =>
          { c with underflows := satInc c.underflows }).postSlip 0).startPulse .slipPulse

/-! ### The mixer (section 7.4) -/

/-- The gain table (R141). -/
def gain (step : Nat) : Nat :=
  [32767, 23198, 16423, 11627, 8231, 5827, 4125, 2920, 2068, 1464, 1036, 734, 519, 368, 260, 0].getD step 0

/-- x × g / 32768, rounded to the nearest integer with ties away from zero (R141). -/
def scaled (x : Int) (g : Nat) : Int :=
  let m : Int := ((x.natAbs * g * 2 + 32768) / 65536 : Nat)
  if x < 0 then -m else m

/-- Saturation to 24 bits (R141). -/
def sat24 (x : Int) : Int := max (-8388608) (min 8388607 x)

/-- The sidetone part B (R142). -/
def State.sidetonePart (s : State) (mic : Int) : Int :=
  if s.isAudio = true ∧ s.domainOn (sinkDomain s.station) = true ∧ s.domainOn (sourceDomain s.station) = true ∧
      s.audio.muted = false ∧ s.cfg.sidetone < 15 then
    scaled mic (gain s.cfg.sidetone)
  else 0

/-- One channel of the mixer's output (R141). -/
def mixed (a b : Int) : Int := sat24 (a + b)

/-- The frame of the play register at the frame position, and whether it is a received block's. -/
def State.playFrame (s : State) : Frame × Bool :=
  match s.audio.sink.play with
  | .received frames => (frames.getD s.audio.sink.position s.sinkIdle, true)
  | .idle => (s.sinkIdle, false)

/-- The output frame: unchanged at CONSOLE, through the mixer elsewhere; a one-channel flow is played on both channels (R138,
R141). -/
def State.outputFrame (s : State) (mic : Int) : Frame :=
  let f := s.playFrame.1
  if s.station = .console then f
  else
    let g (x : Int) : Int := if s.playFrame.2 then scaled x (gain s.audio.volume) else x
    let b := s.sidetonePart mic
    { ch1 := mixed (g f.ch1) b, ch2 := mixed (g (if s.sinkTwo then f.ch2 else f.ch1)) b }

/-- One frame clock edge at the sink: at position 0 the register is loaded, then one frame is emitted (R138). -/
def State.sinkStep (s : State) (mic : Int) : State :=
  let s1 := if s.audio.sink.position = 0 then s.loadPlay else s
  let s2 := { s1 with audio := { s1.audio with out := some (s1.outputFrame mic) } }
  s2.modSink fun k => { k with position := (k.position + 1) % 4 }

/-- FRAME_CLOCK_EDGE (R131, R132, R138): the clock is present, the builder gathers the input frame, the sink emits one output
frame. STRAP has no audio port. An edge before the end of LOADING is ignored, of which R131 says nothing (DESIGN CHOICE, log
entry 45). -/
def execFrameClockEdge (ch1 ch2 : BitVec 24) (s : State) : Host.Outcome State Fault Refusal :=
  if s.live ∧ s.station ≠ .strap then
    let s1 := { s with audio := { s.audio with clock := true } }.followSource
    let s2 := if s1.holdsSource then s1.buildStep (s1.inputFrame ch1 ch2) else s1
    .next (s2.sinkStep ch1.toInt)
  else .next s

/-- FRAME_CLOCK_ABSENT (R131, R55): the clock becomes absent and its source closes. The 8 192 slots without an edge are the
sender's to count (DESIGN CHOICE, log entry 8). -/
def execFrameClockAbsent (s : State) : Host.Outcome State Fault Refusal :=
  if s.live ∧ s.station ≠ .strap then .next { s with audio := { s.audio with clock := false } }.followSource else .next s

/-! ### Volume, mute and buttons (R134, R143 to R146) -/

/-- One volume step quieter or louder, saturating at 14 and 0 (R143). -/
def stepVolume (v : Nat) (quieter : Bool) : Nat := if quieter then min (v + 1) 14 else v - 1

/-- The volume step moves (R143). -/
def State.moveVolume (s : State) (quieter : Bool) : State :=
  { s with audio := { s.audio with volume := stepVolume s.audio.volume quieter } }

/-- Microphone mute toggles (R134). -/
def State.toggleMute (s : State) : State := { s with audio := { s.audio with muted := !s.audio.muted } }

/-- The command of a press, where the station is the audio station (R145). -/
def State.applyButton (s : State) : Button → State
  | .volUp => s.moveVolume false
  | .volDown => s.moveVolume true
  | .mute => s.toggleMute

/-- The command cell of a press, to another station (R145). -/
def buttonCell (target : Station) : Button → Ctl
  | .volUp => .volume target false
  | .volDown => .volume target true
  | .mute => .mute target

/-- A recognised press is acted on (R145). Where the command cell and the BUTTON cell go to one FIFO the command cell is offered
first, which R145 leaves open (DESIGN CHOICE, log entry 46). -/
def State.press (s : State) (b : Button) : State :=
  (if s.isAudio then s.applyButton b else s.offerTo s.audioStation (buttonCell s.audioStation b)).offer .up (.button b)

/-- A button line's state. -/
def Audio.line (a : Audio) : Button → ButtonLine
  | .volUp => a.volUp | .volDown => a.volDown | .mute => a.mute

/-- The audio unit with a button line's state set. -/
def Audio.setLine (a : Audio) (b : Button) (l : ButtonLine) : Audio :=
  match b with
  | .volUp => { a with volUp := l } | .volDown => { a with volDown := l } | .mute => { a with mute := l }

/-- The state with a button line set. -/
def State.setButton (s : State) (b : Button) (l : ButtonLine) : State := { s with audio := s.audio.setLine b l }

/-- The station has button lines (R144). -/
abbrev State.hasButtons (s : State) : Prop := s.running ∧ (s.station = .pod ∨ s.station = .headset)

/-- A line's debounced state changes; a change to PRESSED is a press (R144). -/
def State.lineTo (s : State) (b : Button) (pressed : Bool) : State :=
  let s' := s.setButton b ⟨pressed, 0⟩
  if pressed then s'.press b else s'

/-- One sample of a button line (R144). -/
def State.sampleLine (s : State) (b : Button) (level : Bool) : State :=
  let l := s.audio.line b
  if level = l.pressed then s.setButton b ⟨l.pressed, 0⟩
  else if 4 ≤ l.run + 1 then s.lineTo b level
  else s.setButton b ⟨l.pressed, l.run + 1⟩

/-- LOCAL_RI_BOUNDARY (R144): POD and HEADSET sample each button line; presses that complete together act in the order VOL+,
VOL-, MUTE, which R144 leaves open (DESIGN CHOICE, log entry 46). The sample that brings a run to 4 performs the press or the
release itself, while R144 is held by this row, BUTTON_PRESS and BUTTON_RELEASE alike (DESIGN CHOICE, log entry 7). -/
def execLocalRiBoundary (volUp volDown mute : Bool) (s : State) : Host.Outcome State Fault Refusal :=
  if s.hasButtons then .next (((s.sampleLine .volUp volUp).sampleLine .volDown volDown).sampleLine .mute mute)
  else .next s

/-- BUTTON_PRESS (R144, R145): a run reaches 4 to PRESSED. LOCAL_RI_BOUNDARY performs it too; sent alone it acts on a RELEASED
line whatever its run reads, which the spec leaves open (DESIGN CHOICE, log entry 7). -/
def execButtonPress (b : Button) (s : State) : Host.Outcome State Fault Refusal :=
  if s.hasButtons ∧ (s.audio.line b).pressed = false then .next (s.lineTo b true) else .next s

/-- BUTTON_RELEASE (R144): a run reaches 4 to RELEASED. LOCAL_RI_BOUNDARY performs it too; sent alone it acts on a PRESSED line
whatever its run reads, which the spec leaves open (DESIGN CHOICE, log entry 7). -/
def execButtonRelease (b : Button) (s : State) : Host.Outcome State Fault Refusal :=
  if s.hasButtons ∧ (s.audio.line b).pressed = true then .next (s.lineTo b false) else .next s

/-- VOLUME_CELL_TAKEN (R146): at the audio station the step moves; byte 1 above 1 is discarded. -/
def execVolumeCellTaken (lane : Lane) (cell : Cell) (s : State) : Host.Outcome State Fault Refusal :=
  .next <|
    s.take lane cell fun t =>
      if t.running ∧ isControl t.station cell 5 = true ∧ t.isAudio = true ∧ byteAt cell.payload 1 ≤ 1 then
        t.moveVolume (decide (byteAt cell.payload 1 = 1))
      else t

/-- MUTE_CELL_TAKEN (R146): at the audio station microphone mute toggles. -/
def execMuteCellTaken (lane : Lane) (cell : Cell) (s : State) : Host.Outcome State Fault Refusal :=
  .next <|
    s.take lane cell fun t =>
      if t.running ∧ isControl t.station cell 7 = true ∧ t.isAudio = true then t.toggleMute else t

/-- BUTTON_CELL_TAKEN (R146): at CONSOLE a BUTTON notice is posted or its count raised; byte 1 above 2 is discarded. -/
def execButtonCellTaken (lane : Lane) (cell : Cell) (s : State) : Host.Outcome State Fault Refusal :=
  .next <|
    s.take lane cell fun t =>
      if t.station = .console ∧ isControl t.station cell 6 = true ∧ byteAt cell.payload 1 ≤ 2 then
        t.postButton (byteAt cell.payload 1)
      else t

end Sys2Proof.Machine
end

