-- ==== Sys2Proof/Machine/Data.lean ====
section
/-! DEFINITION. Destination records of flows (sections 3.1 and 3.4): the flow plan check, the sequence check, the hand-over to
the units and lane loss; with the meaning of DATA_CELL_TAKEN. -/

namespace Sys2Proof.Machine

/-- The planned source of a flow, as this station judges it (R47, R48). -/
def State.planSource (s : State) : FlowId → Station
  | .pictureL | .pictureR | .audioOut => .console
  | .motion => .headset
  | .audioIn => s.audioStation

/-- The planned destination of a flow, as this station judges it (R47, R48). -/
def State.planDest (s : State) : FlowId → Station
  | .pictureL | .pictureR => .headset
  | .motion | .audioIn => .console
  | .audioOut => s.audioStation

/-- A misrouted cell is counted in a flow's group (R58, R46). -/
def State.misroute (s : State) (f : FlowId) : State := s.count f fun c => { c with misrouted := satInc c.misrouted }

/-- A cell of a flow passes the flow plan check here (R58). -/
def State.planned (s : State) (f : FlowId) (c : Cell) : Bool :=
  c.dst == .to s.station && s.planDest f == s.station && c.src == s.planSource f

/-- The group in which a cell of an unplanned flow number is counted (R58). -/
def strayFlow : Lane → FlowId
  | .down => .pictureL | .up => .motion

/-- A cell reaches its unit, marked with or without a gap before it (R61, R46). -/
def State.handOver (s : State) (f : FlowId) (gap : Bool) (c : Cell) : State :=
  match f with
  | .pictureL => s.takePictureCell .left gap c
  | .pictureR => s.takePictureCell .right gap c
  | .motion => if c.start then s.takeSample (readSample c) else s.misroute .motion
  | .audioOut | .audioIn =>
    match c.start, readBlock c s.sinkTwo with
    | true, some (n, frames) => s.takeBlock n frames
    | _, _ => s.misroute f

/-- The sequence check of a LISTENING record, and the hand-over (R59). -/
def State.sequenceCheck (s : State) (f : FlowId) (expected : Option Seq) (c : Cell) : State :=
  let gap := expected.any fun e => e != c.seq
  let s1 := { s with dst := s.dst.set f (some ⟨.listening, some (c.seq + 1)⟩) }
  (if gap then s1.count f fun k => { k with gaps := satInc k.gaps } else s1).handOver f gap c

/-- A DATA cell is judged by the plan and by its destination record (R58). -/
def State.takeData (s : State) (lane : Lane) (c : Cell) : State :=
  match flowOf c.flow with
  | none => s.misroute (strayFlow lane)
  | some f =>
    if s.planned f c = false then s.misroute f
    else
      match s.dst.get f with
      | some ⟨.listening, e⟩ => s.sequenceCheck f e c
      | _ => s

/-- DATA_CELL_TAKEN (R58): a DATA cell dropped here or copied from a broadcast goes through the plan check and on to its
record. -/
def execDataCellTaken (lane : Lane) (cell : Cell) (s : State) : Host.Outcome State Fault Refusal :=
  .next <|
    s.take lane cell fun t =>
      if t.live ∧ cell.kind = .data ∧ addressed t.station cell = true then t.takeData lane cell else t

/-- The expected number of a LISTENING record becomes absent (R60). -/
def State.forgetSeq (s : State) (f : FlowId) : State :=
  match s.dst.get f with
  | some ⟨.listening, _⟩ => { s with dst := s.dst.set f (some ⟨.listening, none⟩) }
  | _ => s

/-- Lane loss at a picture record (R60, R102). -/
def State.losePicture (s : State) (e : Eye) : State :=
  if s.listening (Eye.flow e) then (s.forgetSeq (Eye.flow e)).breakEye e else s

/-- Lane loss at the records fed by a lane and at the motion output (R60, R126, R140). -/
def State.loseLane (s : State) : Lane → State
  | .down => ((s.losePicture .left).losePicture .right).forgetSeq .audioOut
  | .up => ((s.forgetSeq .motion).forgetSeq .audioIn).endRestartRun

end Sys2Proof.Machine
end

