-- ==== Sys2Proof/Machine/Lane.lean ====
section
/-! DEFINITION. Lane receivers, the roles of transmitters and the station table (file 01); with the meanings of the receiver's
commands and STATION_TABLE_TIMEOUT. -/

namespace Sys2Proof.Machine

/-! ### The audio station (R48) -/

/-- HEADSET becomes the audio station: its flow 3 record is created and its sources and sink follow. Where its flow 4 source
does not open at once, the builder goes on from the position and number it stood at, which no rule sets (DESIGN CHOICE, log
entries 32 and 42). -/
def State.becomeAudio (s : State) : State :=
  { s with dst := s.dst.set .audioOut (some ⟨if s.running then .listening else .closed, none⟩) }.followSource.followSink

/-- HEADSET ceases to be the audio station: its records close, the source queue is emptied, the sink is muted. -/
def State.ceaseAudio (s : State) : State :=
  (({ s with dst := s.dst.set .audioOut none }.modSource fun k => { k with queue := [] }).followSource).followSink

/-- What follows a change of this station's judgement of the audio station (R48). -/
def State.audioChange (before after : State) : State :=
  if after.audioStation = before.audioStation then after
  else
    match after.station with
    | .headset => if after.isAudio then after.becomeAudio else after.ceaseAudio
    | .console => after.forgetSeq .audioIn
    | _ => after

/-! ### The station table (section 1.6) -/

/-- The state with one station table entry changed. -/
def State.modStation (s : State) (t : Station) (f : StationEntry → StationEntry) : State :=
  { s with stations := s.stations.set t (f (s.stations.get t)) }

/-- The entry of a station becomes present (R23, R48, R115, R154). The station's notice is posted before those that a change of
the applied level brings, which no rule gives (DESIGN CHOICE, log entry 48). -/
def State.becomePresent (s : State) (t : Station) : State :=
  State.audioChange s
    (((s.modStation t fun v => { v with present := true }).post .stationPresent (.station t) 0).relevel.startSurvey t)

/-- The entry of a station becomes absent: its delay is unknown and its survey ends (R23, R24, R48, R115, R154). The order of
notices is that of `becomePresent` (DESIGN CHOICE, log entry 48). -/
def State.becomeAbsent (s : State) (t : Station) : State :=
  State.audioChange s
    ((((s.modStation t fun v => { v with present := false, delay := none }).modSurvey t Survey.abandon).post .stationAbsent
        (.station t) 0).relevel)

/-- The receiver that feeds a station's entry (R22); none feeds the own entry. -/
def feeds (own : Station) (l : Lane) (t : Station) : Bool :=
  match l with
  | .down => t.num < own.num
  | .up => own.num < t.num

/-- A status byte handed on for a station (R22). -/
def State.takeStatus (s : State) (l : Lane) (t : Station) (b : Byte) : State :=
  if feeds s.station l t = false then s
  else
    let v := s.stations.get t
    if b.getLsbD 7 then
      let s' := s.modStation t fun v => { v with status := b, absentRun := 0 }
      if v.present then s' else s'.becomePresent t
    else
      let n := min (v.absentRun + 1) 4
      let s' := s.modStation t fun v => { v with status := b, absentRun := n }
      if n = 4 ∧ v.present = true then s'.becomeAbsent t else s'

/-- An entry becomes absent because its receiver has long been out of LOCKED (R23). -/
def State.timeoutEntry (s : State) (l : Lane) (t : Station) : State :=
  if feeds s.station l t = false then s
  else
    let s' := s.modStation t fun v => { v with status := 0 }
    if (s.stations.get t).present then s'.becomeAbsent t else s'

/-- Every entry fed by a receiver becomes absent (R23), in the order CONSOLE, POD, HEADSET, STRAP, which no rule gives (DESIGN
CHOICE, log entry 48). -/
def State.timeoutLane (s : State) (l : Lane) : State :=
  (((s.timeoutEntry l .console).timeoutEntry l .pod).timeoutEntry l .headset).timeoutEntry l .strap

/-- STATION_TABLE_TIMEOUT (R23): the feeding receiver has been out of LOCKED for 65 536 slots. -/
def execStationTableTimeout (l : Lane) (s : State) : Host.Outcome State Fault Refusal :=
  if s.live ∧ (s.rx.get l).state ≠ .locked then .next (s.calling fun t => t.timeoutLane l) else .next s

/-! ### Receivers (section 1.3) -/

/-- A receiver runs: fitted, and in use once roles have settled (R1). -/
def State.rxRuns (s : State) (l : Lane) : Bool := fitted s.station l && (!s.settledRoles || s.inUse l)

/-- A receiver outside LOCKED holds no timing of the lane (R8, R13); its counters stand. -/
def Rx.clear (r : Rx) (st : RxState) : Rx :=
  { Rx.reset with
    state := st, outOfLock := r.outOfLock, alignErrors := r.alignErrors, hopErrors := r.hopErrors,
    cellErrors := r.cellErrors, relocks := r.relocks, handed := r.handed }

/-- The frame number at the next expected position (R9). -/
def Rx.expectedFrame (r : Rx) : BitVec 4 := if r.inEffect = some .deep then 0 else r.frame + 1

/-- The receiver's timing steps to the next expected position (R9). -/
def Rx.advance (r : Rx) : Rx :=
  let f := r.expectedFrame
  let step (n : Count32) : Count32 := if f = 0 then n + 1 else n
  { r with
    frame := f, offset := 0, count := r.count.map step,
    info := r.info.map fun i => { i with frame := f, count := step i.count },
    infoOk := false, activeThis := false, activePrev := r.activeThis, payloadState := r.inEffect, crc := 0xFFFF }

/-- A correct cell at the position the receiver's timing has stepped to (R9). -/
def Rx.accept (r : Rx) (i : AlignInfo) : Rx :=
  { r with
    inEffect := some i.lane, count := if i.frame = 0 then some i.count else r.count, info := some i, infoOk := true,
    activeThis := i.lane == .active }

/-- What stands at the expected position, when it is correct in the sense of R9. -/
def Rx.correct (r : Rx) (found : Option Cell) : Option AlignInfo :=
  match found.bind readAlign with
  | some i => if i.frame = r.expectedFrame then some i else none
  | none => none

/-- The station whose status byte a position carries (R5). -/
def statusOwner (underDeep : Bool) (frame : BitVec 4) (count : Count32) : Station :=
  stationOf (if underDeep then count.toNat else frame.toNat)

/-- The alignment cell that a receiver's timing has reached was sent under DEEP (R5): a frame-0 cell whose state in effect on
arrival was DEEP, or that carries DEEP. -/
def Rx.underDeep (r : Rx) (i : AlignInfo) : Bool :=
  i.frame == 0 && (r.payloadState == some .deep || i.lane == .deep)

/-- The fields that a REPEATING transmitter copies for the receiver's current frame, the status byte as R5 gives for the
positions of other stations (R4, R5). -/
def Rx.repeated (r : Rx) : Option AlignInfo :=
  r.info.map fun i =>
    { i with
      status := if r.infoOk then i.status else (r.bytes.get (statusOwner (r.underDeep i) i.frame i.count)).getD 0 }

/-- The hop check of the frame before is due for evaluation at a correct cell (R11). A receiver enters LOCKED only at an
alignment position, so one that is LOCKED at the next was LOCKED through every payload slot between. -/
def Rx.hopDue (r : Rx) : Bool := r.state == .locked && r.payloadState != some .deep && r.inEffect != some .deep

/-- The history after a correct cell's hop check (R11). -/
def Rx.hopHistory (r : Rx) (hop : Crc) : List Bool := if r.hopDue then ((r.crc != hop) :: r.history).take 16 else r.history

/-- The hop check of a correct cell is evaluated and fails (R11). -/
def Rx.hopFails (r : Rx) (hop : Crc) : Bool := r.hopDue && r.crc != hop

/-- 12 or more failures among the recorded frames (R11). -/
def hopLost (history : List Bool) : Bool := 12 ≤ (history.filter fun b => b).length

/-! ### Roles change (section 1.4) -/

/-- A transmitter becomes SUBSTITUTE (R16); `carry` is the alignment cell still owed for the frame in progress. -/
def Tx.substitute (t : Tx) (carry : Option AlignInfo) : Tx :=
  { t with role := .substitute, follows := false, own := t.role == .provisional, carry := carry }

/-- The timing that a REPEATING transmitter followed, stepped to the frame it stands in (R3, R16): no alignment cell marks the
silent frames of a DEEP superframe, so they are counted by their slots. -/
def Tx.stepSilent (t : Tx) : Tx :=
  let n := t.frame.toNat + t.offset / 64
  { t with frame := BitVec.ofNat 4 n, count := t.count + BitVec.ofNat 32 (n / 16), offset := t.offset % 64 }

/-- What the loss of lock makes of the same lane's transmitter (R13, R16, R20). -/
def Tx.loseLock (t : Tx) (carry : Option AlignInfo) : Tx :=
  if t.role = .repeating then t.stepSilent.substitute carry
  else if t.role = .provisional ∧ t.follows = true then t.substitute none
  else t

/-- A receiver leaves LOCKED (R13). -/
def State.leaveLocked (s : State) (l : Lane) (st : RxState) (carry : Option AlignInfo) : State :=
  let n := s.laneCount l (s.rx.get l).relocks
  let s1 := s.modRx l fun r => { r.clear st with relocks := n, outOfLock := 0 }
  let s2 := (s1.modTx l fun t => t.loseLock carry).loseLane l
  if s.inUse l then s2.postLane l else s2

/-- A SUBSTITUTE, or a provisional origin that waits, follows the received timing from a correct frame 0 on (R17, R20). -/
def State.returnToRepeating (s : State) (l : Lane) : State :=
  let t := s.tx.get l
  let s' := s.modTx l fun t => { t with role := .repeating, follows := false, own := false, carry := none, whole := false }
  if t.role = .substitute then s'.postLane l
  else if t.role = .provisional ∧ t.follows = true then s'
  else s

/-! ### The receiver's commands -/

/-- A receiver not in use whose far side shows signal after roles settled without a far neighbour (R21). -/
def State.lateNeighbour (s : State) (l : Lane) : State :=
  if l = .up ∧ s.settledRoles = true ∧ s.farNeighbour = false ∧ s.lateSeen = false then
    { s with lateSeen := true }.post .lateNeighbour (.lane .up) 0
  else s

/-- A running receiver in DARK finds signal (R7); the far-side one, before roles settle, finds a far neighbour (R19). -/
def State.findSignal (s : State) (l : Lane) : State :=
  if (s.rx.get l).state = .dark then
    let s' := s.modRx l fun r => r.clear .search
    if l = .up ∧ s.settledRoles = false then { s' with farNeighbour := true } else s'
  else s

/-- SIGNAL_PRESENT (R7, R19, R21): line activity appears on a port. -/
def execSignalPresent (l : Lane) (s : State) : Host.Outcome State Fault Refusal :=
  let s' := { s with pins := { s.pins with signal := s.pins.signal.set l true } }
  if s.live then if s.rxRuns l then .next (s'.findSignal l) else .next (s'.lateNeighbour l) else .next s'

/-- SIGNAL_ABSENT (R7, R13): 2 048 slots pass with no line activity. -/
def execSignalAbsent (l : Lane) (s : State) : Host.Outcome State Fault Refusal :=
  let s' := { s with pins := { s.pins with signal := s.pins.signal.set l false } }
  if s.live ∧ (s.rx.get l).state = .locked then .next (s'.leaveLocked l .dark none)
  else if s.live then .next (s'.modRx l fun r => r.clear .dark)
  else .next s'

/-- CANDIDATE_ALIGNMENT_CELL (R8): in SEARCH the candidate's timing and lane state are taken, and one correct cell is
counted. -/
def execCandidateAlignmentCell (l : Lane) (cell : Cell) (s : State) : Host.Outcome State Fault Refusal :=
  match readAlign cell with
  | some i =>
    if s.live ∧ (s.rx.get l).state = .search then
      .next (s.modRx l fun r => { r.clear .confirm with confirm := 1, frame := i.frame }.accept i)
    else .next s
  | none => .next s

/-- The third correct cell puts the receiver in LOCKED (R8, R13, R118). The receiver keeps no status byte of that cell: its
position has no byte until a correct cell after it carries one, while `info` does take the cell for the fields that R4 copies.
R5 does not say whether the locking cell counts as a correct cell since the receiver entered LOCKED (DESIGN CHOICE, log entry
51); nor does it hand its byte on (log entry 17). -/
def State.enterLocked (s : State) (l : Lane) (i : AlignInfo) : State :=
  let s1 :=
    s.modRx l fun r =>
      { r.advance.accept i with
        state := .locked, confirm := 0, errRun := 0, history := [], fault := i.fault, bytes := ⟨none, none, none, none⟩,
        outOfLock := 0 }
  let s2 := s1.syncClock.postLane l
  let s3 := if l = .up ∧ i.fault = true then s2.endRestartRun else s2
  if l = .down ∧ s.running then s3.offerResurvey else s3

/-- The expected position in CONFIRM (R8). -/
def State.confirmCell (s : State) (l : Lane) (found : Option Cell) : State :=
  let r := s.rx.get l
  match r.correct found with
  | none => s.modRx l fun r => r.clear .search
  | some i =>
    if r.confirm < 2 then s.modRx l fun r => { r.advance.accept i with confirm := r.confirm + 1 } else s.enterLocked l i

/-- An alignment cell in error, or silence, while LOCKED (R10). -/
def State.alignError (s : State) (l : Lane) : State :=
  let n := s.laneCount l (s.rx.get l).alignErrors
  let s1 := s.modRx l fun r => { r.advance with errRun := r.errRun + 1, alignErrors := n }
  if 4 ≤ (s1.rx.get l).errRun then s1.syncClock.leaveLocked l .search (s1.rx.get l).repeated else s1.syncClock

/-- The receiver after a correct cell while LOCKED (R9 to R12, R5). -/
def Rx.lockedCorrect (r : Rx) (i : AlignInfo) (hopErrors : Nat) : Rx :=
  let a := r.advance.accept i
  { a with
    errRun := 0, fault := i.fault, hopErrors := if r.hopFails i.hop then hopErrors else r.hopErrors,
    history := if i.lane = .deep then [] else r.hopHistory i.hop,
    bytes := r.bytes.set (statusOwner (a.underDeep i) i.frame i.count) (some i.status) }

/-- The lane is seen to leave DEEP (R180). -/
def leavesDeep (before : Option LaneState) (now : LaneState) : Bool := before == some .deep && now != .deep

/-- What the blocks make of a correct cell while LOCKED: the return to REPEATING (R17), the status byte (R22) with the calls that
its changes bring, fault-seen (R14, R126) and the fresh rule (R180). The LANE_STATE of a return to REPEATING is posted before
what a change of the station's entry posts, which no rule gives (DESIGN CHOICE, log entry 48). The status byte's changes and the
calls they bring come before fresh-pending is set and makes its call (R180), which no rule orders (DESIGN CHOICE, log entry
10). -/
def State.handAlign (s : State) (l : Lane) (before : Rx) (i : AlignInfo) : State :=
  let s1 := if i.frame = 0 then s.returnToRepeating l else s
  let s2 := if l = .up ∧ before.fault = false ∧ i.fault = true then s1.endRestartRun else s1
  let s3 := s2.calling fun t => t.takeStatus l (statusOwner ((s.rx.get l).underDeep i) i.frame i.count) i.status
  if leavesDeep before.inEffect i.lane then s3.setFresh else s3

/-- A correct alignment cell while LOCKED (R9 to R13). The loss of R11 is judged on the history with this cell's own result,
before R12 empties it: no rule orders the two at a cell that brings DEEP into effect. The loss also comes before R17: where the
first correct frame-0 cell since LOCKED is the 12th failure, a SUBSTITUTE or a provisional origin that waits does not return to
REPEATING at it, which no rule orders either (both DESIGN CHOICE, log entry 39). -/
def State.alignCorrect (s : State) (l : Lane) (i : AlignInfo) : State :=
  let r := s.rx.get l
  let n := s.laneCount l r.hopErrors
  let s1 := (s.modRx l fun r => r.lockedCorrect i n).syncClock
  if hopLost (r.hopHistory i.hop) then s1.leaveLocked l .search (s1.rx.get l).repeated
  else s1.handAlign l r i

/-- EXPECTED_ALIGNMENT_CELL (R8 to R14): the cell at the expected position is judged. -/
def execExpectedAlignmentCell (l : Lane) (found : Option Cell) (s : State) : Host.Outcome State Fault Refusal :=
  if s.live then
    match (s.rx.get l).state with
    | .confirm => .next (s.confirmCell l found)
    | .locked =>
      match (s.rx.get l).correct found with
      | some i => .next (s.alignCorrect l i)
      | none => .next (s.alignError l)
    | .dark | .search => .next s
  else .next s

/-! ### Roles settle (R20) -/

/-- A lane-quiet machine starts in ACTIVE (R171). -/
def Quiet.start : Quiet :=
  { lane := .active, quietCount := 0, wakeCount := 0, wakeBegins := false, sawNeed := false, sawAny := false }

/-- A transmitter becomes ORIGIN and keeps its timing (R20). -/
def Tx.toOrigin (t : Tx) : Tx := { t with role := .origin, quiet := some Quiet.start }

/-- A transmitter becomes TERMINAL, and its FIFO is emptied (R20, R43). -/
def Tx.toTerminal (t : Tx) : Tx := { t with role := .terminal, fifo := [], line := none }

/-- A transmitter that is to be REPEATING waits for the next correct frame 0, or becomes SUBSTITUTE when its receiver is not
LOCKED (R20). -/
def State.toRepeating (s : State) (l : Lane) : State :=
  if (s.rx.get l).state = .locked then s.modTx l fun t => { t with follows := true }
  else (s.modTx l fun t => t.substitute none).postLane l

/-- The roles settle (R20). Where both transmitters become SUBSTITUTE the down lane's LANE_STATE is posted first, which no rule
gives (DESIGN CHOICE, log entry 48). -/
def State.settleRoles (s : State) : State :=
  let s1 := { s with settledRoles := true }
  if s.station = .console then
    let s2 := s1.modTx .down Tx.toOrigin
    if s.farNeighbour then s2 else s2.modRx .up fun r => r.clear .dark
  else if s.farNeighbour then (s1.toRepeating .down).toRepeating .up
  else ((s1.modTx .down Tx.toTerminal).modTx .up Tx.toOrigin).modRx .up fun r => r.clear .dark

end Sys2Proof.Machine
end

