-- ==== Sys2Proof/Machine/Slot.lean ====
section
/-! DEFINITION. What a transmitter sends: alignment cells with the lane-quiet machine (files 01, 09), the cell decision and the
insertion arbiter (file 02); with the meanings of ALIGNMENT_CELL_SENT, PAYLOAD_SLOT_RECEIVED and IDLE_SLOT_ARBITRATION. -/

namespace Sys2Proof.Machine

/-! ### The lane-quiet machine (section 9.1) -/

/-- The flags of one observation (R171): need, hold, and owed or fresh. -/
structure Observed where
  need : Bool
  hold : Bool
  reports : Bool
deriving DecidableEq, Repr

/-- The observation that the origin of a lane takes (R171). -/
def State.observe (s : State) (l : Lane) : Observed :=
  { need := s.observesNeed l, hold := s.observesHold l, reports := s.observesReports }

/-- Any of the four flags shows (R173). -/
def Observed.any (o : Observed) : Bool := o.need || o.hold || o.reports

/-- The decision of frame 15 in ACTIVE (R172). -/
def Quiet.endActive (q : Quiet) : Quiet := if q.sawNeed then q else { q with lane := .light, quietCount := 0 }

/-- The decision of frame 15 in LIGHT (R173). -/
def Quiet.endLight (q : Quiet) : Quiet :=
  if q.sawNeed then { q with lane := .active, quietCount := 0 }
  else if q.sawAny then { q with quietCount := 0 }
  else if q.quietCount < 3 then { q with quietCount := q.quietCount + 1 }
  else { q with lane := .deep, quietCount := 0 }

/-- Frame 15 in WAKING (R175). -/
def Quiet.endWaking (q : Quiet) : Quiet :=
  if q.wakeBegins then { q with wakeBegins := false }
  else if q.wakeCount < 3 then { q with wakeCount := q.wakeCount + 1 }
  else { q with lane := .active, wakeCount := 4 }

/-- The decision that ends a superframe, made at frame 15 (R171). -/
def Quiet.endSuperframe (q : Quiet) : Quiet :=
  match q.lane with
  | .active => q.endActive
  | .light => q.endLight
  | .waking => q.endWaking
  | .deep => q

/-- The machine takes the observation of a frame, and the state it then holds is written into that frame's cell (R171 to
R175). -/
def Quiet.step (q : Quiet) (frame : BitVec 4) (o : Observed) : Quiet :=
  if q.lane = .deep then
    if o.need || o.hold then { q with lane := .waking, wakeCount := 0, wakeBegins := true } else q
  else
    let seen : Quiet :=
      if frame = 0 then { q with sawNeed := o.need, sawAny := o.any }
      else { q with sawNeed := q.sawNeed || o.need, sawAny := q.sawAny || o.any }
    if frame = 15 then seen.endSuperframe else seen

/-! ### Alignment cells (section 1.2) -/

/-- The hop check that the next alignment cell carries (R6). -/
def Tx.hopCheck (t : Tx) : Crc := if t.whole = true ∧ t.sent = 63 then t.crc else 0xFFFF

/-- The frame number and count of the next frame of a transmitter's own timing (R3, R19); the frames 1 to 15 of a DEEP
superframe have no alignment cell. -/
def Tx.nextFrame (t : Tx) : BitVec 4 × Count32 :=
  if t.begun = false then (0, t.count)
  else
    let f := if t.role = .origin ∧ t.sentThis = some .deep then 0 else t.frame + 1
    (f, if f = 0 then t.count + 1 else t.count)

/-- The transmitter's timing at the start of a frame of its own (R3). -/
def Tx.begin (t : Tx) (frame : BitVec 4) (count : Count32) : Tx :=
  { t with frame := frame, count := count, offset := 0, begun := true, own := true }

/-- The transmitter has sent an alignment cell (R2, R6, R36): the hop check of the new frame begins. -/
def Tx.sendAlign (t : Tx) (i : AlignInfo) (c : Cell) : Tx :=
  { t with
    frame := i.frame, count := i.count, offset := 0, begun := true, sentPrev := t.sentThis, sentThis := some i.lane,
    crc := 0xFFFF, sent := 0, whole := true, carry := none, line := some c }

/-- The status byte at a position: this station's own in its own position (R5); the table then holds it (R24). -/
def State.fillStatus (s : State) (underDeep : Bool) (i : AlignInfo) : AlignInfo :=
  if statusOwner underDeep i.frame i.count = s.station then { i with status := s.statusByte } else i

/-- The own entry's latest status byte, once it has been written into an alignment cell (R24). -/
def State.noteStatus (s : State) (underDeep : Bool) (i : AlignInfo) : State :=
  if statusOwner underDeep i.frame i.count = s.station then
    s.modStation s.station fun v => { v with status := i.status }
  else s

/-- Build and send an alignment cell: own status byte and hop check filled in (R4, R5, R6), then the test for a report (R178). -/
def State.putAlign (s : State) (l : Lane) (underDeep : Bool) (i : AlignInfo) : State :=
  let j := s.fillStatus underDeep { i with hop := (s.tx.get l).hopCheck }
  ((s.modTx l fun t => t.sendAlign j (alignCell s.station j)).noteStatus underDeep j).syncClock

/-- The test that each alignment cell sent on a report lane brings (R178). -/
def State.alignTest (s : State) (l : Lane) : State := if s.reportLane l then s.reportTest else s

/-- An alignment cell of a REPEATING transmitter, or one still owed for the frame in which lock was lost (R4, R15, R16). -/
def State.repeatAlign (s : State) (l : Lane) (underDeep : Bool) (i : AlignInfo) : State :=
  (s.putAlign l underDeep i).alignTest l

/-- A cell still owed was received under DEEP (R5): the transmitter's cell before it, or the cell itself, carries DEEP. -/
def Tx.carryDeep (t : Tx) (i : AlignInfo) : Bool := i.frame == 0 && (t.sentThis == some .deep || i.lane == .deep)

/-- An alignment cell of a SUBSTITUTE or a provisional origin (R4). Such a transmitter writes ACTIVE, and its frames are taken as
sent under that state: the status byte of its cell has the position of the frame number modulo 4, also at its first own
frame 0 after a cell that carried DEEP, where R3 could be read to give the position of the superframe count (DESIGN CHOICE,
log entry 51). -/
def State.ownAlign (s : State) (l : Lane) (fault : Bool) : State :=
  let n := (s.tx.get l).nextFrame
  let s1 := (s.modTx l fun t => t.begin n.1 n.2)
  (s1.putAlign l false
    { frame := n.1, origin := s.station, lane := .active, fault := fault, count := n.2, status := 0, hop := 0 }).alignTest l

/-- What a frame start of CONSOLE's down TX brings besides: the credit addition (R67), and at a superframe boundary the probe
checks (R69), made while RUNNING. The left eye's check is made first, no rule ordering the two flows (DESIGN CHOICE, log
entry 43). -/
def State.consoleFrame (s : State) (l : Lane) (frame : BitVec 4) : State :=
  if s.station = .console ∧ l = .down ∧ s.running then
    let s1 := s.accrueAll
    if frame = 0 then (s1.probeCheck .left).probeCheck .right else s1
  else s

/-- An alignment cell of an ORIGIN (R3, R4, R171), with the fresh rule where it writes WAKING (R180). -/
def State.originAlign (s : State) (l : Lane) (q : Quiet) : State :=
  let t := s.tx.get l
  let n := t.nextFrame
  let underDeep := t.sentThis == some .deep
  let s1 := ((s.modTx l fun t => t.begin n.1 n.2).syncClock).consoleFrame l n.1
  let q' := q.step n.1 (s1.observe l)
  let s2 :=
    (s1.modTx l fun t => { t with quiet := some q' }).putAlign l underDeep
      { frame := n.1, origin := s.station, lane := q'.lane, fault := false, count := n.2, status := 0, hop := 0 }
  (if q.lane = .deep ∧ q'.lane = .waking then s2.setFresh else s2).alignTest l

/-- ALIGNMENT_CELL_SENT (R4): a transmitter builds and sends the alignment cell of a frame as its role gives. -/
def execAlignmentCellSent (l : Lane) (s : State) : Host.Outcome State Fault Refusal :=
  let t := s.tx.get l
  if s.live then
    match t.role with
    | .origin => .next (s.originAlign l (t.quiet.getD Quiet.start))
    | .provisional => .next (s.ownAlign l false)
    | .substitute =>
      match t.carry with
      | some i => .next (s.repeatAlign l (t.carryDeep i) i)
      | none => .next (s.ownAlign l true)
    | .repeating =>
      match (s.rx.get l).repeated with
      | some i => .next (s.repeatAlign l ((s.rx.get l).underDeep i) i)
      | none => .next s
    | .silent | .terminal => .next s
  else .next s

/-! ### Payload slots (sections 2.2, 2.6) -/

/-- A payload cell leaves the transmitter (R2, R6); one that is no picture cell of this station sets the train count to zero
(R40). -/
def Tx.send (t : Tx) (c : Cell) (picture : Bool) : Tx :=
  { t with
    line := some c, crc := crcMore t.crc (cellBytes c), sent := t.sent + 1, train := if picture then t.train else 0 }

/-- What a receiver decides for a payload slot (R30 to R33). -/
inductive Decision where
  | replace | idle | drop | copy | pass
deriving DecidableEq, Repr

/-- The cell decision (R29 to R33); an IDLE cell with a correct check is an empty slot whatever its other fields hold. -/
def cellDecision (own : Station) (c : Cell) : Decision :=
  if checkOk c = false then .replace
  else if c.kind = .idle then .idle
  else if c.kind = .align then .replace
  else
    match c.dst with
    | .invalid _ => .replace
    | .broadcast => .copy
    | .to t => if t = own then .drop else .pass

/-- The marks this station sets on a probe at its backlog (R73). -/
def State.marks (s : State) (l : Lane) : Nat :=
  if s.cfg.crowd ≤ s.backlog l then 1 else if s.halfCrowd ≤ s.backlog l then 2 else 0

/-- A probe with marks set; a changed probe has its check recomputed (R44, R73). -/
def markProbe (c : Cell) (marks : Nat) : Cell :=
  let b := c.payload.getD 7 0
  let b' := b ||| BitVec.ofNat 8 marks
  if b' = b then c else sealCell { c with payload := c.payload.set 7 b' }

/-- A repeated cell as it leaves this station (R33, R44). -/
def State.transit (s : State) (l : Lane) (c : Cell) : Cell := if c.kind = .probe then markProbe c (s.marks l) else c

/-- A cell repeated in its slot by a REPEATING transmitter; others send nothing of it (R16, R18, R32). -/
def State.repeatCell (s : State) (l : Lane) (c : Cell) : State :=
  if (s.tx.get l).role = .repeating then s.modTx l fun t => t.send c false else s

/-- A cell handed to its block (R31, R34); a CONTROL cell of a subtype out of range is discarded there and then, without a
count (R46), for no row takes it. -/
def Rx.hand (r : Rx) (c : Cell) : Rx := if subtypeLost c then r else { r with handed := r.handed ++ [c] }

/-- A payload cell as it arrives goes into the receiver's CRC (R11). -/
def Rx.arrive (r : Rx) (c : Cell) : Rx := { r with crc := crcMore r.crc (cellBytes c) }

/-- The decision for a payload cell and what follows from it (R30 to R33). -/
def State.decideCell (s : State) (l : Lane) (cell : Cell) : State :=
  match cellDecision s.station cell with
  | .replace =>
    let n := s.laneCount l (s.rx.get l).cellErrors
    s.modRx l fun r => { r with cellErrors := n }
  | .idle => s
  | .drop => s.modRx l fun r => r.hand cell
  | .copy => (s.modRx l fun r => r.hand cell).repeatCell l cell
  | .pass => s.repeatCell l (s.transit l cell)

/-- PAYLOAD_SLOT_RECEIVED (R11, R30 to R33): the cell of a payload slot that was sent goes into the CRC of a running LOCKED
receiver, before roles settle too, and a receiver in use makes the decision for it. -/
def execPayloadSlotReceived (l : Lane) (cell : Cell) (s : State) : Host.Outcome State Fault Refusal :=
  if s.live ∧ (s.rx.get l).state = .locked ∧ s.rxRuns l = true ∧ (s.rx.get l).payloadState ≠ some .deep then
    let s1 := s.modRx l fun r => r.arrive cell
    .next (if s1.inUse l then s1.decideCell l cell else s1)
  else .next s

/-! ### The insertion arbiter (section 2.4) -/

/-- The classes of the arbiter, and the picture flow that wins (R37, R39). -/
inductive Winner where
  | motion (x : Sample)
  | audio (b : Block)
  | control (c : Ctl)
  | picture (e : Eye)
  | none
deriving DecidableEq, Repr

/-- The picture flow that wins a slot (R39): the eligible one, or the one the turn names. -/
def State.pictureWinner (s : State) : Winner :=
  match s.eligible .left, s.eligible .right with
  | true, true => .picture s.tx.down.turn
  | true, false => .picture .left
  | false, true => .picture .right
  | false, false => .none

/-- The picture class's turn at a slot (R37). -/
def State.pictureClass (s : State) (l : Lane) : Winner :=
  if l = .down ∧ s.station = .console then s.pictureWinner else .none

/-- CONTROL and then PICTURE (R37). -/
def State.controlClass (s : State) (l : Lane) : Winner :=
  match (s.tx.get l).fifo with
  | c :: _ => .control c
  | [] => s.pictureClass l

/-- AUDIO and then the classes behind it (R37). -/
def State.audioClass (s : State) (l : Lane) : Winner :=
  match s.audio.source.queue with
  | b :: _ => if l = sourceLane s.station then .audio b else s.controlClass l
  | [] => s.controlClass l

/-- The first class that is ready, in the order of R37. -/
def State.winner (s : State) (l : Lane) : Winner :=
  match s.motion.queue with
  | x :: _ => if l = .up ∧ s.station = .headset then .motion x else s.audioClass l
  | [] => s.audioClass l

/-- A flow's next sequence number advances at an insertion (R38, R56). -/
def State.nextSeq (s : State) (f : FlowId) : State := { s with seqs := s.seqs.set f (s.seqs.get f + 1) }

/-- A DATA cell of this station as it is inserted (R38). -/
def State.dataCell (s : State) (f : FlowId) (dst : Station) (start : Bool) (payload : List Byte) : Cell :=
  mkCell .data s.station (.to dst) (BitVec.ofNat 3 f.num) (s.seqs.get f) start payload

/-- Insert the head sample (R125). -/
def State.insertMotion (s : State) (l : Lane) (x : Sample) : State :=
  let c := s.dataCell .motion .console true (samplePayload x)
  { (s.modTx l fun t => t.send c false).nextSeq .motion with
    motion :=
      { s.motion with
        queue := s.motion.queue.tail,
        restart := if x.restart then min (s.motion.restart + 1) 16 else s.motion.restart } }

/-- Insert the head block (R133). -/
def State.insertAudio (s : State) (l : Lane) (b : Block) : State :=
  let f := sourceFlow s.station
  let c := s.dataCell f b.dst true (blockPayload s.sourceTwo b)
  ((s.modTx l fun t => t.send c false).nextSeq f).modSource fun k => { k with queue := k.queue.tail }

/-- The insertion report of a CONTROL-class cell to the block that queued it (R38, R71, R116, R179). -/
def State.reportInserted (s : State) (l : Lane) : Ctl → State
  | .probe e _ _ _ _ =>
    (s.modPaced e fun p => { p with probeWaiting := false, probeAt := some s.superframe }).probeCheck e
  | .power _ serial => s.copyInserted l serial
  | .echo t k =>
    if (s.surveys.get t).state = .sending ∧ (s.surveys.get t).token = k then
      s.modSurvey t fun v => { v with state := .waiting, insertedAt := s.localSlot, waited := 0 }
    else s
  | _ => s

/-- Insert the head of the CONTROL FIFO (R41). -/
def State.insertControl (s : State) (l : Lane) (c : Ctl) : State :=
  (s.modTx l fun t => { t.send (ctlCell s.station s.localSlot c) false with fifo := t.fifo.tail }).reportInserted l c

/-- The train after a picture insertion of an eye in a band (R40), and the turn (R39). -/
def Tx.countPicture (t : Tx) (e : Eye) (band : Band) : Tx :=
  let n := t.train + 1
  let closed := trainLimit band ≤ n
  { t with
    train := if closed then 0 else n, gapOwed := t.gapOwed || closed, trainEye := some e,
    turn := if e = .left then .right else .left }

/-- The send queue after its head's next cell was inserted (R98). -/
def advanceQueue : List SliceRec → List SliceRec
  | [] => []
  | r :: rest => if r.total ≤ r.sent + 1 then rest else { r with sent := r.sent + 1 } :: rest

/-- The paced record after one of its data cells was inserted (R68, R98). -/
def Paced.spend (p : Paced) (now : Count32) : Paced :=
  { p with
    credit := p.credit - 16, cellsSince := min (p.cellsSince + 1) 255, dataAt := some now, queue := advanceQueue p.queue }

/-- END's insertion returns the record to IDLE and posts DRAIN_DONE (R52). -/
def State.endInserted (s : State) (e : Eye) : State :=
  let n := (s.paced.get e).discarded
  ((s.modPaced e fun p => { p with discarded := 0 }).toIdle e).post .drainDone (.flow (Eye.flow e)) n

/-- The next cell of a paced flow (R93, R98, R52). -/
def State.pictureCell (s : State) (e : Eye) : Cell :=
  match (s.paced.get e).queue with
  | r :: _ => s.dataCell (Eye.flow e) .headset (r.sent == 0) (slicePayload r)
  | [] => s.dataCell (Eye.flow e) .headset true []

/-- Insert the next cell of a picture flow (R39, R40, R68, R69, R98, R52). The record that the insertion empties, or END's, is
IDLE before the probe check of R69 is made for that insertion, so it queues no probe there: no rule orders the two (DESIGN
CHOICE, log entry 41). -/
def State.insertPicture (s : State) (l : Lane) (e : Eye) : State :=
  let p := s.paced.get e
  let c := s.pictureCell e
  let s1 := ((s.modTx l fun t => (t.send c true).countPicture e p.band).nextSeq (Eye.flow e)).modPaced e fun p =>
    p.spend s.superframe
  (if p.queue.isEmpty then s1.endInserted e else s1.idleIfEmpty e).probeCheck e

/-- The slot leaves as an IDLE cell (R29). -/
def State.sendIdle (s : State) (l : Lane) : State := s.modTx l fun t => t.send (idleCell s.station) false

/-- The arbiter gives an idle slot of an open frame to a class (R37). -/
def State.insert (s : State) (l : Lane) : Winner → State
  | .motion x => s.insertMotion l x
  | .audio b => s.insertAudio l b
  | .control c => s.insertControl l c
  | .picture e => s.insertPicture l e
  | .none => s.sendIdle l

/-- IDLE_SLOT_ARBITRATION (R36, R37): an idle slot goes to a class, or out as an IDLE cell: in a closed frame, before RUNNING,
for a train gap, or where no class is ready. -/
def execIdleSlotArbitration (l : Lane) (s : State) : Host.Outcome State Fault Refusal :=
  if (s.tx.get l).role.sends = true ∧ s.payloadSilent l = false then
    if s.running ∧ s.frameOpen l = true then
      if (s.tx.get l).gapOwed then .next ((s.modTx l fun t => { t with gapOwed := false }).sendIdle l)
      else .next (s.insert l (s.winner l))
    else .next (s.sendIdle l)
  else .next s

end Sys2Proof.Machine
end

