-- ==== Sys2Proof/Machine/Power.lean ====
section
/-! DEFINITION. Monitors, shedding, admission, supply control and the balance step (files 08, 09); with the meanings of
POWER_ON, PIN, BROWNOUT and of the power unit's commands. -/

namespace Sys2Proof.Machine

/-! ### Resets (R202) -/

/-- A reset of a kind takes hold (R202): every item at its value after reset, but for the levels that the outside holds on
pins, CONSOLE's supply switch (R164), the cause record, and the queue of commands. -/
def State.resetNode (s : State) (c : Cause) : State :=
  { State.reset with
    cause := c, pins := s.pins, pending := s.pending,
    power := { Power.reset with switchClosed := c != .powerOn && s.power.switchClosed } }

/-- POWER_ON (R202): the core supply falls below its good level, or first comes. -/
def execPowerOn (s : State) : Host.Outcome State Fault Refusal := .next (s.resetNode .powerOn)

/-- PIN (R202): the reset line is asserted for 40 slots or more. -/
def execPin (s : State) : Host.Outcome State Fault Refusal := .next (s.resetNode .pin)

/-- BROWNOUT (R150, R202): the brownout run reaches 4, in LINKING or RUNNING. -/
def execBrownout (s : State) : Host.Outcome State Fault Refusal :=
  if s.live then .next (s.resetNode .brownout) else .next s

/-! ### Supply control (sections 8.8, 8.9) -/

/-- The state with the power unit changed. -/
def State.modPower (s : State) (f : Power → Power) : State := { s with power := f s.power }

/-- CONSOLE trips (R163). Both SUPPLY_LEVEL (R154) and SUPPLY_TRIP are for the subject supply: the model posts SUPPLY_TRIP last,
so that it is the one that stands in the queue, which no rule gives (DESIGN CHOICE, log entry 48). -/
def State.trip (s : State) : State :=
  (s.modPower fun p =>
      { p with switchClosed := false, supplyLevel := 7, tripped := true, tripWait := 256, overRun := 0 }).relevel.post
    .supplyTrip .supply s.power.p

/-- The trip wait ends: the switch closes and tripped clears (R163). -/
def State.reclose (s : State) : State :=
  (s.modPower fun p => { p with switchClosed := true, tripped := false, tripWait := 0 }).post .supplyReclose .supply 0

/-- SUPPLY_TRIP (R163): the overload run reaches 2 with the switch closed. -/
def execSupplyTrip (s : State) : Host.Outcome State Fault Refusal :=
  if s.live ∧ s.station = .console ∧ s.power.switchClosed = true then .next (s.calling State.trip) else .next s

/-- SUPPLY_RECLOSE (R163): the trip wait reaches 0. -/
def execSupplyReclose (s : State) : Host.Outcome State Fault Refusal :=
  if s.live ∧ s.station = .console ∧ s.power.tripped = true then .next (s.calling State.reclose) else .next s

/-- One step of a supply level against a limit (R162, R166). -/
def levelStep (level p limit : Nat) : Nat :=
  if limit < p then min (level + 1) 7 else if p ≤ limit * 9 / 10 then level - 1 else level

/-- The own supply level takes a value, with its effect on the applied level (R154, R162). -/
def State.setLevel (s : State) (n : Nat) : State := (s.modPower fun p => { p with supplyLevel := n }).relevel

/-- The trip wait counts on (R163). -/
def State.countTrip (s : State) : State :=
  let n := s.power.tripWait - 1
  let s' := s.modPower fun p => { p with tripWait := n }
  if n = 0 then s'.reclose else s'

/-- Step 2 of the power RI boundary (R156, R162, R163, R166). -/
def State.supplyStep (s : State) : State :=
  match s.station with
  | .console =>
    if 0 < s.power.tripWait then s.countTrip
    else if s.power.switchClosed then s.setLevel (levelStep s.power.supplyLevel s.power.p s.supplyLimit)
    else s
  | .strap => if s.ownOffer = 0 then s.setLevel 0 else s.setLevel (levelStep s.power.supplyLevel s.power.p s.ownOffer)
  | .pod | .headset => s

/-! ### The sample event (sections 8.1, 8.4) -/

/-- A channel's value: floor(code × gain / 256) + offset, clamped to 0..65 535 (R149). -/
def convert (c : Scale) (code : BitVec 10) : Nat :=
  (max 0 (min 65535 (((code.toNat * c.gain / 256 : Nat) : Int) + c.offset))).toNat

/-- The three channels' values take effect (R149); AUX is used at STRAP alone; P at CONSOLE and STRAP (R162, R166). -/
def State.takeValues (s : State) (rail load aux : BitVec 10) : State :=
  let r := convert s.cfg.rail rail
  let l := convert s.cfg.load load
  s.modPower fun p =>
    { p with
      converting := false, rail := r, load := l, aux := if s.station = .strap then convert s.cfg.aux aux else 0,
      p := if s.station = .console ∨ s.station = .strap then l * r / 1000 else 0 }

/-- The domain that a single droop shed takes: ON, of the highest priority number above 0, then of the highest domain number
(R155). The table is in the order of domain numbers. -/
def droopPick (ds : List Domain) : Option Domain :=
  ds.foldl
    (fun best d =>
      if d.state = .on ∧ 0 < d.priority then
        match best with
        | some b => if b.priority ≤ d.priority then some d else some b
        | none => some d
      else best)
    none

/-- Droop and cutoff shedding (R155). -/
def State.droop (s : State) : State :=
  match droopPick s.power.domains with
  | none => s
  | some d =>
    if s.power.rail < s.cfg.cutoffMv then
      (s.shedWhere fun x => decide (0 < x.priority)).modPower fun p => { p with droop := true }
    else if s.power.rail < s.cfg.shedMv ∧ s.power.droop = false then
      (s.shedWhere fun x => decide (x.number = d.number)).modPower fun p => { p with droop := true }
    else s

/-- SHED domains that the level allows go to WAITING while RAIL is at or above admit (R153). -/
def State.shedReturn (s : State) : State :=
  if s.cfg.admitMv ≤ s.power.rail then
    s.changeDomains fun d =>
      if d.state = .shed ∧ d.priority < 8 - s.power.applied then { d with state := .waiting } else d
  else s

/-- CONSOLE judges its supply power (R163). -/
def State.judgeOverload (s : State) : State :=
  if s.station = .console ∧ s.power.switchClosed = true then
    if s.supplyLimit * 5 / 4 < s.power.p then
      if 2 ≤ s.power.overRun + 1 then s.trip else s.modPower fun p => { p with overRun := p.overRun + 1 }
    else s.modPower fun p => { p with overRun := 0 }
  else s

/-- STRAP judges its battery (R165). -/
def State.judgeBattery (s : State) : State :=
  if s.station = .strap then
    (s.modPower fun p =>
      { p with
        battery :=
          if s.cfg.batteryFloor + 200 ≤ p.aux then true else if p.aux < s.cfg.batteryFloor then false else p.battery }).followOffer
  else s

/-- The brownout run (R150). -/
def State.judgeBrownout (s : State) : State :=
  let n := if s.power.rail < s.cfg.brownoutMv then s.power.brownRun + 1 else 0
  if 4 ≤ n then s.resetNode .brownout else s.modPower fun p => { p with brownRun := n }

/-- The judgements of a sample event before the brownout run's: shedding, the return of SHED domains, CONSOLE's overload,
STRAP's battery, each with the calls that its changes bring (R153, R155, R163, R165). -/
def State.judgeSample (s : State) : State :=
  (((s.calling State.droop).calling State.shedReturn).calling State.judgeOverload).calling State.judgeBattery

/-- SAMPLE_EVENT (R149, R150, R153, R155, R162, R163, R165): a conversion completes and its values are judged. -/
def execSampleEvent (rail load aux : BitVec 10) (s : State) : Host.Outcome State Fault Refusal :=
  if s.live ∧ s.power.converting = true then .next (s.takeValues rail load aux).judgeSample.judgeBrownout else .next s

/-! ### The peer power view (section 8.6) -/

/-- A HEARD entry becomes SILENT, which may change the applied level (R157, R154). -/
def State.silence (s : State) (t : Station) : State :=
  { s with views := s.views.set t { s.views.get t with state := .silent, age := max (s.views.get t).age 10 } }.relevel

/-- One entry ages at a power RI boundary (R157); the own entry is live. -/
def State.ageEntry (s : State) (t : Station) : State :=
  let v := s.views.get t
  if t = s.station ∨ v.state = .unknown then s
  else
    let n := min (v.age + 1) 255
    let s' := { s with views := s.views.set t { v with age := n } }
    if v.state = .heard ∧ 10 ≤ n then s'.silence t else s'

/-- Step 1 of the power RI boundary (R156). -/
def State.ageViews (s : State) : State := (((s.ageEntry .console).ageEntry .pod).ageEntry .headset).ageEntry .strap

/-- VIEW_ENTRY_SILENT (R157): a HEARD entry's age reaches 10. -/
def execViewEntrySilent (t : Station) (s : State) : Host.Outcome State Fault Refusal :=
  if s.live ∧ t ≠ s.station ∧ (s.views.get t).state = .heard then .next (s.calling fun x => x.silence t) else .next s

/-- A report taken from a peer (R157, R168). -/
def State.hear (s : State) (t : Station) (r : Report) : State :=
  { s with views := s.views.set t { state := .heard, age := 0, report := r } }.relevel

/-- POWER_REPORT_TAKEN (R168): a broadcast POWER cell of another station with its fields in range updates its entry. -/
def execPowerReportTaken (lane : Lane) (cell : Cell) (s : State) : Host.Outcome State Fault Refusal :=
  .next <|
    s.take lane cell fun t =>
      if t.live ∧ cell.kind = .power ∧ cell.dst = .broadcast ∧ cell.src ≠ t.station then
        match readReport cell with
        | some r => t.calling fun x => x.hear cell.src r
        | none => t
      else t

/-! ### Admission (section 8.7) -/

/-- The candidate: the WAITING domain of the lowest priority number, then of the lowest domain number (R159). -/
def candidate (ds : List Domain) : Option Domain :=
  ds.foldl
    (fun best d =>
      if d.state = .waiting then
        match best with
        | some b => if d.priority < b.priority then some d else some b
        | none => some d
      else best)
    none

/-- The other stations' entries. -/
def State.others (s : State) : List (Station × View) :=
  ([Station.console, .pod, .headset, .strap].filter fun t => t != s.station).map fun t => (t, s.views.get t)

/-- The offers counted: the own, and those of other supply stations present and HEARD (R160). -/
def State.offersCounted (s : State) : Nat :=
  s.ownOffer +
    ((s.others.filter fun v =>
        (v.1 == .console || v.1 == .strap) && v.2.state == .heard && (s.stations.get v.1).present).map fun v =>
      v.2.report.offer * 10).sum

/-- The draws counted: the own, and those of entries HEARD or SILENT (R160). -/
def State.drawsCounted (s : State) : Nat :=
  s.drawOf .on + ((s.others.filter fun v => v.2.state != .unknown).map fun v => v.2.report.draw * 10).sum

/-- Station `t` with an entry precedes this station's candidate (R160). -/
def precedes (own : Station) (priority : Nat) (t : Station) (v : View) : Bool :=
  v.report.top < priority || (v.report.top == priority && t.num < own.num)

/-- The waiting draws ahead of a candidate of a priority (R160). -/
def State.waitingAhead (s : State) (priority : Nat) : Nat :=
  ((s.others.filter fun v => v.2.state == .heard && precedes s.station priority v.1 v.2).map fun v =>
    v.2.report.waiting * 10).sum

/-- The headroom of R160, which may be negative. -/
def State.headroom (s : State) (priority : Nat) : Int :=
  (s.offersCounted : Int) - s.drawsCounted - s.waitingAhead priority

/-- The three conditions of an admission (R159). -/
def State.admissible (s : State) (d : Domain) : Bool :=
  d.priority < 8 - s.power.applied && s.cfg.admitMv ≤ s.power.rail && (d.nominal : Int) ≤ s.headroom d.priority

/-- The admission test (R159). -/
def State.admission (s : State) : State :=
  match candidate s.power.domains with
  | none => s
  | some d =>
    if s.admissible d then
      (s.changeDomains fun x => if x.number = d.number then { x with state := .on } else x).follow
    else s

/-! ### The balance step and the power RI boundary -/

/-- The balance step (R177), with the keep-alive call when the age reaches 8. -/
def State.balanceStep (s : State) : State :=
  let b := s.balance
  let s' :=
    { s with
      balance :=
        { b with
          b := if b.b < 8 then b.b + 1 else b.b, forced := b.forced || !decide (b.b < 8), age := min (b.age + 1) 8 } }
  if b.age = 7 then s'.callEvent else s'

/-- Steps 1 to 4 of the power RI boundary, with the calls that the changes of each bring (R156). -/
def State.powerSteps (s : State) : State :=
  let s1 := ((s.calling State.ageViews).calling State.supplyStep).modPower fun p => { p with droop := false }
  if s1.running then s1.calling State.admission else s1

/-- POWER_RI_BOUNDARY (R156, R177, R178): the four steps, then in RUNNING the balance step and the test for a report. -/
def execPowerRiBoundary (s : State) : Host.Outcome State Fault Refusal :=
  if s.live then
    if s.powerSteps.running then .next s.powerSteps.balanceStep.reportTest else .next s.powerSteps
  else .next s

/-- KEEP_ALIVE_CALL (R177): the balance step that brings the report age to 8, with its call for an event report. -/
def execKeepAliveCall (s : State) : Host.Outcome State Fault Refusal :=
  if s.running ∧ s.balance.age = 7 then .next s.balanceStep else .next s

end Sys2Proof.Machine
end

