-- ==== Sys2Proof/Machine/StartRecord.lean ====
section
/-! DEFINITION. The start record (R198, R199): acceptance, the two passes of validation, and the domain table it gives (R151,
R153). -/

namespace Sys2Proof.Machine

/-- A value clamped into a range (R199). -/
def clamp (lo hi v : Nat) : Nat := max lo (min hi v)

/-- The bits of a number from `lo`, `w` of them. -/
def bitsOf (v lo w : Nat) : Nat := v / 2 ^ lo % 2 ^ w

/-- A bit of a byte of the record. -/
def flagAt (m : List Byte) (i b : Nat) : Bool := bitsOf (byteAt m i) b 1 == 1

/-- The raw record is accepted: 96 bytes, marker and version (R198). -/
def accepted (m : List Byte) : Bool := m.length == 96 && byteAt m 0 == 0xA6 && byteAt m 1 == 1

/-- First pass over a flow's block of 22 bytes at `o` (R199). -/
def flowClamped (m : List Byte) (o : Nat) : FlowParams :=
  let w := fieldAt m (o + 11) 2
  { peak := clamp 16 1008 (fieldAt m o 2), floor := clamp 0 1008 (fieldAt m (o + 2) 2),
    start := clamp 0 1008 (fieldAt m (o + 4) 2), rise := clamp 1 255 (byteAt m (o + 6)),
    fall := clamp 1 255 (byteAt m (o + 7)), fade := clamp 1 255 (byteAt m (o + 8)),
    spacing := clamp 4 255 (byteAt m (o + 9)), interval := clamp 1 63 (byteAt m (o + 10)),
    patience := clamp 1 15 (bitsOf w 10 4), idleReset := clamp 1 1023 (bitsOf w 0 10),
    burst := clamp 1 255 (byteAt m (o + 13)), scarce := clamp 0 1008 (fieldAt m (o + 14) 2),
    ease := clamp 0 1008 (fieldAt m (o + 16) 2), low := clamp 0 1008 (fieldAt m (o + 18) 2),
    ok := clamp 0 1008 (fieldAt m (o + 20) 2) }

/-- The relation the band thresholds must keep (R199). -/
def bandsOk (p : FlowParams) : Bool := p.scarce < p.ease && p.ease ≤ p.low && p.low < p.ok && p.ok ≤ p.peak

/-- Second pass over a paced flow (R199). -/
def flowRelated (p : FlowParams) : FlowParams :=
  let floor := clamp 0 p.peak p.floor
  let q := { p with floor := floor, start := clamp floor p.peak p.start, burst := max p.burst (ceilDiv p.peak 16) }
  if bandsOk q then q
  else { q with scarce := p.peak / 8, ease := p.peak * 3 / 16, low := p.peak * 3 / 8, ok := p.peak / 2 }

/-- An idle pattern at byte `i` (R199). -/
def patternAt (m : List Byte) (i : Nat) : IdlePattern :=
  { ch1 := signedOf 24 (fieldAt m i 3), ch2 := signedOf 24 (fieldAt m (i + 3) 3) }

/-- A channel's gain and offset at byte `i` (R199). -/
def scaleAt (m : List Byte) (i : Nat) : Scale :=
  { gain := bitsOf (fieldAt m i 3) 12 12, offset := signedOf 10 (bitsOf (fieldAt m i 3) 0 10) }

/-- What the record says of domain `i` (R199). -/
def domainAt (m : List Byte) (i : Nat) : DomainWord :=
  let w := fieldAt m (64 + 2 * i) 2
  { override := flagAt m 62 i, wanted := flagAt m 63 i, priority := bitsOf w 13 3, nominal := clamp 0 6000 (bitsOf w 0 13) }

/-- The function of a status output's code (R199). -/
def outFnOf (n : Nat) : OutFn :=
  match n with
  | 0 => .laneFault | 1 => .rateLow | 2 => .shed | 3 => .attention | 4 => .superframePulse | 5 => .slipPulse
  | 6 => .fixedLow | _ => .fixedHigh

/-- First pass over an accepted record, with the second over each paced flow (R199). -/
def readRecord (m : List Byte) : Params :=
  { flowL := flowRelated (flowClamped m 2), flowR := flowRelated (flowClamped m 24),
    crowd := clamp 1 32 (byteAt m 46), podAudio := flagAt m 47 0, twoOut := flagAt m 47 1, twoIn := flagAt m 47 2,
    idleOut := patternAt m 48, idleIn := patternAt m 54,
    volume := clamp 0 14 (bitsOf (byteAt m 60) 4 4), sidetone := bitsOf (byteAt m 60) 0 4,
    motionRate := clamp 0 2 (bitsOf (byteAt m 61) 0 2), wearLink := flagAt m 61 2,
    domains := [domainAt m 0, domainAt m 1, domainAt m 2, domainAt m 3, domainAt m 4, domainAt m 5],
    rail := scaleAt m 76, load := scaleAt m 79, aux := scaleAt m 82,
    admitMv := 100 * byteAt m 85, shedMv := 100 * byteAt m 86, cutoffMv := 100 * byteAt m 87,
    brownoutMv := 100 * byteAt m 88, strapLimit := 100 * clamp 0 200 (byteAt m 89),
    batteryFloor := 100 * clamp 0 200 (byteAt m 90), mask := BitVec.ofNat 19 (fieldAt m 91 3),
    outA := outFnOf (bitsOf (byteAt m 94) 0 3), outB := outFnOf (bitsOf (byteAt m 94) 4 3) }

/-- Second pass over the RAIL thresholds (R199). -/
def railRelated (p : Params) : Params :=
  if p.brownoutMv < p.cutoffMv ∧ p.cutoffMv < p.shedMv ∧ p.shedMv < p.admitMv then p
  else { p with brownoutMv := 9000, cutoffMv := 9800, shedMv := 10400, admitMv := 11000 }

/-- The validated start record: the defaults unless a memory is fitted and its record is accepted (R198, R199). -/
def loadRecord (srec : Bool) (m : List Byte) : Params :=
  if srec && accepted m then railRelated (readRecord m) else Params.default

/-! ### The domain table (R151, R153) -/

/-- The default domains of a role: priority, nominal draw in mW and initial wanted flag, by domain number (R151). -/
def defaultDomains : Station → List (Nat × Nat × Bool)
  | .console => [(0, 400, true)]
  | .pod => [(0, 300, true), (2, 400, true), (3, 100, true)]
  | .headset => [(0, 400, true), (3, 9000, true), (1, 150, true), (2, 500, true), (6, 1500, true)]
  | .strap => [(0, 300, true), (5, 6000, false), (7, 300, true)]

/-- The entry of a domain number before the end of LOADING, OFF (R151, R152, R199): the record's where its override bit is set,
else the role's default; core keeps priority 0; a priority-0 entry is wanted. -/
def domainEntry (station : Station) (w : DomainWord) (n : Nat) : Option Domain :=
  if w.override then
    let priority := if n = 0 then 0 else w.priority
    some { number := n, priority := priority, nominal := w.nominal * 10, wanted := priority == 0 || w.wanted, state := .off }
  else
    (defaultDomains station)[n]?.map fun d =>
      { number := n, priority := d.1, nominal := d.2.1, wanted := d.1 == 0 || d.2.2, state := .off }

/-- The domain table of a role under a record, every entry OFF (R151). -/
def domainTable (station : Station) (p : Params) : List Domain :=
  (List.range 6).filterMap fun n => domainEntry station (p.domains.getD n {}) n

/-- A domain's state at the end of LOADING (R153). -/
def Domain.begin (d : Domain) : Domain :=
  { d with state := if d.priority = 0 then .on else if d.wanted then .waiting else .off }

end Sys2Proof.Machine
end

