-- ==== Sys2Proof/Machine/Start.lean ====
section
/-! DEFINITION. The start states (section 11.3): END_OF_RESET, END_OF_LOADING, ROLES_SETTLE, END_OF_LINKING and
LINKING_TIMEOUT. -/

namespace Sys2Proof.Machine

/-- END_OF_RESET (R200, R197, R1, R26): LOADING begins and the straps are sampled; the up TX of CONSOLE, not fitted, is
TERMINAL, and that of any other station sends nothing yet. -/
def execEndOfReset (stn : Station) (sup : BitVec 2) (srec : Bool) (s : State) : Host.Outcome State Fault Refusal :=
  if s.start = .reset then
    let s' := { s with start := .loading, station := stn, sup := sup, srec := srec }
    .next (s'.modTx .up fun t => { t with role := if stn = .console then .terminal else .silent })
  else .next s

/-! ### The end of LOADING (R200) -/

/-- A paced source record as its parameters are read (R89). -/
def Paced.load (p : Paced) (fp : FlowParams) : Paced := { p with ar := fp.start, band := loadBand fp }

/-- The validated values take effect, and the own entry becomes present (R24, R89, R148, R200). It posts no STATION_PRESENT: R23
has an entry that becomes present post it, and neither R24 nor R200 says whether the own entry does (DESIGN CHOICE, log entry
53). -/
def State.applyRecord (s : State) (memory : List Byte) : State :=
  let p := loadRecord s.srec memory
  let s1 := { s with start := .linking, cfg := p, localSlot := 0, audio := { s.audio with volume := p.volume } }
  let s2 := s1.modStation s.station fun v => { v with present := true }
  if s.station = .console then (s2.modPaced .left fun x => x.load p.flowL).modPaced .right fun x => x.load p.flowR else s2

/-- The destination records a station holds are made, CLOSED (R47, R57, R65). -/
def State.makeRecords (s : State) : State :=
  let make (f : FlowId) : Option DstRec := if s.planDest f = s.station then some ⟨.closed, none⟩ else none
  { s with dst := ⟨make .pictureL, make .pictureR, make .motion, make .audioOut, make .audioIn⟩ }

/-- The domain table takes its states, and CONSOLE's switch closes (R153, R164). -/
def State.powerUp (s : State) : State :=
  let s1 :=
    s.modPower fun p =>
      { p with
        domains := domainTable s.station s.cfg, switchClosed := if s.station = .console then true else p.switchClosed }
  s1.calling fun t => (t.changeDomains Domain.begin).follow

/-- A fitted transmitter becomes a provisional origin (R19). -/
def Tx.toProvisional (t : Tx) : Tx := { t with role := .provisional, own := true }

/-- The transmitters of a station become provisional origins, where fitted (R19). -/
def State.startTx (s : State) : State :=
  let s1 := s.modTx .down Tx.toProvisional
  if s.station = .console then s1 else s1.modTx .up Tx.toProvisional

/-- A fitted receiver whose port shows signal leaves DARK at once (R19, R7). -/
def State.startRx (s : State) (l : Lane) : State :=
  if s.rxRuns l = true ∧ s.pins.signal.get l = true then s.findSignal l else s

/-- END_OF_LOADING (R200): the validated values take effect, the domains take their states, the node enters LINKING. -/
def execEndOfLoading (memory : List Byte) (s : State) : Host.Outcome State Fault Refusal :=
  if s.start = .loading then
    .next ((((s.applyRecord memory).makeRecords.powerUp).startTx.startRx .down).startRx .up)
  else .next s

/-! ### The end of LINKING (R201) -/

/-- A destination record leaves CLOSED at RUNNING (R57). -/
def State.openRecord (s : State) (f : FlowId) : State :=
  match s.dst.get f with
  | some _ => { s with dst := s.dst.set f (some ⟨.listening, none⟩) }
  | none => s

/-- A picture record enters LISTENING or HOLDING at RUNNING (R57, R108). -/
def State.openEye (s : State) (e : Eye) : State :=
  match s.dst.get (Eye.flow e) with
  | some _ => if s.domainOn 1 then s.listenEye e else s.holdEye e
  | none => s

/-- Every record the station holds leaves CLOSED, and the sink follows (R57, R135). -/
def State.openRecords (s : State) : State :=
  ((((s.openEye .left).openEye .right).openRecord .motion).openRecord .audioOut).openRecord .audioIn |>.followSink

/-- A survey starts for a station that is present as CONSOLE enters RUNNING (R115). -/
def State.surveyPresent (s : State) (t : Station) : State := if (s.stations.get t).present then s.startSurvey t else s

/-- CONSOLE surveys the present stations, in the order POD, HEADSET, STRAP, which no rule gives (DESIGN CHOICE, log entry 44); any
other station offers RESURVEY (R115, R118). -/
def State.startSurveys (s : State) : State :=
  if s.station = .console then ((s.surveyPresent .pod).surveyPresent .headset).surveyPresent .strap else s.offerResurvey

/-- Code of a reset cause (R184). -/
def Cause.code : Cause → Nat
  | .powerOn => 0 | .pin => 1 | .brownout => 2

/-- Entry to RUNNING (R201). -/
def State.enterRunning (s : State) : State :=
  ({ s with start := .running }.post .resetCause .reset s.cause.code).openRecords.callEvent.startSurveys

/-- A receiver does not hold LINKING back: not in use, or LOCKED (R201). -/
def State.laneReady (s : State) (l : Lane) : Bool := !s.inUse l || (s.rx.get l).state == .locked

/-- Every receiver in use is LOCKED (R201). -/
def State.linked (s : State) : Bool := s.laneReady .down && s.laneReady .up

/-- ROLES_SETTLE (R20, R201): the end of the 16th superframe of LINKING; LINKING ends with it where every receiver in use is
LOCKED already. -/
def execRolesSettle (s : State) : Host.Outcome State Fault Refusal :=
  if s.start = .linking ∧ s.settledRoles = false then
    .next (if s.settleRoles.linked then s.settleRoles.enterRunning else s.settleRoles)
  else .next s

/-- END_OF_LINKING (R201): after roles settle, every receiver in use is LOCKED. -/
def execEndOfLinking (s : State) : Host.Outcome State Fault Refusal :=
  if s.start = .linking ∧ s.settledRoles = true ∧ s.linked = true then .next s.enterRunning else .next s

/-- LINKING_TIMEOUT (R201): the 64th superframe of LINKING ends. -/
def execLinkingTimeout (s : State) : Host.Outcome State Fault Refusal :=
  if s.start = .linking ∧ s.settledRoles = true then .next s.enterRunning else .next s

end Sys2Proof.Machine
end

