-- ==== Sys2Proof/Machine/Tables.lean ====
section
/-! DEFINITION. What the service line reads out (R188, R191, R192): counter groups, the records of the five tables, notices and
SUMMARY, as bytes. -/

namespace Sys2Proof.Machine

/-! ### Item encodings (R192) -/

/-- A flag in one byte. -/
def flagByte (b : Bool) : List Byte := [BitVec.ofNat 8 (bit b)]

/-- A value of `n` bytes that may be absent: one byte of presence, then its bytes or zeros. -/
def optBytes (n : Nat) : Option Nat → List Byte
  | some v => 1 :: beBytes n v
  | none => 0 :: List.replicate n 0

/-- An item of another role or another entry is sent as absent; a present one carries its presence byte too. -/
def itemIf (here : Bool) (n v : Nat) : List Byte := optBytes n (if here then some v else none)

/-! ### Counter groups (R188) -/

/-- The group's flow for codes 2 to 6. -/
def groupFlow (g : Nat) : Option FlowId := if g < 2 then none else flowOf (BitVec.ofNat 3 (g - 2))

/-- The counters of a lane group, in order. -/
def laneCounters (r : Rx) : List Nat := [r.alignErrors, r.hopErrors, r.cellErrors, r.relocks]

/-- The counters of a flow's group, in order. -/
def flowCounters (f : FlowId) (c : FlowCounters) : List Nat :=
  match f with
  | .pictureL | .pictureR =>
    [c.gaps, c.misrouted, c.layerDrops, c.staleRefusals, c.purges, c.roomRefusals, c.staleReplies, c.breaks, c.refusals,
     c.orphans]
  | .motion => [c.gaps, c.misrouted, c.overruns]
  | .audioOut | .audioIn => [c.gaps, c.misrouted, c.underflows, c.overflows, c.lateBlocks]

/-- The counters of a group as they stand (R188). -/
def State.groupCounters (s : State) (g : Nat) : List Nat :=
  match g with
  | 0 => laneCounters s.rx.down
  | 1 => laneCounters s.rx.up
  | _ =>
    match groupFlow g with
    | some f => flowCounters f (s.counters.get f)
    | none => []

/-- A receiver with its counters cleared. -/
def Rx.clearCounters (r : Rx) : Rx := { r with alignErrors := 0, hopErrors := 0, cellErrors := 0, relocks := 0 }

/-- Every counter of a group is set to zero (R188). -/
def State.clearGroup (s : State) (g : Nat) : State :=
  match g with
  | 0 => s.modRx .down Rx.clearCounters
  | 1 => s.modRx .up Rx.clearCounters
  | _ =>
    match groupFlow g with
    | some f => { s with counters := s.counters.set f FlowCounters.reset }
    | none => s

/-! ### FLOWS (R192, R88, R110, R128) -/

/-- Codes of a paced record's states, by their places in section 3.2. -/
def PacedState.code : PacedState → Nat
  | .idle => 0 | .active => 1 | .held => 2 | .draining => 3

/-- Codes of a destination record's states, by their places in R57. -/
def DstState.code : DstState → Nat
  | .closed => 0 | .listening => 1 | .holding => 2

/-- Codes of reassembly's states, by their places in section 5.4. -/
def Reasm.code : Reasm → Nat
  | .waitStart => 0 | .filling => 1 | .skipping => 2

/-- The items of a paced source record (R192, R88, R110). -/
def State.pacedItems (s : State) (e : Eye) : List Byte :=
  let p := s.paced.get e
  let head := p.queue.head?
  beBytes 1 p.state.code ++ beBytes 1 (s.seqs.get (Eye.flow e)).toNat ++ beBytes 2 p.ar ++ beBytes 2 p.credit ++
    beBytes 1 p.unanswered ++ beBytes 1 p.lastProbe.toNat ++ beBytes 1 p.band.code ++ flagByte p.probeWaiting ++
    beBytes 2 (cellsLeft p.queue) ++ beBytes 1 p.queue.length ++ optBytes 1 (head.map fun r => r.picture.toNat) ++
    optBytes 1 (head.map fun r => r.layer.code) ++ optBytes 1 (head.map fun r => r.total) ++
    optBytes 1 (head.map fun r => r.sent) ++ optBytes 1 (p.newest.map (·.toNat)) ++ optBytes 1 (p.lastEntered.map (·.toNat))

/-- The items of a last probe seen entry (R77). -/
def seenItems : Option ProbeSeen → List Byte
  | none => List.replicate 12 0
  | some v =>
    1 :: (beBytes 1 v.number.toNat ++ beBytes 2 v.ar ++ beBytes 2 v.fill ++
      match v.reply with
      | none => List.replicate 6 0
      | some r => 1 :: (beBytes 2 r.offered ++ flagByte r.congested ++ flagByte r.noRise ++ flagByte r.hold))

/-- The items of a destination record's Flows part (R192). -/
def dstItems (d : DstRec) : List Byte := beBytes 1 d.state.code ++ optBytes 1 (d.expected.map (·.toNat))

/-- The items of an eye's destination state (R88, R110). Of the layer map's two picture numbers the newer entry's goes first:
R110 and R192 give them no order (DESIGN CHOICE, log entry 20). -/
def eyeItems (x : EyeDst) : List Byte :=
  let head := x.buffer.head?
  seenItems x.probeSeen ++ beBytes 1 x.reasm.code ++ beBytes 2 (reserved x.buffer) ++ beBytes 1 x.buffer.length ++
    optBytes 1 (head.map fun r => r.picture.toNat) ++ optBytes 1 (head.map fun r => r.layer.code) ++
    optBytes 1 (head.map fun r => bit r.complete) ++ optBytes 1 (x.lastTaken.map (·.toNat)) ++
    optBytes 1 (x.map[0]?.map fun t => t.picture.toNat) ++ optBytes 1 (x.map[1]?.map fun t => t.picture.toNat)

/-- The station holds the source record of a flow (R47). -/
def State.holdsFlowSource (s : State) (f : FlowId) : Bool :=
  match f with
  | .pictureL | .pictureR => s.station == .console
  | .motion => s.station == .headset
  | .audioOut | .audioIn => s.holdsSource && sourceFlow s.station == f

/-- The items of a source record the station holds (R192, R88, R110, R128). -/
def State.sourceItems (s : State) (f : FlowId) : List Byte :=
  match f with
  | .pictureL => s.pacedItems .left
  | .pictureR => s.pacedItems .right
  | .motion =>
    flagByte (s.motion.state != .off) ++ beBytes 1 s.seqs.motion.toNat ++ beBytes 1 s.motion.state.code ++
      beBytes 1 (bit (!s.motion.worn)) ++ beBytes 1 s.motion.queue.length ++ beBytes 2 s.motion.next.toNat ++
      beBytes 1 s.motion.restart
  | .audioOut | .audioIn => flagByte s.audio.source.opened ++ beBytes 1 (s.seqs.get f).toNat

/-- The items of a destination record the station holds (R192, R88, R110, R128). -/
def State.destItems (s : State) (f : FlowId) (d : DstRec) : List Byte :=
  dstItems d ++
    match f with
    | .pictureL => eyeItems s.eyes.left
    | .pictureR => eyeItems s.eyes.right
    | .motion =>
      optBytes 2 (s.motionOut.expected.map (·.toNat)) ++ flagByte s.motionOut.restartRun ++
        beBytes 1 s.motionOut.queue.length
    | .audioOut | .audioIn => []

/-- A FLOWS record (R192). -/
def State.flowRecord (s : State) (f : FlowId) : List Byte :=
  if s.holdsFlowSource f then 1 :: s.sourceItems f
  else
    match s.dst.get f with
    | some d => 1 :: s.destItems f d
    | none => [0]

/-! ### DOMAINS, POWER_VIEW, STATIONS, AUDIO -/

/-- A DOMAINS record (R169). -/
def State.domainRecord (s : State) (n : Nat) : List Byte :=
  match s.power.domains.find? fun d => d.number == n with
  | none => [0]
  | some d =>
    1 :: (beBytes 1 d.number ++ beBytes 1 d.priority ++ beBytes 2 d.nominal ++ flagByte d.wanted ++ beBytes 1 d.state.code)

/-- Codes of a view entry's states, by their places in R157. -/
def ViewState.code : ViewState → Nat
  | .unknown => 0 | .heard => 1 | .silent => 2

/-- A view entry as it is read: the own entry is live (R157). -/
def State.viewOf (s : State) (t : Station) : View :=
  if t = s.station then { state := .heard, age := 0, report := s.report } else s.views.get t

/-- A POWER_VIEW record (R169, R183): the report's fields, age and state, and what the own entry also shows. The supply switch is
0 when closed and 1 when open, R169 giving it no code (DESIGN CHOICE, log entry 22). -/
def State.viewRecord (s : State) (t : Station) : List Byte :=
  let v := s.viewOf t
  let own := t == s.station
  let supply := own && (t == .console || t == .strap)
  let r := v.report
  let p := s.power
  let b := s.balance
  1 :: (beBytes 1 r.number.toNat ++ beBytes 2 r.draw ++ beBytes 2 r.waiting ++ beBytes 1 r.top ++ beBytes 2 r.offer ++
    beBytes 1 r.level ++ beBytes 2 r.rail ++ flagByte r.tripped ++ beBytes 1 v.age ++ beBytes 1 v.state.code ++
    itemIf own 2 p.load ++ itemIf own 2 p.aux ++ itemIf supply 3 p.p ++ itemIf own 1 p.brownRun ++
    itemIf own 1 (bit p.droop) ++ itemIf (own && t == .console) 1 (bit (!p.switchClosed)) ++
    itemIf (own && t == .console) 1 p.overRun ++ itemIf (own && t == .console) 2 p.tripWait ++
    itemIf (own && t == .strap) 1 (bit p.battery) ++ itemIf own 1 b.age ++ itemIf own 1 (bit b.forced) ++
    itemIf own 1 (bit b.event) ++ itemIf own 1 (bit b.fresh) ++ itemIf own 1 b.outstanding.length)

/-- Codes of a survey record's states, by their places in section 6.2. -/
def SurveyState.code : SurveyState → Nat
  | .idle => 0 | .sending => 1 | .waiting => 2

/-- A STATIONS record (R128). -/
def State.stationRecord (s : State) (t : Station) : List Byte :=
  let e := s.stations.get t
  let v := s.surveys.get t
  let surveyed := s.station == .console && t != .console
  let own := s.station != .console && t == s.station
  1 :: (flagByte e.present ++ [e.status] ++ optBytes 4 (if surveyed then e.delay.map (·.toNat) else none) ++
    itemIf surveyed 1 v.state.code ++ itemIf surveyed 1 v.failed ++ itemIf surveyed 1 (bit v.unknown) ++
    itemIf own 4 s.surveyed.offset.toNat ++ itemIf own 1 (bit s.surveyed.known) ++ itemIf own 1 (bit s.settled))

/-- Codes of a sink's states, by their places in section 7.3. -/
def SinkState.code : SinkState → Nat
  | .muted => 0 | .priming => 1 | .playing => 2

/-- Code of a button line's debounced state, by its place in R144: PRESSED, RELEASED. -/
def ButtonLine.code (l : ButtonLine) : Nat := bit (!l.pressed)

/-- AUDIO record 0, the station's items (R147). Of 'each port's frame clock presence' it sends one flag, that of the station's
own port: 0 at STRAP, which has none, and no item for the port of another role (DESIGN CHOICE, log entry 54). -/
def State.audioStationRecord (s : State) : List Byte :=
  let here := s.station == .pod || s.station == .headset
  let a := s.audio
  1 :: (beBytes 1 s.audioStation.num ++ itemIf here 1 a.volume ++ itemIf here 1 s.cfg.sidetone ++ itemIf here 1 (bit a.muted) ++
    itemIf here 1 a.volUp.code ++ itemIf here 1 a.volDown.code ++ itemIf here 1 a.mute.code ++ flagByte a.clock)

/-- AUDIO records 1 and 2, the items of a flow (R147): those of the source or sink the station holds, and the channel count,
which every station shows and so ends the record at each (DEDUCED, log entry 54). -/
def State.audioFlowRecord (s : State) (f : FlowId) : List Byte :=
  let k := s.audio.source
  let n := s.audio.sink
  1 :: ((if s.holdsFlowSource f then flagByte k.opened ++ beBytes 1 k.queue.length ++ beBytes 1 k.next.toNat
    else if (s.dst.get f).isSome then
      beBytes 1 n.state.code ++ beBytes 1 n.buffer.length ++ optBytes 1 (n.expected.map (·.toNat)) ++ flagByte n.repeatDone
    else []) ++ beBytes 1 (if f = .audioOut then 1 + bit s.cfg.twoOut else 1 + bit s.cfg.twoIn))

/-- Number of records of a table; none where no table has the code (R192). -/
def tableSize (t : Nat) : Option Nat :=
  match t with
  | 0 => some 5 | 1 => some 6 | 2 => some 4 | 3 => some 4 | 4 => some 3 | _ => none

/-- The flow of a FLOWS record. -/
def flowAt (i : Nat) : FlowId :=
  match i with
  | 0 => .pictureL | 1 => .pictureR | 2 => .motion | 3 => .audioOut | _ => .audioIn

/-- Record `i` of a table (R192). -/
def State.tableRecord (s : State) (t i : Nat) : List Byte :=
  match t with
  | 0 => s.flowRecord (flowAt i)
  | 1 => s.domainRecord i
  | 2 => s.viewRecord (stationOf i)
  | 3 => s.stationRecord (stationOf i)
  | _ => if i = 0 then s.audioStationRecord else s.audioFlowRecord (flowAt (i + 2))

/-! ### Notices and SUMMARY (R184, R191) -/

/-- Subject numbers (R184). -/
def Subject.num : Subject → Nat
  | .flow f => f.num
  | .lane .down => 5
  | .lane .up => 6
  | .domain n => 7 + n
  | .station s => 13 + s.num
  | .supply => 17
  | .relay => 18
  | .reset => 19
  | .buttons => 20

/-- A notice as it is returned (R191). Value and time go most significant byte first, which R191 leaves open (DESIGN CHOICE,
log entry 50). -/
def noticeBytes (n : Notice) : List Byte :=
  beBytes 1 n.kind.code ++ beBytes 1 n.subject.num ++ beBytes 4 n.value.toNat ++ beBytes 4 n.time.toNat ++ flagByte n.settled

/-- Codes of the start states (R191). -/
def StartState.code : StartState → Nat
  | .reset => 0 | .loading => 1 | .linking => 2 | .running => 3

/-- The lane state in effect at this station: at the origin that of its own machine (R183, R191). -/
def State.effect (s : State) (l : Lane) : Option LaneState :=
  match (s.tx.get l).role, (s.tx.get l).quiet with
  | .origin, some q => some q.lane
  | _, _ => (s.rx.get l).inEffect

/-- The three SUMMARY bytes of a lane (R191). -/
def State.laneSummary (s : State) (l : Lane) : List Byte :=
  beBytes 1 (s.rx.get l).state.code ++ beBytes 1 (s.tx.get l).role.code ++
    beBytes 1 (match s.effect l with | some x => x.code | none => 4)

/-- The 13 bytes of SUMMARY (R191). -/
def State.summaryBytes (s : State) : List Byte :=
  beBytes 1 s.station.num ++ beBytes 1 s.start.code ++ s.laneSummary .down ++ s.laneSummary .up ++ flagByte s.settled ++
    beBytes 1 s.power.applied ++ beSigned 1 s.balance.b ++ beBytes 1 s.cause.code ++ beBytes 1 s.notices.length

end Sys2Proof.Machine
end

