-- ==== Sys2Proof/Machine/Service.lean ====
section
/-! DEFINITION. The service line (file 10): the parser, requests, relay, status pulses; with the meanings of the commands of
that file. -/

namespace Sys2Proof.Machine

/-- The state with the service port changed. -/
def State.modService (s : State) (f : Service → Service) : State := { s with service := f s.service }

/-- The state with the relay holder changed. -/
def State.modHolder (s : State) (f : Holder → Holder) : State :=
  s.modService fun v => { v with holder := f v.holder }

/-! ### Answers (R189) -/

/-- Result bytes (R189). -/
def resOk : Byte := 0
def resEmpty : Byte := 1
def resBusy : Byte := 2
def resBad : Byte := 3
def resNoStation : Byte := 4
def resAccepted : Byte := 5

/-- Free space of the answer FIFO, which holds 512 bytes (R189). -/
def State.freeSpace (s : State) : Nat := 512 - s.service.answers.length

/-- An answer joins the answer FIFO (R189). -/
def State.reply (s : State) (bytes : List Byte) : State := s.modService fun v => { v with answers := v.answers ++ bytes }

/-- An answer of a code and a result alone, where two bytes are free (R189). R190 says that an unknown code is answered and
R189's two free bytes are for a request that completes; with fewer free the model gives an unknown code no answer either
(DESIGN CHOICE, log entry 49). -/
def State.shortReply (s : State) (code result : Byte) : State := if 2 ≤ s.freeSpace then s.reply [code, result] else s

/-! ### Tables (R192) -/

/-- Read records of a table from an index, at most `most` of them; the cursor is set past them (R192). -/
def State.readFrom (s : State) (code : Byte) (most t i size : Nat) : State × List Byte :=
  let k := min most (size - i)
  let records := (List.range k).map fun j => s.tableRecord t (i + j)
  (s.modService fun v => { v with cursor := some (t, i + k) },
    [code, resOk] ++ beBytes 1 t ++ beBytes 1 i ++ beBytes 1 k ++ records.flatten)

/-- TABLE_READ (R192). -/
def State.tableRead (s : State) (most : Nat) (table index : Byte) : State × List Byte :=
  match tableSize table.toNat with
  | some n => if index.toNat < n then s.readFrom 0x12 most table.toNat index.toNat n else (s, [0x12, resBad])
  | none => (s, [0x12, resBad])

/-- TABLE_NEXT (R192). -/
def State.tableNext (s : State) (most : Nat) : State × List Byte :=
  match s.service.cursor with
  | none => (s, [0x13, resBad])
  | some (t, i) =>
    match tableSize t with
    | some n => if i < n then s.readFrom 0x13 most t i n else (s, [0x13, resEmpty])
    | none => (s, [0x13, resBad])

/-! ### Local requests (R191) -/

/-- NOTICE_TAKE (R191). -/
def State.noticeTake (s : State) : State × List Byte :=
  match s.notices with
  | [] => (s, [0x10, resEmpty])
  | n :: rest => ({ s with notices := rest }, [0x10, resOk] ++ noticeBytes n)

/-- COUNTERS_TAKE (R188, R191). Each counter goes most significant byte first, which R191 leaves open (DESIGN CHOICE, log entry
50). -/
def State.countersTake (s : State) (group : Byte) : State × List Byte :=
  if group.toNat ≤ 6 then
    (s.clearGroup group.toNat, [0x11, resOk, group] ++ ((s.groupCounters group.toNat).map (beBytes 2)).flatten)
  else (s, [0x11, resBad])

/-- DOMAIN_WANT is refused: no entry, off asked of a priority-0 domain, or a byte out of range (R152, R190, R191). -/
def State.wantRefused (s : State) (domain onOff : Byte) : Bool :=
  1 < onOff.toNat ||
    match s.power.domains.find? fun d => d.number == domain.toNat with
    | some d => d.priority == 0 && onOff == 0
    | none => true

/-- DOMAIN_WANT (R191, R152). -/
def State.domainWant (s : State) (domain onOff : Byte) : State × List Byte :=
  if s.wantRefused domain onOff then (s, [0x14, resBad])
  else (s.calling fun t => t.want domain.toNat (onOff == 1), [0x14, resOk])

/-- The station keeps volume and mute settings (R191). -/
abbrev State.keepsVolume (s : State) : Prop := s.station = .pod ∨ s.station = .headset

/-- VOLUME (R191, R143). -/
def State.volumeRequest (s : State) (step : Byte) : State × List Byte :=
  if s.keepsVolume ∧ step.toNat ≤ 14 then ({ s with audio := { s.audio with volume := step.toNat } }, [0x15, resOk])
  else (s, [0x15, resBad])

/-- MIC_MUTE (R191, R134). -/
def State.muteRequest (s : State) (onOff : Byte) : State × List Byte :=
  if s.keepsVolume ∧ onOff.toNat ≤ 1 then ({ s with audio := { s.audio with muted := onOff == 1 } }, [0x16, resOk])
  else (s, [0x16, resBad])

/-! ### Relay (section 10.6) -/

/-- The answer to a RELAY request that is not accepted; none where it is accepted (R193, R190). -/
def State.relayJudgement (s : State) (station : Byte) (inner : List Byte) : Option Byte :=
  let code := inner.headD 0
  if 3 < station.toNat ∨ code = 0x18 ∨ code = 0x19 ∨ stationOf station.toNat = s.station then some resBad
  else if (s.stations.get (stationOf station.toNat)).present = false then some resNoStation
  else if s.service.holder.state = .outstanding then some resBusy
  else none

/-- An accepted relay: a new tag, the holder OUTSTANDING, one RELAY cell offered (R193). -/
def State.startRelay (s : State) (target : Station) (inner : List Byte) : State :=
  let tag := s.service.holder.tags + 1
  (s.modHolder fun _ =>
    { state := .outstanding, target := target, tag := tag, wait := 524288, count := none, parts := [], answer := [],
      tags := tag }).offerTo target (.relay target false 0 tag 1 inner)

/-- RELAY (R193). -/
def State.relayRequest (s : State) (station : Byte) (inner : List Byte) : State × List Byte :=
  match s.relayJudgement station inner with
  | some r => (s, [0x18, r])
  | none => (s.startRelay (stationOf station.toNat) inner, [0x18, resAccepted])

/-- RELAY_TAKE (R195). -/
def State.relayTake (s : State) : State × List Byte :=
  let h := s.service.holder
  if h.state = .ready then
    (s.modHolder fun h => { h with state := .idle, answer := [] },
      [0x19, resOk] ++ beBytes 1 h.target.num ++ h.answer)
  else (s, [0x19, resEmpty])

/-! ### A complete request (R189, R191) -/

/-- What a complete request does and answers; a table request reads at most `most` records. -/
def State.act (s : State) (most : Nat) : Request → State × List Byte
  | .noticeTake => s.noticeTake
  | .countersTake g => s.countersTake g
  | .tableRead t i => s.tableRead most t i
  | .tableNext => s.tableNext most
  | .domainWant d v => s.domainWant d v
  | .volume v => s.volumeRequest v
  | .micMute v => s.muteRequest v
  | .summary => (s, [0x17, resOk] ++ s.summaryBytes)
  | .relay st inner => s.relayRequest st inner
  | .relayTake => s.relayTake

/-- A request completing on the local service line: acted on where its largest answer has room, else refused BUSY without
effect (R189). A relay answer longer than any that R194 sends counts with its own length (log entry 24), so the FIFO never
holds more than its 512 bytes. -/
def State.serve (s : State) (r : Request) : State :=
  let a := s.act 4 r
  if s.freeSpace < max r.largest a.2.length then s.shortReply r.code resBusy else a.1.reply a.2

/-! ### The parser (R189, R190) -/

/-- The state with the parser set. -/
def State.setParser (s : State) (p : Parser) : State := s.modService fun v => { v with parser := p }

/-- The bytes collected begin with an unknown code, or are a RELAY whose inner code is unknown (R190). -/
def unknownIn : List Byte → Bool
  | [] => false
  | c :: rest =>
    if serviceCodes.contains c = false then true
    else if c = 0x18 then
      match rest with
      | [] => false
      | _ :: inner => unknownIn inner
    else false

/-- The parser's bytes with one more: complete, unknown, or still in collection (R189, R190). -/
def State.collect (s : State) (bs : List Byte) : State :=
  if unknownIn bs then (s.shortReply (bs.headD 0) resBad).setParser .discard
  else
    match parseRequest bs with
    | some r => (s.setParser .waiting).serve r
    | none => s.setParser (.collecting bs)

/-- The parser takes one byte (R189, R190); it runs from the end of LOADING. -/
def State.feedByte (s : State) (b : Byte) : State :=
  if s.live then
    match s.service.parser with
    | .waiting => s.collect [b]
    | .collecting bs => s.collect (bs ++ [b])
    | .discard => s
  else s

/-- The bytes of a request arrive on the service line one after another (R189). Where the parser waits for a code byte, the last
of them completes the request. -/
def State.request (s : State) (r : Request) : State :=
  if s.live ∧ s.service.parser = .waiting ∧ parseRequest r.bytes = some r then s.serve r
  else r.bytes.foldl State.feedByte s

/-- NOTICE_TAKE (R191): the head notice is removed and returned, or EMPTY is answered. -/
def execNoticeTake (s : State) : Host.Outcome State Fault Refusal := .next (s.request .noticeTake)

/-- COUNTERS_TAKE (R188, R191): a group's counters are returned and cleared in the same instant. -/
def execCountersTake (group : Byte) (s : State) : Host.Outcome State Fault Refusal := .next (s.request (.countersTake group))

/-- TABLE_READ (R192): up to four records from an index; the cursor is set. -/
def execTableRead (table index : Byte) (s : State) : Host.Outcome State Fault Refusal :=
  .next (s.request (.tableRead table index))

/-- TABLE_NEXT (R192): reading continues from the cursor. -/
def execTableNext (s : State) : Host.Outcome State Fault Refusal := .next (s.request .tableNext)

/-- DOMAIN_WANT (R152, R191): a domain's wanted flag is written. -/
def execDomainWant (domain onOff : Byte) (s : State) : Host.Outcome State Fault Refusal :=
  .next (s.request (.domainWant domain onOff))

/-- VOLUME (R143, R191): the volume step is set at POD or HEADSET. -/
def execVolume (step : Byte) (s : State) : Host.Outcome State Fault Refusal := .next (s.request (.volume step))

/-- MIC_MUTE (R134, R191): microphone mute is set or cleared at POD or HEADSET. -/
def execMicMute (onOff : Byte) (s : State) : Host.Outcome State Fault Refusal := .next (s.request (.micMute onOff))

/-- SUMMARY (R191): the 13 bytes of the station's summary. -/
def execSummary (s : State) : Host.Outcome State Fault Refusal := .next (s.request .summary)

/-- RELAY (R193): a relay to another station is judged and, when accepted, sent. -/
def execRelay (station : Byte) (inner : List Byte) (s : State) : Host.Outcome State Fault Refusal :=
  .next (s.request (.relay station inner))

/-- RELAY_TAKE (R195): a READY answer is returned, or EMPTY is answered. -/
def execRelayTake (s : State) : Host.Outcome State Fault Refusal := .next (s.request .relayTake)

/-- UNKNOWN_CODE (R190): a byte arrives where the parser looks for a code; one that is no code is answered BAD_REQUEST and the
parser enters discard. -/
def execUnknownCode (code : Byte) (s : State) : Host.Outcome State Fault Refusal := .next (s.feedByte code)

/-- FRAMING_ERROR (R190): any request in collection is abandoned and the parser enters discard. -/
def execFramingError (s : State) : Host.Outcome State Fault Refusal :=
  if s.live then .next (s.setParser .discard) else .next s

/-- IDLE_GAP (R190): a request in collection is abandoned and the parser waits for a code byte. -/
def execIdleGap (s : State) : Host.Outcome State Fault Refusal :=
  match s.service.parser with
  | .collecting _ => .next (s.setParser .waiting)
  | .waiting | .discard => .next s

/-- DISCARD_END (R190): the line has been idle for 4 000 slots; the parser waits for a code byte. -/
def execDiscardEnd (s : State) : Host.Outcome State Fault Refusal :=
  if s.service.parser = .discard then .next (s.setParser .waiting) else .next s

/-- ANSWER_BYTE_SENT (R189): the answer FIFO's head byte has left on the wire, and its space is free. -/
def execAnswerByteSent (s : State) : Host.Outcome State Fault Refusal :=
  match s.service.answers with
  | b :: rest => .next (s.modService fun v => { v with answers := rest, sent := some b })
  | [] => .next s

/-! ### Relay cells (R194, R195) -/

/-- The bytes of an answer in parts of 28, the first `n` parts (R194). -/
def partsOf : Nat → List Byte → List (List Byte)
  | 0, _ => []
  | n + 1, bs => bs.take 28 :: partsOf n (bs.drop 28)

/-- The parts of an answer, each of at most 28 bytes (R194). -/
def answerParts (bs : List Byte) : List (List Byte) := partsOf (ceilDiv bs.length 28) bs

/-- All parts of an answer are offered in index order, from index `i` of `n` (R194). -/
def State.offerParts (s : State) (holder : Station) (tag : Num8) (n : Nat) : Nat → List (List Byte) → State
  | _, [] => s
  | i, part :: rest => (s.offerTo holder (.relay holder true i tag n part)).offerParts holder tag n (i + 1) rest

/-- A relayed request is acted on as a local one, reading at most one record (R194). -/
def State.actRelayed (s : State) (bytes : List Byte) : State × List Byte :=
  match parseRequest bytes with
  | some r => s.act 1 r
  | none => (s, [bytes.headD 0, resBad])

/-- A relayed request and its answer (R194). Where the request is a DOMAIN_WANT whose change calls for an event report, the
POWER cell is offered to the CONTROL FIFO before the parts of the answer: R41 and R194 leave the order of cells offered
together open (DESIGN CHOICE, log entry 52). -/
def State.answerRelay (s : State) (holder : Station) (tag : Num8) (bytes : List Byte) : State :=
  let a := s.actRelayed bytes
  let parts := answerParts a.2
  a.1.offerParts holder tag parts.length 0 parts

/-- RELAY_REQUEST_TAKEN (R194): while RUNNING, a request cell of one part is acted on and its answer sent back. -/
def execRelayRequestTaken (lane : Lane) (cell : Cell) (s : State) : Host.Outcome State Fault Refusal :=
  .next <|
    s.take lane cell fun t =>
      if t.running ∧ cell.kind = .relay ∧ addressed t.station cell = true then
        match readRelay cell with
        | some r => if r.answer = false ∧ r.count = 1 ∧ r.index = 0 then t.answerRelay cell.src r.tag r.bytes else t
        | none => t
      else t

/-- A part is matching (R195). -/
def Holder.matching (h : Holder) (src : Station) (r : RelayCell) : Bool :=
  h.state == .outstanding && src == h.target && r.tag == h.tag && h.count.all fun n => n == r.count

/-- The parts with one stored under its index, in place of an earlier copy (R195). -/
def storePart (i : Nat) (bytes : List Byte) (parts : List (Nat × List Byte)) : List (Nat × List Byte) :=
  (i, bytes) :: parts.filter fun p => p.1 != i

/-- The answer assembled from parts 0 to n − 1, once all are held (R195). -/
def assemble (parts : List (Nat × List Byte)) : Nat → Option (List Byte)
  | 0 => some []
  | n + 1 =>
    match assemble parts n, parts.find? fun p => p.1 == n with
    | some bs, some p => some (bs ++ p.2)
    | _, _ => none

/-- Value of the relay notices (R184). -/
def Holder.noticeValue (h : Holder) : Nat := h.target.num * 256 + h.tag.toNat

/-- A matching part is stored; the last one makes the holder READY (R195). -/
def State.storeAnswer (s : State) (r : RelayCell) : State :=
  let parts := storePart r.index r.bytes s.service.holder.parts
  match assemble parts r.count with
  | some answer =>
    (s.modHolder fun h => { h with state := .ready, wait := 0, count := none, parts := [], answer := answer }).post .relayReady
      .relay s.service.holder.noticeValue
  | none => s.modHolder fun h => { h with count := some r.count, parts := parts }

/-- RELAY_ANSWER_TAKEN (R195): while RUNNING, a matching part is stored, and the complete answer makes the holder READY. -/
def execRelayAnswerTaken (lane : Lane) (cell : Cell) (s : State) : Host.Outcome State Fault Refusal :=
  .next <|
    s.take lane cell fun t =>
      if t.running ∧ cell.kind = .relay ∧ addressed t.station cell = true then
        match readRelay cell with
        | some r => if r.answer = true ∧ t.service.holder.matching cell.src r = true then t.storeAnswer r else t
        | none => t
      else t

/-- The relay wait ends in OUTSTANDING (R195). -/
def State.relayTimeout (s : State) : State :=
  if s.service.holder.state = .outstanding then
    (s.modHolder fun h => { h with state := .idle, wait := 0, count := none, parts := [] }).post .relayTimeout .relay
      s.service.holder.noticeValue
  else s

/-- RELAY_WAIT_EXPIRY (R195): the holder becomes IDLE and RELAY_TIMEOUT is posted. -/
def execRelayWaitExpiry (s : State) : Host.Outcome State Fault Refusal := .next s.relayTimeout

/-! ### Status pulses (R187) -/

/-- STATUS_PULSE_END (R187): the 64 slots of an output's pulse pass and the output falls. -/
def execStatusPulseEnd (out : StatusPin) (s : State) : Host.Outcome State Fault Refusal :=
  match out with
  | .a => .next { s with pulses := { s.pulses with a := 0 } }
  | .b => .next { s with pulses := { s.pulses with b := 0 } }

/-- SUPERFRAME_PULSE_START (R187): the lane-time clock stands at a multiple of 1 024, and each SUPERFRAME_PULSE output starts
its pulse. -/
def execSuperframePulseStart (s : State) : Host.Outcome State Fault Refusal :=
  if s.live ∧ s.clock.toNat % 1024 = 0 then .next (s.startPulse .superframePulse) else .next s

end Sys2Proof.Machine
end

