-- ==== Sys2Proof/Machine/Tick.lean ====
section
/-! DEFINITION. One slot of the local reference with no command waiting (log entry 3): the counts that run in slots. -/

namespace Sys2Proof.Machine

/-- A receiver's timing runs on by a slot in CONFIRM and LOCKED; out of LOCKED the slots are counted up to 65 536 (R8, R9,
R23). -/
def Rx.tick (r : Rx) : Rx :=
  let timed := r.state == .confirm || r.state == .locked
  { r with
    offset := if timed then r.offset + 1 else r.offset,
    outOfLock := if r.state = .locked then r.outOfLock else min (r.outOfLock + 1) 65536 }

/-- A sending transmitter's timing runs on by a slot (R3). -/
def Tx.tick (t : Tx) : Tx := if t.role.sends = true ∧ t.begun = true then { t with offset := t.offset + 1 } else t

/-- The slot that ends 65 536 slots out of LOCKED makes every entry the receiver feeds absent (R23). -/
def State.tickTable (s : State) (before : Rx) (l : Lane) : State :=
  if before.outOfLock = 65535 ∧ before.state ≠ .locked then s.calling fun t => t.timeoutLane l else s

/-- The lane-time clock advances: a free-running clock by one, others as R112 and R113 give. -/
def State.tickClock (s : State) : State :=
  if s.station = .console ∨ s.following = true then s.syncClock else s.setClock (s.clock + 1)

/-- The silence count runs in SAMPLING (R124). -/
def State.tickSilence (s : State) : State :=
  if s.station = .headset ∧ s.motion.state = .sampling then
    if silenceThreshold s.cfg.motionRate ≤ s.motion.silence + 1 then s.sensorSilent
    else { s with motion := { s.motion with silence := s.motion.silence + 1 } }
  else s

/-- The relay wait falls in OUTSTANDING (R195). -/
def State.tickRelay (s : State) : State :=
  if s.service.holder.state = .outstanding then
    let n := s.service.holder.wait - 1
    let s' := s.modHolder fun h => { h with wait := n }
    if n = 0 then s'.relayTimeout else s'
  else s

/-- The pulse timers run down (R187). -/
def Pulses.tick (p : Pulses) : Pulses := { a := p.a - 1, b := p.b - 1 }

/-- One slot of the local reference; the counts run from the end of LOADING. The clock moves first; then what ends in this slot
posts its notices in the order STATION_ABSENT of the down lane's entries and of the up lane's (R23), SENSOR_SILENT (R124),
RELAY_TIMEOUT (R195). No rule orders notices whose counts end in one slot (R185; DESIGN CHOICE, log entry 48). -/
def State.tick (s : State) : State :=
  if s.live then
    let s1 :=
      { s with
        localSlot := s.localSlot + 1, pulses := s.pulses.tick,
        rx := ⟨s.rx.down.tick, s.rx.up.tick⟩, tx := ⟨s.tx.down.tick, s.tx.up.tick⟩ }
    ((((s1.tickClock.tickTable s.rx.down .down).tickTable s.rx.up .up).tickSilence).tickRelay)
  else s

end Sys2Proof.Machine
end

