-- ==== Sys2Proof/Machine/Dispatch.lean ====
section
/-! DEFINITION. The dispatch: one arm for each command, each one direct call of its meaning. -/

namespace Sys2Proof.Machine

def exec (i : Instr) (s : State) : Host.Outcome State Fault Refusal :=
  match i with
  | .powerOn => Sys2Proof.Machine.execPowerOn s
  | .pin => Sys2Proof.Machine.execPin s
  | .brownout => Sys2Proof.Machine.execBrownout s
  | .endOfReset stn sup srec => Sys2Proof.Machine.execEndOfReset stn sup srec s
  | .endOfLoading memory => Sys2Proof.Machine.execEndOfLoading memory s
  | .rolesSettle => Sys2Proof.Machine.execRolesSettle s
  | .endOfLinking => Sys2Proof.Machine.execEndOfLinking s
  | .linkingTimeout => Sys2Proof.Machine.execLinkingTimeout s
  | .signalPresent lane => Sys2Proof.Machine.execSignalPresent lane s
  | .signalAbsent lane => Sys2Proof.Machine.execSignalAbsent lane s
  | .candidateAlignmentCell lane cell => Sys2Proof.Machine.execCandidateAlignmentCell lane cell s
  | .expectedAlignmentCell lane found => Sys2Proof.Machine.execExpectedAlignmentCell lane found s
  | .stationTableTimeout lane => Sys2Proof.Machine.execStationTableTimeout lane s
  | .alignmentCellSent lane => Sys2Proof.Machine.execAlignmentCellSent lane s
  | .payloadSlotReceived lane cell => Sys2Proof.Machine.execPayloadSlotReceived lane cell s
  | .idleSlotArbitration lane => Sys2Proof.Machine.execIdleSlotArbitration lane s
  | .dataCellTaken lane cell => Sys2Proof.Machine.execDataCellTaken lane cell s
  | .probeTaken lane cell => Sys2Proof.Machine.execProbeTaken lane cell s
  | .replyTaken lane cell => Sys2Proof.Machine.execReplyTaken lane cell s
  | .powerReportTaken lane cell => Sys2Proof.Machine.execPowerReportTaken lane cell s
  | .echoTaken lane cell => Sys2Proof.Machine.execEchoTaken lane cell s
  | .delayTaken lane cell => Sys2Proof.Machine.execDelayTaken lane cell s
  | .echoBackTaken lane cell => Sys2Proof.Machine.execEchoBackTaken lane cell s
  | .resurveyTaken lane cell => Sys2Proof.Machine.execResurveyTaken lane cell s
  | .volumeCellTaken lane cell => Sys2Proof.Machine.execVolumeCellTaken lane cell s
  | .muteCellTaken lane cell => Sys2Proof.Machine.execMuteCellTaken lane cell s
  | .buttonCellTaken lane cell => Sys2Proof.Machine.execButtonCellTaken lane cell s
  | .relayRequestTaken lane cell => Sys2Proof.Machine.execRelayRequestTaken lane cell s
  | .relayAnswerTaken lane cell => Sys2Proof.Machine.execRelayAnswerTaken lane cell s
  | .relayWaitExpiry => Sys2Proof.Machine.execRelayWaitExpiry s
  | .sliceOffered eye picture index layer length data => Sys2Proof.Machine.execSliceOffered eye picture index layer length data s
  | .endOfStream eye => Sys2Proof.Machine.execEndOfStream eye s
  | .displayReadyRise eye => Sys2Proof.Machine.execDisplayReadyRise eye s
  | .pictureTaken eye n => Sys2Proof.Machine.execPictureTaken eye n s
  | .dataReadyEdge => Sys2Proof.Machine.execDataReadyEdge s
  | .readCompletion axes => Sys2Proof.Machine.execReadCompletion axes s
  | .motionReadyRise => Sys2Proof.Machine.execMotionReadyRise s
  | .localSuperframeBoundary worn => Sys2Proof.Machine.execLocalSuperframeBoundary worn s
  | .wearChange worn => Sys2Proof.Machine.execWearChange worn s
  | .notWornCountExpiry => Sys2Proof.Machine.execNotWornCountExpiry s
  | .wakeHoldExpiry => Sys2Proof.Machine.execWakeHoldExpiry s
  | .sensorSilent => Sys2Proof.Machine.execSensorSilent s
  | .surveyTimeout station => Sys2Proof.Machine.execSurveyTimeout station s
  | .echoDiscardFailure station => Sys2Proof.Machine.execEchoDiscardFailure station s
  | .delayWaitExpiry => Sys2Proof.Machine.execDelayWaitExpiry s
  | .frameClockEdge ch1 ch2 => Sys2Proof.Machine.execFrameClockEdge ch1 ch2 s
  | .frameClockAbsent => Sys2Proof.Machine.execFrameClockAbsent s
  | .buttonPress button => Sys2Proof.Machine.execButtonPress button s
  | .buttonRelease button => Sys2Proof.Machine.execButtonRelease button s
  | .sampleEvent rail load aux => Sys2Proof.Machine.execSampleEvent rail load aux s
  | .supplyTrip => Sys2Proof.Machine.execSupplyTrip s
  | .supplyReclose => Sys2Proof.Machine.execSupplyReclose s
  | .powerRiBoundary => Sys2Proof.Machine.execPowerRiBoundary s
  | .viewEntrySilent station => Sys2Proof.Machine.execViewEntrySilent station s
  | .keepAliveCall => Sys2Proof.Machine.execKeepAliveCall s
  | .statusPulseEnd out => Sys2Proof.Machine.execStatusPulseEnd out s
  | .noticeTake => Sys2Proof.Machine.execNoticeTake s
  | .countersTake group => Sys2Proof.Machine.execCountersTake group s
  | .tableRead table index => Sys2Proof.Machine.execTableRead table index s
  | .tableNext => Sys2Proof.Machine.execTableNext s
  | .domainWant domain onOff => Sys2Proof.Machine.execDomainWant domain onOff s
  | .volume step => Sys2Proof.Machine.execVolume step s
  | .micMute onOff => Sys2Proof.Machine.execMicMute onOff s
  | .summary => Sys2Proof.Machine.execSummary s
  | .relay station inner => Sys2Proof.Machine.execRelay station inner s
  | .relayTake => Sys2Proof.Machine.execRelayTake s
  | .unknownCode code => Sys2Proof.Machine.execUnknownCode code s
  | .framingError => Sys2Proof.Machine.execFramingError s
  | .idleGap => Sys2Proof.Machine.execIdleGap s
  | .discardEnd => Sys2Proof.Machine.execDiscardEnd s
  | .localRiBoundary volUp volDown mute => Sys2Proof.Machine.execLocalRiBoundary volUp volDown mute s
  | .frameStart => Sys2Proof.Machine.execFrameStart s
  | .superframePulseStart => Sys2Proof.Machine.execSuperframePulseStart s
  | .answerByteSent => Sys2Proof.Machine.execAnswerByteSent s
  | .displayReadyFall eye => Sys2Proof.Machine.execDisplayReadyFall eye s
  | .motionReadyFall => Sys2Proof.Machine.execMotionReadyFall s

end Sys2Proof.Machine
end

