-- ==== Sys2Proof/Safety.lean ====
section
/-! DEFINITION. What a safe state is, in the terms the statements use: the bounds and relations that every step of the machine
must keep, whatever command comes. -/

namespace Sys2Proof.Machine

/-- A subject of the table of R184: a domain subject is one of domains 0 to 5. -/
def Subject.known : Subject → Bool
  | .domain n => n < 6
  | .flow _ | .lane _ | .station _ | .supply | .relay | .reset | .buttons => true

/-- Every queue and buffer holds no more than the spec gives it room for: the CONTROL FIFOs (R41), the hop-check histories
(R11), the sample queue (R125), the motion output queue (R127), the audio source queue (R133), the elastic buffer (R137), the
send queues in records and in cells (R92, R97), the slice buffers in records and in cells (R99, R100), the layer maps
(R105), the answer FIFO (R189); and the notice queue holds at most one entry of a subject, of the subjects of R184 alone
(R185), the domains being numbered 0 to 5 (R151). -/
structure State.QueuesBounded (s : State) : Prop where
  fifo : ∀ l, (s.tx.get l).fifo.length ≤ 8
  history : ∀ l, (s.rx.get l).history.length ≤ 16
  samples : s.motion.queue.length ≤ 16
  outSamples : s.motionOut.queue.length ≤ 16
  blocks : s.audio.source.queue.length ≤ 4
  elastic : s.audio.sink.buffer.length ≤ 16
  sendRecords : ∀ e, (s.paced.get e).queue.length ≤ 64
  sendCells : ∀ e, cellsLeft (s.paced.get e).queue ≤ 1024
  bufferRecords : ∀ e, (s.eyes.get e).buffer.length ≤ 64
  bufferCells : ∀ e, reserved (s.eyes.get e).buffer ≤ 1024
  layerMap : ∀ e, (s.eyes.get e).map.length ≤ 2
  answers : s.service.answers.length ≤ 512
  distinct : (s.notices.map (·.subject)).Nodup
  known : ∀ n ∈ s.notices, n.subject.known = true
  numbers : ∀ d ∈ s.power.domains, d.number < 6

/-- The report balance keeps its ranges: b at most 8, the net balance at least −8, the age at most 8 (R177, R178). -/
structure State.BalanceInRange (s : State) : Prop where
  most : s.balance.b ≤ 8
  least : -8 ≤ s.balance.net
  age : s.balance.age ≤ 8

/-- The relation of floor, start and peak that validation gives a paced flow (R199). -/
abbrev ratesOrdered (p : FlowParams) : Prop := p.floor ≤ p.start ∧ p.start ≤ p.peak ∧ p.peak ≤ 1008

/-- The allowed rates and what goes with them keep their ranges: AR from floor to peak at CONSOLE once its record is read (R70,
R81, R89), credit up to its cap (R67), the unanswered count and the cells since the last probe up to 255 (R69, R70). -/
structure State.RatesInRange (s : State) : Prop where
  ordered : ∀ e, ratesOrdered (s.params e)
  rate : s.station = .console → s.live → ∀ e, (s.params e).floor ≤ (s.paced.get e).ar ∧ (s.paced.get e).ar ≤ (s.params e).peak
  credit : s.live → ∀ e, (s.paced.get e).credit ≤ creditCap (s.params e)
  noCredit : ¬s.live → ∀ e, (s.paced.get e).credit = 0
  unanswered : ∀ e, (s.paced.get e).unanswered ≤ 255
  cells : ∀ e, (s.paced.get e).cellsSince ≤ 255

/-- The power rules of R154 and R153 hold: the applied level is the one that its inputs give, no level is above 7, an ON domain
above priority 0 is one that the level allows, every priority-0 domain is ON from the end of LOADING, and before it there is
no domain, no level and no report heard. A domain number has one entry (R151). -/
structure State.ShedLevelHolds (s : State) : Prop where
  applied : s.power.applied = s.appliedLevel
  own : s.power.supplyLevel ≤ 7
  heard : ∀ t, (s.views.get t).report.level ≤ 7
  allowed : ∀ d ∈ s.power.domains, d.state = .on → d.priority < 8 - s.power.applied
  core : ∀ d ∈ s.power.domains, d.priority = 0 → d.state = .on
  numbers : (s.power.domains.map (·.number)).Nodup
  before : ¬s.live → s.power.domains = [] ∧ s.power.supplyLevel = 0 ∧ ∀ t, (s.views.get t).state = .unknown

/-- The lane-quiet machine run through the frames of a superframe from frame `f` on, one observation a frame (R171). -/
def Quiet.run (q : Quiet) (f : Nat) : List Observed → Quiet
  | [] => q
  | o :: rest => (q.step (BitVec.ofNat 4 f) o).run (f + 1) rest

/-- The cells of a slice as they reach its eye at HEADSET, `seq` being the first one's sequence number (R38, R93). -/
def SliceRec.cells (r : SliceRec) (e : Eye) (seq : Seq) : List Cell :=
  (List.range r.total).map fun k =>
    mkCell .data .console (.to .headset) (BitVec.ofNat 3 (FlowId.num (Eye.flow e))) (seq + BitVec.ofNat 4 k) (k == 0)
      (slicePayload { r with sent := k })

/-- A run of DATA cells, each handed over by the down lane's receiver and then taken (R34, R58); a command that did not complete
would end it. -/
def State.takeCells (s : State) : List Cell → State
  | [] => s
  | c :: rest =>
    match exec (.dataCellTaken .down c) (s.modRx .down fun r => r.hand c) with
    | .next t => t.takeCells rest
    | _ => s

end Sys2Proof.Machine
end

