-- ==== Sys2Proof/Certificates/Slice0/Obligations.lean ====
section
/-! DEFINITION. The statements for the provers. Each formalises what the rules named in its docstring say; where a clause rests on
the model's choice, the docstring names the log entry. -/

open Sys2Proof Sys2Proof.Machine

/-! ### The machine, resets and start (chapter 11) -/

/-- O1. A step takes the command at the front of the queue and is that command's effect on the state with the queue's rest. -/
def Obligations.StepRunsTheFrontCommand : Prop :=
  ∀ (c : Instr) (rest : List Instr) (s : State), s.pending = c :: rest → step s = exec c { s with pending := rest }

/-- O2. Every command completes in every state: none faults and none is refused; and none touches the queue of commands.
That a command whose event cannot happen in the state completes too, and leaves the state as it is, is the model's choice
(log entry 1); file 95 says only that each step is whole. -/
def Obligations.EveryCommandCompletes : Prop :=
  ∀ (c : Instr) (s : State), ∃ t, exec c s = .next t ∧ t.pending = s.pending

/-- O3. The reset state holds every row of the chapters' reset tables that gives a value at reset (R26, R45, R65, R89, R111,
R129, R148, R170, R183, R196); the rows that take theirs from the start record are O5's. Its station reads CONSOLE until the
straps are sampled (the model's choice, log entry 2), so its up TX, not fitted, is TERMINAL (R1). -/
def Obligations.ResetStateHoldsTheTables : Prop :=
  let s := State.reset
  s.start = .reset ∧ s.cause = .powerOn ∧ s.farNeighbour = false ∧ s.clock = 0 ∧ s.notices = [] ∧ s.pending = [] ∧
  (∀ l, (s.rx.get l).state = .dark ∧ (s.rx.get l).errRun = 0 ∧ (s.rx.get l).history = [] ∧ (s.rx.get l).confirm = 0 ∧
    (s.rx.get l).inEffect = none ∧ (s.rx.get l).count = none ∧ (s.rx.get l).fault = false ∧
    (s.rx.get l).alignErrors = 0 ∧ (s.rx.get l).hopErrors = 0 ∧ (s.rx.get l).cellErrors = 0 ∧ (s.rx.get l).relocks = 0) ∧
  s.tx.down.role = .silent ∧ s.tx.up.role = .terminal ∧
  (∀ l, (s.tx.get l).role.sends = false ∧ (s.tx.get l).count = 0 ∧ (s.tx.get l).frame = 0 ∧ (s.tx.get l).fifo = [] ∧
    (s.tx.get l).train = 0 ∧ (s.tx.get l).gapOwed = false ∧ (s.tx.get l).turn = .left ∧ (s.tx.get l).quiet = none) ∧
  (∀ x, (s.stations.get x).present = false ∧ (s.stations.get x).status = 0 ∧ (s.stations.get x).absentRun = 0 ∧
    (s.stations.get x).delay = none ∧ (s.views.get x).state = .unknown ∧ (s.views.get x).age = 0 ∧
    (s.surveys.get x).state = .idle ∧ (s.surveys.get x).failed = 0 ∧ (s.surveys.get x).unknown = false) ∧
  (∀ f, s.dst.get f = none ∧ s.seqs.get f = 0 ∧
    s.counters.get f =
      { gaps := 0, misrouted := 0, layerDrops := 0, staleRefusals := 0, purges := 0, roomRefusals := 0, staleReplies := 0,
        breaks := 0, refusals := 0, orphans := 0, overruns := 0, underflows := 0, overflows := 0, lateBlocks := 0 }) ∧
  (∀ e, (s.paced.get e).state = .idle ∧ (s.paced.get e).queue = [] ∧ (s.paced.get e).credit = 0 ∧
    (s.paced.get e).unanswered = 0 ∧ (s.paced.get e).lastProbe = 255 ∧ (s.paced.get e).probeAt = none ∧
    (s.paced.get e).dataAt = none ∧ (s.paced.get e).newest = none ∧ (s.paced.get e).lastEntered = none ∧
    (s.paced.get e).idleSince = none ∧ (s.paced.get e).discarded = 0 ∧ (s.paced.get e).cellsSince = 0 ∧
    (s.paced.get e).probeWaiting = false) ∧
  (∀ e, (s.eyes.get e).reasm = .waitStart ∧ (s.eyes.get e).buffer = [] ∧ (s.eyes.get e).lastTaken = none ∧
    (s.eyes.get e).map = [] ∧ (s.eyes.get e).probeSeen = none) ∧
  s.surveyed.known = false ∧ s.surveyed.offset = 0 ∧ s.surveyed.awaited = none ∧ s.surveyed.wait = 0 ∧ s.tokens = 0 ∧
  s.motion.state = .off ∧ s.motion.worn = true ∧ s.motion.wearRun = 0 ∧ s.motion.notWorn = 0 ∧ s.motion.wakeHold = 0 ∧
  s.motion.silence = 0 ∧ s.motion.decimation = 0 ∧ s.motion.reading = none ∧
  s.motion.next = 0 ∧ s.motion.restart = 0 ∧ s.motion.queue = [] ∧ s.motionOut.expected = none ∧
  s.motionOut.restartRun = false ∧ s.motionOut.queue = [] ∧ s.audio.clock = false ∧ s.audio.source.opened = false ∧
  s.audio.source.next = 0 ∧ s.audio.source.position = 0 ∧ s.audio.source.frames = [] ∧ s.audio.source.queue = [] ∧
  s.audio.sink.state = .muted ∧ s.audio.sink.buffer = [] ∧ s.audio.sink.play = .idle ∧ s.audio.sink.position = 0 ∧
  s.audio.sink.expected = none ∧ s.audio.sink.repeatDone = false ∧ s.audio.muted = false ∧
  s.audio.volUp = ⟨false, 0⟩ ∧ s.audio.volDown = ⟨false, 0⟩ ∧ s.audio.mute = ⟨false, 0⟩ ∧
  s.power.rail = 0 ∧ s.power.load = 0 ∧ s.power.aux = 0 ∧ s.power.p = 0 ∧ s.power.domains = [] ∧
  (∀ n, s.enable n = false) ∧ s.power.droop = false ∧ s.power.tripWait = 0 ∧ s.power.nextReport = 0 ∧
  s.power.supplyLevel = 0 ∧ s.power.applied = 0 ∧ s.power.battery = false ∧ s.ownOffer = 0 ∧ s.shedActive = false ∧
  s.power.tripped = false ∧ s.power.brownRun = 0 ∧ s.power.overRun = 0 ∧ s.balance.b = 0 ∧ s.balance.age = 0 ∧ s.balance.forced = false ∧
  s.balance.event = false ∧ s.balance.fresh = false ∧ s.balance.outstanding = [] ∧ s.service.parser = .waiting ∧
  s.service.answers = [] ∧ s.service.cursor = none ∧ s.service.holder.state = .idle ∧ s.service.holder.tags = 0 ∧
  s.service.holder.parts = [] ∧ s.pulses = ⟨0, 0⟩ ∧ s.attention = false ∧ ∀ p, s.output p = false

/-- O4. POWER_ON and PIN, in any state, and BROWNOUT, in LINKING and RUNNING, return the node to its reset state; the kinds
differ in the cause record and in CONSOLE's supply switch, which opens at POWER_ON alone. The levels the outside holds on
pins and the queue of commands stay (the model's choice, log entry 4). END_OF_RESET, in RESET, begins LOADING, samples the
three strap groups, gives the up TX TERMINAL at CONSOLE, where it is not fitted (R1), and no role yet elsewhere, and changes
nothing else. -/
def Obligations.ResetsReturnToTheResetState : Prop :=
  (∀ s : State,
     exec .powerOn s = .next { State.reset with cause := .powerOn, pins := s.pins, pending := s.pending } ∧
     exec .pin s =
       .next
         { State.reset with
           cause := .pin, pins := s.pins, pending := s.pending,
           power := { State.reset.power with switchClosed := s.power.switchClosed } } ∧
     (s.live →
       exec .brownout s =
         .next
           { State.reset with
             cause := .brownout, pins := s.pins, pending := s.pending,
             power := { State.reset.power with switchClosed := s.power.switchClosed } })) ∧
  (∀ (stn : Station) (sup : BitVec 2) (srec : Bool) (s : State), s.start = .reset →
     exec (.endOfReset stn sup srec) s =
       .next
         { s with
           start := .loading, station := stn, sup := sup, srec := srec,
           tx := { s.tx with up := { s.tx.up with role := if stn = .console then .terminal else .silent } } })

/-- O5. END_OF_LOADING, in LOADING, puts the validated record into effect and enters LINKING: the own entry is present, each
transmitter fitted is a provisional origin, the records of the flow plan are CLOSED, and CONSOLE's supply switch closes and
its paced records take start as their allowed rate. The domain table is the role's under the record, its priority-0 domains
ON and every other WAITING or OFF by its wanted flag (R153); where that brings the sensors ON at a HEADSET with the wear
link, the motion unit leaves OFF and the link writes the display domain's wanted flag (R121, R123). The role's table has for
each number the role's default or what the record's override bit puts in its place, core at priority 0, in the order of the
numbers (R151, R152). Whatever bytes came from the start memory, the validated record keeps the ranges and relations of the
layout (R199), and a priority-0 domain, core among them, is wanted in every role. The record is accepted where SREC is 1, all 96
bytes came, byte 0 is 0xA6 and byte 1 is 1; else every field has its default (R198). An accepted record's fields are those of
the layout's bytes, each clamped into its range, with the second pass over each paced flow and over the RAIL thresholds
(R199). -/
def Obligations.EndOfLoadingStartsLinking : Prop :=
  (∀ (memory : List Byte) (s : State), s.start = .loading →
    ∃ t, exec (.endOfLoading memory) s = .next t ∧
      t.start = .linking ∧ t.cfg = loadRecord s.srec memory ∧ t.station = s.station ∧
      (t.stations.get s.station).present = true ∧
      (t.tx.get .down).role = .provisional ∧
      (s.station ≠ .console → (t.tx.get .up).role = .provisional) ∧
      (s.station = .console → t.tx.up.role = s.tx.up.role ∧ t.power.switchClosed = true ∧
        ∀ e, (t.paced.get e).ar = (t.params e).start ∧ (t.paced.get e).band = loadBand (t.params e)) ∧
      (∀ f, t.dst.get f = if t.planDest f = t.station then some ⟨.closed, none⟩ else none) ∧
      (∀ d ∈ t.power.domains, d.state = .on ↔ d.priority = 0) ∧
      (let begun := (domainTable s.station t.cfg).map fun d =>
         { d with state := if d.priority = 0 then DomainState.on else if d.wanted then .waiting else .off }
       let linked : Bool :=
         decide (s.station = .headset ∧ t.cfg.wearLink = true ∧ s.motion.state = .off ∧ ∃ d ∈ begun, d.number = 2 ∧ d.state = .on)
       t.power.domains =
         begun.map fun d =>
           if linked = true ∧ d.number = 1 ∧ d.priority ≠ 0 then
             { d with wanted := s.motion.worn, state := if s.motion.worn then .waiting else .off }
           else d) ∧
      t.audio.volume = t.cfg.volume ∧ t.balance.outstanding = s.balance.outstanding ∧ t.seqs = s.seqs ∧
      t.counters = s.counters) ∧
  (∀ (srec : Bool) (memory : List Byte),
    let p := loadRecord srec memory
    (∀ fp ∈ [p.flowL, p.flowR],
      16 ≤ fp.peak ∧ fp.peak ≤ 1008 ∧ fp.floor ≤ fp.start ∧ fp.start ≤ fp.peak ∧ fp.peak ≤ 16 * fp.burst ∧
      1 ≤ fp.burst ∧ fp.burst ≤ 255 ∧
      fp.scarce < fp.ease ∧ fp.ease ≤ fp.low ∧ fp.low < fp.ok ∧ fp.ok ≤ fp.peak ∧
      1 ≤ fp.rise ∧ fp.rise ≤ 255 ∧ 1 ≤ fp.fall ∧ fp.fall ≤ 255 ∧ 1 ≤ fp.fade ∧ fp.fade ≤ 255 ∧
      4 ≤ fp.spacing ∧ fp.spacing ≤ 255 ∧ 1 ≤ fp.interval ∧ fp.interval ≤ 63 ∧
      1 ≤ fp.patience ∧ fp.patience ≤ 15 ∧ 1 ≤ fp.idleReset ∧ fp.idleReset ≤ 1023) ∧
    p.brownoutMv < p.cutoffMv ∧ p.cutoffMv < p.shedMv ∧ p.shedMv < p.admitMv ∧ p.admitMv ≤ 25500 ∧
    1 ≤ p.crowd ∧ p.crowd ≤ 32 ∧ p.volume ≤ 14 ∧ p.sidetone ≤ 15 ∧ p.motionRate ≤ 2 ∧
    p.strapLimit ≤ 20000 ∧ p.batteryFloor ≤ 20000 ∧ p.domains.length = 6 ∧
    (∀ d ∈ p.domains, d.priority ≤ 7 ∧ d.nominal ≤ 6000) ∧
    (∀ k ∈ [p.rail, p.load, p.aux], k.gain ≤ 4095 ∧ -512 ≤ k.offset ∧ k.offset ≤ 511) ∧
    (∀ x ∈ [p.idleOut.ch1, p.idleOut.ch2, p.idleIn.ch1, p.idleIn.ch2], -8388608 ≤ x ∧ x ≤ 8388607) ∧
    (∀ (stn : Station), ∀ d ∈ domainTable stn p, (d.number = 0 → d.priority = 0) ∧ (d.priority = 0 → d.wanted = true) ∧
      d.number < 6 ∧ d.priority ≤ 7 ∧ d.nominal ≤ 60000)) ∧
  (∀ (stn : Station) (p : Params),
    (domainTable stn p).Pairwise (fun a b => a.number < b.number) ∧
    ∀ n, n < 6 →
      let default : Option (Nat × Nat × Bool) :=
        match stn, n with
        | .console, 0 => some (0, 400, true)
        | .pod, 0 => some (0, 300, true)
        | .pod, 1 => some (2, 400, true)
        | .pod, 2 => some (3, 100, true)
        | .headset, 0 => some (0, 400, true)
        | .headset, 1 => some (3, 9000, true)
        | .headset, 2 => some (1, 150, true)
        | .headset, 3 => some (2, 500, true)
        | .headset, 4 => some (6, 1500, true)
        | .strap, 0 => some (0, 300, true)
        | .strap, 1 => some (5, 6000, false)
        | .strap, 2 => some (7, 300, true)
        | _, _ => none
      let w := p.domains.getD n {}
      let priority := if n = 0 then 0 else w.priority
      (domainTable stn p).find? (fun d => d.number == n) =
        if w.override then
          some { number := n, priority := priority, nominal := w.nominal * 10, wanted := priority == 0 || w.wanted, state := .off }
        else
          default.map fun x => { number := n, priority := x.1, nominal := x.2.1, wanted := x.2.2, state := .off }) ∧
  (∀ (srec : Bool) (memory : List Byte),
    let b (i : Nat) : Nat := (memory.getD i 0).toNat
    let two (i : Nat) : Nat := b i * 256 + b (i + 1)
    let three (i : Nat) : Nat := two i * 256 + b (i + 2)
    let bits (v high low : Nat) : Nat := v / 2 ^ low % 2 ^ (high + 1 - low)
    let flag (v i : Nat) : Bool := decide (bits v i i = 1)
    let signed (v width : Nat) : Int := if v < 2 ^ (width - 1) then v else (v : Int) - 2 ^ width
    let clamped (v low high : Nat) : Nat := if v < low then low else if high < v then high else v
    let accepted := srec = true ∧ memory.length = 96 ∧ b 0 = 0xA6 ∧ b 1 = 1
    let flow (o : Nat) : FlowParams :=
      let peak := clamped (two o) 16 1008
      let floor := clamped (clamped (two (o + 2)) 0 1008) 0 peak
      let scarce := clamped (two (o + 14)) 0 1008
      let ease := clamped (two (o + 16)) 0 1008
      let low := clamped (two (o + 18)) 0 1008
      let ok := clamped (two (o + 20)) 0 1008
      let ordered : Bool := decide (scarce < ease ∧ ease ≤ low ∧ low < ok ∧ ok ≤ peak)
      { peak := peak, floor := floor, start := clamped (clamped (two (o + 4)) 0 1008) floor peak,
        rise := clamped (b (o + 6)) 1 255, fall := clamped (b (o + 7)) 1 255, fade := clamped (b (o + 8)) 1 255,
        spacing := clamped (b (o + 9)) 4 255, interval := clamped (b (o + 10)) 1 63,
        patience := clamped (bits (two (o + 11)) 13 10) 1 15, idleReset := clamped (bits (two (o + 11)) 9 0) 1 1023,
        burst := max (clamped (b (o + 13)) 1 255) ((peak + 15) / 16),
        scarce := if ordered then scarce else peak / 8, ease := if ordered then ease else peak * 3 / 16,
        low := if ordered then low else peak * 3 / 8, ok := if ordered then ok else peak / 2 }
    let rails : Bool := decide (b 88 < b 87 ∧ b 87 < b 86 ∧ b 86 < b 85)
    let scale (i : Nat) : Scale := { gain := bits (three i) 23 12, offset := signed (bits (three i) 9 0) 10 }
    let pattern (i : Nat) : IdlePattern := { ch1 := signed (three i) 24, ch2 := signed (three (i + 3)) 24 }
    let output (n : Nat) : OutFn :=
      [OutFn.laneFault, .rateLow, .shed, .attention, .superframePulse, .slipPulse, .fixedLow, .fixedHigh].getD n .fixedHigh
    let standard : FlowParams :=
      { peak := 480, floor := 48, start := 160, rise := 24, fall := 64, fade := 32, spacing := 32, interval := 8, patience := 3,
        idleReset := 512, burst := 32, scarce := 480 / 8, ease := 480 * 3 / 16, low := 480 * 3 / 8, ok := 480 / 2 }
    (¬accepted →
      loadRecord srec memory =
        { flowL := standard, flowR := standard, crowd := 6, podAudio := false, twoOut := true, twoIn := true,
          idleOut := { ch1 := 0, ch2 := 0 }, idleIn := { ch1 := 0, ch2 := 0 }, volume := 6, sidetone := 15, motionRate := 1,
          wearLink := true,
          domains := List.replicate 6 { override := false, wanted := false, priority := 0, nominal := 0 },
          rail := { gain := 3840, offset := 0 }, load := { gain := 256, offset := 0 }, aux := { gain := 256, offset := 0 },
          admitMv := 11000, shedMv := 10400, cutoffMv := 9800, brownoutMv := 9000, strapLimit := 10000, batteryFloor := 6400,
          mask := BitVec.allOnes 19, outA := .laneFault, outB := .shed }) ∧
    (accepted →
      loadRecord srec memory =
        { flowL := flow 2, flowR := flow 24, crowd := clamped (b 46) 1 32, podAudio := flag (b 47) 0,
          twoOut := flag (b 47) 1, twoIn := flag (b 47) 2, idleOut := pattern 48, idleIn := pattern 54,
          volume := clamped (bits (b 60) 7 4) 0 14, sidetone := bits (b 60) 3 0,
          motionRate := clamped (bits (b 61) 1 0) 0 2, wearLink := flag (b 61) 2,
          domains :=
            (List.range 6).map fun i =>
              { override := flag (b 62) i, wanted := flag (b 63) i, priority := bits (two (64 + 2 * i)) 15 13,
                nominal := clamped (bits (two (64 + 2 * i)) 12 0) 0 6000 },
          rail := scale 76, load := scale 79, aux := scale 82,
          admitMv := if rails then 100 * b 85 else 11000, shedMv := if rails then 100 * b 86 else 10400,
          cutoffMv := if rails then 100 * b 87 else 9800, brownoutMv := if rails then 100 * b 88 else 9000,
          strapLimit := 100 * clamped (b 89) 0 200, batteryFloor := 100 * clamped (b 90) 0 200,
          mask := BitVec.ofNat 19 (bits (three 91) 18 0), outA := output (bits (b 94) 2 0),
          outB := output (bits (b 94) 6 4) }))

/-- O6. A step on an empty queue is one slot of the local reference (that it is, and that it changes nothing before the end of
LOADING, is the model's choice, log entry 3): the timing of each transmitter and receiver runs on, and with it CONSOLE's lane
time, a following clock with its offset, or a free-running clock by one (R112, R113); time is settled as R112 and R114 give;
the relay wait falls and ends in RELAY_TIMEOUT (R195), the silence count rises and ends in SENSOR_SILENT (R124), the pulses
run down and a SUPERFRAME_PULSE starts where the clock lands on a multiple of 1024 (R187), and the 65536th slot out of LOCKED
makes the entries that a receiver feeds absent (R23). That the slot ends these counts itself and starts a pulse at any clock
multiple of 1024 are the model's choices (log entries 7 and 35). -/
def Obligations.AnEmptyStepIsOneSlot : Prop :=
  ∀ s : State, s.pending = [] →
    (¬s.live → step s = .next s) ∧
    (s.live →
      let h := s.service.holder
      let lastOut (l : Lane) := (s.rx.get l).state ≠ .locked ∧ (s.rx.get l).outOfLock = 65535
      let pulse (f : OutFn) (left : Nat) (t : State) : Nat :=
        if f = .superframePulse ∧ t.clock ≠ s.clock ∧ t.clock.toNat % 1024 = 0 then 64 else left - 1
      let threshold : Nat := if s.cfg.motionRate = 0 then 640000 else if s.cfg.motionRate = 1 then 320000 else 160000
      ∃ t, step s = .next t ∧ t.localSlot = s.localSlot + 1 ∧ t.start = s.start ∧ t.pending = [] ∧ t.seqs = s.seqs ∧ t.surveyed = s.surveyed ∧
        (∀ l,
          t.tx.get l =
            { s.tx.get l with
              offset := if (s.tx.get l).role.sends = true ∧ (s.tx.get l).begun = true then (s.tx.get l).offset + 1
                else (s.tx.get l).offset,
              fifo := (t.tx.get l).fifo }) ∧
        (∀ l,
          t.rx.get l =
            { s.rx.get l with
              offset := if (s.rx.get l).state = .confirm ∨ (s.rx.get l).state = .locked then (s.rx.get l).offset + 1
                else (s.rx.get l).offset,
              outOfLock := if (s.rx.get l).state = .locked then (s.rx.get l).outOfLock
                else min ((s.rx.get l).outOfLock + 1) 65536 }) ∧
        (s.station = .console → t.clock = slotTime s.tx.down.count s.tx.down.frame t.tx.down.offset ∧ t.settled = true) ∧
        (s.station ≠ .console → s.rx.down.state = .locked → ∀ n, s.rx.down.count = some n →
          t.clock = slotTime n s.rx.down.frame (s.rx.down.offset + 1) + s.surveyed.offset) ∧
        (s.station ≠ .console → s.rx.down.state ≠ .locked ∨ s.rx.down.count = none → t.clock = s.clock + 1) ∧
        (s.station ≠ .console →
          (t.settled = true ↔
            s.surveyed.known = true ∧ s.rx.down.state = .locked ∧ s.rx.down.count ≠ none ∧ s.rx.down.fault = false)) ∧
        (h.state = .outstanding → 2 ≤ h.wait →
          t.service = { s.service with holder := { h with wait := h.wait - 1 } }) ∧
        (h.state = .outstanding → h.wait ≤ 1 →
          t.service = { s.service with holder := { h with state := .idle, wait := 0, count := none, parts := [] } } ∧
          ∃ n ∈ t.notices, n.kind = .relayTimeout ∧ n.subject = .relay ∧
            n.value = BitVec.ofNat 32 (h.target.num * 256 + h.tag.toNat)) ∧
        (h.state ≠ .outstanding → t.service = s.service) ∧
        t.pulses.a = pulse s.cfg.outA s.pulses.a t ∧ t.pulses.b = pulse s.cfg.outB s.pulses.b t ∧
        (∀ l, lastOut l → ∀ x, feeds s.station l x = true →
          (t.stations.get x).present = false ∧ (t.stations.get x).status = 0) ∧
        (∀ x, (∀ l, feeds s.station l x = true → ¬lastOut l) → t.stations.get x = s.stations.get x) ∧
        ((∀ l, ¬lastOut l) →
          t = { s with
            localSlot := t.localSlot, clock := t.clock, pulses := t.pulses, rx := t.rx, tx := t.tx, motion := t.motion,
            notices := t.notices, service := t.service } ∧
          (∀ l, (t.tx.get l).fifo = (s.tx.get l).fifo) ∧
          (s.station = .headset → s.motion.state = .sampling →
            (s.motion.silence + 1 < threshold → t.motion = { s.motion with silence := s.motion.silence + 1 }) ∧
            (s.motion.silence + 1 = threshold →
              t.motion = { s.motion with silence := threshold } ∧
              ∃ n ∈ t.notices, n.kind = .sensorSilent ∧ n.subject = .flow .motion ∧
                n.value = BitVec.ofNat 32 (if s.cfg.motionRate = 0 then 500 else if s.cfg.motionRate = 1 then 1000 else 2000)) ∧
            (threshold ≤ s.motion.silence → t.motion = s.motion)) ∧
          (s.station ≠ .headset ∨ s.motion.state ≠ .sampling → t.motion = s.motion)))

/-- O7. ROLES_SETTLE, in LINKING before roles settle, gives the roles by the far-neighbour record. A transmitter that
becomes TERMINAL is silent at once, its FIFO emptied (R43), which is the model's reading (log entry 29); one that becomes
SUBSTITUTE posts LANE_STATE, its reading too (log entry 18). A far-side up RX that is not in use goes to DARK. Where a receiver
in use, from then on the down RX of every station but CONSOLE and the up RX of one with a far neighbour (R1), is not LOCKED, the
node stays in LINKING; where none is in use or every one is LOCKED already, LINKING ends with it (R201), in the state that
END_OF_LINKING makes of the settled one (O8). That both fall in one instant is the model's reading (log entry 29). -/
def Obligations.RolesSettleByTheFarNeighbour : Prop :=
  ∀ s : State, s.start = .linking → s.settledRoles = false →
    ∃ u t, exec .rolesSettle s = .next t ∧
      u = { s with settledRoles := true, rx := u.rx, tx := u.tx, notices := u.notices } ∧
      u.rx.down = s.rx.down ∧ (s.farNeighbour = true → u.rx = s.rx) ∧ (s.farNeighbour = false → u.rx.up.state = .dark) ∧
      (let ready (l : Lane) := (s.rx.get l).state = .locked
       let waits := (s.station ≠ .console ∧ ¬ready .down) ∨ (s.farNeighbour = true ∧ ¬ready .up)
       (waits → t = u ∧ t.start = .linking) ∧ (¬waits → t.start = .running ∧ exec .endOfLinking u = .next t) ∧
       (s.station = .console → u.tx = { s.tx with down := { s.tx.down with role := .origin, quiet := u.tx.down.quiet } }) ∧
       (s.station ≠ .console → s.farNeighbour = false →
         u.tx = ⟨{ s.tx.down with role := .terminal, fifo := [], line := none },
           { s.tx.up with role := .origin, quiet := u.tx.up.quiet }⟩) ∧
       (s.station ≠ .console → s.farNeighbour = true → ∀ l,
         (ready l → u.tx.get l = { s.tx.get l with follows := true }) ∧
         (¬ready l →
           u.tx.get l =
             { s.tx.get l with
               role := .substitute, follows := false, own := decide ((s.tx.get l).role = .provisional), carry := none } ∧
           ∃ n ∈ t.notices, n.kind = .laneState ∧ n.subject = .lane l ∧
             n.value = BitVec.ofNat 32 (RxState.code (s.rx.get l).state * 16 + 2)))) ∧
      t.settledRoles = true ∧ t.farNeighbour = s.farNeighbour ∧
      (s.station = .console → t.tx.down.role = .origin ∧ t.tx.up.role = s.tx.up.role ∧
        (∃ q, t.tx.down.quiet = some q ∧ q.lane = .active)) ∧
      (s.station ≠ .console → s.farNeighbour = false →
        t.tx.down.role = .terminal ∧ t.tx.up.role = .origin ∧ (∃ q, t.tx.up.quiet = some q ∧ q.lane = .active)) ∧
      (s.station ≠ .console → s.farNeighbour = true → ∀ l,
        ((s.rx.get l).state = .locked → (t.tx.get l).role = (s.tx.get l).role ∧ (t.tx.get l).follows = true) ∧
        ((s.rx.get l).state ≠ .locked → (t.tx.get l).role = .substitute)) ∧
      (s.farNeighbour = false → t.rx.up.state = .dark) ∧
      ∀ l, (t.tx.get l).count = (s.tx.get l).count ∧ (t.tx.get l).frame = (s.tx.get l).frame

/-- O8. LINKING ends, by END_OF_LINKING once every receiver in use is LOCKED or by LINKING_TIMEOUT: the node is RUNNING, a
RESET_CAUSE notice with the cause waits, and no destination record it holds is CLOSED: a picture record enters LISTENING where
the display domain is ON, else HOLDING, its eye's buffer and layer map emptied, any other enters LISTENING, none with an
expected number, and the sink follows (R57, R108, R135). Records and units follow the domains as they stand. At HEADSET a
picture record goes from HOLDING to LISTENING as the display domain becomes ON and back as it leaves ON, with those same
effects (R57, R108). A source is open while the station holds it, its clock is present and its domain is ON, and each change
sets its position to 0 and discards gathered frames (R55, R132). A sink is out of MUTED while its record is LISTENING and its
domain ON: it enters PRIMING with its buffer empty and no expected number, and MUTED with an idle register besides (R135).
Entry to RUNNING calls for an event report (R178), whose test O47 gives, and then CONSOLE starts a survey for each station that
is present, with the next token and an ECHO offered (R115, R116), and any other station offers RESURVEY (R118); nothing else
changes. That the report is called before the surveys start, and that these start in the order POD, HEADSET, STRAP, are the
model's choices (log entries 10 and 44). -/
def Obligations.LinkingEndsInRunning : Prop :=
  (∀ (c : Instr) (s : State), s.start = .linking → s.settledRoles = true →
    (c = .linkingTimeout ∨
      (c = .endOfLinking ∧ ∀ l, s.inUse l = true → (s.rx.get l).state = .locked)) →
    ∃ t, exec c s = .next t ∧ t.start = .running ∧
      (∀ f d, t.dst.get f = some d → d.state ≠ .closed ∧ d.expected = none) ∧
      (∀ f, (t.dst.get f).isSome = (s.dst.get f).isSome) ∧
      (∀ e d, t.dst.get (Eye.flow e) = some d →
        d.state = (if s.domainOn 1 then .listening else .holding) ∧
        t.eyes.get e =
          { s.eyes.get e with
            buffer := [], map := [], reasm := .waitStart,
            lastTaken := if s.domainOn 1 then none else (s.eyes.get e).lastTaken }) ∧
      (∀ e, s.dst.get (Eye.flow e) = none → t.eyes.get e = s.eyes.get e) ∧
      (∀ f ∈ [FlowId.motion, .audioOut, .audioIn], ∀ d, t.dst.get f = some d → d.state = .listening) ∧
      t.audio = ({ s with dst := t.dst } : State).followSink.audio ∧
      (∃ n ∈ t.notices, n.kind = .resetCause ∧ n.subject = .reset ∧ n.value = BitVec.ofNat 32 (Cause.code s.cause)) ∧
      t.rx = s.rx ∧ t.stations = s.stations ∧ t.clock = s.clock ∧ t.seqs = s.seqs ∧ t.counters = s.counters ∧
      (let push (x : Tx) (c : Ctl) : Tx :=
         { x with fifo := if x.role.sends = true ∧ x.fifo.length < 8 then x.fifo ++ [c] else x.fifo }
       let survey (x : State) (y : Station) : State :=
         let token := x.tokens + 1
         if (x.stations.get y).present then
           { x with
             tokens := token, tx := { x.tx with down := push x.tx.down (.echo y token) },
             surveys := x.surveys.set y
               { x.surveys.get y with
                 state := .sending, token := token, failed := 0, unknown := false,
                 discarded := !decide (x.tx.down.role.sends = true ∧ x.tx.down.fifo.length < 8) } }
         else x
       let entered : State :=
         { s with
           start := .running, dst := t.dst, eyes := t.eyes, audio := t.audio, notices := t.notices,
           balance := { s.balance with event := true } }
       let called := entered.reportTest
       (s.station = .console → t = [Station.pod, .headset, .strap].foldl survey called) ∧
       (s.station ≠ .console → t = { called with tx := { called.tx with up := push called.tx.up .resurvey } }) ∧
       (s.station = .console → ∀ y, y ≠ .console →
         ((s.stations.get y).present = true → (t.surveys.get y).state = .sending ∧ (t.surveys.get y).failed = 0 ∧
           (t.surveys.get y).unknown = false ∧ (t.surveys.get y).token ≠ s.tokens) ∧
         ((s.stations.get y).present = false → t.surveys.get y = s.surveys.get y)) ∧
       (s.station ≠ .console → t.surveys = s.surveys ∧ t.tokens = s.tokens))) ∧
  (∀ s : State,
    let t := s.followDisplay
    (s.station ≠ .headset → t = s) ∧ t = { s with dst := t.dst, eyes := t.eyes } ∧
    (∀ f ∈ [FlowId.motion, .audioOut, .audioIn], t.dst.get f = s.dst.get f) ∧
    (s.station = .headset → ∀ e,
      let d := s.dst.get (Eye.flow e)
      let state := d.map fun x => x.state
      let emptied : EyeDst := { s.eyes.get e with buffer := [], map := [], reasm := .waitStart }
      (state = some .listening → s.domainOn 1 = false →
        t.dst.get (Eye.flow e) = some ⟨.holding, none⟩ ∧ t.eyes.get e = emptied) ∧
      (state = some .holding → s.domainOn 1 = true →
        t.dst.get (Eye.flow e) = some ⟨.listening, none⟩ ∧ t.eyes.get e = { emptied with lastTaken := none }) ∧
      (state ≠ some .listening ∨ s.domainOn 1 = true → state ≠ some .holding ∨ s.domainOn 1 = false →
        t.dst.get (Eye.flow e) = d ∧ t.eyes.get e = s.eyes.get e))) ∧
  ∀ s : State,
    let a := s.audio
    let holds := s.station = .console ∨ s.audioStation = s.station
    let sourceOn := s.domainOn (match s.station with | .console | .strap => 0 | .pod => 2 | .headset => 3)
    let opened : Bool := decide (holds ∧ a.clock = true ∧ sourceOn = true)
    let sinkOn := s.domainOn (match s.station with | .console | .strap => 0 | .pod => 1 | .headset => 3)
    let record := s.dst.get (if s.station = .console then .audioIn else .audioOut)
    let awake := (record.map fun x => x.state) = some .listening ∧ sinkOn = true
    (opened = a.source.opened → s.followSource = s) ∧
    (opened ≠ a.source.opened →
      s.followSource = { s with audio := { a with source := { a.source with opened := opened, position := 0, frames := [] } } }) ∧
    (awake → a.sink.state = .muted →
      s.followSink = { s with audio := { a with sink := { a.sink with state := .priming, buffer := [], expected := none } } }) ∧
    (¬awake → a.sink.state ≠ .muted →
      s.followSink =
        { s with
          audio :=
            { a with
              sink := { a.sink with state := .muted, buffer := [], play := .idle, expected := none, repeatDone := false } } }) ∧
    ((awake ↔ a.sink.state ≠ .muted) → s.followSink = s)

/-! ### Lane receivers and the station table (chapter 1) -/

/-- O9. Signal on a port (R7, R19, R21). SIGNAL_PRESENT takes a running receiver from DARK to SEARCH; the far-side one, before
roles settle, thereby finds a far neighbour; after roles settled without one, it posts LATE_NEIGHBOUR once and changes no
role. SIGNAL_ABSENT takes a receiver outside LOCKED to DARK. Other lanes, transmitters and lane counters stay. A LOCKED
receiver whose signal goes leaves LOCKED for DARK with every consequence of that loss (R13, R16, R60): one more relock where
it counts, fault-seen, state in effect and count cleared, the LISTENING records the lane feeds without an expected number,
LANE_STATE posted where it is in use, and a REPEATING transmitter SUBSTITUTE, its numbering and count stepped over the silent
frames it followed. When LANE_STATE is posted, and the silent frames, are the model's reading (log entries 18 and 23). -/
def Obligations.SignalMovesTheReceiver : Prop :=
  (∀ (l : Lane) (s : State), s.live →
     (fitted s.station l = true → s.settledRoles = false ∨ s.inUse l = true → (s.rx.get l).state = .dark →
       ∃ t, exec (.signalPresent l) s = .next t ∧ (t.rx.get l).state = .search ∧ t.pins.signal.get l = true ∧
         (l = .up → s.settledRoles = false → t.farNeighbour = true) ∧
         (l = .down → t.farNeighbour = s.farNeighbour) ∧ t.tx = s.tx ∧ t.notices = s.notices ∧
         (∀ k, k ≠ l → t.rx.get k = s.rx.get k) ∧
         (t.rx.get l).alignErrors = (s.rx.get l).alignErrors ∧ (t.rx.get l).relocks = (s.rx.get l).relocks ∧
         (t.rx.get l).hopErrors = (s.rx.get l).hopErrors ∧ (t.rx.get l).cellErrors = (s.rx.get l).cellErrors) ∧
     (l = .up → s.settledRoles = true → s.farNeighbour = false →
       ∃ t, exec (.signalPresent l) s = .next t ∧ t.rx = s.rx ∧ t.tx = s.tx ∧ t.farNeighbour = false ∧ t.lateSeen = true ∧
         (s.lateSeen = true → t.notices = s.notices) ∧
         (s.lateSeen = false → ∃ n ∈ t.notices, n.kind = .lateNeighbour ∧ n.subject = .lane .up)) ∧
     ((s.rx.get l).state ≠ .locked →
       ∃ t, exec (.signalAbsent l) s = .next t ∧ (t.rx.get l).state = .dark ∧ t.pins.signal.get l = false ∧ t.tx = s.tx ∧
         (∀ k, k ≠ l → t.rx.get k = s.rx.get k) ∧ t.notices = s.notices ∧
         (t.rx.get l).relocks = (s.rx.get l).relocks ∧ (t.rx.get l).alignErrors = (s.rx.get l).alignErrors ∧
         (t.rx.get l).hopErrors = (s.rx.get l).hopErrors ∧ (t.rx.get l).cellErrors = (s.rx.get l).cellErrors)) ∧
  (∀ (l : Lane) (s : State), s.live → (s.rx.get l).state = .locked →
     ∃ t, exec (.signalAbsent l) s = .next t ∧ (t.rx.get l).state = .dark ∧
       (t.rx.get l).relocks =
         (if s.running ∧ s.inUse l = true then min ((s.rx.get l).relocks + 1) 65535 else (s.rx.get l).relocks) ∧
       (t.rx.get l).alignErrors = (s.rx.get l).alignErrors ∧ (t.rx.get l).hopErrors = (s.rx.get l).hopErrors ∧
       (t.rx.get l).cellErrors = (s.rx.get l).cellErrors ∧
       (t.rx.get l).fault = false ∧ (t.rx.get l).inEffect = none ∧ (t.rx.get l).count = none ∧
       ((s.tx.get l).role = .repeating → (t.tx.get l).role = .substitute) ∧
       ((s.tx.get l).role = .provisional → (s.tx.get l).follows = true → (t.tx.get l).role = .substitute) ∧
       ((s.tx.get l).role ≠ .repeating → (s.tx.get l).role ≠ .provisional → t.tx.get l = s.tx.get l) ∧
       ((s.tx.get l).role ≠ .repeating →
         (t.tx.get l).count = (s.tx.get l).count ∧ (t.tx.get l).frame = (s.tx.get l).frame) ∧
       ((s.tx.get l).role = .repeating →
         let n := (s.tx.get l).frame.toNat + (s.tx.get l).offset / 64
         (t.tx.get l).count = (s.tx.get l).count + BitVec.ofNat 32 (n / 16) ∧ (t.tx.get l).frame = BitVec.ofNat 4 n) ∧
       (s.inUse l = true →
         ∃ n ∈ t.notices, n.kind = .laneState ∧ n.subject = .lane l ∧
           n.value = BitVec.ofNat 32 (TxRole.code (t.tx.get l).role)) ∧
       (l = .down → ∀ f ∈ [FlowId.pictureL, .pictureR, .audioOut], ∀ d,
         t.dst.get f = some d → d.state = .listening → d.expected = none) ∧
       (l = .up → ∀ f ∈ [FlowId.motion, .audioIn], ∀ d, t.dst.get f = some d → d.state = .listening → d.expected = none) ∧
       (∀ k, k ≠ l → t.rx.get k = s.rx.get k ∧ t.tx.get k = s.tx.get k) ∧
       t.stations = s.stations ∧ t.paced = s.paced ∧ t.power = s.power ∧ t.seqs = s.seqs)

/-- O10. In SEARCH a correct alignment cell is a candidate: the receiver goes to CONFIRM with one correct cell counted, its
frame number and lane state taken (R8). In CONFIRM the expected cell counts a second, a third puts the receiver in LOCKED,
and an error or silence returns it to SEARCH and adds nothing to the alignment errors (R8, R10). The down RX that enters LOCKED
in RUNNING offers RESURVEY at a station other than CONSOLE (R118); nothing else is sent, and no survey record changes. That a
receiver posts LANE_STATE as it locks, before roles settle too, is the model's reading (log entry 18). -/
def Obligations.ThreeCorrectCellsLock : Prop :=
  ∀ (l : Lane) (s : State), s.live →
    (∀ c i, readAlign c = some i → (s.rx.get l).state = .search →
      ∃ t, exec (.candidateAlignmentCell l c) s = .next t ∧ (t.rx.get l).state = .confirm ∧ (t.rx.get l).confirm = 1 ∧
        (t.rx.get l).frame = i.frame ∧ (t.rx.get l).inEffect = some i.lane ∧
        (i.frame = 0 → (t.rx.get l).count = some i.count) ∧ (t.rx.get l).alignErrors = (s.rx.get l).alignErrors ∧
        (∀ k, k ≠ l → t.rx.get k = s.rx.get k) ∧ t = { s with rx := t.rx }) ∧
    (∀ found i, (s.rx.get l).state = .confirm → (s.rx.get l).correct found = some i →
      ((s.rx.get l).confirm = 1 →
        ∃ t, exec (.expectedAlignmentCell l found) s = .next t ∧ (t.rx.get l).state = .confirm ∧
          (t.rx.get l).confirm = 2 ∧ (t.rx.get l).frame = (s.rx.get l).expectedFrame ∧
          (t.rx.get l).inEffect = some i.lane ∧ t = { s with rx := t.rx }) ∧
      ((s.rx.get l).confirm = 2 →
        ∃ t, exec (.expectedAlignmentCell l found) s = .next t ∧ (t.rx.get l).state = .locked ∧
          (t.rx.get l).errRun = 0 ∧ (t.rx.get l).history = [] ∧ (t.rx.get l).fault = i.fault ∧
          (t.rx.get l).inEffect = some i.lane ∧ (t.rx.get l).frame = (s.rx.get l).expectedFrame ∧
          (∃ n ∈ t.notices, n.kind = .laneState ∧ n.subject = .lane l ∧
            n.value = BitVec.ofNat 32 (48 + TxRole.code (s.tx.get l).role)) ∧
          (let up := s.tx.up
           let resurveys := l = .down ∧ s.running ∧ s.station ≠ .console
           (resurveys →
             t.tx =
               { s.tx with
                 up := { up with
                   fifo := if up.role.sends = true ∧ up.fifo.length < 8 then up.fifo ++ [.resurvey] else up.fifo } }) ∧
           (¬resurveys → t.tx = s.tx) ∧ t.surveys = s.surveys ∧ t.surveyed = s.surveyed ∧ t.tokens = s.tokens))) ∧
    (∀ found, (s.rx.get l).state = .confirm → (s.rx.get l).correct found = none →
      ∃ t, exec (.expectedAlignmentCell l found) s = .next t ∧ (t.rx.get l).state = .search ∧
        (t.rx.get l).alignErrors = (s.rx.get l).alignErrors ∧ t = { s with rx := t.rx })

/-- O11. While LOCKED an alignment cell in error, or silence, adds one to the run and to the counter; the fourth in a row
takes the receiver to SEARCH (R10). While LOCKED a correct alignment cell clears the run, sets the state in effect,
fault-seen and, in frame 0, the count (R9, R10, R14). Where neither the payload slots of the frame before nor the state in
effect were DEEP, its hop check is evaluated: the result joins the history of the 16 latest, and a mismatch is counted
(R11). 12 failures or more in that history take the receiver to SEARCH; with fewer it stays LOCKED with that history,
emptied by a cell that brings DEEP (R12). That the 12 are judged before it is emptied is the model's choice (log entry 39).
What a receiver that stays LOCKED keeps is said whole, after a correct cell and after one in error: the cell's fields, the
latest byte of the position (R4, R5), whether this frame and the last were begun by a correct ACTIVE cell (R36), the state
in effect before (R9, R11), the CRC begun anew (R6), and the frame number and count that run on (R9). A loss of LOCKED, by
the fourth error or by 12 failures, has every consequence of R13: one more relock where it counts, a receiver cleared but
for its counters and the cells it handed over, the LISTENING records the lane feeds without an expected number (R60),
LANE_STATE where the receiver is in use, and a REPEATING transmitter SUBSTITUTE (R16), its numbering and count stepped over
the silent frames it followed, with the cell of the frame in progress still owed: the one received, or in an error the
fields that run on. A provisional origin that follows becomes SUBSTITUTE too, and every other transmitter stays, a
SUBSTITUTE at a frame 0 that loses the lock among them (log entry 39). When LANE_STATE is posted, and the cell owed, are the
model's readings (log entries 18 and 23), and so is which cells count as sent under DEEP (log entry 26). -/
def Obligations.LockedCellsKeepOrLoseLock : Prop :=
  let lost (l : Lane) (s t : State) (owed : Option AlignInfo) : Prop :=
    let r := s.rx.get l
    let x := s.tx.get l
    let n := x.frame.toNat + x.offset / 64
    let fed : List FlowId := match l with | .down => [.pictureL, .pictureR, .audioOut] | .up => [.motion, .audioIn]
    t.rx.get l =
      { state := .search, confirm := 0, errRun := 0, history := [], inEffect := none, count := none, frame := 0, offset := 0,
        fault := false, info := none, infoOk := false, bytes := ⟨none, none, none, none⟩, activeThis := false,
        activePrev := false, payloadState := none, crc := 0xFFFF, outOfLock := 0, alignErrors := (t.rx.get l).alignErrors,
        hopErrors := (t.rx.get l).hopErrors, cellErrors := r.cellErrors,
        relocks := if s.running ∧ s.inUse l = true then min (r.relocks + 1) 65535 else r.relocks, handed := r.handed } ∧
    t.tx.get l =
      (if x.role = .repeating then
        { x with
          role := .substitute, frame := BitVec.ofNat 4 n, count := x.count + BitVec.ofNat 32 (n / 16), offset := x.offset % 64,
          follows := false, own := false, carry := owed }
      else if x.role = .provisional ∧ x.follows = true then
        { x with role := .substitute, follows := false, own := true, carry := none }
      else x) ∧
    (∀ f,
      t.dst.get f =
        if f ∈ fed ∧ (s.dst.get f).map (fun d => d.state) = some .listening then some ⟨.listening, none⟩ else s.dst.get f) ∧
    (s.inUse l = true →
      ∃ m ∈ t.notices, m.kind = .laneState ∧ m.subject = .lane l ∧
        m.value = BitVec.ofNat 32 (16 + TxRole.code (t.tx.get l).role)) ∧
    (s.inUse l = false → t.notices = s.notices) ∧ (∀ k, k ≠ l → t.rx.get k = s.rx.get k ∧ t.tx.get k = s.tx.get k) ∧
    t =
      { s with
        rx := t.rx, tx := t.tx, dst := t.dst, eyes := t.eyes, counters := t.counters, motionOut := t.motionOut,
        clock := t.clock, pulses := t.pulses, notices := t.notices }
  (∀ (l : Lane) (found : Option Cell) (s : State), s.live → (s.rx.get l).state = .locked →
     (s.rx.get l).correct found = none →
     ∃ t, exec (.expectedAlignmentCell l found) s = .next t ∧
       (t.rx.get l).alignErrors =
         (if s.running ∧ s.inUse l = true then min ((s.rx.get l).alignErrors + 1) 65535 else (s.rx.get l).alignErrors) ∧
       ((s.rx.get l).errRun < 3 →
         (t.rx.get l).state = .locked ∧ (t.rx.get l).errRun = (s.rx.get l).errRun + 1 ∧ t.tx = s.tx ∧
           (t.rx.get l).frame = (s.rx.get l).expectedFrame ∧ (t.rx.get l).inEffect = (s.rx.get l).inEffect ∧
           (let r := s.rx.get l
            let f := r.expectedFrame
            let step (n : Count32) : Count32 := if f = 0 then n + 1 else n
            t.rx.get l =
              { r with
                frame := f, offset := 0, count := r.count.map step,
                info := r.info.map fun i => { i with frame := f, count := step i.count },
                infoOk := false, activeThis := false, activePrev := r.activeThis, payloadState := r.inEffect,
                crc := 0xFFFF, errRun := r.errRun + 1, alignErrors := (t.rx.get l).alignErrors })) ∧
       (3 ≤ (s.rx.get l).errRun →
         (t.rx.get l).state = .search ∧ (t.rx.get l).inEffect = none ∧ (t.rx.get l).fault = false ∧
           ((s.tx.get l).role = .repeating → (t.tx.get l).role = .substitute) ∧
           (let r := s.rx.get l
            let f := r.expectedFrame
            let owed :=
              r.info.map fun i =>
                let count := if f = 0 then i.count + 1 else i.count
                let owner := stationOf (if f = 0 ∧ (r.inEffect = some .deep ∨ i.lane = .deep) then count.toNat else f.toNat)
                { i with frame := f, count := count, status := (r.bytes.get owner).getD 0 }
            lost l s t owed)) ∧
       ∀ k, k ≠ l → t.rx.get k = s.rx.get k ∧ t.tx.get k = s.tx.get k) ∧
  (∀ (l : Lane) (found : Option Cell) (i : AlignInfo) (s : State), s.live → (s.rx.get l).state = .locked →
     (s.rx.get l).correct found = some i →
     let evaluated := (s.rx.get l).payloadState ≠ some .deep ∧ (s.rx.get l).inEffect ≠ some .deep
     let history :=
       if evaluated then (((s.rx.get l).crc != i.hop) :: (s.rx.get l).history).take 16 else (s.rx.get l).history
     let failures := history.count true
     ∃ t, exec (.expectedAlignmentCell l found) s = .next t ∧
       (failures < 12 →
         (t.rx.get l).state = .locked ∧ (t.rx.get l).errRun = 0 ∧ (t.rx.get l).fault = i.fault ∧
         (t.rx.get l).inEffect = some i.lane ∧ (t.rx.get l).frame = i.frame ∧
         (i.frame = 0 → (t.rx.get l).count = some i.count) ∧
         (t.rx.get l).history = (if i.lane = .deep then [] else history) ∧
         (i.frame = 0 → (s.tx.get l).role = .substitute → (t.tx.get l).role = .repeating) ∧
         (i.frame ≠ 0 → (t.tx.get l).role = (s.tx.get l).role) ∧
         (let r := s.rx.get l
          let x :=
            stationOf (if i.frame = 0 ∧ (r.inEffect = some .deep ∨ i.lane = .deep) then i.count.toNat else i.frame.toNat)
          t.rx.get l =
            { r with
              frame := i.frame, offset := 0, count := if i.frame = 0 then some i.count else r.count,
              info := some i, infoOk := true, bytes := r.bytes.set x (some i.status), inEffect := some i.lane,
              activeThis := decide (i.lane = .active), activePrev := r.activeThis, payloadState := r.inEffect,
              crc := 0xFFFF, errRun := 0, fault := i.fault, history := if i.lane = .deep then [] else history,
              hopErrors := (t.rx.get l).hopErrors })) ∧
       (12 ≤ failures → (t.rx.get l).state = .search ∧ (t.rx.get l).history = [] ∧ lost l s t (some i)) ∧
       (t.rx.get l).hopErrors =
         (if s.running ∧ s.inUse l = true ∧ evaluated ∧ (s.rx.get l).crc ≠ i.hop then
           min ((s.rx.get l).hopErrors + 1) 65535
         else (s.rx.get l).hopErrors) ∧
       (t.rx.get l).alignErrors = (s.rx.get l).alignErrors)

/-- O12. A status byte handed on for a station by the receiver that feeds its entry is stored; with its present flag set the
entry is present with its run at zero, and the fourth reading in a row without it makes the entry absent (R22). Other
entries stay. A LOCKED receiver hands on the byte of each correct cell that does not lose it the lock, for the station its
position belongs to (R5, R14), and a change of presence is noticed there; a cell in error, one whose hop check loses the
lock, and every cell in CONFIRM, the locking one among them, hand nothing on. Which cells hand their byte on, and which
count as sent under DEEP, is the model's reading (log entries 17 and 26). STATION_TABLE_TIMEOUT makes every entry that the
receiver feeds absent with a status byte of zero (R23); no other entry changes, and STATION_ABSENT waits for each that was
present. POD's entry among them makes HEADSET the audio station, with the effects of R48 as below, in states in which the
power rules hold (O59) and the units stand as their domains have them. The byte that POD's entry takes can change the audio
station (R48): HEADSET makes its flow 3 record, with no expected number, and a source that opens as R55 gives, or closes
both, empties the source queue and mutes the sink; CONSOLE forgets the expected number of its LISTENING flow 4 record;
destinations and audio otherwise stay. That the builder's position stays is the model's choice (log entry 42). At CONSOLE in
RUNNING a station that becomes present starts its survey: attempts failed 0, the mark clear, SENDING with the next token,
its ECHO offered to the down FIFO; at CONSOLE one that becomes absent, by its bytes or by STATION_TABLE_TIMEOUT, ends it:
IDLE with attempts failed 0 (R115, R116); surveys and tokens otherwise stay. The ECHO stands ahead of a POWER cell of the
same changes, the model's choice (log entry 52). -/
def Obligations.StatusBytesAndLongLossDecidePresence : Prop :=
  (∀ (l : Lane) (x : Station) (b : Byte) (s : State), s.live →
     let t := s.takeStatus l x b
     (feeds s.station l x = false → t = s) ∧
     (feeds s.station l x = true →
       (t.stations.get x).status = b ∧
       (b.getLsbD 7 = true → (t.stations.get x).present = true ∧ (t.stations.get x).absentRun = 0 ∧
         ((s.stations.get x).present = false →
           ∃ n ∈ t.notices, n.kind = .stationPresent ∧ n.subject = .station x)) ∧
       (b.getLsbD 7 = false →
         (t.stations.get x).absentRun = min ((s.stations.get x).absentRun + 1) 4 ∧
         ((s.stations.get x).absentRun < 3 → (t.stations.get x).present = (s.stations.get x).present) ∧
         (3 ≤ (s.stations.get x).absentRun → (t.stations.get x).present = false) ∧
         (3 ≤ (s.stations.get x).absentRun → (s.stations.get x).present = true →
           (t.stations.get x).delay = none ∧
             ∃ n ∈ t.notices, n.kind = .stationAbsent ∧ n.subject = .station x)) ∧
       (∀ y, y ≠ x → t.stations.get y = s.stations.get y) ∧
       (let v := s.surveys.get x
        let down := s.tx.down
        let room : Bool := decide (down.role.sends = true ∧ down.fifo.length < 8)
        let starts := s.station = .console ∧ s.running ∧ b.getLsbD 7 = true ∧ (s.stations.get x).present = false
        let ends := b.getLsbD 7 = false ∧ (s.stations.get x).present = true ∧ 3 ≤ (s.stations.get x).absentRun
        (starts →
          t.tokens = s.tokens + 1 ∧
          t.surveys =
            s.surveys.set x
              { v with state := .sending, token := s.tokens + 1, failed := 0, unknown := false, discarded := !room } ∧
          t.tx =
            { s.tx with
              down := { down with fifo := if room then down.fifo ++ [.echo x (s.tokens + 1)] else down.fifo } }) ∧
        (¬starts → t.tokens = s.tokens ∧ t.tx = s.tx) ∧
        (s.station = .console → ends →
          t.surveys = s.surveys.set x { v with state := .idle, failed := 0, discarded := false }) ∧
        (¬starts → ¬ends → t.surveys = s.surveys)) ∧
       (x = .pod → s.power.applied = s.appliedLevel →
         let follows (y : State) := t.audio = y.followSource.followSink.audio
         let after : State := { s with stations := t.stations, dst := t.dst }
         (t.audioStation = s.audioStation → t.dst = s.dst ∧ t.audio = s.audio) ∧
         (t.audioStation ≠ s.audioStation →
           (s.station = .headset → t.audioStation = .headset →
             t.dst = s.dst.set .audioOut (some ⟨if s.running then .listening else .closed, none⟩) ∧ follows after) ∧
           (s.station = .headset → t.audioStation = .pod →
             t.dst = s.dst.set .audioOut none ∧ t.audio.source.queue = [] ∧ t.audio.source.opened = false ∧
             t.audio.sink.state = .muted ∧
             follows { after with audio := { s.audio with source := { s.audio.source with queue := [] } } }) ∧
           (s.station = .console →
             t.dst =
               (match s.dst.get .audioIn with
                | some ⟨.listening, _⟩ => s.dst.set .audioIn (some ⟨.listening, none⟩)
                | _ => s.dst) ∧ t.audio = s.audio) ∧
           (s.station = .strap → t.dst = s.dst ∧ t.audio = s.audio))))) ∧
  (∀ (l : Lane) (found : Option Cell) (i : AlignInfo) (s : State), s.live → (s.rx.get l).state = .locked →
     (s.rx.get l).correct found = some i →
     let r := s.rx.get l
     let history :=
       if r.payloadState ≠ some .deep ∧ r.inEffect ≠ some .deep then ((r.crc != i.hop) :: r.history).take 16 else r.history
     let x :=
       stationOf (if i.frame = 0 ∧ (r.inEffect = some .deep ∨ i.lane = .deep) then i.count.toNat else i.frame.toNat)
     let v := s.stations.get x
     ∃ t, exec (.expectedAlignmentCell l found) s = .next t ∧
       (history.count true < 12 →
         t.stations = (s.takeStatus l x i.status).stations ∧ t.dst = (s.takeStatus l x i.status).dst ∧
         t.audio = (s.takeStatus l x i.status).audio ∧ t.surveys = (s.takeStatus l x i.status).surveys ∧
         t.tokens = (s.takeStatus l x i.status).tokens) ∧
       (history.count true < 12 → feeds s.station l x = true → s.station = .console → s.running →
         i.status.getLsbD 7 = true → v.present = false → s.tx.down.role.sends = true → s.tx.down.fifo.length < 8 →
         t.tx.down.fifo[s.tx.down.fifo.length]? = some (.echo x (s.tokens + 1))) ∧
       (history.count true < 12 → feeds s.station l x = true →
         (i.status.getLsbD 7 = true → v.present = false →
           ∃ n ∈ t.notices, n.kind = .stationPresent ∧ n.subject = .station x) ∧
         (i.status.getLsbD 7 = false → v.present = true → 3 ≤ v.absentRun →
           ∃ n ∈ t.notices, n.kind = .stationAbsent ∧ n.subject = .station x)) ∧
       (12 ≤ history.count true → t.stations = s.stations ∧ t.surveys = s.surveys ∧ t.tokens = s.tokens)) ∧
  (∀ (l : Lane) (found : Option Cell) (s : State), s.live →
     ((s.rx.get l).state = .locked ∧ (s.rx.get l).correct found = none) ∨ (s.rx.get l).state = .confirm →
     ∃ t, exec (.expectedAlignmentCell l found) s = .next t ∧ t.stations = s.stations ∧ t.surveys = s.surveys ∧
       t.tokens = s.tokens) ∧
  (∀ (l : Lane) (s : State), s.live → (s.rx.get l).state ≠ .locked →
     ∃ t, exec (.stationTableTimeout l) s = .next t ∧
       (∀ x, feeds s.station l x = true →
         (t.stations.get x).present = false ∧ (t.stations.get x).status = 0 ∧
         ((s.stations.get x).present = true → (t.stations.get x).delay = none)) ∧
       (∀ x, feeds s.station l x = false → t.stations.get x = s.stations.get x) ∧
       (∀ x, feeds s.station l x = true → (s.stations.get x).present = true →
         ∃ n ∈ t.notices, n.kind = .stationAbsent ∧ n.subject = .station x) ∧
       (t.audioStation = if feeds s.station l .pod = true then .headset else s.audioStation) ∧
       (s.ShedLevelHolds → s.follow = s →
         (t.audioStation = s.audioStation → t.dst = s.dst ∧ t.audio = s.audio) ∧
         (t.audioStation ≠ s.audioStation →
           (s.station = .headset →
             t.dst = s.dst.set .audioOut (some ⟨if s.running then .listening else .closed, none⟩) ∧
             t.audio = ({ s with stations := t.stations, dst := t.dst } : State).followSource.followSink.audio) ∧
           (s.station = .console →
             t.dst =
               (match s.dst.get .audioIn with
                | some ⟨.listening, _⟩ => s.dst.set .audioIn (some ⟨.listening, none⟩)
                | _ => s.dst) ∧ t.audio = s.audio) ∧
           (s.station = .strap → t.dst = s.dst ∧ t.audio = s.audio))) ∧
       (s.station = .console → ∀ x,
         let ends := feeds s.station l x = true ∧ (s.stations.get x).present = true
         (ends → t.surveys.get x = { s.surveys.get x with state := .idle, failed := 0, discarded := false }) ∧
         (¬ends → t.surveys.get x = s.surveys.get x)) ∧
       t.tokens = s.tokens ∧ t.rx = s.rx ∧ t.seqs = s.seqs ∧ t.paced = s.paced ∧ t.clock = s.clock)

/-! ### What a transmitter sends (chapters 1, 2, 9) -/

/-- O13. The lane-quiet machine over the sixteen observations of a superframe (R171 to R175): it writes the state it is in
into the cells of frames 0 to 14 and decides at frame 15. -/
def Obligations.LaneQuietDecidesAtFrame15 : Prop :=
  ∀ (q : Quiet) (os : List Observed), os.length = 16 →
    let r := q.run 0 os
    (q.lane ≠ .deep → ∀ n, n ≤ 15 → (q.run 0 (os.take n)).lane = q.lane) ∧
    (q.lane = .active → (∃ o ∈ os, o.need = true) → r.lane = .active) ∧
    (q.lane = .active → (∀ o ∈ os, o.need = false) → r.lane = .light ∧ r.quietCount = 0) ∧
    (q.lane = .light → (∃ o ∈ os, o.need = true) → r.lane = .active ∧ r.quietCount = 0) ∧
    (q.lane = .light → (∀ o ∈ os, o.need = false) → (∃ o ∈ os, o.hold = true ∨ o.reports = true) →
      r.lane = .light ∧ r.quietCount = 0) ∧
    (q.lane = .light → (∀ o ∈ os, o.need = false ∧ o.hold = false ∧ o.reports = false) → q.quietCount ≤ 2 →
      r.lane = .light ∧ r.quietCount = q.quietCount + 1) ∧
    (q.lane = .light → (∀ o ∈ os, o.need = false ∧ o.hold = false ∧ o.reports = false) → q.quietCount = 3 →
      r.lane = .deep ∧ r.quietCount = 0) ∧
    (q.lane = .waking → q.wakeBegins = true → r.lane = .waking ∧ r.wakeBegins = false ∧ r.wakeCount = q.wakeCount) ∧
    (q.lane = .waking → q.wakeBegins = false → q.wakeCount ≤ 2 → r.lane = .waking ∧ r.wakeCount = q.wakeCount + 1) ∧
    (q.lane = .waking → q.wakeBegins = false → q.wakeCount = 3 → r.lane = .active) ∧
    (q.lane = .deep → ∀ o : Observed,
      (o.need = true ∨ o.hold = true → (q.step 0 o).lane = .waking ∧ (q.step 0 o).wakeCount = 0) ∧
      (o.need = false → o.hold = false → q.step 0 o = q))

/-- O14. ALIGNMENT_CELL_SENT at a transmitter of its own timing, an ORIGIN, a provisional origin or a SUBSTITUTE with no
frame of the lost lane left to finish: the cell sent carries the frame and count of its own timing, its own station as
origin, the fault flag of a SUBSTITUTE alone, the lane state of its machine or ACTIVE, the hop check of the frame it sent
whole or 0xFFFF, and a status byte of zero in another station's position, its own byte in its own (R3 to R6). An ORIGIN's
machine after the cell is its step, for that frame, of the need, hold, report-owed and fresh-pending flags that its own
status byte or the latest byte of a present station shows (R171). The own status byte, bit by bit, at any moment: present
from LINKING on; need and hold of each lane (R62, R63), with a paced flow open by R53 and forced need on the report lanes;
report-owed, fresh-pending and shed-active (R181, R154). An ORIGIN's byte is that of the state its frame start leaves, the
credit added and the probes checked: that order is the model's reading (log entry 10). So are the count of superframes since
idle since modulo 2^32, by which a paced flow is open (log entry 40), which frame-0 cells count as sent under DEEP (log
entry 26), and that a SUBSTITUTE's own never do (log entry 51). -/
def Obligations.OwnFramesCarryTheirAlignmentCell : Prop :=
  (∀ s : State,
    let paced (e : Eye) := s.paced.get e
    let opened (e : Eye) :=
      (paced e).state ≠ .idle ∨ ∃ n, (paced e).idleSince = some n ∧ (s.tx.down.count - n).toNat < (s.params e).idleReset
    let toSend (e : Eye) :=
      (∃ r ∈ (paced e).queue, r.sent < r.total) ∨ ((paced e).state = .draining ∧ (paced e).queue = [])
    let audioLane : Lane := if s.station = .console then .down else .up
    let need (l : Lane) :=
      (s.tx.get l).fifo ≠ [] ∨ (l = .up ∧ s.station = .headset ∧ s.motion.queue ≠ []) ∨
        (l = audioLane ∧ s.audio.source.queue ≠ []) ∨ (l = .down ∧ s.station = .console ∧ ∃ e, toSend e) ∨
        (s.balance.forced = true ∧ (s.tx.get l).role.sends = true)
    let hold (l : Lane) :=
      (l = .down ∧ s.station = .console ∧ ∃ e, opened e) ∨ (l = audioLane ∧ s.audio.source.opened = true) ∨
        (l = .up ∧ s.station = .headset ∧ s.motion.state ≠ .off)
    let b := s.statusByte
    (b.getLsbD 7 = true ↔ s.live) ∧ (b.getLsbD 6 = true ↔ need .down) ∧ (b.getLsbD 5 = true ↔ hold .down) ∧
      (b.getLsbD 4 = true ↔ need .up) ∧ (b.getLsbD 3 = true ↔ hold .up) ∧ (b.getLsbD 2 = true ↔ 1 ≤ s.balance.b) ∧
      (b.getLsbD 1 = true ↔ s.balance.fresh = true) ∧
      (b.getLsbD 0 = true ↔ 0 < s.power.applied ∨ ∃ d ∈ s.power.domains, d.state = .shed)) ∧
  ∀ (l : Lane) (s : State), s.live →
    let x := s.tx.get l
    (x.role = .origin ∨ x.role = .provisional ∨ (x.role = .substitute ∧ x.carry = none)) →
    ∃ t i, exec (.alignmentCellSent l) s = .next t ∧ (t.tx.get l).line = some (alignCell s.station i) ∧
      i.frame = (if x.begun = false ∨ (x.role = .origin ∧ x.sentThis = some .deep) then 0 else x.frame + 1) ∧
      i.count = (if x.begun = true ∧ i.frame = 0 then x.count + 1 else x.count) ∧
      i.origin = s.station ∧ i.fault = (x.role == .substitute) ∧
      (x.role ≠ .origin → i.lane = .active) ∧
      (x.role = .origin →
        let begun := (s.modTx l fun x => x.begin i.frame i.count).consoleFrame l i.frame
        let reads (k : Nat) : Bool :=
          begun.statusByte.getLsbD k ||
            [Station.console, .pod, .headset, .strap].any fun y =>
              y != s.station && (s.stations.get y).present && (s.stations.get y).status.getLsbD k
        let q :=
          (x.quiet.getD { lane := .active, quietCount := 0, wakeCount := 0, wakeBegins := false, sawNeed := false, sawAny := false }).step
            i.frame
            { need := reads (match l with | .down => 6 | .up => 4), hold := reads (match l with | .down => 5 | .up => 3),
              reports := reads 2 || reads 1 }
        (t.tx.get l).quiet = some q ∧ i.lane = q.lane) ∧
      i.hop = (if x.whole = true ∧ x.sent = 63 then x.crc else 0xFFFF) ∧
      (let owner := stationOf (if x.role = .origin ∧ x.sentThis = some .deep then i.count.toNat else i.frame.toNat)
       let begun := s.modTx l fun x => x.begin i.frame i.count
       (owner ≠ s.station → i.status = 0) ∧
       (owner = s.station →
         i.status = (if x.role = .origin then begun.consoleFrame l i.frame else begun).statusByte)) ∧
      (t.tx.get l).frame = i.frame ∧ (t.tx.get l).count = i.count ∧ (t.tx.get l).role = x.role ∧
      (t.tx.get l).sentThis = some i.lane ∧ (t.tx.get l).sentPrev = x.sentThis ∧ (t.tx.get l).sent = 0 ∧
      (t.tx.get l).crc = 0xFFFF ∧ t.rx = s.rx ∧ t.seqs = s.seqs

/-- O15. ALIGNMENT_CELL_SENT at a REPEATING transmitter: frame number, origin, lane state, fault flag and count are copied
from the values its receiver holds for the frame, the hop check is its own, and the status byte is its own, of the state as
the cell is built (R5, its bits in O14), in its own position, else the one received, else the last correct one of that
position or zero (R4 to R6). A SUBSTITUTE that still owes the cell of the frame in which lock was lost sends that cell with
the fields its receiver held, fault flag and lane state among them, its own status byte and hop check filled in as by a
REPEATING transmitter; it owes it no more and stays SUBSTITUTE, its numbering at that frame. That it does so is the model's
reading (log entry 23). Which frame-0 cells count as sent under DEEP, those with DEEP in effect before them and those that
carry it, is the model's reading (log entry 26). -/
def Obligations.RepeatingCopiesTheAlignmentCell : Prop :=
  (∀ (l : Lane) (s : State) (i : AlignInfo), s.live → (s.tx.get l).role = .repeating → (s.rx.get l).info = some i →
    ∃ t j, exec (.alignmentCellSent l) s = .next t ∧ (t.tx.get l).line = some (alignCell s.station j) ∧
      j.frame = i.frame ∧ j.origin = i.origin ∧ j.lane = i.lane ∧ j.fault = i.fault ∧ j.count = i.count ∧
      j.hop = (if (s.tx.get l).whole = true ∧ (s.tx.get l).sent = 63 then (s.tx.get l).crc else 0xFFFF) ∧
      (let deep := i.frame = 0 ∧ ((s.rx.get l).payloadState = some .deep ∨ i.lane = .deep)
       let owner := stationOf (if deep then i.count.toNat else i.frame.toNat)
       (owner = s.station → j.status = s.statusByte) ∧
       (owner ≠ s.station → (s.rx.get l).infoOk = true → j.status = i.status) ∧
       (owner ≠ s.station → (s.rx.get l).infoOk = false → j.status = ((s.rx.get l).bytes.get owner).getD 0)) ∧
      (t.tx.get l).role = .repeating ∧ t.rx = s.rx ∧ t.seqs = s.seqs ∧ t.paced = s.paced) ∧
  ∀ (l : Lane) (s : State) (i : AlignInfo), s.live → (s.tx.get l).role = .substitute → (s.tx.get l).carry = some i →
    let x := s.tx.get l
    let deep := i.frame = 0 ∧ (x.sentThis = some .deep ∨ i.lane = .deep)
    let owner := stationOf (if deep then i.count.toNat else i.frame.toNat)
    let j : AlignInfo :=
      { i with
        hop := if x.whole = true ∧ x.sent = 63 then x.crc else 0xFFFF,
        status := if owner = s.station then s.statusByte else i.status }
    ∃ t, exec (.alignmentCellSent l) s = .next t ∧
      t.tx.get l =
        { x with
          frame := i.frame, count := i.count, offset := 0, begun := true, sentPrev := x.sentThis, sentThis := some i.lane,
          crc := 0xFFFF, sent := 0, whole := true, carry := none, line := some (alignCell s.station j),
          fifo := (t.tx.get l).fifo } ∧
      t.rx = s.rx ∧ t.seqs = s.seqs ∧ t.paced = s.paced

/-- O16. PAYLOAD_SLOT_RECEIVED at a LOCKED receiver in use, outside DEEP: the cell goes into the hop check as it arrived,
and is replaced, counted as an error where it was no IDLE cell that passed; handed to its block where it is addressed here
or to all, but for a CONTROL cell of a subtype out of range, which is discarded without a count (R46); and sent on by a
REPEATING transmitter where it is addressed to all or elsewhere, a PROBE with this station's marks (R11, R28 to R33, R44,
R73). That an IDLE cell with a correct check and an invalid destination is not counted is the model's reading (log entry
15). Before roles settle a fitted LOCKED receiver takes the cell into the hop check and no more (R1, R11). Blocks take the
cells handed over in lane order (R34): a command that takes a cell other than the oldest one waiting leaves the state as it
is (the model's choice, log entries 1 and 5). A cell sent on goes into the transmitter's hop check under construction (R6), is
counted among the cells of the frame and ends the train (R40). -/
def Obligations.PayloadSlotIsDecided : Prop :=
  (∀ (l : Lane) (c : Cell) (s : State), s.live → (s.rx.get l).state = .locked → (s.rx.get l).payloadState ≠ some .deep →
    s.settledRoles = false → (l = .down → s.station ≠ .console) →
    exec (.payloadSlotReceived l c) s =
      .next { s with rx := s.rx.set l { s.rx.get l with crc := crcMore (s.rx.get l).crc (cellBytes c) } }) ∧
  (∀ (l : Lane) (c : Cell) (s : State), (s.rx.get l).handed.head? ≠ some c →
    ∀ x ∈ [Instr.dataCellTaken l c, .probeTaken l c, .replyTaken l c, .powerReportTaken l c, .echoTaken l c, .delayTaken l c,
      .echoBackTaken l c, .resurveyTaken l c, .volumeCellTaken l c, .muteCellTaken l c, .buttonCellTaken l c,
      .relayRequestTaken l c, .relayAnswerTaken l c],
      exec x s = .next s) ∧
  ∀ (l : Lane) (c : Cell) (s : State), s.live → (s.rx.get l).state = .locked → s.inUse l = true →
    (s.rx.get l).payloadState ≠ some .deep → c.payload.length = 32 →
    ∃ t, exec (.payloadSlotReceived l c) s = .next t ∧ t = { s with rx := t.rx, tx := t.tx } ∧
      (∀ k, k ≠ l → t.rx.get k = s.rx.get k ∧ t.tx.get k = s.tx.get k) ∧
      (t.rx.get l).crc = crcMore (s.rx.get l).crc (cellBytes c) ∧
      (let bad := checkOk c = false ∨ c.kind = .align ∨ (c.kind ≠ .idle ∧ ∃ n, c.dst = .invalid n)
       let here := ¬bad ∧ c.kind ≠ .idle ∧ c.dst = .to s.station
       let all := ¬bad ∧ c.kind ≠ .idle ∧ c.dst = .broadcast
       let onward := ¬bad ∧ c.kind ≠ .idle ∧ ¬here ∧ ¬all
       (bad → (t.rx.get l).cellErrors =
         if s.running then min ((s.rx.get l).cellErrors + 1) 65535 else (s.rx.get l).cellErrors) ∧
       (¬bad → (t.rx.get l).cellErrors = (s.rx.get l).cellErrors) ∧
       let lost := c.kind = .control ∧ (byteAt c.payload 0 = 0 ∨ 7 < byteAt c.payload 0)
       (here ∨ all → ¬lost → (t.rx.get l).handed = (s.rx.get l).handed ++ [c]) ∧
       ((¬here ∧ ¬all) ∨ lost → (t.rx.get l).handed = (s.rx.get l).handed) ∧
       ((s.tx.get l).role ≠ .repeating ∨ ¬(all ∨ onward) → t.tx = s.tx) ∧
       ((s.tx.get l).role = .repeating → all ∨ onward →
         ∀ m, (t.tx.get l).line = some m → t.tx.get l =
           { s.tx.get l with
             line := some m, crc := crcMore (s.tx.get l).crc (cellBytes m), sent := (s.tx.get l).sent + 1, train := 0 }) ∧
       ((s.tx.get l).role = .repeating → all → (t.tx.get l).line = some c) ∧
       ((s.tx.get l).role = .repeating → onward → c.kind ≠ .probe → (t.tx.get l).line = some c) ∧
       ((s.tx.get l).role = .repeating → onward → c.kind = .probe →
         ∃ m, (t.tx.get l).line = some m ∧ checkOk m = true ∧ m.kind = c.kind ∧ m.src = c.src ∧ m.dst = c.dst ∧
           m.flow = c.flow ∧ m.seq = c.seq ∧ m.start = c.start ∧
           m.payload =
             c.payload.set 7
               (c.payload.getD 7 0 |||
                 (if s.cfg.crowd ≤ s.backlog l then 1 else if max 1 (s.cfg.crowd / 2) ≤ s.backlog l then 2 else 0))))

/-- O17. IDLE_SLOT_ARBITRATION where the slot is not open, or no class may take it: outside RUNNING, in a closed frame, for a
train gap that is owed, or with no class ready, the slot leaves as an IDLE cell, no queue changes, and a gap owed is paid
only by an open frame's slot (R36, R37, R40). The IDLE cell goes into the hop check under construction (R6), is counted among
the cells of the frame and ends the train. Which frames are open follows the transmitter's role (R36). -/
def Obligations.ClosedSlotLeavesIdle : Prop :=
  (∀ (l : Lane) (s : State),
    s.frameOpen l = true ↔
      match (s.tx.get l).role with
      | .origin => (s.tx.get l).sentThis = some .active ∧ (s.tx.get l).sentPrev = some .active
      | .repeating => (s.rx.get l).activeThis = true ∧ (s.rx.get l).activePrev = true
      | .substitute => True
      | .silent | .terminal | .provisional => False) ∧
  ∀ (l : Lane) (s : State), (s.tx.get l).role.sends = true → s.payloadSilent l = false →
    (¬s.running ∨ s.frameOpen l = false ∨ (s.tx.get l).gapOwed = true ∨ s.winner l = .none) →
    ∃ t, exec (.idleSlotArbitration l) s = .next t ∧ t = { s with tx := t.tx } ∧
      (t.tx.get l).line = some (idleCell s.station) ∧ (t.tx.get l).sent = (s.tx.get l).sent + 1 ∧
      (t.tx.get l).crc = crcMore (s.tx.get l).crc (cellBytes (idleCell s.station)) ∧ (t.tx.get l).train = 0 ∧
      (t.tx.get l).fifo = (s.tx.get l).fifo ∧
      (t.tx.get l).gapOwed = ((s.tx.get l).gapOwed && !(decide s.running && s.frameOpen l)) ∧
      ∀ k, k ≠ l → t.tx.get k = s.tx.get k

/-- O18. IDLE_SLOT_ARBITRATION in an open frame serves MOTION before AUDIO before CONTROL before PICTURE (R37); the winner's
oldest entry is completed as a cell and leaves its queue, and a DATA cell takes its flow's next sequence number (R38). The
cell goes into the hop check under construction (R6), is counted among the cells of the frame and ends a picture train
(R40). A sample with the restart flag raises the restart count, to at most 16 (R125), and an ECHO inserted starts its
attempt's wait (R116). -/
def Obligations.FirstReadyClassTakesTheSlot : Prop :=
  ∀ (l : Lane) (s : State), (s.tx.get l).role.sends = true → s.payloadSilent l = false → s.running →
    s.frameOpen l = true → (s.tx.get l).gapOwed = false →
    let built (t : State) : Prop :=
      ∃ m, (t.tx.get l).line = some m ∧ (t.tx.get l).crc = crcMore (s.tx.get l).crc (cellBytes m) ∧
        (t.tx.get l).sent = (s.tx.get l).sent + 1 ∧ (t.tx.get l).train = 0
    let motion := l = .up ∧ s.station = .headset ∧ s.motion.queue ≠ []
    let audio := l = sourceLane s.station ∧ s.audio.source.queue ≠ []
    (∀ x q, l = .up → s.station = .headset → s.motion.queue = x :: q →
      ∃ t, exec (.idleSlotArbitration l) s = .next t ∧
        (t.tx.get l).line =
          some (mkCell .data .headset (.to .console) 2 (s.seqs.get .motion) true (samplePayload x)) ∧
        t.motion.queue = q ∧ t.seqs = s.seqs.set .motion (s.seqs.get .motion + 1) ∧
        t.motion.restart = (if x.restart then min (s.motion.restart + 1) 16 else s.motion.restart) ∧
        built t ∧ t = { s with tx := t.tx, seqs := t.seqs, motion := t.motion }) ∧
    (∀ b q, ¬motion → l = sourceLane s.station → s.audio.source.queue = b :: q →
      ∃ t, exec (.idleSlotArbitration l) s = .next t ∧
        (t.tx.get l).line =
          some (mkCell .data s.station (.to b.dst) (BitVec.ofNat 3 (FlowId.num (sourceFlow s.station)))
            (s.seqs.get (sourceFlow s.station)) true (blockPayload s.sourceTwo b)) ∧
        t.audio.source.queue = q ∧
        t.seqs = s.seqs.set (sourceFlow s.station) (s.seqs.get (sourceFlow s.station) + 1) ∧
        built t ∧ t = { s with tx := t.tx, seqs := t.seqs, audio := t.audio }) ∧
    (∀ c q, ¬motion → ¬audio → (s.tx.get l).fifo = c :: q →
      ∃ t, exec (.idleSlotArbitration l) s = .next t ∧
        (t.tx.get l).line = some (ctlCell s.station s.localSlot c) ∧ t.seqs = s.seqs ∧ t.motion = s.motion ∧
        t.audio = s.audio ∧ built t ∧
        ((∀ e n a o p, c ≠ .probe e n a o p) → (∀ r k, c ≠ .power r k) → (t.tx.get l).fifo = q) ∧
        (∀ x k, c = .echo x k → (s.surveys.get x).state = .sending → (s.surveys.get x).token = k →
          (t.surveys.get x).state = .waiting ∧ (t.surveys.get x).insertedAt = s.localSlot ∧
            (t.surveys.get x).waited = 0))

/-- O19. IDLE_SLOT_ARBITRATION at CONSOLE's down TX with no class before PICTURE ready: the eligible flow, or the one the turn
names, inserts its next cell, spends 16 credit and a sequence number, counts in the train and hands on the turn; END returns
a DRAINING record to IDLE with DRAIN_DONE (R37 to R40, R52, R68, R98). The cell goes into the hop check under construction
(R6) and is counted among the cells of the frame. Data cells since last probe rises by one, to at most 255 (R68), and the
insertion checks whether a probe is due (R69): if so it is queued as R70 says. That a record which the insertion makes IDLE
queues none is the model's choice (log entry 41). -/
def Obligations.PictureCellTakesTheSlot : Prop :=
  ∀ (e : Eye) (s : State), s.station = .console → s.running → s.tx.down.role.sends = true →
    s.payloadSilent .down = false → s.frameOpen .down = true → s.tx.down.gapOwed = false → s.motion.queue = [] →
    s.audio.source.queue = [] → s.tx.down.fifo = [] → s.eligible e = true →
    (s.tx.down.turn = e ∨ ∀ k, k ≠ e → s.eligible k = false) →
    let p := s.paced.get e
    ∃ t, exec (.idleSlotArbitration .down) s = .next t ∧
      (t.paced.get e).credit = p.credit - 16 ∧ t.seqs = s.seqs.set (Eye.flow e) (s.seqs.get (Eye.flow e) + 1) ∧
      t.tx.down.turn ≠ e ∧ (t.paced.get e).dataAt = some s.tx.down.count ∧
      (∀ r q, p.queue = r :: q →
        t.tx.down.line =
          some (mkCell .data .console (.to .headset) (BitVec.ofNat 3 (FlowId.num (Eye.flow e))) (s.seqs.get (Eye.flow e))
            (r.sent == 0) (slicePayload r)) ∧
        (r.sent + 1 < r.total → (t.paced.get e).queue = { r with sent := r.sent + 1 } :: q ∧
          (t.paced.get e).state = p.state) ∧
        (r.total ≤ r.sent + 1 → (t.paced.get e).queue = q ∧
          (p.state = .active → cellsLeft q = 0 → (t.paced.get e).state = .idle ∧
            (t.paced.get e).idleSince = some s.tx.down.count))) ∧
      (p.queue = [] →
        t.tx.down.line =
          some (mkCell .data .console (.to .headset) (BitVec.ofNat 3 (FlowId.num (Eye.flow e))) (s.seqs.get (Eye.flow e))
            true []) ∧
        (t.paced.get e).state = .idle ∧
        ∃ n ∈ t.notices, n.kind = .drainDone ∧ n.subject = .flow (Eye.flow e) ∧
          n.value = BitVec.ofNat 32 p.discarded) ∧
      (p.unanswered < (s.params e).patience →
        t.tx.down.train = (if trainLimit p.band ≤ s.tx.down.train + 1 then 0 else s.tx.down.train + 1) ∧
        t.tx.down.gapOwed = decide (trainLimit p.band ≤ s.tx.down.train + 1)) ∧
      (∃ m, t.tx.down.line = some m ∧ t.tx.down.crc = crcMore s.tx.down.crc (cellBytes m) ∧
        t.tx.down.sent = s.tx.down.sent + 1) ∧
      (let fp := s.params e
       let due := fp.spacing ≤ min (p.cellsSince + 1) 255 ∨
         ∀ n, p.probeAt = some n → fp.interval ≤ (s.tx.down.count - n).toNat
       let ar := if fp.patience ≤ p.unanswered then max (p.ar - (p.ar * fp.fade + 255) / 256) fp.floor else p.ar
       ((t.paced.get e).state ≠ .idle → p.probeWaiting = false → due →
         (t.paced.get e).lastProbe = p.lastProbe + 1 ∧ (t.paced.get e).unanswered = min (p.unanswered + 1) 255 ∧
         (t.paced.get e).cellsSince = 0 ∧ (t.paced.get e).probeAt = some s.tx.down.count ∧
         (t.paced.get e).ar = ar ∧ (t.paced.get e).probeWaiting = true ∧
         t.tx.down.fifo = [.probe e (p.lastProbe + 1) ar fp.peak fp.peak]) ∧
       ((t.paced.get e).state = .idle ∨ p.probeWaiting = true ∨ ¬due →
         (t.paced.get e).cellsSince = min (p.cellsSince + 1) 255 ∧ (t.paced.get e).lastProbe = p.lastProbe ∧
         (t.paced.get e).unanswered = p.unanswered ∧ (t.paced.get e).probeAt = p.probeAt ∧
         (t.paced.get e).ar = p.ar ∧ t.tx.down.fifo = [])) ∧
      t.rx = s.rx ∧ ∀ k, k ≠ e → t.paced.get k = s.paced.get k

/-! ### Flows and picture slices (chapters 3, 5) -/

/-- O20. DATA_CELL_TAKEN (R58, R59): a cell that breaks the flow plan is counted misrouted in its flow's group, or its
lane's where the flow has no plan entry, and discarded; one for a CLOSED or HOLDING record is discarded without a count; in
a LISTENING record the expected number becomes the cell's plus one, and a number other than the one expected counts one gap.
-/
def Obligations.DataCellsMeetThePlanAndTheSequence : Prop :=
  ∀ (l : Lane) (c : Cell) (s : State), s.live → (s.rx.get l).handed.head? = some c → c.kind = .data →
    (c.dst = .to s.station ∨ c.dst = .broadcast) →
    let held := s.rx.set l { s.rx.get l with handed := (s.rx.get l).handed.erase c }
    let bump (f : FlowId) (g : FlowCounters → FlowCounters) := s.counters.set f (g (s.counters.get f))
    let misrouted (k : FlowCounters) : FlowCounters := { k with misrouted := min (k.misrouted + 1) 65535 }
    (flowOf c.flow = none →
      exec (.dataCellTaken l c) s =
        .next
          { s with
            rx := held,
            counters :=
              if s.running then bump (match l with | .down => .pictureL | .up => .motion) misrouted else s.counters }) ∧
    (∀ f, flowOf c.flow = some f →
      let fits := c.dst = .to s.station ∧ s.planDest f = s.station ∧ c.src = s.planSource f
      (¬fits →
        exec (.dataCellTaken l c) s =
          .next { s with rx := held, counters := if s.running then bump f misrouted else s.counters }) ∧
      (fits → (∀ d, s.dst.get f = some d → d.state ≠ .listening) →
        exec (.dataCellTaken l c) s = .next { s with rx := held }) ∧
      (fits → ∀ d, s.dst.get f = some d → d.state = .listening →
        ∃ t, exec (.dataCellTaken l c) s = .next t ∧ t.dst = s.dst.set f (some ⟨.listening, some (c.seq + 1)⟩) ∧
          (t.counters.get f).gaps =
            (if s.running ∧ d.expected.isSome = true ∧ d.expected ≠ some c.seq then
              min ((s.counters.get f).gaps + 1) 65535
            else (s.counters.get f).gaps) ∧
          t.rx = held ∧ t.tx = s.tx ∧ t.seqs = s.seqs ∧ t.stations = s.stations ∧ t.power = s.power ∧
          ∀ g, g ≠ f → t.counters.get g = s.counters.get g))

/-- O21. A slice's cells, handed over and taken in order, without a gap, at HEADSET, the display's ready line low, rebuild it
(R93, R99 to R101): reassembly that is not filling a slice, a buffer of COMPLETE records with room, and a picture that is not
stale leave exactly one more record at the buffer's tail, COMPLETE, with the picture, index, layer, length and bytes that
CONSOLE sent; and the record's next expected number follows the last cell. The other paths, the ready line low: a gap before
a cell, or a start bit, breaks the slice being filled, which leaves the buffer and is counted (R102, R103); a cell without
the start bit is then discarded, in SKIPPING after a gap (R101, R102); END leaves WAIT_START (R103); a first cell out of
range is misrouted and one that is stale or without room a refusal, both to SKIPPING (R100, R103, R46), and any other makes
its record. The down RX leaving LOCKED, by signal, by the fourth alignment error in a row or by hop failures, breaks what
fills and leaves SKIPPING (R60, R102, R13). -/
def Obligations.SliceCellsRebuildTheSlice : Prop :=
  (∀ (e : Eye) (r : SliceRec) (seq : Seq) (s : State),
    s.station = .headset → s.live → 1 ≤ r.length → r.length ≤ 4096 → r.data.length = r.length →
    r.total = sliceCells r.length → s.rx.down.handed = [] →
    (∃ x, s.dst.get (Eye.flow e) = some ⟨.listening, x⟩) → s.pins.displayReady.get e = false →
    (s.eyes.get e).reasm ≠ .filling → (∀ b ∈ (s.eyes.get e).buffer, b.complete = true) →
    reserved (s.eyes.get e).buffer + r.total ≤ 1024 → (s.eyes.get e).buffer.length ≤ 63 →
    (∀ n, (s.eyes.get e).lastTaken = some n → newer r.picture (n - 1) = true) →
    let t := s.takeCells (r.cells e seq)
    (t.eyes.get e).buffer =
      (s.eyes.get e).buffer ++
        [{ picture := r.picture, index := r.index, layer := r.layer, length := r.length, expected := r.total,
           received := r.total, complete := true, data := r.data }] ∧
    (t.eyes.get e).reasm = .waitStart ∧
    t.dst.get (Eye.flow e) = some ⟨.listening, some (seq + BitVec.ofNat 4 r.total)⟩ ∧
    (∀ k, k ≠ e → t.eyes.get k = s.eyes.get k) ∧ t.notices = s.notices ∧ t.rx = s.rx) ∧
  (∀ (l : Lane) (c : Cell) (e : Eye) (n : Option Seq) (s : State), s.live → s.station = .headset →
    (s.rx.get l).handed.head? = some c → c.kind = .data → c.dst = .to .headset → c.src = .console →
    flowOf c.flow = some (Eye.flow e) → s.dst.get (Eye.flow e) = some ⟨.listening, n⟩ → s.pins.displayReady.get e = false →
    let x := s.eyes.get e
    let k := s.counters.get (Eye.flow e)
    let gap : Bool := decide (n.isSome = true ∧ n ≠ some c.seq)
    let broken : Bool := decide (x.reasm = .filling ∧ (gap = true ∨ c.start = true))
    let buffer := if broken then x.buffer.filter fun b => b.complete else x.buffer
    let add (b : Bool) (v : Nat) : Nat := if s.running ∧ b = true then min (v + 1) 65535 else v
    let after (r : Reasm) (q : List BufRec) (refused misrouted : Bool) : State :=
      { s.taken l c with
        dst := s.dst.set (Eye.flow e) (some ⟨.listening, some (c.seq + 1)⟩),
        eyes := s.eyes.set e { x with reasm := r, buffer := q },
        counters :=
          s.counters.set (Eye.flow e)
            { k with
              gaps := add gap k.gaps, breaks := add broken k.breaks, refusals := add refused k.refusals,
              misrouted := add misrouted k.misrouted } }
    let first := c.start = true ∧ sliceLength c ≠ 0
    let fresh (p : Num8) := ∀ m, x.lastTaken = some m → newer p (m - 1) = true
    let room (cells : Nat) := reserved buffer + cells ≤ 1024 ∧ buffer.length ≤ 63
    (c.start = false → gap = true ∨ x.reasm ≠ .filling →
      exec (.dataCellTaken l c) s = .next (after (if gap then .skipping else x.reasm) buffer false false)) ∧
    (c.start = true → sliceLength c = 0 → exec (.dataCellTaken l c) s = .next (after .waitStart buffer false false)) ∧
    (first → readHead c = none → exec (.dataCellTaken l c) s = .next (after .skipping buffer false true)) ∧
    (first → ∀ h, readHead c = some h →
      (¬(fresh h.picture ∧ room (sliceCells h.length)) →
        exec (.dataCellTaken l c) s = .next (after .skipping buffer true false)) ∧
      (fresh h.picture → room (sliceCells h.length) →
        exec (.dataCellTaken l c) s =
          .next
            (after (if sliceCells h.length = 1 then .waitStart else .filling)
              (buffer ++
                [{ picture := h.picture, index := h.index, layer := h.layer, length := h.length,
                   expected := sliceCells h.length, received := 1, complete := decide (sliceCells h.length = 1),
                   data := ((c.payload.drop 4).take 28).take h.length }])
              false false)))) ∧
  ∀ (e : Eye) (n : Option Seq) (s : State), s.live → s.rx.down.state = .locked →
    s.dst.get (Eye.flow e) = some ⟨.listening, n⟩ →
    let x := s.eyes.get e
    let k := s.counters.get (Eye.flow e)
    let filling := x.reasm = .filling
    let breaks (c : Instr) : Prop :=
      ∃ t, exec c s = .next t ∧ t.dst.get (Eye.flow e) = some ⟨.listening, none⟩ ∧
        t.eyes.get e =
          { x with reasm := .skipping, buffer := if filling then x.buffer.filter fun b => b.complete else x.buffer } ∧
        t.counters.get (Eye.flow e) =
          { k with breaks := if s.running ∧ filling then min (k.breaks + 1) 65535 else k.breaks }
    breaks (.signalAbsent .down) ∧
    (∀ found, s.rx.down.correct found = none → 3 ≤ s.rx.down.errRun → breaks (.expectedAlignmentCell .down found)) ∧
    (∀ found i, s.rx.down.correct found = some i → hopLost (s.rx.down.hopHistory i.hop) = true →
      breaks (.expectedAlignmentCell .down found))

/-- O22. SLICE_OFFERED at CONSOLE (R85, R90, R94 to R97): the first test that refuses decides the answer and its count. An
offer that comes to the entry policy at an IDLE record whose flow has sent no data cell, or none for idle reset superframes,
first brings AR to the lesser of AR and start and the band with it, accepted or not (R85). A slice that passes every test
joins the tail of what the supersede purge leaves of the queue. A BASE slice without room takes it from unstarted
refinements, removed most recently entered first until it fits and each counted as a purge (R97); where removing all of them
is not enough, and for a refinement, the answer is ROOM. -/
def Obligations.SliceOfferIsAnswered : Prop :=
  ∀ (e : Eye) (p : Num8) (i : BitVec 6) (k : BitVec 2) (n : Nat) (data : List Byte) (s : State), s.station = .console →
    let x := s.paced.get e
    let flow := Eye.flow e
    let offer := exec (.sliceOffered e p i k n data) s
    (¬s.running → ∃ t, offer = .next t ∧ (t.paced.get e).answer = some (.refused .notRunning) ∧ t = { s with paced := t.paced } ∧
      (t.paced.get e).queue = x.queue ∧ (t.paced.get e).state = x.state) ∧
    (s.running → (n = 0 ∨ 4096 < n ∨ k = 3) → ∃ t, offer = .next t ∧
      (t.paced.get e).answer = some (.refused .malformed) ∧ (t.paced.get e).queue = x.queue ∧
      (t.counters.get flow).roomRefusals = min ((s.counters.get flow).roomRefusals + 1) 65535) ∧
    (s.running → 1 ≤ n → n ≤ 4096 → k ≠ 3 → x.state = .draining → ∃ t, offer = .next t ∧
      (t.paced.get e).answer = some (.refused .draining) ∧ (t.paced.get e).queue = x.queue ∧
      (t.counters.get flow).roomRefusals = min ((s.counters.get flow).roomRefusals + 1) 65535) ∧
    (∀ layer, s.running → 1 ≤ n → n ≤ 4096 → layerOf k.toNat = some layer → x.state ≠ .draining →
      let fp := s.params e
      let silent := match x.dataAt with | none => true | some m => decide (fp.idleReset ≤ (s.tx.down.count - m).toNat)
      let reset := x.state = .idle ∧ silent = true
      let ar := if reset then min x.ar fp.start else x.ar
      let band := if reset then bandAfter fp x.band ar else x.band
      let reference := if x.queue = [] then x.lastEntered else x.newest
      let stale := ∃ r, reference = some r ∧ newer (r - 1) p = true
      let refusedLayer := (band = .low ∧ layer = .refine2) ∨ (band = .scarce ∧ layer ≠ .base)
      let purge := x.queue ≠ [] ∧ ∃ m, x.newest = some m ∧ newer p m = true
      let q := if purge then x.queue.filter fun r => !(r.sent == 0 && decide (2 ≤ (p - r.picture).toNat ∧ (p - r.picture).toNat ≤ 127))
        else x.queue
      let c := 1 + (n - 28 + 31) / 32
      let new : SliceRec := { picture := p, index := i, layer := layer, length := n, total := c, sent := 0, data := data }
      let fits (k : List SliceRec) := cellsLeft k + c ≤ 1024 ∧ k.length ≤ 63
      let gives (r : SliceRec) := r.sent == 0 && r.layer != .base
      (∃ t, offer = .next t ∧
        (x.unanswered < fp.patience ∨ (t.paced.get e).answer ≠ some .accepted →
          (t.paced.get e).ar = ar ∧ (t.paced.get e).band = band)) ∧
      (refusedLayer → ∃ t, offer = .next t ∧ (t.paced.get e).answer = some (.refused .layer) ∧
        (t.paced.get e).queue = x.queue ∧
        (t.counters.get flow).layerDrops = min ((s.counters.get flow).layerDrops + 1) 65535) ∧
      (¬refusedLayer → stale → ∃ t, offer = .next t ∧ (t.paced.get e).answer = some (.refused .stale) ∧
        (t.paced.get e).queue = x.queue ∧
        (t.counters.get flow).staleRefusals = min ((s.counters.get flow).staleRefusals + 1) 65535) ∧
      (¬refusedLayer → ¬stale → fits q → ∃ t, offer = .next t ∧
        (t.paced.get e).answer = some .accepted ∧
        (t.paced.get e).queue = q ++ [new] ∧ (t.paced.get e).lastEntered = some p ∧
        (t.paced.get e).state = (if x.state = .idle then .active else x.state) ∧
        (t.counters.get flow).purges =
          min ((s.counters.get flow).purges + (x.queue.length - q.length)) 65535) ∧
      (¬refusedLayer → ¬stale → ¬fits q → layer = .base → fits (q.filter fun r => !gives r) → ∃ t, offer = .next t ∧
        (t.paced.get e).answer = some .accepted ∧ (t.paced.get e).lastEntered = some p ∧
        (t.paced.get e).state = (if x.state = .idle then .active else x.state) ∧
        ∃ a r b, q = a ++ r :: b ∧ gives r = true ∧
          let left := a ++ b.filter fun r => !gives r
          fits left ∧ ¬fits (a ++ r :: b.filter fun r => !gives r) ∧ (t.paced.get e).queue = left ++ [new] ∧
          (t.counters.get flow).purges = min ((s.counters.get flow).purges + (x.queue.length - left.length)) 65535) ∧
      (¬refusedLayer → ¬stale → ¬fits q → (layer = .base → ¬fits (q.filter fun r => !gives r)) → ∃ t, offer = .next t ∧
        (t.paced.get e).answer = some (.refused .room) ∧ (t.paced.get e).queue = q ∧
        (t.counters.get flow).roomRefusals = min ((s.counters.get flow).roomRefusals + 1) 65535)) ∧
    ∀ t, offer = .next t → t.rx = s.rx ∧ t.seqs = s.seqs ∧ t.motion = s.motion ∧ t.audio = s.audio ∧ t.power = s.power

/-- O23. END_OF_STREAM at CONSOLE in RUNNING makes the eye's record DRAINING; a HELD record's queue is emptied and counted,
any other queue stands; before RUNNING it is ignored (R51, R91). -/
def Obligations.EndOfStreamDrains : Prop :=
  ∀ (e : Eye) (s : State), s.station = .console →
    (s.running → ∃ t, exec (.endOfStream e) s = .next t ∧ (t.paced.get e).state = .draining ∧
      ((s.paced.get e).state = .held →
        (t.paced.get e).queue = [] ∧
        (t.paced.get e).discarded = (s.paced.get e).discarded + (s.paced.get e).queue.length) ∧
      ((s.paced.get e).state ≠ .held →
        (t.paced.get e).queue = (s.paced.get e).queue ∧ (t.paced.get e).discarded = (s.paced.get e).discarded) ∧
      (∀ k, k ≠ e → t.paced.get k = s.paced.get k) ∧ t.rx = s.rx ∧ t.seqs = s.seqs ∧ t.counters = s.counters) ∧
    (¬s.running → exec (.endOfStream e) s = .next s)

/-- O24. A refinement is handed to the bridge only behind the layer below it of the same picture and index: the map showed
that layer, or the same run of releases handed it over before (R105). -/
def Obligations.RefinementsFollowTheLayerBelow : Prop :=
  ∀ (m : List LayerEntry) (b : List BufRec) (i : Nat) (x : Released),
    let out := (releaseRun m b).out
    out[i]? = some x →
    let before (k : Layer) := ∃ j y, j < i ∧ out[j]? = some y ∧ y.layer = k ∧ y.picture = x.picture ∧ y.index = x.index
    (x.layer = .refine1 → levelAt m x.picture x.index.toNat = .base ∨ before .base) ∧
    (x.layer = .refine2 → levelAt m x.picture x.index.toNat = .r1 ∨ before .refine1)

/-- O25. The display's lines (R104 to R106). A ready line that rises releases from a LISTENING eye's buffer every COMPLETE
record that comes to the head; one that falls, or rises outside LISTENING, changes the line alone. PICTURE_TAKEN in
LISTENING sets the last taken picture and removes the records of older ones, the slice being filled, where it is one of
them, broken and counted (R102; a buffer fills one slice at a time, R99); the others stay in their order, and are then
released as above where the ready line is high. Outside LISTENING it is ignored. A release hands the bridge eye, picture,
index, layer, length and data of each slice that the layer map lets go, in buffer order, leaves the map as R105 gives, and
counts each slice turned away as an orphan. That the port keeps what the latest delivery handed over is the model's choice (log
entry 6). The map's judgement of one record (R105): its picture's entry, found or made among the two newest, and the layer
test. -/
def Obligations.DisplayLinesReleaseAndPurge : Prop :=
  (∀ (e : Eye) (s : State),
    let x := s.eyes.get e
    let k := s.counters.get (Eye.flow e)
    let listens := ∃ n, s.dst.get (Eye.flow e) = some ⟨.listening, n⟩
    let raised : Pins := { s.pins with displayReady := s.pins.displayReady.set e true }
    let released (y : EyeDst) (r : ReleaseRun) : EyeDst :=
      { y with map := r.map, buffer := r.buffer, out := if r.out = [] then x.out else r.out }
    (listens →
      let r := releaseRun x.map x.buffer
      exec (.displayReadyRise e) s =
        .next
          { s with
            pins := raised, eyes := s.eyes.set e (released x r),
            counters :=
              if s.running then s.counters.set (Eye.flow e) { k with orphans := min (k.orphans + r.orphans) 65535 }
              else s.counters }) ∧
    (¬listens → exec (.displayReadyRise e) s = .next { s with pins := raised }) ∧
    exec (.displayReadyFall e) s = .next { s with pins := { s.pins with displayReady := s.pins.displayReady.set e false } } ∧
    (listens → ∀ n,
      let older : Bool := decide (∃ b ∈ x.buffer, b.complete = false ∧ newer n b.picture = true)
      let broken := older && decide (x.reasm = .filling)
      let kept := x.buffer.filter fun b => !newer n b.picture && (b.complete || !broken)
      let ready := s.pins.displayReady.get e
      let r : ReleaseRun :=
        if ready then releaseRun x.map kept else { map := x.map, buffer := kept, out := [], orphans := 0 }
      exec (.pictureTaken e n) s =
        .next
          { s with
            eyes := s.eyes.set e (released { x with lastTaken := some n, reasm := if older then .skipping else x.reasm } r),
            counters :=
              if s.running then
                s.counters.set (Eye.flow e)
                  { k with
                    breaks := if broken then min (k.breaks + 1) 65535 else k.breaks,
                    orphans := if ready then min (k.orphans + r.orphans) 65535 else k.orphans }
              else s.counters }) ∧
    (¬listens → ∀ n, exec (.pictureTaken e n) s = .next s)) ∧
  (∀ (m : List LayerEntry) (b : List BufRec),
    let r := releaseRun m b
    let slice (x : BufRec) : Released :=
      { picture := x.picture, index := x.index, layer := x.layer, length := x.length, data := x.data }
    (∃ k, r.buffer = b.drop k ∧ (∀ x ∈ b.take k, x.complete = true) ∧ r.out.Sublist ((b.take k).map slice) ∧
      r.out.length + r.orphans = (b.take k).length) ∧
    (∀ x, r.buffer.head? = some x → x.complete = false)) ∧
  ∀ (m : List LayerEntry) (x : BufRec) (rest : List BufRec), x.complete = true →
    let fresh : LayerEntry := { picture := x.picture, levels := List.replicate 64 .none }
    let entered : Option (List LayerEntry) :=
      if ∃ t ∈ m, t.picture = x.picture then some m
      else
        match m with
        | [] => some [fresh]
        | [a] => if newer x.picture a.picture then some [fresh, a] else some [a, fresh]
        | a :: b :: _ =>
          if newer x.picture a.picture then some [fresh, a]
          else if newer x.picture b.picture then some [a, fresh]
          else none
    (entered = none → releaseRun m (x :: rest) = { releaseRun m rest with orphans := (releaseRun m rest).orphans + 1 }) ∧
    (∀ m', entered = some m' →
      let level := levelAt m' x.picture x.index.toNat
      let goes := x.layer = .base ∨ (x.layer = .refine1 ∧ level = .base) ∨ (x.layer = .refine2 ∧ level = .r1)
      let raised : Level := if x.layer = .refine1 then .r1 else if x.layer = .refine2 then .r2
        else if level = .none then .base else level
      (goes →
        let r := releaseRun (setLevel m' x.picture x.index.toNat raised) rest
        releaseRun m (x :: rest) =
          { r with
            out :=
              { picture := x.picture, index := x.index, layer := x.layer, length := x.length, data := x.data } :: r.out }) ∧
      (¬goes →
        releaseRun m (x :: rest) = { releaseRun m' rest with orphans := (releaseRun m' rest).orphans + 1 }))

/-! ### Allowed rate (chapter 4) -/

/-- O26. PROBE_TAKEN at HEADSET (R74 to R77): by the state of its flow's record a probe in range is answered, with the offer
of the buffer's fill and the marks of fill and hold; a probe met in CLOSED gets no reply; each is kept as the last one seen.
-/
def Obligations.ProbeIsAnsweredByTheFill : Prop :=
  ∀ (l : Lane) (c : Cell) (e : Eye) (r : RateCell) (d : DstRec) (s : State),
    s.live → s.station = .headset → c.kind = .probe → c.dst = .to .headset → c.src = .console → eyeOf c.flow = some e →
    readRate c = some r → s.dst.get (Eye.flow e) = some d → (s.rx.get l).handed.head? = some c →
    let f := if d.state = .holding then 0 else reserved (s.eyes.get e).buffer
    let offer := min r.offered (if f ≤ 256 then r.peak else if f ≤ 1023 then r.peak * (1024 - f) / 768 else 0)
    let congested := r.congested || decide (768 ≤ f)
    let noRise := r.noRise || decide (512 ≤ f ∧ f < 768)
    let hold := r.hold || decide (d.state = .holding)
    ∃ t, exec (.probeTaken l c) s = .next t ∧
      (d.state = .closed → t.tx = s.tx ∧
        (t.eyes.get e).probeSeen = some { number := r.number, ar := r.ar, fill := f, reply := none }) ∧
      (d.state ≠ .closed →
        (t.eyes.get e).probeSeen =
          some
            { number := r.number, ar := r.ar, fill := f,
              reply := some { offered := offer, congested := congested, noRise := noRise, hold := hold } } ∧
        t.tx.down = s.tx.down ∧
        t.tx.up.fifo =
          if s.tx.up.role.sends = true ∧ s.tx.up.fifo.length < 8 then
            s.tx.up.fifo ++ [.reply e r.number r.ar offer r.peak congested noRise hold]
          else s.tx.up.fifo) ∧
      t = { s with rx := t.rx, tx := t.tx, eyes := t.eyes } ∧ (t.eyes.get e).buffer = (s.eyes.get e).buffer ∧
      ∀ k, k ≠ e → t.eyes.get k = s.eyes.get k

/-- O27. The change an accepted reply makes to the allowed rate by its marks, with the bounds that follow (R80, and the first
sentence of R81); the hold mark does not enter it. The band after a change of the allowed rate, with its hysteresis, and the
band on loading (R86). -/
def Obligations.RateMovesByMarksAndTheBandFollows : Prop :=
  (∀ (p : FlowParams) (ar : Nat) (r : RateCell), p.floor ≤ p.peak →
     let bounded (x : Nat) := max p.floor (min (min x r.offered) p.peak)
     (r.congested = true → rateAfterReply p ar r = bounded (ar - (ar * p.fall + 255) / 256)) ∧
     (r.congested = false → r.noRise = true → rateAfterReply p ar r = bounded ar) ∧
     (r.congested = false → r.noRise = false → rateAfterReply p ar r = bounded (ar + (p.peak * p.rise + 255) / 256)) ∧
     (∀ h, rateAfterReply p ar { r with hold := h } = rateAfterReply p ar r) ∧
     p.floor ≤ rateAfterReply p ar r ∧ rateAfterReply p ar r ≤ p.peak) ∧
  ((∀ (p : FlowParams) (b : Band) (ar : Nat),
     (ar < p.scarce → bandAfter p b ar = .scarce) ∧
     (p.scarce ≤ ar → b = .scarce →
       (p.ok ≤ ar → bandAfter p b ar = .full) ∧
       (ar < p.ok → p.ease ≤ ar → bandAfter p b ar = .low) ∧
       (ar < p.ok → ar < p.ease → bandAfter p b ar = .scarce)) ∧
     (p.scarce ≤ ar → b = .full →
       (ar < p.low → bandAfter p b ar = .low) ∧ (p.low ≤ ar → bandAfter p b ar = .full)) ∧
     (p.scarce ≤ ar → b = .low →
       (p.ok ≤ ar → bandAfter p b ar = .full) ∧ (ar < p.ok → bandAfter p b ar = .low)) ∧
     (p.ok ≤ p.start → loadBand p = .full) ∧
     (p.start < p.ok → p.start < p.scarce → loadBand p = .scarce) ∧
     (p.start < p.ok → p.scarce ≤ p.start → loadBand p = .low)) ∧
   (∀ (s : State) (e : Eye) (ar : Nat),
     ((s.setRate e ar).paced.get e).band = bandAfter (s.params e) (s.paced.get e).band ar ∧
     ((s.setRate e ar).paced.get e).ar = ar ∧
     (bandAfter (s.params e) (s.paced.get e).band ar ≠ (s.paced.get e).band → s.live →
       ∃ n ∈ (s.setRate e ar).notices, n.kind = .rateBand ∧ n.subject = .flow (Eye.flow e) ∧
         n.value = BitVec.ofNat 32 (Band.code (bandAfter (s.params e) (s.paced.get e).band ar)))))

/-- O28. REPLY_TAKEN at CONSOLE (R78 to R82): a reply inside the window of unanswered probes moves the window, the allowed
rate and the record's state; the rate is that of R80 and R81 whether or not patience or more probes stay unanswered behind
it, and a record whose state changes then checks for a due probe, which fades the rate where they do (R69, R70; the check is
O29's, its moment the model's reading, log entry 14). A reply outside the window counts one stale reply and changes nothing
else. That a broadcast REPLY is accepted as one addressed to CONSOLE is the model's reading (log entry 13). -/
def Obligations.ReplyInTheWindowIsAccepted : Prop :=
  ∀ (l : Lane) (c : Cell) (e : Eye) (r : RateCell) (s : State),
    s.live → s.station = .console → c.kind = .reply → (c.dst = .to .console ∨ c.dst = .broadcast) → c.src = .headset →
    eyeOf c.flow = some e → readRate c = some r → (s.rx.get l).handed.head? = some c →
    let p := s.paced.get e
    let d := (p.lastProbe - r.number).toNat
    let state :=
      if r.hold then (if p.state = .draining then .draining else .held)
      else if p.state = .held then (if 0 < cellsLeft p.queue then PacedState.active else .idle)
      else p.state
    let ar := rateAfterReply (s.params e) p.ar r
    let held := s.taken l c
    let drained := r.hold = true ∧ p.state = .draining
    let moved : State :=
      ({ held with
         paced :=
           s.paced.set e
             { p with
               unanswered := d, state := state, queue := if drained then [] else p.queue,
               discarded := if drained then p.discarded + p.queue.length else p.discarded,
               idleSince := if p.state = .held ∧ state = .idle then some s.tx.down.count else p.idleSince } } : State).setRate e ar
    (d < p.unanswered → exec (.replyTaken l c) s = .next (if state = p.state then moved else moved.probeCheck e)) ∧
    (d < p.unanswered → ∃ t, exec (.replyTaken l c) s = .next t ∧ (t.paced.get e).state = state ∧
      (d < (s.params e).patience ∨ state = p.state → (t.paced.get e).ar = rateAfterReply (s.params e) p.ar r ∧
        (t.paced.get e).band = bandAfter (s.params e) p.band (rateAfterReply (s.params e) p.ar r)) ∧
      (state = p.state → (t.paced.get e).unanswered = d ∧ (t.paced.get e).lastProbe = p.lastProbe) ∧
      (r.hold = true → p.state = .draining →
        (t.paced.get e).queue = [] ∧ (t.paced.get e).discarded = p.discarded + p.queue.length) ∧
      (r.hold = false ∨ p.state ≠ .draining → (t.paced.get e).queue = p.queue) ∧
      (t.paced.get e).credit = p.credit ∧ (∀ k, k ≠ e → t.paced.get k = s.paced.get k) ∧ t.counters = s.counters) ∧
    (p.unanswered ≤ d → ∃ t, exec (.replyTaken l c) s = .next t ∧ t = { s with rx := t.rx, counters := t.counters } ∧
      (∀ k, k ≠ Eye.flow e → t.counters.get k = s.counters.get k) ∧
      (t.counters.get (Eye.flow e)).staleReplies =
        if s.running then min ((s.counters.get (Eye.flow e)).staleReplies + 1) 65535
        else (s.counters.get (Eye.flow e)).staleReplies)

/-- O29. Credit (R67): at every frame start of CONSOLE's down TX in RUNNING each paced record adds its allowed rate to its
credit up to the cap: at FRAME_START in a silent frame under DEEP, where the frame timing steps and nothing is sent (R3), at
ALIGNMENT_CELL_SENT for frames 1 to 15 under any other lane state, and for frame 0, a superframe boundary. Probes (R69 to
R71): the check of a record that is not IDLE and has no probe waiting queues one where spacing or interval is reached, with
a fade first where as many as patience stand unanswered, the next number, and the counts restarted; a full FIFO takes none.
A superframe boundary of the down TX, in RUNNING, checks both records, and the insertion of a probe clears probe waiting,
sets its superframe and checks again. That the credit is added before the checks is the model's reading (log entry 10). -/
def Obligations.SilentFrameAddsCredit : Prop :=
  (∀ s : State, s.station = .console → s.tx.down.role = .origin → s.tx.down.sentThis = some .deep → s.tx.down.frame ≠ 15 →
    ∃ t, exec .frameStart s = .next t ∧ t.tx.down.frame = s.tx.down.frame + 1 ∧ t.tx.down.count = s.tx.down.count ∧
      t.tx.down.line = s.tx.down.line ∧ t.tx.down.sentThis = s.tx.down.sentThis ∧
      (∀ e, (t.paced.get e).credit =
        if s.running then min ((s.paced.get e).credit + (s.paced.get e).ar) (16 * (s.params e).burst)
        else (s.paced.get e).credit) ∧
      (∀ e, t.paced.get e = { s.paced.get e with credit := (t.paced.get e).credit }) ∧
      t = { s with tx := t.tx, paced := t.paced, clock := t.clock, pulses := t.pulses }) ∧
  (∀ (e : Eye) (s : State), s.station = .console →
    let p := s.paced.get e
    let fp := s.params e
    let due := fp.spacing ≤ p.cellsSince ∨ ∀ n, p.probeAt = some n → fp.interval ≤ (s.tx.down.count - n).toNat
    let ar := if fp.patience ≤ p.unanswered then max (p.ar - (p.ar * fp.fade + 255) / 256) fp.floor else p.ar
    let room := s.tx.down.role.sends = true ∧ s.tx.down.fifo.length < 8
    let t := s.probeCheck e
    (p.state = .idle ∨ p.probeWaiting = true ∨ ¬due → t = s) ∧
    (p.state ≠ .idle → p.probeWaiting = false → due →
      t.paced.get e =
        { p with
          ar := ar, band := if fp.patience ≤ p.unanswered then bandAfter fp p.band ar else p.band,
          lastProbe := p.lastProbe + 1, unanswered := min (p.unanswered + 1) 255, cellsSince := 0,
          probeAt := some s.tx.down.count, probeWaiting := decide room } ∧
      t.tx.down.fifo =
        (if room then s.tx.down.fifo ++ [.probe e (p.lastProbe + 1) ar fp.peak fp.peak] else s.tx.down.fifo) ∧
      t = { s with tx := { s.tx with down := t.tx.down }, paced := s.paced.set e (t.paced.get e), notices := t.notices })) ∧
  (∀ s : State, s.running → s.station = .console → s.tx.down.role = .origin → s.tx.down.begun = true →
    s.tx.down.sentThis ≠ some .deep → s.tx.down.frame ≠ 15 →
    ∃ t, exec (.alignmentCellSent .down) s = .next t ∧ t.tx.down.frame = s.tx.down.frame + 1 ∧
      t.tx.down.count = s.tx.down.count ∧
      ∀ e, t.paced.get e =
        { s.paced.get e with credit := min ((s.paced.get e).credit + (s.paced.get e).ar) (16 * (s.params e).burst) }) ∧
  (∀ s : State, s.running → s.station = .console → s.tx.down.role = .origin → s.tx.down.begun = true →
    (s.tx.down.sentThis = some .deep ∨ s.tx.down.frame = 15) →
    ∃ t, exec (.alignmentCellSent .down) s = .next t ∧ t.tx.down.count = s.tx.down.count + 1 ∧
      ∀ e,
        let p := s.paced.get e
        let due := (s.params e).spacing ≤ p.cellsSince ∨
          ∀ n, p.probeAt = some n → (s.params e).interval ≤ (t.tx.down.count - n).toNat
        (t.paced.get e).credit = min (p.credit + p.ar) (16 * (s.params e).burst) ∧
        (p.state ≠ .idle → p.probeWaiting = false → due →
          (t.paced.get e).lastProbe = p.lastProbe + 1 ∧ (t.paced.get e).unanswered = min (p.unanswered + 1) 255 ∧
          (t.paced.get e).cellsSince = 0 ∧ (t.paced.get e).probeAt = some t.tx.down.count) ∧
        (p.state = .idle ∨ p.probeWaiting = true ∨ ¬due → t.paced.get e = { p with credit := (t.paced.get e).credit })) ∧
  (∀ (e : Eye) (n : Num8) (a o k : Nat) (q : List Ctl) (s : State), s.running → s.station = .console →
    s.tx.down.role = .origin → s.frameOpen .down = true → s.payloadSilent .down = false → s.tx.down.gapOwed = false →
    s.audio.source.queue = [] → s.tx.down.fifo = .probe e n a o k :: q →
    let p := s.paced.get e
    ∃ t, exec (.idleSlotArbitration .down) s = .next t ∧
      t.tx.down.line = some (ctlCell .console s.localSlot (.probe e n a o k)) ∧
      (∀ d, d ≠ e → t.paced.get d = s.paced.get d) ∧
      (p.state = .idle ∨ (p.cellsSince < (s.params e).spacing ∧ 1 ≤ (s.params e).interval) →
        t.paced.get e = { p with probeWaiting := false, probeAt := some s.tx.down.count } ∧ t.tx.down.fifo = q) ∧
      (p.state ≠ .idle → (s.params e).spacing ≤ p.cellsSince →
        (t.paced.get e).lastProbe = p.lastProbe + 1 ∧ (t.paced.get e).cellsSince = 0 ∧
        (t.paced.get e).probeAt = some s.tx.down.count ∧
        (q.length < 8 → (t.paced.get e).probeWaiting = true ∧ t.tx.down.fifo.length = q.length + 1)))

/-! ### Lane time, surveys and motion samples (chapter 6) -/

/-- O30. The cells of a survey (R115 to R118). ECHO_TAKEN awaits the token and offers ECHO_BACK; DELAY_TAKEN with the awaited
token sets the offset; ECHO_BACK_TAKEN, matching and true, sets the delay to half the time of the lane's round, posts
DELAY_SET with it and offers DELAY; RESURVEY_TAKEN from a present station begins a new attempt with the next token. That an
untrue third answer leaves an earlier known delay in the table is the model's reading (log entry 28). -/
def Obligations.SurveyCellsSetTheDelay : Prop :=
  ∀ (l : Lane) (c : Cell) (s : State), s.running → (s.rx.get l).handed.head? = some c → c.kind = .control →
    c.dst = .to s.station →
    let token : Num8 := c.payload.getD 1 0
    let room (k : Lane) := (s.tx.get k).role.sends = true ∧ (s.tx.get k).fifo.length < 8
    (s.station ≠ .console → byteAt c.payload 0 = 1 →
      ∃ t, exec (.echoTaken l c) s = .next t ∧ t.surveyed.awaited = some token ∧ t.surveyed.wait = 8 ∧
        t.surveyed.offset = s.surveyed.offset ∧ t.surveyed.known = s.surveyed.known ∧
        t.tx.up.fifo = (if room .up then s.tx.up.fifo ++ [.echoBack token s.localSlot] else s.tx.up.fifo) ∧
        t.tx.down = s.tx.down ∧ t = { s with rx := t.rx, tx := t.tx, surveyed := t.surveyed }) ∧
    (s.station ≠ .console → byteAt c.payload 0 = 3 → s.surveyed.awaited = some token →
      let d := BitVec.ofNat 32 (fieldAt c.payload 2 4)
      ∃ t, exec (.delayTaken l c) s = .next t ∧ t.surveyed = { offset := d, known := true, awaited := none, wait := 0 } ∧
        (s.following = true → t.clock = slotTime (s.rx.down.count.getD 0) s.rx.down.frame s.rx.down.offset + d) ∧
        (s.following = false → t.clock = s.clock) ∧
        (∃ n ∈ t.notices, n.kind = .delaySet ∧ n.subject = .station s.station ∧ n.value = BitVec.ofNat 32 d.toNat) ∧
        t.tx = s.tx ∧ t.stations = s.stations) ∧
    (s.station ≠ .console → byteAt c.payload 0 = 3 → s.surveyed.awaited ≠ some token →
      exec (.delayTaken l c) s = .next (s.taken l c)) ∧
    (s.station = .console → byteAt c.payload 0 = 2 → c.src ≠ .console → (s.surveys.get c.src).state = .waiting →
      (s.surveys.get c.src).token = token →
      let h := fieldAt c.payload 2 4
      let span := s.localSlot - (s.surveys.get c.src).insertedAt
      (h ≤ span → ∃ t, exec (.echoBackTaken l c) s = .next t ∧
        (t.stations.get c.src).delay = some (BitVec.ofNat 32 ((span - h) / 2)) ∧
        (t.surveys.get c.src).state = .idle ∧ (t.surveys.get c.src).failed = 0 ∧
        (∃ n ∈ t.notices, n.kind = .delaySet ∧ n.subject = .station c.src ∧ n.value = BitVec.ofNat 32 ((span - h) / 2)) ∧
        t.tx.down.fifo =
          (if room .down then s.tx.down.fifo ++ [.delay c.src token (BitVec.ofNat 32 ((span - h) / 2))]
          else s.tx.down.fifo) ∧
        ∀ x, x ≠ c.src → t.surveys.get x = s.surveys.get x ∧ t.stations.get x = s.stations.get x) ∧
      (span < h → ∃ t, exec (.echoBackTaken l c) s = .next t ∧ t.stations = s.stations ∧
        (t.surveys.get c.src).failed = (if (s.surveys.get c.src).failed < 2 then (s.surveys.get c.src).failed + 1 else 3) ∧
        ((s.surveys.get c.src).failed < 2 → (t.surveys.get c.src).state = .sending ∧ t.tokens = s.tokens + 1) ∧
        (2 ≤ (s.surveys.get c.src).failed → (t.surveys.get c.src).state = .idle))) ∧
    (s.station = .console → byteAt c.payload 0 = 4 → c.src ≠ .console → (s.stations.get c.src).present = true →
      ∃ t, exec (.resurveyTaken l c) s = .next t ∧ t.tokens = s.tokens + 1 ∧
        (t.surveys.get c.src).state = .sending ∧ (t.surveys.get c.src).token = s.tokens + 1 ∧
        (t.surveys.get c.src).failed = 0 ∧ (t.surveys.get c.src).unknown = false ∧
        (t.surveys.get c.src).discarded = !decide (room .down) ∧
        t.tx.down.fifo =
          (if room .down then s.tx.down.fifo ++ [.echo c.src (s.tokens + 1)] else s.tx.down.fifo) ∧
        (∀ x, x ≠ c.src → t.surveys.get x = s.surveys.get x) ∧ t.stations = s.stations)

/-- O31. An attempt that fails, by SURVEY_TIMEOUT in WAITING or ECHO_DISCARD_FAILURE in SENDING, is followed at once by the
next with a new token, and the third failure ends the survey with the mark and DELAY_UNKNOWN (R116); DELAY_WAIT_EXPIRY with
a token awaited clears it and offers RESURVEY (R118). A local superframe boundary, from the end of LOADING, starts a
conversion (R149); at CONSOLE every WAITING survey waits one boundary more and fails at the fourth, and one whose ECHO was
discarded fails, with the same consequences (R116); elsewhere an awaited DELAY has one boundary less, and when none is left
the token is cleared and RESURVEY joins the up FIFO (R118). The model's choices in this: the boundary that ends a count
makes the expiry that also has a row of its own (log entry 7), a third failure leaves the station table with an earlier known
delay (log entry 28), and the RESURVEY of a boundary stands in the up FIFO ahead of a POWER cell that the same boundary's wear
or motion changes call for (log entry 52). -/
def Obligations.SurveyAttemptsFailThrice : Prop :=
  ((∀ (c : Instr) (x : Station) (s : State), s.live → s.station = .console → x ≠ .console →
     (c = .surveyTimeout x ∧ (s.surveys.get x).state = .waiting ∨
       c = .echoDiscardFailure x ∧ (s.surveys.get x).state = .sending ∧ (s.surveys.get x).discarded = true) →
     ∃ t, exec c s = .next t ∧ (∀ y, y ≠ x → t.surveys.get y = s.surveys.get y) ∧ t.stations = s.stations ∧ t.rx = s.rx ∧
       ((s.surveys.get x).failed < 2 →
         (t.surveys.get x).state = .sending ∧ (t.surveys.get x).failed = (s.surveys.get x).failed + 1 ∧
         (t.surveys.get x).token = s.tokens + 1 ∧ t.tokens = s.tokens + 1 ∧
         (s.tx.down.role.sends = true → s.tx.down.fifo.length < 8 →
           t.tx.down.fifo = s.tx.down.fifo ++ [.echo x (s.tokens + 1)] ∧ (t.surveys.get x).discarded = false) ∧
         (8 ≤ s.tx.down.fifo.length → t.tx.down.fifo = s.tx.down.fifo ∧ (t.surveys.get x).discarded = true)) ∧
       ((s.surveys.get x).failed = 2 →
         (t.surveys.get x).state = .idle ∧ (t.surveys.get x).failed = 3 ∧ (t.surveys.get x).unknown = true ∧
         t.tokens = s.tokens ∧ t.tx = s.tx ∧
         ∃ n ∈ t.notices, n.kind = .delayUnknown ∧ n.subject = .station x ∧ n.value = 3)) ∧
   (∀ s : State, s.station ≠ .console → s.surveyed.awaited ≠ none →
     ∃ t, exec .delayWaitExpiry s = .next t ∧ t.surveyed = { s.surveyed with awaited := none, wait := 0 } ∧
       (s.tx.up.role.sends = true → s.tx.up.fifo.length < 8 → t.tx.up.fifo = s.tx.up.fifo ++ [.resurvey]) ∧
       t.tx.down = s.tx.down ∧ t = { s with tx := t.tx, surveyed := t.surveyed })) ∧
  (∀ (w : Bool) (s : State), s.live →
     let failed (t : State) (x : Station) :=
       ((s.surveys.get x).failed < 2 →
         (t.surveys.get x).state = .sending ∧ (t.surveys.get x).failed = (s.surveys.get x).failed + 1 ∧
         (t.surveys.get x).unknown = (s.surveys.get x).unknown) ∧
       (2 ≤ (s.surveys.get x).failed →
         (t.surveys.get x).state = .idle ∧ (t.surveys.get x).failed = 3 ∧ (t.surveys.get x).unknown = true ∧
         ∃ n ∈ t.notices, n.kind = .delayUnknown ∧ n.subject = .station x ∧ n.value = 3)
     ∃ t, exec (.localSuperframeBoundary w) s = .next t ∧ t.power.converting = true ∧ t.rx = s.rx ∧ t.seqs = s.seqs ∧
       t.clock = s.clock ∧
       (s.station = .console → ∀ x, x ≠ .console → (s.surveys.get x).state = .waiting →
         ((s.surveys.get x).waited < 3 → t.surveys.get x = { s.surveys.get x with waited := (s.surveys.get x).waited + 1 }) ∧
         (3 ≤ (s.surveys.get x).waited → failed t x)) ∧
       (s.station = .console → ∀ x, x ≠ .console → (s.surveys.get x).state = .sending →
         ((s.surveys.get x).discarded = false → t.surveys.get x = s.surveys.get x) ∧
         ((s.surveys.get x).discarded = true → failed t x)) ∧
       (s.station = .console → ∀ x, (s.surveys.get x).state = .idle → t.surveys.get x = s.surveys.get x) ∧
       t.stations = s.stations ∧
       (s.station ≠ .console → t.surveys = s.surveys ∧
         (s.surveyed.awaited = none → t.surveyed = s.surveyed) ∧
         (s.surveyed.awaited ≠ none →
           (2 ≤ s.surveyed.wait → t.surveyed = { s.surveyed with wait := s.surveyed.wait - 1 }) ∧
           (s.surveyed.wait ≤ 1 → t.surveyed = { s.surveyed with awaited := none, wait := 0 } ∧
             (s.tx.up.role.sends = true → s.tx.up.fifo.length < 8 →
               t.tx.up.fifo[s.tx.up.fifo.length]? = some .resurvey ∧
               (s.station ≠ .headset → t.tx.up.fifo = s.tx.up.fifo ++ [.resurvey])) ∧
             (s.station ≠ .headset → t.tx.down = s.tx.down)))))

/-- O32. The debounced wear state (R122): it starts WORN; a sample of the proximity line that agrees with it clears the run,
one that differs counts on, and the fourth in a row changes it. -/
def Obligations.WearIsDebouncedOverFourBoundaries : Prop :=
  State.reset.motion.worn = true ∧
  ∀ (w : Bool) (s : State), s.live → s.station = .headset →
    ∃ t, exec (.localSuperframeBoundary w) s = .next t ∧
      (w = s.motion.worn → t.motion.worn = s.motion.worn ∧ t.motion.wearRun = 0) ∧
      (w ≠ s.motion.worn → s.motion.wearRun < 3 →
        t.motion.worn = s.motion.worn ∧ t.motion.wearRun = s.motion.wearRun + 1) ∧
      (w ≠ s.motion.worn → 3 ≤ s.motion.wearRun → t.motion.worn = w ∧ t.motion.wearRun = 0)

/-- O33. Decimation (R120): in DOZE and WAKING an edge is taken where the count is 0, the count runs on modulo 8 either way,
is 0 on entry to DOZE from SAMPLING and from OFF, by NOT_WORN_COUNT_EXPIRY and by the local superframe boundary that ends the
not-worn count itself (log entry 7), and runs unchanged between DOZE and WAKING, by WEAR_CHANGE and by the boundary that
completes the change; in SAMPLING it is not used. -/
def Obligations.DecimationTakesEveryEighthEdge : Prop :=
  ∀ s : State, s.station = .headset →
    (s.motion.state = .doze ∨ s.motion.state = .waking → s.motion.reading = none →
      ∃ t, exec .dataReadyEdge s = .next t ∧ t.motion.decimation = (s.motion.decimation + 1) % 8 ∧
        t.motion.reading =
          (if s.motion.decimation = 0 then some { time := s.clock, unsettled := !s.settled, doze := true } else none) ∧
        t = { s with motion := t.motion } ∧ t.counters = s.counters) ∧
    (s.motion.state = .sampling → s.motion.reading = none →
      ∃ t, exec .dataReadyEdge s = .next t ∧ t.motion.decimation = s.motion.decimation ∧
        t.motion.reading = some { time := s.clock, unsettled := !s.settled, doze := false }) ∧
    (s.live → s.motion.state = .sampling → s.motion.worn = false →
      ∃ t, exec .notWornCountExpiry s = .next t ∧ t.motion.state = .doze ∧ t.motion.decimation = 0) ∧
    (s.live → s.motion.state = .sampling → s.motion.worn = false → 4095 ≤ s.motion.notWorn →
      ∀ w, w = s.motion.worn ∨ s.motion.wearRun < 3 →
        ∃ t, exec (.localSuperframeBoundary w) s = .next t ∧ t.motion.state = .doze ∧ t.motion.decimation = 0) ∧
    (s.live → s.motion.state = .doze ∨ (s.motion.state = .waking ∧ 2 ≤ s.motion.wakeHold) → ∀ w,
      ∃ t, exec (.localSuperframeBoundary w) s = .next t ∧ (t.motion.state = .doze ∨ t.motion.state = .waking) ∧
        t.motion.decimation = s.motion.decimation) ∧
    (s.motion.state = .off → s.domainOn 2 = true → s.motion.worn = false →
      s.followSensors.motion.state = .doze ∧ s.followSensors.motion.decimation = 0) ∧
    (s.live → s.motion.state = .doze → s.motion.worn = false →
      ∃ t, exec (.wearChange true) s = .next t ∧ t.motion.state = .waking ∧ t.motion.decimation = s.motion.decimation) ∧
    (s.live → s.motion.state = .waking → s.motion.worn = true →
      ∃ t, exec (.wearChange false) s = .next t ∧ t.motion.state = .doze ∧ t.motion.decimation = s.motion.decimation)

/-- O34. The sensor port (R119, R124, R125): an edge in OFF is ignored, one during a read is an overrun; READ_COMPLETION forms
the sample of the captured time and flags, takes the next number and queues it, the oldest of 16 giving way. -/
def Obligations.ReadsFormNumberedSamples : Prop :=
  ∀ (a : Axes) (s : State),
    (s.station = .headset → s.motion.state = .off → exec .dataReadyEdge s = .next s) ∧
    (s.station = .headset → s.motion.state ≠ .off → s.motion.reading ≠ none →
      ∃ t, exec .dataReadyEdge s = .next t ∧
        t.counters.motion.overruns =
          (if s.running then min (s.counters.motion.overruns + 1) 65535 else s.counters.motion.overruns) ∧
        t.motion = { s.motion with silence := t.motion.silence } ∧
        (s.motion.state = .sampling → t.motion.silence = 0)) ∧
    (∀ r, s.motion.reading = some r →
      let x : Sample :=
        { number := s.motion.next, time := r.time, doze := r.doze, unsettled := r.unsettled, lapse := false,
          restart := decide (s.motion.restart < 16), axes := a }
      ∃ t, exec (.readCompletion a) s = .next t ∧ t = { s with motion := t.motion } ∧ t.motion.reading = none ∧
        t.motion.next = s.motion.next + 1 ∧ t.motion.state = s.motion.state ∧
        (s.motion.queue.length < 16 → t.motion.queue = s.motion.queue ++ [x]) ∧
        (16 ≤ s.motion.queue.length → t.motion.queue = s.motion.queue.drop 1 ++ [x]))

/-- O35. The motion states move by the wear state and their counts (R121, R123, R124): the not-worn count's end puts SAMPLING
to DOZE, wear in DOZE begins WAKING with the wake hold at 16, wear lost in WAKING returns to DOZE, the wake hold's end
returns to SAMPLING; each change posts MOTION_STATE. While the wear link is enabled, the display domain's wanted flag is set
at DOZE to WAKING and cleared at SAMPLING to DOZE and WAKING to DOZE, by the rows and by the boundary alike; it is set or
cleared by the wear state as the sensors domain becomes ON, as an admission makes it (R121, R159); and it stands at every
other change and while the link is disabled (R123). The write moves the domain by R153 and the picture records by R57. A
DOMAIN_WANT makes the sensors WAITING at most, so by it the unit leaves OFF never and the flag stands (R152, R153). The
boundary whose sample completes a change of wear steps the counts and then has the effect of WEAR_CHANGE, an order that is
the model's reading (log entry 10). A local superframe boundary that leaves the wear state as it is steps the not-worn count
of SAMPLING, 0 while worn and ending at 4096, and the wake hold of WAKING, ending at 0. The sensors domain leaving ON, as
DOMAIN_WANT makes it, takes every other state to OFF: a read in progress is abandoned and one lapse sample of the next number
joins the queue, with the clock's value, the lapse flag, the doze flag by the state left, unsettled by the time, restart
below 16 and zero axes (R121). A silent sensor posts SENSOR_SILENT with the expected rate and stays SAMPLING. That the
boundary makes the counts' ends itself, and that their rows sent alone act whatever the count reads, is the model's choice
(log entry 7). -/
def Obligations.WearMovesTheMotionStates : Prop :=
  ∀ s : State, s.live → s.station = .headset →
    let posted (t : State) (n : Nat) :=
      ∃ x ∈ t.notices, x.kind = .motionState ∧ x.subject = .flow .motion ∧ x.value = BitVec.ofNat 32 n
    let lapse : Sample :=
      { number := s.motion.next, time := s.clock, doze := s.motion.state == .doze || s.motion.state == .waking,
        unsettled := !s.settled, lapse := true, restart := decide (s.motion.restart < 16),
        axes := { gx := 0, gy := 0, gz := 0, ax := 0, ay := 0, az := 0 } }
    let off : Motion :=
      { s.motion with
        state := .off, reading := none, next := s.motion.next + 1,
        queue := if s.motion.queue.length < 16 then s.motion.queue ++ [lapse] else s.motion.queue.drop 1 ++ [lapse] }
    let wrote (v : Bool) (ds : List Domain) : List Domain :=
      ds.map fun d =>
        if s.cfg.wearLink = true ∧ d.number = 1 ∧ d.wanted ≠ v ∧ (v = true ∨ d.priority ≠ 0) then
          { d with wanted := v, state := if v then (if d.state = .off then .waiting else d.state) else .off }
        else d
    let writes (v : Bool) (t : State) : Prop :=
      let x : State := { s with power := { s.power with domains := wrote v s.power.domains } }
      let y := if s.cfg.wearLink then x.followDisplay else s
      t.power.domains = x.power.domains ∧ t.dst = y.dst ∧ t.eyes = y.eyes
    let stands (t : State) : Prop := t.power.domains = s.power.domains ∧ t.dst = s.dst ∧ t.eyes = s.eyes
    let left (t : State) : Prop :=
      (s.motion.worn = true →
        t.motion = { s.motion with state := .sampling, notWorn := 0, silence := 0 } ∧ posted t 1) ∧
      (s.motion.worn = false → t.motion = { s.motion with state := .doze, decimation := 0 } ∧ posted t 2)
    (∀ w : Bool, w = s.motion.worn ∨ s.motion.wearRun < 3 →
      ∃ t, exec (.localSuperframeBoundary w) s = .next t ∧
        (let sleeps := s.motion.state = .sampling ∧ s.motion.worn = false ∧ 4095 ≤ s.motion.notWorn
         (sleeps → writes false t) ∧ (¬sleeps → stands t)) ∧
        (s.motion.state = .off ∨ s.motion.state = .doze → t.motion.state = s.motion.state) ∧
        (s.motion.state = .sampling → s.motion.worn = true → t.motion.state = .sampling ∧ t.motion.notWorn = 0) ∧
        (s.motion.state = .sampling → s.motion.worn = false → s.motion.notWorn < 4095 →
          t.motion.state = .sampling ∧ t.motion.notWorn = s.motion.notWorn + 1) ∧
        (s.motion.state = .sampling → s.motion.worn = false → 4095 ≤ s.motion.notWorn →
          t.motion.state = .doze ∧ posted t 2) ∧
        (s.motion.state = .waking → 2 ≤ s.motion.wakeHold →
          t.motion.state = .waking ∧ t.motion.wakeHold = s.motion.wakeHold - 1) ∧
        (s.motion.state = .waking → s.motion.wakeHold ≤ 1 →
          t.motion.state = .sampling ∧ t.motion.notWorn = 0 ∧ t.motion.silence = 0 ∧ posted t 1) ∧
        t.motion.queue = s.motion.queue ∧ t.motion.next = s.motion.next) ∧
    (∀ w : Bool, w ≠ s.motion.worn → 3 ≤ s.motion.wearRun →
      ∃ u t, exec (.localSuperframeBoundary s.motion.worn) s = .next u ∧ exec (.wearChange w) u = .next t ∧
        exec (.localSuperframeBoundary w) s = .next t) ∧
    (s.motion.state = .off → s.domainOn 2 = true → left s.followSensors ∧ writes s.motion.worn s.followSensors) ∧
    (s.motion.state = .off → ∀ d, candidate s.power.domains = some d → d.number = 2 → s.admissible d = true →
      left s.admission ∧
        s.admission.power.domains =
          wrote s.motion.worn (s.power.domains.map fun e => if e.number = 2 then { e with state := .on } else e)) ∧
    (s.motion.state = .off → s.domainOn 2 = false → s.service.parser = .waiting → s.service.answers.length ≤ 510 → ∀ v,
      ∃ t, exec (.domainWant 2 v) s = .next t ∧ t.motion = s.motion ∧ t.domainOn 2 = false ∧
        ∀ (i : Nat) (d : Domain), s.power.domains[i]? = some d → d.number = 1 → t.power.domains[i]? = some d) ∧
    (s.motion.state ≠ .off → s.domainOn 2 = false →
      s.followSensors = { s with motion := off, notices := s.followSensors.notices } ∧ posted s.followSensors 0) ∧
    (s.motion.state ≠ .off → s.service.parser = .waiting → s.service.answers.length ≤ 510 →
      (∃ d ∈ s.power.domains, d.number = 2) →
      (∀ d ∈ s.power.domains, d.number = 2 → d.wanted = true ∧ d.priority ≠ 0) →
      ∃ t, exec (.domainWant 2 0) s = .next t ∧ t.domainOn 2 = false ∧ t.motion = off ∧ posted t 0) ∧
    (s.motion.state = .sampling → s.motion.worn = false →
      ∃ t, exec .notWornCountExpiry s = .next t ∧ t.motion.state = .doze ∧ posted t 2 ∧ t.motion.queue = s.motion.queue ∧
        writes false t) ∧
    (s.motion.state = .doze → s.motion.worn = false →
      ∃ t, exec (.wearChange true) s = .next t ∧ t.motion.state = .waking ∧ t.motion.wakeHold = 16 ∧ posted t 3 ∧
        t.motion.worn = true ∧ writes true t ∧
        (s.cfg.wearLink = true → ∀ d ∈ t.power.domains, d.number = 1 → d.wanted = true)) ∧
    (s.motion.state = .waking → s.motion.worn = true →
      ∃ t, exec (.wearChange false) s = .next t ∧ t.motion.state = .doze ∧ posted t 2 ∧ t.motion.worn = false ∧
        writes false t) ∧
    (∀ w : Bool, w ≠ s.motion.worn → s.motion.state = .off ∨ s.motion.state = .sampling →
      ∃ t, exec (.wearChange w) s = .next t ∧ t.motion.state = s.motion.state ∧ t.motion.worn = w ∧ stands t) ∧
    (s.motion.state = .waking →
      ∃ t, exec .wakeHoldExpiry s = .next t ∧ t.motion.state = .sampling ∧ t.motion.notWorn = 0 ∧ t.motion.silence = 0 ∧
        posted t 1 ∧ t = { s with motion := t.motion, notices := t.notices }) ∧
    (s.motion.state = .sampling → s.motion.silence < silenceThreshold s.cfg.motionRate →
      ∃ t, exec .sensorSilent s = .next t ∧ t.motion.state = .sampling ∧
        t.motion.silence = silenceThreshold s.cfg.motionRate ∧
        (∃ x ∈ t.notices, x.kind = .sensorSilent ∧ x.subject = .flow .motion ∧
          x.value = BitVec.ofNat 32 (if s.cfg.motionRate = 0 then 500 else if s.cfg.motionRate = 1 then 1000 else 2000)) ∧
        t = { s with motion := t.motion, notices := t.notices })

/-- O36. A sample that CONSOLE takes (R126, R127): its missing count and first mark by the restart flag and the expected
number; the queue of 16 passes the count of an oldest sample it discards to the next; a ready line, high or rising, hands
over all that waits, and one that falls changes the line alone. DATA_CELL_TAKEN gives CONSOLE the sample of every cell of
flow 2 that its LISTENING record takes from HEADSET with the start bit set, after the sequence check, a gap or none; one
without the start bit is misrouted (R58, R59, R61, R46). The up RX leaving LOCKED, and its fault-seen flag becoming set,
clear the restart run and leave the expected number and the queue (R126). -/
def Obligations.MotionOutputAccountsForSamples : Prop :=
  (∀ (x : Sample) (s : State),
    let o := s.motionOut
    let first := (x.restart && !o.restartRun) || o.expected.isNone
    let missing : Num16 := if first then 0 else x.number - o.expected.getD 0
    let y : OutSample := { sample := x, missing := missing, first := first }
    let t := s.takeSample x
    t.motionOut.expected = some (x.number + 1) ∧ t.motionOut.restartRun = x.restart ∧
    (s.pins.motionReady = false → o.queue.length < 16 → t.motionOut.queue = o.queue ++ [y]) ∧
    (s.pins.motionReady = false → ∀ old a rest, o.queue = old :: a :: rest → o.queue.length = 16 →
      t.motionOut.queue =
        (if old.first then { a with first := true, missing := 0 } else { a with missing := a.missing + old.missing + 1 }) ::
          (rest ++ [y])) ∧
    (s.pins.motionReady = true → o.queue.length < 16 → t.motionOut.queue = [] ∧ t.motionOut.out = o.queue ++ [y]) ∧
    t = { s with motionOut := t.motionOut }) ∧
  (∀ s : State,
    (∃ t, exec .motionReadyRise s = .next t ∧ t.pins.motionReady = true ∧ t.motionOut.queue = [] ∧
      (s.motionOut.queue ≠ [] → t.motionOut.out = s.motionOut.queue) ∧
      t.motionOut.expected = s.motionOut.expected ∧ t = { s with pins := t.pins, motionOut := t.motionOut }) ∧
    exec .motionReadyFall s = .next { s with pins := { s.pins with motionReady := false } }) ∧
  (∀ (l : Lane) (c : Cell) (e : Option Seq) (s : State), s.live → s.station = .console →
     (s.rx.get l).handed.head? = some c → c.kind = .data → c.dst = .to .console → c.src = .headset →
     flowOf c.flow = some .motion → s.dst.get .motion = some ⟨.listening, e⟩ →
     let before := s.counters.get .motion
     let checked : FlowCounters :=
       { before with
         gaps := if s.running ∧ e.isSome = true ∧ e ≠ some c.seq then min (before.gaps + 1) 65535 else before.gaps }
     let held : State :=
       { s.taken l c with
         dst := s.dst.set .motion (some ⟨.listening, some (c.seq + 1)⟩), counters := s.counters.set .motion checked }
     (c.start = true → exec (.dataCellTaken l c) s = .next (held.takeSample (readSample c))) ∧
     (c.start = false →
       exec (.dataCellTaken l c) s =
         .next
           { held with
             counters :=
               s.counters.set .motion
                 { checked with
                   misrouted := if s.running then min (checked.misrouted + 1) 65535 else checked.misrouted } })) ∧
  (∀ s : State, s.live → s.rx.up.state = .locked →
     let cleared := { s.motionOut with restartRun := false }
     (∃ t, exec (.signalAbsent .up) s = .next t ∧ t.motionOut = cleared) ∧
     (∀ found, s.rx.up.correct found = none →
       ∃ t, exec (.expectedAlignmentCell .up found) s = .next t ∧
         t.motionOut = if 3 ≤ s.rx.up.errRun then cleared else s.motionOut) ∧
     (∀ found i, s.rx.up.correct found = some i → hopLost (s.rx.up.hopHistory i.hop) = false →
       ∃ t, exec (.expectedAlignmentCell .up found) s = .next t ∧
         t.motionOut = if s.rx.up.fault = false ∧ i.fault = true then cleared else s.motionOut) ∧
     (∀ found i, s.rx.up.correct found = some i → hopLost (s.rx.up.hopHistory i.hop) = true →
       ∃ t, exec (.expectedAlignmentCell .up found) s = .next t ∧ t.motionOut = cleared))

/-! ### Audio (chapter 7) -/

/-- O37. FRAME_CLOCK_EDGE at a station with an audio port (R131, R138): the clock is present, exactly one output frame is
emitted and the frame position moves modulo 4; between block boundaries buffer, register and state stand, and at a boundary
the register is loaded by the sink's state as the table gives. An underflow slip starts afresh the pulse of each SLIP_PULSE
output, and no other edge starts one (R187). The frame emitted is that of the register as then loaded, at the position the
edge found: unchanged at CONSOLE, the idle frame for an idle block, and elsewhere through the mixer, whose output frame
MixerScalesAddsAndSaturates (O40) gives. That POD and HEADSET emit a frame at each edge whether or not they are the audio
station is the model's reading (log entry 32). -/
def Obligations.EdgeEmitsOneFrameInEveryState : Prop :=
  ∀ (a b : BitVec 24) (s : State), s.live → s.station ≠ .strap →
    let k := s.audio.sink
    let flow := if s.station = .console then FlowId.audioIn else .audioOut
    ∃ t, exec (.frameClockEdge a b) s = .next t ∧ t.audio.clock = true ∧
      t.audio.out =
        some
          (({ t with audio := { t.audio with sink := { t.audio.sink with position := k.position } } } : State).outputFrame
            a.toInt) ∧
      (s.station = .console → ∀ frames x, t.audio.sink.play = .received frames → frames[k.position]? = some x →
        t.audio.out = some x) ∧
      (s.station = .console → t.audio.sink.play = .idle →
        t.audio.out = some { ch1 := s.cfg.idleIn.ch1, ch2 := if s.cfg.twoIn then s.cfg.idleIn.ch2 else 0 }) ∧
      t.audio.sink.position = (k.position + 1) % 4 ∧ t.audio.volume = s.audio.volume ∧ t.audio.muted = s.audio.muted ∧
      (k.position ≠ 0 → t.audio.sink = { k with position := (k.position + 1) % 4 } ∧ t.notices = s.notices) ∧
      (k.position = 0 → k.state ≠ .playing → t.audio.sink = { k with play := .idle, position := 1 } ∧ t.notices = s.notices) ∧
      (k.position = 0 → k.state = .playing → ∀ x q, k.buffer = x :: q →
        t.audio.sink = { k with play := x, buffer := q, repeatDone := false, position := 1 } ∧ t.notices = s.notices) ∧
      (k.position = 0 → k.state = .playing → k.buffer = [] → k.repeatDone = false →
        t.audio.sink = { k with repeatDone := true, position := 1 } ∧
        (∃ n ∈ t.notices, n.kind = .slip ∧ n.subject = .flow flow ∧ n.value = 0) ∧
        (s.running → (t.counters.get flow).underflows = min ((s.counters.get flow).underflows + 1) 65535)) ∧
      (k.position = 0 → k.state = .playing → k.buffer = [] → k.repeatDone = true →
        t.audio.sink = { k with play := .idle, state := .priming, expected := none, position := 1 } ∧
        (∃ n ∈ t.notices, n.kind = .slip ∧ n.subject = .flow flow ∧ n.value = 1) ∧ t.counters = s.counters) ∧
      (let slips := k.position = 0 ∧ k.state = .playing ∧ k.buffer = [] ∧ k.repeatDone = false
       t.pulses =
         { a := if slips ∧ s.cfg.outA = .slipPulse then 64 else s.pulses.a,
           b := if slips ∧ s.cfg.outB = .slipPulse then 64 else s.pulses.b }) ∧
      t.rx = s.rx ∧ t.tx = s.tx ∧ t.power = s.power ∧ t.motion = s.motion

/-- O38. The block builder (R132 to R134): at an edge of an open source the input frame is stored, and with the fourth a block
of the next number is built and queued, the oldest of 4 giving way, the idle pattern in its place under mute; at a closed
one with its clock present nothing is stored, and the numbers run on. FRAME_CLOCK_ABSENT closes the source and leaves queue
and sink. The edge that finds the source closed and its domain ON opens it, its frame being the first (R55, R131; that this
frame is stored is the model's reading, log entry 33). -/
def Obligations.FourFramesMakeABlock : Prop :=
  ∀ (a b : BitVec 24) (s : State), s.live → s.station ≠ .strap → s.holdsSource = true →
    let k := s.audio.source
    let two := if s.station = .console then s.cfg.twoOut else s.cfg.twoIn
    let f : Frame := { ch1 := a.toInt, ch2 := if two then b.toInt else 0 }
    let frames :=
      if s.station ≠ .console ∧ s.audio.muted = true then
        List.replicate 4 { ch1 := s.cfg.idleIn.ch1, ch2 := if s.cfg.twoIn then s.cfg.idleIn.ch2 else 0 }
      else k.frames ++ [f]
    let block : Block :=
      { number := k.next, dst := if s.station = .console then s.audioStation else .console, frames := frames }
    (k.opened = true → s.domainOn (sourceDomain s.station) = true →
      ∃ t, exec (.frameClockEdge a b) s = .next t ∧
        (k.position < 3 → t.audio.source = { k with position := k.position + 1, frames := k.frames ++ [f] }) ∧
        (3 ≤ k.position → t.audio.source.position = 0 ∧ t.audio.source.frames = [] ∧ t.audio.source.next = k.next + 1 ∧
          t.audio.source.queue = (if k.queue.length < 4 then k.queue ++ [block] else k.queue.drop 1 ++ [block]))) ∧
    (k.opened = false → s.domainOn (sourceDomain s.station) = false →
      ∃ t, exec (.frameClockEdge a b) s = .next t ∧ t.audio.source.queue = k.queue ∧ t.audio.source.frames = [] ∧
        t.audio.source.opened = false ∧
        t.audio.source.next = (if k.position < 3 then k.next else k.next + 1) ∧
        t.audio.source.position = (if k.position < 3 then k.position + 1 else 0)) ∧
    (k.opened = false → s.domainOn (sourceDomain s.station) = true →
      ∃ t, exec (.frameClockEdge a b) s = .next t ∧ t.audio.clock = true ∧
        t.audio.source = { k with opened := true, position := 1, frames := [f] }) ∧
    (∃ t, exec .frameClockAbsent s = .next t ∧ t.audio.clock = false ∧ t.audio.source.opened = false ∧
      t.audio.source.queue = k.queue ∧ t.audio.source.next = k.next ∧
      (k.opened = true → t.audio.source.position = 0 ∧ t.audio.source.frames = []) ∧ t.audio.sink = s.audio.sink ∧
      t = { s with audio := t.audio })

/-- O39. A block that arrives at a sink out of MUTED is judged by its number (R136, R137): first, in order, after a short
gap of 1 to 4 filled with idle blocks, a discontinuity from 5 on that flushes the buffer, or late, which counts and changes
nothing else. In MUTED it is discarded. An append to a full elastic buffer discards the oldest block with an overflow slip,
so the buffer keeps its newest 16 blocks (R137). DATA_CELL_TAKEN gives the sink the block of every cell that the LISTENING
record of the flow it sinks takes, flow 4 at CONSOLE and flow 3 at the audio station, after the sequence check, a gap or
none; one without the start bit, or whose channel count is not the flow's, is misrouted (R58, R59, R61, R46). -/
def Obligations.BlocksAreJudgedByNumber : Prop :=
  (∀ (n : Num8) (frames : List Frame) (s : State),
     let k := s.audio.sink
     let t := s.takeBlock n frames
     let flow := if s.station = .console then FlowId.audioIn else .audioOut
     (k.state = .muted → t = s) ∧
     (k.state ≠ .muted →
       (k.expected = none → k.buffer.length < 16 →
         t.audio.sink.buffer = k.buffer ++ [.received frames] ∧ t.audio.sink.expected = some (n + 1) ∧
         t.audio.sink.repeatDone = false ∧ t.counters = s.counters) ∧
       (∀ e, k.expected = some e → (n - e).toNat ≤ 4 → k.buffer.length + (n - e).toNat < 16 →
         t.audio.sink.buffer = k.buffer ++ List.replicate (n - e).toNat .idle ++ [.received frames] ∧
         t.audio.sink.expected = some (n + 1) ∧ t.audio.sink.repeatDone = false ∧ t.counters = s.counters ∧
         t.audio.sink.state =
           (if k.state = .priming ∧ 8 ≤ k.buffer.length + (n - e).toNat + 1 then .playing else k.state)) ∧
       (∀ e, k.expected = some e → 5 ≤ (n - e).toNat → (n - e).toNat ≤ 127 →
         t.audio.sink.buffer = [.received frames] ∧ t.audio.sink.expected = some (n + 1) ∧
         t.audio.sink.state = .priming ∧ t.audio.sink.play = k.play ∧
         (s.live → ∃ x ∈ t.notices, x.kind = .slip ∧ x.subject = .flow flow ∧ x.value = 3)) ∧
       (∀ e, k.expected = some e → 128 ≤ (n - e).toNat →
         t = { s with counters := t.counters } ∧
         (t.counters.get flow).lateBlocks =
           (if s.running then min ((s.counters.get flow).lateBlocks + 1) 65535 else (s.counters.get flow).lateBlocks)))) ∧
  (∀ (x : PlayBlock) (s : State), s.live → s.audio.sink.buffer.length = 16 →
     let flow := if s.station = .console then FlowId.audioIn else .audioOut
     let t := s.appendBlock x
     t.audio.sink.buffer = s.audio.sink.buffer.drop 1 ++ [x] ∧
     (∃ n ∈ t.notices, n.kind = .slip ∧ n.subject = .flow flow ∧ n.value = 2) ∧
     (s.running → (t.counters.get flow).overflows = min ((s.counters.get flow).overflows + 1) 65535) ∧
     (s.cfg.outA = .slipPulse → t.pulses.a = 64) ∧ (s.cfg.outB = .slipPulse → t.pulses.b = 64) ∧
     t.audio.sink.play = s.audio.sink.play ∧ t.audio.sink.expected = s.audio.sink.expected) ∧
  (∀ (l : Lane) (c : Cell) (e : Option Seq) (s : State), s.live →
     let f := if s.station = .console then FlowId.audioIn else .audioOut
     let two := if s.station = .console then s.cfg.twoIn else s.cfg.twoOut
     (s.rx.get l).handed.head? = some c → c.kind = .data → c.dst = .to s.station → s.planDest f = s.station →
     c.src = s.planSource f → flowOf c.flow = some f → s.dst.get f = some ⟨.listening, e⟩ →
     let before := s.counters.get f
     let checked : FlowCounters :=
       { before with
         gaps := if s.running ∧ e.isSome = true ∧ e ≠ some c.seq then min (before.gaps + 1) 65535 else before.gaps }
     let held : State :=
       { s.taken l c with
         dst := s.dst.set f (some ⟨.listening, some (c.seq + 1)⟩), counters := s.counters.set f checked }
     (∀ n frames, c.start = true → readBlock c two = some (n, frames) →
       exec (.dataCellTaken l c) s = .next (held.takeBlock n frames)) ∧
     (c.start = false ∨ readBlock c two = none →
       exec (.dataCellTaken l c) s =
         .next
           { held with
             counters :=
               s.counters.set f
                 { checked with
                   misrouted := if s.running then min (checked.misrouted + 1) 65535 else checked.misrouted } }))

/-- O40. The mixer (R141, R142): a received sample is scaled by the volume's gain to the nearest integer, ties away from zero;
an idle block's pattern is not; the sidetone is added alike on both channels where it applies; and the sum is saturated to
24 bits. -/
def Obligations.MixerScalesAddsAndSaturates : Prop :=
  (∀ (x : Int) (g : Nat),
    2 * (scaled x g * 32768 - x * g).natAbs ≤ 32768 ∧
    (2 * (scaled x g * 32768 - x * g).natAbs = 32768 → (x * g).natAbs < (scaled x g * 32768).natAbs)) ∧
  ((List.range 16).map gain =
    [32767, 23198, 16423, 11627, 8231, 5827, 4125, 2920, 2068, 1464, 1036, 734, 519, 368, 260, 0]) ∧
  ∀ (mic : Int) (s : State), s.station ≠ .console →
    let applies := s.isAudio = true ∧ s.domainOn (sinkDomain s.station) = true ∧
      s.domainOn (sourceDomain s.station) = true ∧ s.audio.muted = false ∧ s.cfg.sidetone < 15
    let b := if applies then scaled mic (gain s.cfg.sidetone) else 0
    let sum (a : Int) := max (-8388608) (min 8388607 (a + b))
    let o := s.outputFrame mic
    (-8388608 ≤ o.ch1 ∧ o.ch1 ≤ 8388607 ∧ -8388608 ≤ o.ch2 ∧ o.ch2 ≤ 8388607) ∧
    (∀ frames f, s.audio.sink.play = .received frames → frames[s.audio.sink.position]? = some f →
      o.ch1 = sum (scaled f.ch1 (gain s.audio.volume)) ∧
      o.ch2 = sum (scaled (if s.cfg.twoOut then f.ch2 else f.ch1) (gain s.audio.volume))) ∧
    (s.audio.sink.play = .idle →
      o.ch1 = sum s.cfg.idleOut.ch1 ∧ o.ch2 = sum (if s.cfg.twoOut then s.cfg.idleOut.ch2 else s.cfg.idleOut.ch1))

/-- O41. The buttons at POD and HEADSET in RUNNING (R144, R145). A press, by BUTTON_PRESS on a RELEASED line, makes the line
PRESSED with its run at 0 and acts: at the audio station itself VOL+ and VOL- move the volume step and MUTE toggles microphone
mute; elsewhere the VOLUME or MUTE cell is offered to the lane toward the audio station, down from POD and up from HEADSET; in
every case BUTTON is offered to the up FIFO, and a full FIFO takes no cell. A release, by BUTTON_RELEASE on a PRESSED line,
changes the line alone. LOCAL_RI_BOUNDARY debounces each line on its own: a sample that agrees sets its run to 0, one that
differs raises it, and the fourth in a row changes the line. A run completed to PRESSED has the effect of BUTTON_PRESS for that
button besides; a run completed to RELEASED, and one not completed, change the lines alone. Where both cells of a press go to one
FIFO, the order in which they are offered is the model's choice (log entries 10 and 46), as is the order VOL+, VOL-, MUTE of
presses that complete together (log entry 46), and so is that LOCAL_RI_BOUNDARY performs the press or the release at the end of a
run while BUTTON_PRESS and BUTTON_RELEASE sent alone act whatever the run reads (log entry 7). -/
def Obligations.PressesActOrAreSent : Prop :=
  let line (x : State) (b : Button) : ButtonLine :=
    match b with | .volUp => x.audio.volUp | .volDown => x.audio.volDown | .mute => x.audio.mute
  let withLine (x : State) (b : Button) (k : ButtonLine) : State :=
    { x with
      audio :=
        match b with
        | .volUp => { x.audio with volUp := k }
        | .volDown => { x.audio with volDown := k }
        | .mute => { x.audio with mute := k } }
  let push (x : Tx) (c : Ctl) : Tx :=
    { x with fifo := if x.role.sends = true ∧ x.fifo.length < 8 then x.fifo ++ [c] else x.fifo }
  let press (x : State) (b : Button) : State :=
    let a := x.audioStation
    let command : Ctl := match b with | .volUp => .volume a false | .volDown => .volume a true | .mute => .mute a
    { x with
      audio :=
        if a ≠ x.station then x.audio
        else
          match b with
          | .volUp => { x.audio with volume := x.audio.volume - 1 }
          | .volDown => { x.audio with volume := min (x.audio.volume + 1) 14 }
          | .mute => { x.audio with muted := !x.audio.muted },
      tx :=
        { down := if a ≠ x.station ∧ x.station = .pod then push x.tx.down command else x.tx.down,
          up := push (if a ≠ x.station ∧ x.station = .headset then push x.tx.up command else x.tx.up) (.button b) } }
  ∀ s : State, s.running → (s.station = .pod ∨ s.station = .headset) →
    (∀ b, (line s b).pressed = false → exec (.buttonPress b) s = .next (withLine (press s b) b ⟨true, 0⟩)) ∧
    (∀ b, (line s b).pressed = true → exec (.buttonRelease b) s = .next (withLine s b ⟨false, 0⟩)) ∧
    ∀ u d m : Bool,
      let level (b : Button) : Bool := match b with | .volUp => u | .volDown => d | .mute => m
      let after (b : Button) : ButtonLine :=
        if level b = (line s b).pressed then ⟨(line s b).pressed, 0⟩
        else if (line s b).run < 3 then ⟨(line s b).pressed, (line s b).run + 1⟩
        else ⟨level b, 0⟩
      let sampled (x : State) : State := [Button.volUp, .volDown, .mute].foldl (fun y b => withLine y b (after b)) x
      let completes (b : Button) : Bool := decide ((line s b).pressed = false ∧ level b = true ∧ 3 ≤ (line s b).run)
      exec (.localRiBoundary u d m) s = .next (sampled (([Button.volUp, .volDown, .mute].filter completes).foldl press s)) ∧
      ((∀ b, completes b = false) → exec (.localRiBoundary u d m) s = .next (sampled s)) ∧
      (∀ b, completes b = true → (∀ c, c ≠ b → completes c = false) →
        ∃ t, exec (.buttonPress b) s = .next t ∧ exec (.localRiBoundary u d m) s = .next (sampled t))

/-- O42. Audio cells taken (R146): at the audio station in RUNNING a VOLUME cell moves the step and a MUTE cell toggles
mute; at CONSOLE a BUTTON cell is posted, its press count raised where the entry waits already (R185). -/
def Obligations.AudioCellsAct : Prop :=
  ∀ (l : Lane) (c : Cell) (s : State), (s.rx.get l).handed.head? = some c → c.kind = .control → c.dst = .to s.station →
    let held := { s with rx := (s.taken l c).rx }
    let x := byteAt c.payload 1
    (s.running → s.isAudio = true → byteAt c.payload 0 = 5 →
      exec (.volumeCellTaken l c) s =
        .next
          (if x = 0 then { held with audio := { s.audio with volume := s.audio.volume - 1 } }
          else if x = 1 then { held with audio := { s.audio with volume := min (s.audio.volume + 1) 14 } }
          else held)) ∧
    (s.running → s.isAudio = true → byteAt c.payload 0 = 7 →
      exec (.muteCellTaken l c) s = .next { held with audio := { s.audio with muted := !s.audio.muted } }) ∧
    (s.isAudio = false →
      exec (.volumeCellTaken l c) s = .next held ∧ exec (.muteCellTaken l c) s = .next held) ∧
    (s.station = .console → s.live → byteAt c.payload 0 = 6 → x ≤ 2 →
      ∃ t, exec (.buttonCellTaken l c) s = .next t ∧ t = { held with notices := t.notices } ∧
        (∃ n ∈ t.notices, n.kind = .button ∧ n.subject = .buttons ∧
          n.value =
            BitVec.ofNat 32
              (min ((match s.notices.find? (fun m => m.subject == .buttons) with | some m => m.value.toNat / 256 | none => 0) + 1) 255
                * 256 + x)))

/-! ### Power and the report balance (chapters 8, 9) -/

/-- O43. POWER_REPORT_TAKEN, a broadcast report in range of another station, makes that station's view entry HEARD with age 0
and the report's fields (R157, R168), and the applied shed level is worked out afresh from it: where it changes, every ON
domain that it does not allow becomes SHED, and all others stand (R153, R154). VIEW_ENTRY_SILENT makes a HEARD entry SILENT
with its fields kept, with the same effect on the level. -/
def Obligations.ReportsKeepThePeerView : Prop :=
  ∀ (l : Lane) (c : Cell) (r : Report) (x : Station) (s : State), s.live →
    let shed (level : Nat) : List Domain :=
      if level = s.power.applied then s.power.domains
      else s.power.domains.map fun d => if d.state = .on ∧ 8 - level ≤ d.priority then { d with state := .shed } else d
    ((s.rx.get l).handed.head? = some c → c.kind = .power → c.dst = .broadcast → c.src ≠ s.station → readReport c = some r →
      ∃ t, exec (.powerReportTaken l c) s = .next t ∧ t.views = s.views.set c.src { state := .heard, age := 0, report := r } ∧
        t.power.applied = t.appliedLevel ∧ t.power.rail = s.power.rail ∧
        (∀ d ∈ t.power.domains, d.state = .on → (∃ e ∈ s.power.domains, e.number = d.number ∧ e.state = .on)) ∧
        (t.power.applied ≠ s.power.applied → ∃ n ∈ t.notices, n.kind = .supplyLevel ∧ n.subject = .supply) ∧
        (s.power.applied < t.power.applied → ∀ d ∈ t.power.domains, d.state = .on → d.priority < 8 - t.power.applied) ∧
        (let level := ({ s with views := t.views } : State).appliedLevel
         (s.station = .headset → (s.motion.state = .off ↔ s.domainOn 2 = false)) → t.power.domains = shed level)) ∧
    ((s.rx.get l).handed.head? = some c → c.kind = .power → (c.dst ≠ .broadcast ∨ c.src = s.station ∨ readReport c = none) →
      exec (.powerReportTaken l c) s = .next (s.taken l c)) ∧
    (x ≠ s.station → (s.views.get x).state = .heard →
      ∃ t, exec (.viewEntrySilent x) s = .next t ∧ (t.views.get x).state = .silent ∧
        (t.views.get x).report = (s.views.get x).report ∧ (∀ y, y ≠ x → t.views.get y = s.views.get y) ∧
        t.power.applied = t.appliedLevel ∧ t.rx = s.rx ∧ t.stations = s.stations ∧
        (let level := ({ s with views := t.views } : State).appliedLevel
         (s.station = .headset → (s.motion.state = .off ↔ s.domainOn 2 = false)) → t.power.domains = shed level))

/-- O44. SAMPLE_EVENT, a conversion under way, gives each channel its value (R149), judges droop and cutoff (R155) and
counts the brownout run, whose fourth takes the station into a BROWNOUT reset (R150). Droop shedding takes an ON domain
above priority 0 that no other such domain exceeds in priority number, nor, at the same priority, follows in the table;
where there is none it takes none (R155). It becomes SHED, at cutoff every ON domain above priority 0 does, and with RAIL
below admit and no trip every other domain stands as it was (R153, R155). The droop mark is set by a shed, droop or cutoff,
and stands as it was where there is no domain to take. At CONSOLE, its switch closed, a P above five quarters of the limit
raises the overload run, any other sets it to 0, and the second in a row trips; with the switch open neither moves (R163). A
trip's SUPPLY_TRIP is what stands for the subject supply, after the SUPPLY_LEVEL of its level; and a trip by the sample that
is also the fourth of the brownout run comes before the reset, which leaves the switch as it then is (R164): both are the
model's choice (log entries 48 and 10). With no droop, a SHED domain that the level allows returns to WAITING where RAIL is
at or above admit, and any other stays SHED (R153). At STRAP the battery flag follows AUX, the offer follows the flag and
the charger, and the level is 0 while the offer is (R165, R166). -/
def Obligations.SampleEventJudgesTheRail : Prop :=
  (∀ (a b c : BitVec 10) (s : State), s.live → s.power.converting = true →
     let value (k : Scale) (x : BitVec 10) : Nat :=
       (max 0 (min 65535 (((x.toNat * k.gain / 256 : Nat) : Int) + k.offset))).toNat
     let rail := value s.cfg.rail a
     let load := value s.cfg.load b
     let supply := s.station = .console ∨ s.station = .strap
     ∃ t, exec (.sampleEvent a b c) s = .next t ∧
       (rail < s.cfg.brownoutMv → 3 ≤ s.power.brownRun →
         t = { State.reset with
           cause := .brownout, pins := s.pins, pending := s.pending,
           power := { State.reset.power with
             switchClosed := s.power.switchClosed &&
               !decide (s.station = .console ∧ (12000 + 6000 * s.sup.toNat) * 5 / 4 < load * rail / 1000 ∧
                 1 ≤ s.power.overRun) } }) ∧
       (¬(rail < s.cfg.brownoutMv ∧ 3 ≤ s.power.brownRun) →
         t.power.rail = rail ∧ t.power.load = load ∧ t.power.converting = false ∧
         t.power.aux = (if s.station = .strap then value s.cfg.aux c else 0) ∧
         (supply → t.power.p = load * rail / 1000) ∧
         t.power.brownRun = (if rail < s.cfg.brownoutMv then s.power.brownRun + 1 else 0) ∧
         (rail < s.cfg.cutoffMv → ∀ d ∈ t.power.domains, d.state = .on → d.priority = 0) ∧
         (s.cfg.cutoffMv ≤ rail → s.cfg.shedMv ≤ rail → t.power.droop = s.power.droop) ∧
         (s.cfg.cutoffMv ≤ rail → rail < s.cfg.shedMv → s.power.droop = false → ∀ x, droopPick s.power.domains = some x →
           t.power.droop = true ∧ ∀ d ∈ t.power.domains, d.number = x.number → d.state ≠ .on) ∧
         (rail < s.cfg.cutoffMv → droopPick s.power.domains ≠ none → t.power.droop = true) ∧
         (droopPick s.power.domains = none → t.power.droop = s.power.droop) ∧
         (s.cfg.cutoffMv ≤ rail → rail < s.cfg.shedMv → s.power.droop = true → t.power.droop = true ∧
           (rail < s.cfg.admitMv → s.station ≠ .console → t.power.domains = s.power.domains)) ∧
         ((s.station = .console →
             s.power.switchClosed = false ∨ load * rail / 1000 ≤ (12000 + 6000 * s.sup.toNat) * 5 / 4 ∨ s.power.overRun = 0) →
           (s.station = .headset → (s.motion.state = .off ↔ s.domainOn 2 = false)) → rail < s.cfg.admitMv →
           (rail < s.cfg.cutoffMv →
             t.power.domains =
               s.power.domains.map fun d => if d.state = .on ∧ 0 < d.priority then { d with state := .shed } else d) ∧
           (s.cfg.cutoffMv ≤ rail → rail < s.cfg.shedMv → s.power.droop = false → ∀ x, droopPick s.power.domains = some x →
             t.power.domains =
               s.power.domains.map fun d =>
                 if d.state = .on ∧ d.number = x.number then { d with state := .shed } else d)) ∧
         (s.station = .console →
           let p := load * rail / 1000
           let limit := 12000 + 6000 * s.sup.toNat
           let stands := t.power.switchClosed = s.power.switchClosed ∧ t.power.tripped = s.power.tripped ∧
             t.power.tripWait = s.power.tripWait ∧ t.power.supplyLevel = s.power.supplyLevel
           (s.power.switchClosed = false → t.power.overRun = s.power.overRun ∧ stands) ∧
           (s.power.switchClosed = true → p ≤ limit * 5 / 4 → t.power.overRun = 0 ∧ stands) ∧
           (s.power.switchClosed = true → limit * 5 / 4 < p → s.power.overRun = 0 → t.power.overRun = 1 ∧ stands) ∧
           (s.power.switchClosed = true → limit * 5 / 4 < p → 1 ≤ s.power.overRun →
             t.power.switchClosed = false ∧ t.power.tripped = true ∧ t.power.tripWait = 256 ∧ t.power.supplyLevel = 7 ∧
               t.power.overRun = 0 ∧ t.ownOffer = 0 ∧
               ∃ n ∈ t.notices, n.kind = .supplyTrip ∧ n.subject = .supply ∧ n.value = BitVec.ofNat 32 p)) ∧
         (s.cfg.cutoffMv ≤ rail → s.cfg.shedMv ≤ rail → ∀ (i : Nat) (d : Domain), s.power.domains[i]? = some d → d.state = .shed →
           t.power.domains[i]? =
             some
               { d with
                 state := if s.cfg.admitMv ≤ rail ∧ d.priority < 8 - s.power.applied then .waiting else .shed }) ∧
         (s.station = .strap →
           t.power.battery =
             (if s.cfg.batteryFloor + 200 ≤ value s.cfg.aux c then true
             else if value s.cfg.aux c < s.cfg.batteryFloor then false else s.power.battery) ∧
           t.ownOffer = (if t.power.battery = true ∧ t.domainOn 1 = false then s.cfg.strapLimit else 0) ∧
           (t.ownOffer = 0 → t.power.supplyLevel = 0) ∧
           (s.cfg.cutoffMv ≤ rail → s.cfg.shedMv ≤ rail → t.ownOffer ≠ 0 → t.power.supplyLevel = s.power.supplyLevel)) ∧
         t.start = s.start ∧ t.rx = s.rx ∧ t.views = s.views)) ∧
  (∀ ds : List Domain,
     (∀ x, droopPick ds = some x →
       ∃ i, ds[i]? = some x ∧ x.state = .on ∧ 0 < x.priority ∧
         ∀ (j : Nat) (d : Domain), ds[j]? = some d → d.state = .on → 0 < d.priority →
           d.priority ≤ x.priority ∧ (d.priority = x.priority → j ≤ i)) ∧
     (droopPick ds = none → ∀ d ∈ ds, d.state = .on → d.priority = 0))

/-- O45. SUPPLY_TRIP at CONSOLE with the switch closed opens the switch, sets the level to 7 and the tripped flag, starts
the trip wait of 256 and posts SUPPLY_TRIP with the power sampled; the level sheds every ON domain above priority 0 and
leaves the others as they were; SUPPLY_RECLOSE closes the switch with the level as it stands (R154, R162, R163). That
SUPPLY_TRIP, and not the SUPPLY_LEVEL of the level it sets, is what then stands for the subject supply is the model's choice
(log entry 48). -/
def Obligations.TripAndRecloseSwitchTheSupply : Prop :=
  ∀ s : State, s.live → s.station = .console →
    (s.power.switchClosed = true →
      ∃ t, exec .supplyTrip s = .next t ∧ t.power.switchClosed = false ∧ t.power.tripped = true ∧ t.power.tripWait = 256 ∧
        t.power.supplyLevel = 7 ∧ t.power.overRun = 0 ∧ t.ownOffer = 0 ∧
        ((∀ x, (s.views.get x).report.level ≤ 7) → t.power.applied = 7 ∧
          (s.power.applied ≠ 7 → ∀ d ∈ t.power.domains, d.state = .on → d.priority = 0) ∧
          t.power.domains =
            if s.power.applied = 7 then s.power.domains
            else s.power.domains.map fun d => if d.state = .on ∧ 0 < d.priority then { d with state := .shed } else d) ∧
        (∃ n ∈ t.notices, n.kind = .supplyTrip ∧ n.subject = .supply ∧ n.value = BitVec.ofNat 32 s.power.p) ∧
        t.rx = s.rx ∧ t.views = s.views) ∧
    (s.power.tripped = true →
      ∃ t, exec .supplyReclose s = .next t ∧ t.power.switchClosed = true ∧ t.power.tripped = false ∧
        t.power.tripWait = 0 ∧ t.power.supplyLevel = s.power.supplyLevel ∧ t.ownOffer = 12000 + 6000 * s.sup.toNat ∧
        t.power.domains = s.power.domains ∧
        (∃ n ∈ t.notices, n.kind = .supplyReclose ∧ n.subject = .supply ∧ n.value = 0) ∧ t.rx = s.rx ∧ t.views = s.views)

/-- O46. A power RI boundary (R156, R157, R162, R163, R166, R177): every other station's entry that has been heard ages by
one and is SILENT from 10 on; CONSOLE's level steps by its latest power, or its trip wait by one, and STRAP's by its offer;
the droop mark clears; and in RUNNING, with no copy inserted of a report still outstanding, the balance rises by one below
8, or forced need is set at 8. In RUNNING every station makes the admission test, once, on what the three steps before it
left, the domains that the level shed in them among it (R156, R159); before RUNNING none does. That is said of states in
which the power rules hold (StepKeepsTheShedLevel, O59, keeps them) and, at HEADSET, the motion unit is OFF exactly while
the sensors domain is not ON (R121). KEEP_ALIVE_CALL is that balance step at age 7, with its call for an event report. The
admission test (R159, R160): the WAITING domain of the lowest priority number, then of the first place in the table, is
admitted where the applied level allows it, RAIL is at or above admit and the offers counted cover the draws counted, the
waiting draws ahead of it and its own; it alone goes ON, but for what the wear link of R123 does as the sensors start, and
the motion unit is left as the admission leaves it (O35); and otherwise, or with no WAITING domain, nothing changes. That
the boundary makes the ends of its counts, and the rows for them act alone, is the model's choice (log entries 7 and 31). -/
def Obligations.PowerBoundaryAgesStepsAndBalances : Prop :=
  ∀ s : State, s.live →
    let stepped :=
      if 12000 + 6000 * s.sup.toNat < s.power.p then min (s.power.supplyLevel + 1) 7
      else if s.power.p ≤ (12000 + 6000 * s.sup.toNat) * 9 / 10 then s.power.supplyLevel - 1
      else s.power.supplyLevel
    (∃ t, exec .powerRiBoundary s = .next t ∧ t.power.droop = false ∧ t.stations = s.stations ∧ t.rx = s.rx ∧
      (∀ x, x ≠ s.station → (s.views.get x).state ≠ .unknown →
        (t.views.get x).report = (s.views.get x).report ∧ (t.views.get x).age = min ((s.views.get x).age + 1) 255) ∧
      (∀ x, x ≠ s.station → (s.views.get x).state = .heard →
        (t.views.get x).state = (if 9 ≤ (s.views.get x).age then .silent else .heard)) ∧
      (∀ x, x = s.station ∨ (s.views.get x).state = .unknown → t.views.get x = s.views.get x) ∧
      (s.station = .console → s.power.tripWait = 0 → s.power.switchClosed = true → t.power.supplyLevel = stepped) ∧
      (s.station = .console → 2 ≤ s.power.tripWait → t.power.tripWait = s.power.tripWait - 1 ∧
        t.power.switchClosed = s.power.switchClosed ∧ t.power.supplyLevel = s.power.supplyLevel) ∧
      (s.station = .console → s.power.tripWait = 1 → t.power.switchClosed = true ∧ t.power.tripped = false) ∧
      ((∀ x, x ≠ s.station → (s.views.get x).state = .heard → (s.views.get x).age < 9) →
        (s.station = .strap →
          t.power.supplyLevel =
            if t.ownOffer = 0 ∨ s.ownOffer = 0 then 0
            else if s.ownOffer < s.power.p then min (s.power.supplyLevel + 1) 7
            else if s.power.p ≤ s.ownOffer * 9 / 10 then s.power.supplyLevel - 1
            else s.power.supplyLevel) ∧
        (s.running → s.station = .pod ∨ s.station = .headset →
          t.power.domains = s.admission.power.domains ∧ t.motion = s.admission.motion)) ∧
      (s.ShedLevelHolds → (s.station = .headset → (s.motion.state = .off ↔ s.domainOn 2 = false)) →
        let offer := s.ownOffer
        let level :=
          match s.station with
          | .console => if s.power.tripWait = 0 ∧ s.power.switchClosed = true then stepped else s.power.supplyLevel
          | .strap =>
            if offer = 0 then 0
            else if offer < s.power.p then min (s.power.supplyLevel + 1) 7
            else if s.power.p ≤ offer * 9 / 10 then s.power.supplyLevel - 1
            else s.power.supplyLevel
          | .pod | .headset => s.power.supplyLevel
        let counted (x : Station) : Nat :=
          if x = s.station then level
          else if (s.stations.get x).present = true ∧ (t.views.get x).state = .heard then (t.views.get x).report.level
          else 0
        let applied := max (counted .console) (counted .strap)
        let recloses : Bool := decide (s.station = .console ∧ s.power.tripWait = 1)
        let before : State :=
          { s with
            views := t.views,
            power :=
              { s.power with
                supplyLevel := level, applied := applied, droop := false, switchClosed := s.power.switchClosed || recloses,
                domains :=
                  s.power.domains.map fun d =>
                    if d.state = .on ∧ 8 - applied ≤ d.priority then { d with state := .shed } else d } }
        (s.running → t.power.domains = before.admission.power.domains) ∧
        (¬s.running → t.power.domains = before.power.domains)) ∧
      (s.running → (∀ o ∈ s.balance.outstanding, o.inserted = false) →
        t.balance.b = (if s.balance.b < 8 then s.balance.b + 1 else s.balance.b) ∧
        t.balance.forced = (s.balance.forced || decide (8 ≤ s.balance.b)) ∧
        t.balance.age = min (s.balance.age + 1) 8) ∧
      (¬s.running → t.balance.b = s.balance.b ∧ t.balance.age = s.balance.age)) ∧
    (s.running → s.balance.age = 7 →
      -8 < (if s.balance.b < 8 then s.balance.b + 1 else s.balance.b) - s.balance.outstanding.length →
      (∀ l, (s.tx.get l).fifo.length ≤ 7) → (∃ l, (s.tx.get l).role.sends = true) →
      ∃ t, exec .keepAliveCall s = .next t ∧ t.balance.age = 8 ∧
        t.balance.b = (if s.balance.b < 8 then s.balance.b + 1 else s.balance.b) ∧
        t.balance.event = false ∧ t.power.nextReport = s.power.nextReport + 1 ∧
        t.balance.outstanding.length = s.balance.outstanding.length + 1 ∧ t.rx = s.rx ∧ t.views = s.views) ∧
    ((∀ d ∈ s.power.domains, d.state ≠ .waiting) → s.admission = s) ∧
    (∀ (i : Nat) (d : Domain), s.power.domains[i]? = some d → d.state = .waiting →
      (∀ (j : Nat) (e : Domain), s.power.domains[j]? = some e → e.state = .waiting →
        d.priority < e.priority ∨ (d.priority = e.priority ∧ i ≤ j)) →
      let others := [Station.console, .pod, .headset, .strap].filter fun x => x != s.station
      let view (x : Station) := s.views.get x
      let offers : Nat := s.ownOffer + (others.map fun x =>
        if (x = .console ∨ x = .strap) ∧ (view x).state = .heard ∧ (s.stations.get x).present = true then
          (view x).report.offer * 10 else 0).sum
      let draws : Nat := ((s.power.domains.filter fun e => e.state == .on).map (·.nominal)).sum +
        (others.map fun x => if (view x).state ≠ .unknown then (view x).report.draw * 10 else 0).sum
      let ahead : Nat := (others.map fun x =>
        if (view x).state = .heard ∧ ((view x).report.top < d.priority ∨
            (view x).report.top = d.priority ∧ x.num < s.station.num) then
          (view x).report.waiting * 10 else 0).sum
      let admitted := d.priority < 8 - s.power.applied ∧ s.cfg.admitMv ≤ s.power.rail ∧ d.nominal + draws + ahead ≤ offers
      (¬admitted → s.admission = s) ∧
      (admitted → (s.station = .headset → (s.motion.state = .off ↔ s.domainOn 2 = false)) →
        (∀ (j : Nat) (e : Domain), s.power.domains[j]? = some e →
          (s.station = .headset → d.number = 2 → e.number ≠ 1) →
          s.admission.power.domains[j]? = some (if e.number = d.number then { e with state := .on } else e)) ∧
        (s.live → (∀ e ∈ s.power.domains, e.number = d.number → e = d) →
          ∃ n ∈ s.admission.notices, n.kind = .domainState ∧ n.subject = .domain d.number ∧ n.value = 2)))

/-- O47. A test for a report, in RUNNING (R167, R178): with event pending and a net balance above −8, or with a net balance
of 1 or more and every report lane ACTIVE, one report of the next number, carrying the eight fields of the state, is offered
to each report lane's FIFO and is outstanding on the lanes that took it; where no lane is there to take it only the number
is spent; otherwise, or outside RUNNING, nothing changes. In a full FIFO it takes the place of the POWER cell nearest the
head, whose report is thereby superseded: w falls and b and the age stand (R42, R179). A copy that stops waiting (R179):
while the other lane's copy waits the report stays; the last one gone, it is sent where a copy was inserted, with b one
lower, age 0, fresh-pending clear, and forced need clear below 8, else superseded. An insertion reported to the balance
brings a test where the report left the list. Fresh-pending (R180): set by a LOCKED receiver that takes a correct cell
moving its lane out of DEEP, and by an origin that writes WAKING, with a call for an event report. The serials that tell
reports apart are the model's own (log entry 47). -/
def Obligations.ReportsAreBuiltByTheBalance : Prop :=
  (∀ s : State,
    let due := (s.balance.event = true ∧ -8 < s.balance.net) ∨
      (1 ≤ s.balance.net ∧ ∀ l, (s.tx.get l).role.sends = true → (s.tx.get l).sentThis = some .active)
    let r := s.report
    let c := Ctl.power r s.balance.built
    let reports (l : Lane) := (s.tx.get l).role.sends = true
    let append (l : Lane) : Tx :=
      { s.tx.get l with fifo := if reports l then (s.tx.get l).fifo ++ [c] else (s.tx.get l).fifo }
    let numbered : State := { s with power := { s.power with nextReport := s.power.nextReport + 1 } }
    let drawn (x : DomainState) : Nat := ((s.power.domains.filter fun d => d.state == x).map (·.nominal)).sum
    (r.number = s.power.nextReport ∧ r.draw = drawn .on / 10 ∧ r.waiting = drawn .waiting / 10 ∧
      (∀ d ∈ s.power.domains, d.state = .waiting → r.top ≤ d.priority) ∧ r.top ≤ 8 ∧
      (r.top < 8 → ∃ d ∈ s.power.domains, d.state = .waiting ∧ d.priority = r.top) ∧ r.offer = s.ownOffer / 10 ∧
      r.level = (if s.station = .console ∨ s.station = .strap then s.power.supplyLevel else 0) ∧ r.rail = s.power.rail ∧
      (r.tripped = true ↔ s.station = .console ∧ s.power.tripped = true)) ∧
    (¬(s.running ∧ due) → s.reportTest = s) ∧
    (s.running → due → (∀ l, (s.tx.get l).fifo.length < 8) → (∃ l, reports l) →
      s.reportTest =
        { numbered with
          tx := ⟨append .down, append .up⟩,
          balance :=
            { s.balance with
              event := false, built := s.balance.built + 1,
              outstanding := s.balance.outstanding ++
                [{ serial := s.balance.built, waitDown := s.tx.down.role.sends, waitUp := s.tx.up.role.sends,
                   inserted := false }] } }) ∧
    (s.running → due → (∀ l, ¬reports l) → s.reportTest = numbered) ∧
    (∀ (a q : List Ctl) (old : Report) (k : Nat), s.running → s.balance.event = true → -8 < s.balance.net →
      s.balance.net ≤ 0 → reports .down → ¬reports .up → s.tx.down.fifo = a ++ .power old k :: q →
      (∀ x n, .power x n ∉ a) → a.length + q.length = 7 → (s.balance.outstanding.map (·.serial)).Nodup →
      (∀ o ∈ s.balance.outstanding, o.serial < s.balance.built) →
      { serial := k, waitDown := true, waitUp := false, inserted := false } ∈ s.balance.outstanding →
      s.reportTest =
        { numbered with
          tx := { s.tx with down := { s.tx.down with fifo := a ++ c :: q } },
          balance :=
            { s.balance with
              event := false, built := s.balance.built + 1,
              outstanding := (s.balance.outstanding.filter fun o => o.serial != k) ++
                [{ serial := s.balance.built, waitDown := true, waitUp := false, inserted := false }] } })) ∧
  (∀ (b : Balance) (l : Lane) (o : Outstanding) (inserted : Bool), o ∈ b.outstanding →
    (b.outstanding.map (·.serial)).Nodup →
    let waits := match l with | .down => o.waitUp | .up => o.waitDown
    let after (x : Outstanding) : Outstanding :=
      match l with
      | .down => { x with waitDown := false, inserted := x.inserted || inserted }
      | .up => { x with waitUp := false, inserted := x.inserted || inserted }
    let others := b.outstanding.filter fun x => x.serial != o.serial
    (waits = true →
      b.copyGone l o.serial inserted =
        { b with outstanding := b.outstanding.map fun x => if x.serial = o.serial then after x else x }) ∧
    (waits = false → o.inserted = true ∨ inserted = true →
      b.copyGone l o.serial inserted =
        { b with
          b := b.b - 1, age := 0, fresh := false, forced := b.forced && decide (8 ≤ b.b - 1), outstanding := others } ∧
      others.length + 1 = b.outstanding.length) ∧
    (waits = false → o.inserted = false → inserted = false →
      b.copyGone l o.serial inserted = { b with outstanding := others } ∧ others.length + 1 = b.outstanding.length)) ∧
  (∀ (l : Lane) (r : Report) (k : Nat) (q : List Ctl) (s : State), s.running → (s.tx.get l).role.sends = true →
    s.payloadSilent l = false → s.frameOpen l = true → (s.tx.get l).gapOwed = false → s.motion.queue = [] →
    s.audio.source.queue = [] → (s.tx.get l).fifo = .power r k :: q →
    let c := ctlCell s.station s.localSlot (.power r k)
    let gone := s.balance.copyGone l k true
    let u : State :=
      { s with
        tx := s.tx.set l
          { s.tx.get l with
            line := some c, crc := crcMore (s.tx.get l).crc (cellBytes c), sent := (s.tx.get l).sent + 1, train := 0,
            fifo := q },
        balance := gone }
    (gone.outstanding.length < s.balance.outstanding.length → exec (.idleSlotArbitration l) s = .next u.reportTest) ∧
    (s.balance.outstanding.length ≤ gone.outstanding.length → exec (.idleSlotArbitration l) s = .next u)) ∧
  (∀ s : State, (∀ o ∈ s.balance.outstanding, o.inserted = false) →
    (∀ (l : Lane) (found : Option Cell) (i : AlignInfo), s.live → (s.rx.get l).state = .locked →
      (s.rx.get l).correct found = some i → (s.rx.get l).inEffect = some .deep → hopLost (s.rx.get l).history = false →
      ∃ t, exec (.expectedAlignmentCell l found) s = .next t ∧
        (i.lane ≠ .deep → t.balance.fresh = true) ∧ (i.lane = .deep → t.balance.fresh = s.balance.fresh)) ∧
    (∀ (l : Lane) (q : Quiet), s.live → (s.tx.get l).role = .origin → (s.tx.get l).quiet = some q → q.lane = .deep →
      ∃ t p, exec (.alignmentCellSent l) s = .next t ∧ (t.tx.get l).quiet = some p ∧
        (p.lane = .waking → t.balance.fresh = true) ∧
        (p.lane ≠ .waking → p.lane = .deep ∧ t.balance.fresh = s.balance.fresh)) ∧
    (¬s.running → s.setFresh = { s with balance := { s.balance with fresh := true, event := true } }) ∧
    (s.running → -8 < s.balance.net → (∀ l, (s.tx.get l).fifo.length < 8) → (∃ l, (s.tx.get l).role.sends = true) →
      s.setFresh.balance.fresh = true ∧ s.setFresh.balance.event = false ∧ s.setFresh.balance.b = s.balance.b ∧
      s.setFresh.balance.outstanding.length = s.balance.outstanding.length + 1))

/-! ### Notices, outputs and the service line (chapter 10) -/

/-- O48. Notices (R184, R185, R191): one posted for a subject with no entry joins the tail, one for a subject that has an
entry takes its place there, and none is taken before the end of LOADING; NOTICE_TAKE removes and returns the head, or
answers EMPTY. That value and time go most significant byte first is the model's choice (log entry 50). -/
def Obligations.NoticesWaitBySubject : Prop :=
  ∀ s : State,
    (∀ (k : NoticeKind) (j : Subject) (v : Nat),
      let n : Notice := { kind := k, subject := j, value := BitVec.ofNat 32 v, time := s.clock, settled := s.settled }
      (¬s.live → s.post k j v = s) ∧
      (s.live → (∀ m ∈ s.notices, m.subject ≠ j) → s.post k j v = { s with notices := s.notices ++ [n] }) ∧
      (s.live → ∀ a m b, s.notices = a ++ m :: b → (∀ x ∈ a, x.subject ≠ j) → m.subject = j →
        s.post k j v = { s with notices := a ++ n :: b })) ∧
    (s.live → s.service.parser = .waiting → s.service.answers.length ≤ 499 →
      let plus (t : State) (a : List Byte) : State := { t with service := { t.service with answers := t.service.answers ++ a } }
      (s.notices = [] → exec .noticeTake s = .next (plus s [0x10, 1])) ∧
      (∀ n q, s.notices = n :: q →
        exec .noticeTake s =
          .next
            (plus { s with notices := q }
              ([0x10, 0, BitVec.ofNat 8 (NoticeKind.code n.kind), BitVec.ofNat 8 (Subject.num n.subject)] ++
                beBytes 4 n.value.toNat ++ beBytes 4 n.time.toNat ++ [if n.settled then 1 else 0]))))

/-- O49. The requests of the service line that act on this station (R188, R189, R191), at a waiting parser with room for the
answer: COUNTERS_TAKE returns a group and clears it alone, VOLUME and MIC_MUTE set what POD and HEADSET keep, DOMAIN_WANT
writes a wanted flag with its effect, SUMMARY gives its 13 bytes; an argument out of range is answered BAD_REQUEST and
changes nothing. The counters of each group, in order, are those of R188. DOMAIN_WANT's change of a domain moves the picture
records and eyes, the source and the sink as O8 says. Its premise at HEADSET is that the motion unit is OFF exactly while
the sensors domain is not ON, as R121 keeps it: the wear link then writes no domain of its own. That the counters go most
significant byte first is the model's choice (log entry 50). -/
def Obligations.RequestsActAndAnswer : Prop :=
  ∀ s : State, s.live → s.service.parser = .waiting → s.service.answers.length ≤ 489 →
    let plus (t : State) (a : List Byte) : State := { t with service := { t.service with answers := t.service.answers ++ a } }
    let keeps := s.station = .pod ∨ s.station = .headset
    let flow (f : FlowId) : List Nat :=
      let c := s.counters.get f
      [c.gaps, c.misrouted] ++
        match f with
        | .pictureL | .pictureR =>
          [c.layerDrops, c.staleRefusals, c.purges, c.roomRefusals, c.staleReplies, c.breaks, c.refusals, c.orphans]
        | .motion => [c.overruns]
        | .audioOut | .audioIn => [c.underflows, c.overflows, c.lateBlocks]
    (s.groupCounters 0 = [s.rx.down.alignErrors, s.rx.down.hopErrors, s.rx.down.cellErrors, s.rx.down.relocks] ∧
      s.groupCounters 1 = [s.rx.up.alignErrors, s.rx.up.hopErrors, s.rx.up.cellErrors, s.rx.up.relocks] ∧
      s.groupCounters 2 = flow .pictureL ∧ s.groupCounters 3 = flow .pictureR ∧ s.groupCounters 4 = flow .motion ∧
      s.groupCounters 5 = flow .audioOut ∧ s.groupCounters 6 = flow .audioIn) ∧
    (∀ g : Byte, g.toNat ≤ 6 →
      ∃ t, exec (.countersTake g) s =
          .next (plus t ([0x11, 0, g] ++ ((s.groupCounters g.toNat).map (beBytes 2)).flatten)) ∧
        t = { s with rx := t.rx, counters := t.counters } ∧ (∀ n ∈ t.groupCounters g.toNat, n = 0) ∧
        (t.groupCounters g.toNat).length = (s.groupCounters g.toNat).length ∧
        (∀ k, k ≤ 6 → k ≠ g.toNat → t.groupCounters k = s.groupCounters k) ∧
        ∀ l, t.rx.get l =
          { s.rx.get l with
            alignErrors := (t.rx.get l).alignErrors, hopErrors := (t.rx.get l).hopErrors,
            cellErrors := (t.rx.get l).cellErrors, relocks := (t.rx.get l).relocks }) ∧
    (∀ g : Byte, 6 < g.toNat → exec (.countersTake g) s = .next (plus s [0x11, 3])) ∧
    (∀ v : Byte,
      exec (.volume v) s =
        .next
          (if keeps ∧ v.toNat ≤ 14 then plus { s with audio := { s.audio with volume := v.toNat } } [0x15, 0]
          else plus s [0x15, 3])) ∧
    (∀ v : Byte,
      exec (.micMute v) s =
        .next
          (if keeps ∧ v.toNat ≤ 1 then plus { s with audio := { s.audio with muted := decide (v = 1) } } [0x16, 0]
          else plus s [0x16, 3])) ∧
    (let lane (l : Lane) : List Byte :=
        [BitVec.ofNat 8 (RxState.code (s.rx.get l).state), BitVec.ofNat 8 (TxRole.code (s.tx.get l).role),
         match (s.tx.get l).role, (s.tx.get l).quiet, (s.rx.get l).inEffect with
         | .origin, some q, _ => BitVec.ofNat 8 (LaneState.code q.lane)
         | _, _, some x => BitVec.ofNat 8 (LaneState.code x)
         | _, _, none => 4]
     exec .summary s =
        .next
          (plus s
            ([0x17, 0, BitVec.ofNat 8 s.station.num, BitVec.ofNat 8 (StartState.code s.start)] ++ lane .down ++ lane .up ++
              [if s.settled then 1 else 0, BitVec.ofNat 8 s.power.applied, BitVec.ofInt 8 s.balance.b,
               BitVec.ofNat 8 (Cause.code s.cause), BitVec.ofNat 8 s.notices.length]))) ∧
    (∀ n v : Byte,
      let entry := s.power.domains.find? fun d => d.number == n.toNat
      ((1 < v.toNat ∨ entry = none ∨ ∃ d, entry = some d ∧ d.priority = 0 ∧ v = 0) →
        exec (.domainWant n v) s = .next (plus s [0x14, 3])) ∧
      (∀ d, entry = some d → (v = 1 ∨ v = 0 ∧ d.priority ≠ 0) →
        (s.station = .headset → (s.motion.state = .off ↔ s.domainOn 2 = false)) →
        ∃ t, exec (.domainWant n v) s = .next (plus t [0x14, 0]) ∧ t.service = s.service ∧ t.rx = s.rx ∧ t.seqs = s.seqs ∧
          (let after : State := { s with power := { s.power with domains := t.power.domains } }
           t.dst = after.followDisplay.dst ∧ t.eyes = after.followDisplay.eyes ∧
             t.audio = after.followSource.followSink.audio) ∧
          t.power.domains = s.power.domains.map fun x =>
            if x.number = n.toNat ∧ x.wanted ≠ decide (v = 1) ∧ (v = 1 ∨ x.priority ≠ 0) then
              { x with
                wanted := decide (v = 1),
                state := if v = 1 then (if x.state = .off then .waiting else x.state) else .off }
            else x))

/-- O50. Tables (R192): TABLE_READ answers up to four records from an index and sets the cursor past them, TABLE_NEXT goes on
from the cursor until EMPTY, an index or table out of range and an absent cursor are answered BAD_REQUEST with the cursor
where it was, and no record is longer than 48 bytes. Each record is its marker and its items (R88, R110, R128, R147, R169,
R183): which items it holds, which are sent as absent, the order of the layer map's two numbers, and the codes and widths that
no chapter gives are the model's reading (log entries 20, 21 and 22), as are AUDIO record 0's one frame clock flag, for the
station's own port, and the channel count's place at the end of a flow's record (log entry 54). -/
def Obligations.TableReadsFollowTheCursor : Prop :=
  ∀ s : State,
    let size (t : Nat) : Nat := if t = 0 then 5 else if t = 1 then 6 else if t = 2 ∨ t = 3 then 4 else if t = 4 then 3 else 0
    let plus (t : State) (a : List Byte) : State := { t with service := { t.service with answers := t.service.answers ++ a } }
    let read (code : Byte) (t i : Nat) : State :=
      let k := min 4 (size t - i)
      plus { s with service := { s.service with cursor := some (t, i + k) } }
        ([code, 0, BitVec.ofNat 8 t, BitVec.ofNat 8 i, BitVec.ofNat 8 k] ++
          ((List.range k).map fun j => s.tableRecord t (i + j)).flatten)
    (s.live → s.service.parser = .waiting → s.service.answers.length ≤ 315 →
      (∀ t i : Byte,
        exec (.tableRead t i) s =
          .next (if i.toNat < size t.toNat then read 0x12 t.toNat i.toNat else plus s [0x12, 3])) ∧
      (s.service.cursor = none → exec .tableNext s = .next (plus s [0x13, 3])) ∧
      (∀ t i, s.service.cursor = some (t, i) → t ≤ 4 →
        exec .tableNext s = .next (if i < size t then read 0x13 t i else plus s [0x13, 1]))) ∧
    (∀ t i, (s.tableRecord t i).length ≤ 48) ∧
    (let n (k v : Nat) : List Byte := beBytes k v
     let flag (b : Bool) : List Byte := [if b then 1 else 0]
     let opt (k : Nat) (v : Option Nat) : List Byte :=
       match v with
       | some x => 1 :: beBytes k x
       | none => 0 :: List.replicate k 0
     let here (b : Bool) (k v : Nat) : List Byte := opt k (if b then some v else none)
     let num (b : Bool) : Nat := if b then 1 else 0
     (∀ e : Eye,
       let record := s.tableRecord 0 (match e with | .left => 0 | .right => 1)
       let p := s.paced.get e
       let h := p.queue.head?
       let x := s.eyes.get e
       let b := x.buffer.head?
       (s.station = .console →
         record =
           1 :: (n 1 p.state.code ++ n 1 (s.seqs.get (Eye.flow e)).toNat ++ n 2 p.ar ++ n 2 p.credit ++ n 1 p.unanswered ++
             n 1 p.lastProbe.toNat ++ n 1 p.band.code ++ flag p.probeWaiting ++ n 2 (cellsLeft p.queue) ++
             n 1 p.queue.length ++ opt 1 (h.map fun r => r.picture.toNat) ++ opt 1 (h.map fun r => r.layer.code) ++
             opt 1 (h.map fun r => r.total) ++ opt 1 (h.map fun r => r.sent) ++ opt 1 (p.newest.map fun v => v.toNat) ++
             opt 1 (p.lastEntered.map fun v => v.toNat))) ∧
       (s.station ≠ .console → s.dst.get (Eye.flow e) = none → record = [0]) ∧
       (s.station ≠ .console → ∀ d, s.dst.get (Eye.flow e) = some d →
         record =
           1 :: (n 1 d.state.code ++ opt 1 (d.expected.map fun v => v.toNat) ++
             (match x.probeSeen with
              | none => List.replicate 12 0
              | some v =>
                1 :: (n 1 v.number.toNat ++ n 2 v.ar ++ n 2 v.fill ++
                  match v.reply with
                  | none => List.replicate 6 0
                  | some r => 1 :: (n 2 r.offered ++ flag r.congested ++ flag r.noRise ++ flag r.hold))) ++
             n 1 x.reasm.code ++ n 2 (reserved x.buffer) ++ n 1 x.buffer.length ++ opt 1 (b.map fun r => r.picture.toNat) ++
             opt 1 (b.map fun r => r.layer.code) ++ opt 1 (b.map fun r => num r.complete) ++
             opt 1 (x.lastTaken.map fun v => v.toNat) ++ opt 1 (x.map[0]?.map fun t => t.picture.toNat) ++
             opt 1 (x.map[1]?.map fun t => t.picture.toNat)))) ∧
     (s.tableRecord 0 2 =
       let m := s.motion
       if s.station = .headset then
         1 :: (flag (m.state != .off) ++ n 1 (s.seqs.get .motion).toNat ++ n 1 m.state.code ++ n 1 (num !m.worn) ++
           n 1 m.queue.length ++ n 2 m.next.toNat ++ n 1 m.restart)
       else
         match s.dst.get .motion with
         | none => [0]
         | some d =>
           1 :: (n 1 d.state.code ++ opt 1 (d.expected.map fun v => v.toNat) ++
             opt 2 (s.motionOut.expected.map fun v => v.toNat) ++ flag s.motionOut.restartRun ++
             n 1 s.motionOut.queue.length)) ∧
     (∀ f ∈ [FlowId.audioOut, .audioIn],
       let sourced := if f = .audioOut then s.station = .console else s.station ≠ .console ∧ s.audioStation = s.station
       let k := s.audio.source
       let v := s.audio.sink
       let channels : List Byte := [if (if f = .audioOut then s.cfg.twoOut else s.cfg.twoIn) then 2 else 1]
       (sourced →
         s.tableRecord 0 f.num = 1 :: (flag k.opened ++ n 1 (s.seqs.get f).toNat) ∧
         s.tableRecord 4 (f.num - 2) = 1 :: (flag k.opened ++ n 1 k.queue.length ++ n 1 k.next.toNat ++ channels)) ∧
       (¬sourced → s.dst.get f = none → s.tableRecord 0 f.num = [0] ∧ s.tableRecord 4 (f.num - 2) = 1 :: channels) ∧
       (¬sourced → ∀ d, s.dst.get f = some d →
         s.tableRecord 0 f.num = 1 :: (n 1 d.state.code ++ opt 1 (d.expected.map fun v => v.toNat)) ∧
         s.tableRecord 4 (f.num - 2) =
           1 :: (n 1 v.state.code ++ n 1 v.buffer.length ++ opt 1 (v.expected.map fun v => v.toNat) ++ flag v.repeatDone ++
             channels))) ∧
     (let at_ := s.station == .pod || s.station == .headset
      s.tableRecord 4 0 =
        1 :: (n 1 s.audioStation.num ++ here at_ 1 s.audio.volume ++ here at_ 1 s.cfg.sidetone ++
          here at_ 1 (num s.audio.muted) ++ here at_ 1 (num !s.audio.volUp.pressed) ++
          here at_ 1 (num !s.audio.volDown.pressed) ++ here at_ 1 (num !s.audio.mute.pressed) ++ flag s.audio.clock)) ∧
     (∀ i, s.tableRecord 1 i =
       match s.power.domains.find? fun d => d.number == i with
       | none => [0]
       | some d => 1 :: (n 1 d.number ++ n 1 d.priority ++ n 2 d.nominal ++ flag d.wanted ++ n 1 d.state.code)) ∧
     (∀ t : Station,
       let own := t == s.station
       let con := own && t == .console
       let v : View := if t = s.station then { state := .heard, age := 0, report := s.report } else s.views.get t
       let r := v.report
       let p := s.power
       let b := s.balance
       let e := s.stations.get t
       let far := s.station == .console && t != .console
       let away := s.station != .console && own
       s.tableRecord 2 t.num =
         1 :: (n 1 r.number.toNat ++ n 2 r.draw ++ n 2 r.waiting ++ n 1 r.top ++ n 2 r.offer ++ n 1 r.level ++ n 2 r.rail ++
           flag r.tripped ++ n 1 v.age ++ n 1 v.state.code ++ here own 2 p.load ++ here own 2 p.aux ++
           here (own && (t == .console || t == .strap)) 3 p.p ++ here own 1 p.brownRun ++ here own 1 (num p.droop) ++
           here con 1 (num !p.switchClosed) ++ here con 1 p.overRun ++ here con 2 p.tripWait ++
           here (own && t == .strap) 1 (num p.battery) ++ here own 1 b.age ++ here own 1 (num b.forced) ++
           here own 1 (num b.event) ++ here own 1 (num b.fresh) ++ here own 1 b.outstanding.length) ∧
       s.tableRecord 3 t.num =
         1 :: (flag e.present ++ [e.status] ++ opt 4 (if far then e.delay.map fun v => v.toNat else none) ++
           here far 1 (s.surveys.get t).state.code ++ here far 1 (s.surveys.get t).failed ++
           here far 1 (num (s.surveys.get t).unknown) ++ here away 4 s.surveyed.offset.toNat ++
           here away 1 (num s.surveyed.known) ++ here away 1 (num s.settled))))

/-- O51. Each request is taken as its bytes are, one after another (R189): at a parser that waits, collects or discards
alike; and where the free space is less than the request's largest answer, a waiting parser answers BUSY in two bytes, or not
at all, and nothing else happens. The line's faults (R190) and its transmit wire (R189): a byte that is no code at a waiting
parser is answered BAD_REQUEST and puts the parser into discard, as a framing error does from any state without an answer; a
RELAY whose inner code is no code is answered with 0x18 and BAD_REQUEST and puts the parser into discard, taken whole or as
the byte that comes after RELAY and its station, and what follows it is not taken; an idle gap ends a collection and the end
of discard ends it; and the answer FIFO's head leaves by ANSWER_BYTE_SENT. That an unknown code, the inner one of a RELAY
too, with fewer than two bytes free gets no answer is the model's choice (log entry 49), and so is that an idle gap, a
DISCARD_END or an ANSWER_BYTE_SENT that cannot happen leaves the state as it is (log entry 1); that a request is its bytes
fed to the parser as it stands is its reading (log entry 27). -/
def Obligations.RequestsAreTheirBytesAndFaultsRecover : Prop :=
  (∀ s : State,
     let bytes (bs : List Byte) : State := bs.foldl State.feedByte s
     (exec .noticeTake s = .next (bytes [0x10]) ∧ exec .tableNext s = .next (bytes [0x13]) ∧
       exec .summary s = .next (bytes [0x17]) ∧ exec .relayTake s = .next (bytes [0x19]) ∧
       (∀ a, exec (.countersTake a) s = .next (bytes [0x11, a]) ∧ exec (.volume a) s = .next (bytes [0x15, a]) ∧
         exec (.micMute a) s = .next (bytes [0x16, a])) ∧
       (∀ a b, exec (.tableRead a b) s = .next (bytes [0x12, a, b]) ∧ exec (.domainWant a b) s = .next (bytes [0x14, a, b])) ∧
       (∀ st inner, exec (.relay st inner) s = .next (bytes (0x18 :: st :: inner))) ∧
       ∀ b, exec (.unknownCode b) s = .next (bytes [b])) ∧
     (s.live → s.service.parser = .waiting → ∀ r : Request, parseRequest r.bytes = some r →
       512 < s.service.answers.length + r.largest →
       bytes r.bytes =
         if s.service.answers.length ≤ 510 then
           { s with service := { s.service with answers := s.service.answers ++ [r.code, 2] } }
         else s)) ∧
  (∀ s : State,
     let parser (p : Parser) : State := { s with service := { s.service with parser := p } }
     let codes : List Byte := [0x10, 0x11, 0x12, 0x13, 0x14, 0x15, 0x16, 0x17, 0x18, 0x19]
     let unknown (code : Byte) : State :=
       { s with
         service :=
           { s.service with
             parser := .discard,
             answers := if s.service.answers.length ≤ 510 then s.service.answers ++ [code, 3] else s.service.answers } }
     (∀ b : Byte, s.live → s.service.parser = .waiting → b ∉ codes → exec (.unknownCode b) s = .next (unknown b)) ∧
     (∀ (st b : Byte) (rest : List Byte), s.live → s.service.parser = .waiting → b ∉ codes →
       exec (.relay st (b :: rest)) s = .next (unknown 0x18)) ∧
     (∀ st b : Byte, s.live → s.service.parser = .collecting [0x18, st] → b ∉ codes →
       exec (.unknownCode b) s = .next (unknown 0x18)) ∧
     (∀ b : Byte, s.service.parser = .discard → exec (.unknownCode b) s = .next s) ∧
     (s.live → exec .framingError s = .next (parser .discard)) ∧
     (∀ bs, s.service.parser = .collecting bs → exec .idleGap s = .next (parser .waiting)) ∧
     ((∀ bs, s.service.parser ≠ .collecting bs) → exec .idleGap s = .next s) ∧
     (s.service.parser = .discard → exec .discardEnd s = .next (parser .waiting)) ∧
     (s.service.parser ≠ .discard → exec .discardEnd s = .next s) ∧
     (∀ b q, s.service.answers = b :: q →
       exec .answerByteSent s = .next { s with service := { s.service with answers := q, sent := some b } }) ∧
     (s.service.answers = [] → exec .answerByteSent s = .next s))

/-- O52. The relay holder (R193, R195), at a waiting parser with room for the answer: RELAY is judged in order and an accepted
one takes the next tag, a wait of 524288 slots and offers one RELAY cell toward its target; RELAY_TAKE returns a READY
answer of up to 53 bytes, the longest that R194 sends (a longer one, which no rule brings: log entry 24); and
RELAY_WAIT_EXPIRY in OUTSTANDING makes the holder IDLE with RELAY_TIMEOUT, whatever the wait reads (log entry 7). -/
def Obligations.RelayIsJudgedSentAndTimed : Prop :=
  ∀ s : State,
    let plus (t : State) (a : List Byte) : State := { t with service := { t.service with answers := t.service.answers ++ a } }
    let h := s.service.holder
    (s.live → s.service.parser = .waiting → s.service.answers.length ≤ 456 →
      (∀ (st : Byte) (inner : List Byte), requestLength inner = some inner.length →
        let x := stationOf st.toNat
        let barred := 3 < st.toNat ∨ x = s.station ∨ inner.head? = some 0x18 ∨ inner.head? = some 0x19
        (barred → exec (.relay st inner) s = .next (plus s [0x18, 3])) ∧
        (¬barred → (s.stations.get x).present = false → exec (.relay st inner) s = .next (plus s [0x18, 4])) ∧
        (¬barred → (s.stations.get x).present = true → h.state = .outstanding →
          exec (.relay st inner) s = .next (plus s [0x18, 2])) ∧
        (¬barred → (s.stations.get x).present = true → h.state ≠ .outstanding →
          ∃ t, exec (.relay st inner) s = .next (plus t [0x18, 5]) ∧
            t.service = { s.service with
              holder :=
                { state := .outstanding, target := x, tag := h.tags + 1, wait := 524288, count := none, parts := [],
                  answer := [], tags := h.tags + 1 } } ∧
            t = { s with tx := t.tx, service := t.service } ∧
            ∀ l, (t.tx.get l) = { s.tx.get l with fifo := (t.tx.get l).fifo } ∧
              (t.tx.get l).fifo =
                if (l = .down ↔ s.station.num < x.num) ∧ (s.tx.get l).role.sends = true ∧ (s.tx.get l).fifo.length < 8 then
                  (s.tx.get l).fifo ++ [.relay x false 0 (h.tags + 1) 1 inner]
                else (s.tx.get l).fifo)) ∧
      (h.state = .ready → h.answer.length ≤ 53 →
        exec .relayTake s =
          .next
            (plus { s with service := { s.service with holder := { h with state := .idle, answer := [] } } }
              ([0x19, 0, BitVec.ofNat 8 h.target.num] ++ h.answer))) ∧
      (h.state ≠ .ready → exec .relayTake s = .next (plus s [0x19, 1]))) ∧
    (s.live → h.state = .outstanding →
      ∃ t, exec .relayWaitExpiry s = .next t ∧ t = { s with service := t.service, notices := t.notices } ∧
        t.service = { s.service with holder := { h with state := .idle, wait := 0, count := none, parts := [] } } ∧
        ∃ n ∈ t.notices, n.kind = .relayTimeout ∧ n.subject = .relay ∧
          n.value = BitVec.ofNat 32 (h.target.num * 256 + h.tag.toNat)) ∧
    (h.state ≠ .outstanding → exec .relayWaitExpiry s = .next s)

/-- O53. RELAY cells taken in RUNNING (R194, R195). A request of one part is acted on as a local one and its answer offered
in one or two parts toward its source, in index order, a full FIFO taking none. Its effect and its answer are those that the
local command has at a waiting parser with its answer FIFO empty, whatever the parser and the FIFO of this station hold, and
neither of these is touched: NOTICE_TAKE, COUNTERS_TAKE, DOMAIN_WANT, VOLUME, MIC_MUTE and SUMMARY, whose effects O48 and O49
give, and RELAY and RELAY_TAKE (O52; an answer of up to 53 bytes, log entry 24). TABLE_READ and TABLE_NEXT return one record at
most and move the station's one cursor past it. So no answer is BUSY but for a RELAY's at an OUTSTANDING holder. Bytes that are
no request of their code's length are answered BAD_REQUEST, and nothing changes. A matching answer part is stored; with all its
parts held the holder is READY with the answer in index order and RELAY_READY posted; one that does not match changes nothing.
That cells out of range are discarded (log entry 24) and that a report which a relayed DOMAIN_WANT calls for is offered before the
parts of the answer (log entry 52) are the model's choices. -/
def Obligations.RelayCellsAreAnsweredAndAssembled : Prop :=
  ∀ (l : Lane) (c : Cell) (r : RelayCell) (s : State), s.running → (s.rx.get l).handed.head? = some c → c.kind = .relay → c.dst = .to s.station →
    c.src ≠ s.station → readRelay c = some r →
    (r.answer = false → r.count = 1 → r.index = 0 →
      let held := s.taken l c
      let a := held.actRelayed r.bytes
      let k : Lane := if s.station.num < c.src.num then .down else .up
      let part (i n : Nat) (b : List Byte) : Ctl := .relay c.src true i r.tag n b
      let push (q : List Ctl) (x : Ctl) : List Ctl :=
        if (a.1.tx.get k).role.sends = true ∧ q.length < 8 then q ++ [x] else q
      let acts (x : Instr) : Prop :=
        ∃ u, exec x { held with service := { s.service with parser := .waiting, answers := [] } } = .next u ∧
          a = ({ u with service := { u.service with parser := s.service.parser, answers := s.service.answers } }, u.service.answers)
      let size (t : Nat) : Nat := if t = 0 then 5 else if t = 1 then 6 else if t = 2 ∨ t = 3 then 4 else if t = 4 then 3 else 0
      let read (code : Byte) (t i : Nat) : State × List Byte :=
        ({ held with service := { s.service with cursor := some (t, i + 1) } },
          [code, 0, BitVec.ofNat 8 t, BitVec.ofNat 8 i, 1] ++ held.tableRecord t i)
      ∃ t, exec (.relayRequestTaken l c) s = .next t ∧ t = { a.1 with tx := t.tx } ∧
        (∀ j, j ≠ k → t.tx.get j = a.1.tx.get j) ∧ t.tx.get k = { a.1.tx.get k with fifo := (t.tx.get k).fifo } ∧
        t.service.answers = s.service.answers ∧ t.service.parser = s.service.parser ∧
        (1 ≤ a.2.length → a.2.length ≤ 28 → (t.tx.get k).fifo = push (a.1.tx.get k).fifo (part 0 1 a.2)) ∧
        (29 ≤ a.2.length → a.2.length ≤ 56 →
          (t.tx.get k).fifo = push (push (a.1.tx.get k).fifo (part 0 2 (a.2.take 28))) (part 1 2 (a.2.drop 28))) ∧
        (r.bytes = [0x10] → acts .noticeTake) ∧ (∀ g, r.bytes = [0x11, g] → acts (.countersTake g)) ∧
        (∀ d v, r.bytes = [0x14, d, v] → acts (.domainWant d v)) ∧ (∀ v, r.bytes = [0x15, v] → acts (.volume v)) ∧
        (∀ v, r.bytes = [0x16, v] → acts (.micMute v)) ∧ (r.bytes = [0x17] → acts .summary) ∧
        (∀ st inner, r.bytes = 0x18 :: st :: inner → requestLength inner = some inner.length → acts (.relay st inner)) ∧
        (r.bytes = [0x19] → s.service.holder.answer.length ≤ 53 → acts .relayTake) ∧
        (∀ table index : Byte, r.bytes = [0x12, table, index] →
          a = if index.toNat < size table.toNat then read 0x12 table.toNat index.toNat else (held, [0x12, 3])) ∧
        (r.bytes = [0x13] →
          (s.service.cursor = none → a = (held, [0x13, 3])) ∧
          (∀ table index, s.service.cursor = some (table, index) → table ≤ 4 →
            a = if index < size table then read 0x13 table index else (held, [0x13, 1]))) ∧
        (r.bytes.head? ≠ some 0x18 → a.2[1]? ≠ some 2) ∧
        (parseRequest r.bytes = none → a = (held, [r.bytes.headD 0, 3])) ∧
        (r.bytes = [0x10] → ∀ n q, s.notices = n :: q → t.notices = q)) ∧
    (r.answer = false → (r.count ≠ 1 ∨ r.index ≠ 0) → exec (.relayRequestTaken l c) s = .next (s.taken l c)) ∧
    (r.answer = true →
      let h := s.service.holder
      let fits := h.state = .outstanding ∧ c.src = h.target ∧ r.tag = h.tag ∧ (h.count = none ∨ h.count = some r.count)
      let held (i : Nat) : Option (List Byte) :=
        if i = r.index then some r.bytes else (h.parts.find? fun p => p.1 == i).map (·.2)
      (¬fits → exec (.relayAnswerTaken l c) s = .next (s.taken l c)) ∧
      (fits → ∃ t, exec (.relayAnswerTaken l c) s = .next t ∧ t.tx = s.tx ∧ t.service.answers = s.service.answers ∧
        ((∀ i, i < r.count → (held i).isSome = true) →
          t.service.holder.state = .ready ∧ t.service.holder.target = h.target ∧ t.service.holder.tag = h.tag ∧
          t.service.holder.answer = ((List.range r.count).map fun i => (held i).getD []).flatten ∧
          ∃ n ∈ t.notices, n.kind = .relayReady ∧ n.subject = .relay ∧
            n.value = BitVec.ofNat 32 (h.target.num * 256 + h.tag.toNat)) ∧
        ((∃ i, i < r.count ∧ held i = none) →
          t.service.holder.state = .outstanding ∧ t.service.holder.count = some r.count ∧
          t.service.holder.wait = h.wait ∧ t.notices = s.notices ∧
          ∀ i, (t.service.holder.parts.find? fun p => p.1 == i).map (·.2) = held i)))

/-- O54. The attention line and the status outputs (R186, R187): low before the end of LOADING, then each as the function the
start record gives it; STATUS_PULSE_END ends an output's pulse, and SUPERFRAME_PULSE_START, with the clock at a multiple of
1024, starts afresh the pulses of the SUPERFRAME_PULSE outputs. That the pulse starts only where the clock stands there is the
model's reading (log entry 35). -/
def Obligations.OutputsFollowTheirFunctions : Prop :=
  ∀ s : State,
    (¬s.live → s.attention = false ∧ ∀ p, s.output p = false) ∧
    (s.live →
      (s.attention = true ↔ ∃ n ∈ s.notices, s.cfg.mask.getLsbD (NoticeKind.code n.kind - 1) = true) ∧
      ∀ p : StatusPin,
        let f := match p with | .a => s.cfg.outA | .b => s.cfg.outB
        let left := match p with | .a => s.pulses.a | .b => s.pulses.b
        (f = .laneFault → (s.output p = true ↔
          s.settledRoles = false ∨ ∃ l, s.inUse l = true ∧ (s.rx.get l).state ≠ .locked)) ∧
        (f = .rateLow → (s.output p = true ↔ s.station = .console ∧ ∃ e, (s.paced.get e).band ≠ .full)) ∧
        (f = .shed → (s.output p = true ↔ 0 < s.power.applied ∨ ∃ d ∈ s.power.domains, d.state = .shed)) ∧
        (f = .attention → s.output p = s.attention) ∧
        (f = .superframePulse ∨ f = .slipPulse → (s.output p = true ↔ 0 < left)) ∧
        (f = .fixedLow → s.output p = false) ∧ (f = .fixedHigh → s.output p = true)) ∧
    exec (.statusPulseEnd .a) s = .next { s with pulses := { s.pulses with a := 0 } } ∧
    exec (.statusPulseEnd .b) s = .next { s with pulses := { s.pulses with b := 0 } } ∧
    (s.live → s.clock.toNat % 1024 = 0 →
      exec .superframePulseStart s =
        .next
          { s with
            pulses :=
              { a := if s.cfg.outA = .superframePulse then 64 else s.pulses.a,
                b := if s.cfg.outB = .superframePulse then 64 else s.pulses.b } })

/-! ### The formats of cells (section 2.8) -/

/-- O55. A cell built in a layout of section 2.8, at any field values in their ranges, carries a correct check and reads
back as those fields: alignment cells, probes and replies, power reports, motion samples, audio blocks, the first and the
following cells of a slice, END, the seven CONTROL subtypes (ECHO, ECHO_BACK, DELAY, RESURVEY, VOLUME, BUTTON, MUTE) and
RELAY cells. -/
def Obligations.CellLayoutsReadBack : Prop :=
  (∀ (own : Station) (i : AlignInfo), checkOk (alignCell own i) = true ∧ readAlign (alignCell own i) = some i) ∧
  (∀ (own : Station) (slot : Nat) (e : Eye) (n : Num8) (ar o p : Nat) (x y z : Bool),
    ar ≤ 1008 → o ≤ 1008 → 16 ≤ p → p ≤ 1008 →
    (let c := ctlCell own slot (.probe e n ar o p)
     checkOk c = true ∧ c.kind = .probe ∧ c.dst = .to .headset ∧ eyeOf c.flow = some e ∧
     readRate c =
       some { number := n, ar := ar, offered := o, peak := p, congested := false, noRise := false, hold := false }) ∧
    (let c := ctlCell own slot (.reply e n ar o p x y z)
     checkOk c = true ∧ c.kind = .reply ∧ c.dst = .to .console ∧ eyeOf c.flow = some e ∧
     readRate c = some { number := n, ar := ar, offered := o, peak := p, congested := x, noRise := y, hold := z })) ∧
  (∀ (own : Station) (slot serial : Nat) (r : Report),
    r.draw < 65536 → r.waiting < 65536 → r.top ≤ 8 → r.offer < 65536 → r.level ≤ 7 → r.rail < 65536 →
    let c := ctlCell own slot (.power r serial)
    checkOk c = true ∧ c.kind = .power ∧ c.dst = .broadcast ∧ readReport c = some r) ∧
  (∀ (src : Station) (dst : Dest) (q : Seq) (x : Sample),
    let c := mkCell .data src dst 2 q true (samplePayload x)
    checkOk c = true ∧ readSample c = x) ∧
  (∀ (src : Station) (dst : Dest) (flow : BitVec 3) (q : Seq) (two : Bool) (b : Block) (f0 f1 f2 f3 : Frame),
    b.frames = [f0, f1, f2, f3] →
    (∀ f ∈ b.frames, -8388608 ≤ f.ch1 ∧ f.ch1 ≤ 8388607 ∧ -8388608 ≤ f.ch2 ∧ f.ch2 ≤ 8388607 ∧ (two = false → f.ch2 = 0)) →
    let c := mkCell .data src dst flow q true (blockPayload two b)
    checkOk c = true ∧ readBlock c two = some (b.number, b.frames)) ∧
  (∀ (src : Station) (dst : Dest) (flow : BitVec 3) (q : Seq) (r : SliceRec), r.sent = 0 → r.length ≤ 4096 →
    r.data.length = r.length →
    let c := mkCell .data src dst flow q true (slicePayload r)
    let n := min 28 r.length
    checkOk c = true ∧ c.start = true ∧ c.payload.length = 32 ∧
    readHead c = some { picture := r.picture, index := r.index, layer := r.layer, length := r.length } ∧
    (c.payload.drop 4).take n = r.data.take 28 ∧ ∀ b ∈ c.payload.drop (4 + n), b = 0) ∧
  (∀ (src : Station) (dst : Dest) (flow : BitVec 3) (q : Seq),
    let c := mkCell .data src dst flow q true []
    checkOk c = true ∧ c.start = true ∧ sliceLength c = 0) ∧
  (∀ (src : Station) (dst : Dest) (flow : BitVec 3) (q : Seq) (r : SliceRec), 1 ≤ r.sent → r.data.length = r.length →
    28 + 32 * (r.sent - 1) < r.length →
    let c := mkCell .data src dst flow q false (slicePayload r)
    let n := min 32 (r.length - (28 + 32 * (r.sent - 1)))
    checkOk c = true ∧ c.start = false ∧ c.payload.length = 32 ∧
    c.payload.take n = (r.data.drop (28 + 32 * (r.sent - 1))).take 32 ∧ ∀ b ∈ c.payload.drop n, b = 0) ∧
  (∀ (own far : Station) (slot takenAt : Nat) (k : Num8) (d : Count32) (quieter : Bool) (b : Button),
    let reads (x : Ctl) (target : Station) (subtype : Nat) (p : List Byte → Prop) :=
      let c := ctlCell own slot x
      checkOk c = true ∧ c.src = own ∧ c.dst = .to target ∧ c.start = true ∧ isControl target c subtype = true ∧
        (∀ n, isControl target c n = true → n = subtype) ∧ p c.payload
    reads (.echo far k) far 1 (fun p => p.getD 1 0 = k) ∧
    (takenAt ≤ slot → slot - takenAt < 4294967296 →
      reads (.echoBack k takenAt) .console 2 (fun p => p.getD 1 0 = k ∧ fieldAt p 2 4 = slot - takenAt)) ∧
    reads (.delay far k d) far 3 (fun p => p.getD 1 0 = k ∧ fieldAt p 2 4 = d.toNat) ∧
    reads .resurvey .console 4 (fun _ => True) ∧
    reads (.volume far quieter) far 5 (fun p => byteAt p 1 = if quieter then 1 else 0) ∧
    reads (.button b) .console 6
      (fun p => byteAt p 1 = match b with | .volUp => 0 | .volDown => 1 | .mute => 2) ∧
    reads (.mute far) far 7 (fun _ => True)) ∧
  (∀ (own t : Station) (slot : Nat) (answer : Bool) (i n : Nat) (tag : Num8) (bytes : List Byte),
    1 ≤ n → n ≤ 4 → i < n → 1 ≤ bytes.length → bytes.length ≤ 28 →
    let c := ctlCell own slot (.relay t answer i tag n bytes)
    checkOk c = true ∧ c.kind = .relay ∧ c.dst = .to t ∧
    readRelay c = some { answer := answer, index := i, tag := tag, count := n, bytes := bytes })

/-! ### Invariants that every step keeps -/

/-- O56. Every step keeps the room of the CONTROL FIFOs (R41), the hop-check histories (R11), the sample, output, block and
elastic queues (R125, R127, R133, R137), the send queues and slice buffers (R92, R97, R99, R100), the layer maps (R105) and
the answer FIFO of 512 bytes (R189), and at most one notice for each of the 21 subjects (R185). -/
def Obligations.StepKeepsQueuesBounded : Prop :=
  (∀ s t : State, s.QueuesBounded → step s = .next t → t.QueuesBounded) ∧
  ∀ s : State, s.QueuesBounded → s.notices.length ≤ 21

/-- O57. Every step keeps the ranges of the report balance: b from −8 to 8, the net balance at −8 or above, the age at most 8
(R177, R178). -/
def Obligations.StepKeepsTheBalanceInRange : Prop :=
  (∀ s t : State, s.BalanceInRange → step s = .next t → t.BalanceInRange) ∧
  ∀ s : State, s.BalanceInRange → -8 ≤ s.balance.b

/-- O58. Every step keeps the allowed rate between floor and peak, the credit under its cap, and the probe counts at 255 or
below (R67, R69, R70, R81). -/
def Obligations.StepKeepsTheRatesInRange : Prop :=
  ∀ s t : State, s.RatesInRange → step s = .next t → t.RatesInRange

/-- O59. Every step keeps the power rules (R151, R153, R154, R164): the applied level is the one its inputs give, no domain
that it forbids is ON, and every priority-0 domain is ON from the end of LOADING. -/
def Obligations.StepKeepsTheShedLevel : Prop :=
  ∀ s t : State, s.ShedLevelHolds → step s = .next t → t.ShedLevelHolds

/-- O60. The state after reset meets the invariants of the four statements before. -/
def Obligations.ResetMeetsTheInvariants : Prop :=
  State.reset.QueuesBounded ∧ State.reset.BalanceInRange ∧ State.reset.RatesInRange ∧ State.reset.ShedLevelHolds
end

