-- ==== Sys2Proof/Laws/State.lean ====
section
/-! SUPPORT. What the basic updates of the state leave and set: one lemma for each field of each update. -/

namespace Sys2Proof.Machine

variable (s : State)

/-! ### Families of like things -/

@[simp] theorem PerLane.get_set_self {α : Type} (p : PerLane α) (i : Lane) (v : α) : (p.set i v).get i = v := by
  cases i <;> rfl

theorem PerLane.get_set {α : Type} (p : PerLane α) (i j : Lane) (v : α) :
    (p.set i v).get j = if j = i then v else p.get j := by
  cases i <;> cases j <;> rfl

@[simp] theorem PerLane.set_get {α : Type} (p : PerLane α) (i : Lane) : p.set i (p.get i) = p := by
  cases i <;> rfl

@[simp] theorem PerLane.set_set {α : Type} (p : PerLane α) (i : Lane) (v w : α) : (p.set i v).set i w = p.set i w := by
  cases i <;> rfl

@[simp] theorem PerEye.get_set_self {α : Type} (p : PerEye α) (i : Eye) (v : α) : (p.set i v).get i = v := by
  cases i <;> rfl

theorem PerEye.get_set {α : Type} (p : PerEye α) (i j : Eye) (v : α) :
    (p.set i v).get j = if j = i then v else p.get j := by
  cases i <;> cases j <;> rfl

@[simp] theorem PerEye.set_get {α : Type} (p : PerEye α) (i : Eye) : p.set i (p.get i) = p := by
  cases i <;> rfl

@[simp] theorem PerEye.set_set {α : Type} (p : PerEye α) (i : Eye) (v w : α) : (p.set i v).set i w = p.set i w := by
  cases i <;> rfl

@[simp] theorem PerStation.get_set_self {α : Type} (p : PerStation α) (i : Station) (v : α) : (p.set i v).get i = v := by
  cases i <;> rfl

theorem PerStation.get_set {α : Type} (p : PerStation α) (i j : Station) (v : α) :
    (p.set i v).get j = if j = i then v else p.get j := by
  cases i <;> cases j <;> rfl

@[simp] theorem PerStation.set_get {α : Type} (p : PerStation α) (i : Station) : p.set i (p.get i) = p := by
  cases i <;> rfl

@[simp] theorem PerStation.set_set {α : Type} (p : PerStation α) (i : Station) (v w : α) : (p.set i v).set i w = p.set i w := by
  cases i <;> rfl

@[simp] theorem PerFlow.get_set_self {α : Type} (p : PerFlow α) (i : FlowId) (v : α) : (p.set i v).get i = v := by
  cases i <;> rfl

theorem PerFlow.get_set {α : Type} (p : PerFlow α) (i j : FlowId) (v : α) :
    (p.set i v).get j = if j = i then v else p.get j := by
  cases i <;> cases j <;> rfl

@[simp] theorem PerFlow.set_get {α : Type} (p : PerFlow α) (i : FlowId) : p.set i (p.get i) = p := by
  cases i <;> rfl

@[simp] theorem PerFlow.set_set {α : Type} (p : PerFlow α) (i : FlowId) (v w : α) : (p.set i v).set i w = p.set i w := by
  cases i <;> rfl

/-! ### modRx -/

@[simp] theorem State.modRx_start (l : Lane) (f : Rx → Rx) : (s.modRx l f).start = s.start := rfl
@[simp] theorem State.modRx_cause (l : Lane) (f : Rx → Rx) : (s.modRx l f).cause = s.cause := rfl
@[simp] theorem State.modRx_station (l : Lane) (f : Rx → Rx) : (s.modRx l f).station = s.station := rfl
@[simp] theorem State.modRx_sup (l : Lane) (f : Rx → Rx) : (s.modRx l f).sup = s.sup := rfl
@[simp] theorem State.modRx_srec (l : Lane) (f : Rx → Rx) : (s.modRx l f).srec = s.srec := rfl
@[simp] theorem State.modRx_cfg (l : Lane) (f : Rx → Rx) : (s.modRx l f).cfg = s.cfg := rfl
@[simp] theorem State.modRx_settledRoles (l : Lane) (f : Rx → Rx) : (s.modRx l f).settledRoles = s.settledRoles := rfl
@[simp] theorem State.modRx_farNeighbour (l : Lane) (f : Rx → Rx) : (s.modRx l f).farNeighbour = s.farNeighbour := rfl
@[simp] theorem State.modRx_lateSeen (l : Lane) (f : Rx → Rx) : (s.modRx l f).lateSeen = s.lateSeen := rfl
@[simp] theorem State.modRx_localSlot (l : Lane) (f : Rx → Rx) : (s.modRx l f).localSlot = s.localSlot := rfl
@[simp] theorem State.modRx_clock (l : Lane) (f : Rx → Rx) : (s.modRx l f).clock = s.clock := rfl
@[simp] theorem State.modRx_pins (l : Lane) (f : Rx → Rx) : (s.modRx l f).pins = s.pins := rfl
@[simp] theorem State.modRx_rx (l : Lane) (f : Rx → Rx) : (s.modRx l f).rx = s.rx.set l (f (s.rx.get l)) := rfl
@[simp] theorem State.modRx_tx (l : Lane) (f : Rx → Rx) : (s.modRx l f).tx = s.tx := rfl
@[simp] theorem State.modRx_stations (l : Lane) (f : Rx → Rx) : (s.modRx l f).stations = s.stations := rfl
@[simp] theorem State.modRx_dst (l : Lane) (f : Rx → Rx) : (s.modRx l f).dst = s.dst := rfl
@[simp] theorem State.modRx_seqs (l : Lane) (f : Rx → Rx) : (s.modRx l f).seqs = s.seqs := rfl
@[simp] theorem State.modRx_counters (l : Lane) (f : Rx → Rx) : (s.modRx l f).counters = s.counters := rfl
@[simp] theorem State.modRx_paced (l : Lane) (f : Rx → Rx) : (s.modRx l f).paced = s.paced := rfl
@[simp] theorem State.modRx_eyes (l : Lane) (f : Rx → Rx) : (s.modRx l f).eyes = s.eyes := rfl
@[simp] theorem State.modRx_surveyed (l : Lane) (f : Rx → Rx) : (s.modRx l f).surveyed = s.surveyed := rfl
@[simp] theorem State.modRx_surveys (l : Lane) (f : Rx → Rx) : (s.modRx l f).surveys = s.surveys := rfl
@[simp] theorem State.modRx_tokens (l : Lane) (f : Rx → Rx) : (s.modRx l f).tokens = s.tokens := rfl
@[simp] theorem State.modRx_motion (l : Lane) (f : Rx → Rx) : (s.modRx l f).motion = s.motion := rfl
@[simp] theorem State.modRx_motionOut (l : Lane) (f : Rx → Rx) : (s.modRx l f).motionOut = s.motionOut := rfl
@[simp] theorem State.modRx_audio (l : Lane) (f : Rx → Rx) : (s.modRx l f).audio = s.audio := rfl
@[simp] theorem State.modRx_power (l : Lane) (f : Rx → Rx) : (s.modRx l f).power = s.power := rfl
@[simp] theorem State.modRx_views (l : Lane) (f : Rx → Rx) : (s.modRx l f).views = s.views := rfl
@[simp] theorem State.modRx_balance (l : Lane) (f : Rx → Rx) : (s.modRx l f).balance = s.balance := rfl
@[simp] theorem State.modRx_notices (l : Lane) (f : Rx → Rx) : (s.modRx l f).notices = s.notices := rfl
@[simp] theorem State.modRx_pulses (l : Lane) (f : Rx → Rx) : (s.modRx l f).pulses = s.pulses := rfl
@[simp] theorem State.modRx_service (l : Lane) (f : Rx → Rx) : (s.modRx l f).service = s.service := rfl
@[simp] theorem State.modRx_pending (l : Lane) (f : Rx → Rx) : (s.modRx l f).pending = s.pending := rfl

/-! ### modTx -/

@[simp] theorem State.modTx_start (l : Lane) (f : Tx → Tx) : (s.modTx l f).start = s.start := rfl
@[simp] theorem State.modTx_cause (l : Lane) (f : Tx → Tx) : (s.modTx l f).cause = s.cause := rfl
@[simp] theorem State.modTx_station (l : Lane) (f : Tx → Tx) : (s.modTx l f).station = s.station := rfl
@[simp] theorem State.modTx_sup (l : Lane) (f : Tx → Tx) : (s.modTx l f).sup = s.sup := rfl
@[simp] theorem State.modTx_srec (l : Lane) (f : Tx → Tx) : (s.modTx l f).srec = s.srec := rfl
@[simp] theorem State.modTx_cfg (l : Lane) (f : Tx → Tx) : (s.modTx l f).cfg = s.cfg := rfl
@[simp] theorem State.modTx_settledRoles (l : Lane) (f : Tx → Tx) : (s.modTx l f).settledRoles = s.settledRoles := rfl
@[simp] theorem State.modTx_farNeighbour (l : Lane) (f : Tx → Tx) : (s.modTx l f).farNeighbour = s.farNeighbour := rfl
@[simp] theorem State.modTx_lateSeen (l : Lane) (f : Tx → Tx) : (s.modTx l f).lateSeen = s.lateSeen := rfl
@[simp] theorem State.modTx_localSlot (l : Lane) (f : Tx → Tx) : (s.modTx l f).localSlot = s.localSlot := rfl
@[simp] theorem State.modTx_clock (l : Lane) (f : Tx → Tx) : (s.modTx l f).clock = s.clock := rfl
@[simp] theorem State.modTx_pins (l : Lane) (f : Tx → Tx) : (s.modTx l f).pins = s.pins := rfl
@[simp] theorem State.modTx_rx (l : Lane) (f : Tx → Tx) : (s.modTx l f).rx = s.rx := rfl
@[simp] theorem State.modTx_tx (l : Lane) (f : Tx → Tx) : (s.modTx l f).tx = s.tx.set l (f (s.tx.get l)) := rfl
@[simp] theorem State.modTx_stations (l : Lane) (f : Tx → Tx) : (s.modTx l f).stations = s.stations := rfl
@[simp] theorem State.modTx_dst (l : Lane) (f : Tx → Tx) : (s.modTx l f).dst = s.dst := rfl
@[simp] theorem State.modTx_seqs (l : Lane) (f : Tx → Tx) : (s.modTx l f).seqs = s.seqs := rfl
@[simp] theorem State.modTx_counters (l : Lane) (f : Tx → Tx) : (s.modTx l f).counters = s.counters := rfl
@[simp] theorem State.modTx_paced (l : Lane) (f : Tx → Tx) : (s.modTx l f).paced = s.paced := rfl
@[simp] theorem State.modTx_eyes (l : Lane) (f : Tx → Tx) : (s.modTx l f).eyes = s.eyes := rfl
@[simp] theorem State.modTx_surveyed (l : Lane) (f : Tx → Tx) : (s.modTx l f).surveyed = s.surveyed := rfl
@[simp] theorem State.modTx_surveys (l : Lane) (f : Tx → Tx) : (s.modTx l f).surveys = s.surveys := rfl
@[simp] theorem State.modTx_tokens (l : Lane) (f : Tx → Tx) : (s.modTx l f).tokens = s.tokens := rfl
@[simp] theorem State.modTx_motion (l : Lane) (f : Tx → Tx) : (s.modTx l f).motion = s.motion := rfl
@[simp] theorem State.modTx_motionOut (l : Lane) (f : Tx → Tx) : (s.modTx l f).motionOut = s.motionOut := rfl
@[simp] theorem State.modTx_audio (l : Lane) (f : Tx → Tx) : (s.modTx l f).audio = s.audio := rfl
@[simp] theorem State.modTx_power (l : Lane) (f : Tx → Tx) : (s.modTx l f).power = s.power := rfl
@[simp] theorem State.modTx_views (l : Lane) (f : Tx → Tx) : (s.modTx l f).views = s.views := rfl
@[simp] theorem State.modTx_balance (l : Lane) (f : Tx → Tx) : (s.modTx l f).balance = s.balance := rfl
@[simp] theorem State.modTx_notices (l : Lane) (f : Tx → Tx) : (s.modTx l f).notices = s.notices := rfl
@[simp] theorem State.modTx_pulses (l : Lane) (f : Tx → Tx) : (s.modTx l f).pulses = s.pulses := rfl
@[simp] theorem State.modTx_service (l : Lane) (f : Tx → Tx) : (s.modTx l f).service = s.service := rfl
@[simp] theorem State.modTx_pending (l : Lane) (f : Tx → Tx) : (s.modTx l f).pending = s.pending := rfl

/-! ### modPaced -/

@[simp] theorem State.modPaced_start (e : Eye) (f : Paced → Paced) : (s.modPaced e f).start = s.start := rfl
@[simp] theorem State.modPaced_cause (e : Eye) (f : Paced → Paced) : (s.modPaced e f).cause = s.cause := rfl
@[simp] theorem State.modPaced_station (e : Eye) (f : Paced → Paced) : (s.modPaced e f).station = s.station := rfl
@[simp] theorem State.modPaced_sup (e : Eye) (f : Paced → Paced) : (s.modPaced e f).sup = s.sup := rfl
@[simp] theorem State.modPaced_srec (e : Eye) (f : Paced → Paced) : (s.modPaced e f).srec = s.srec := rfl
@[simp] theorem State.modPaced_cfg (e : Eye) (f : Paced → Paced) : (s.modPaced e f).cfg = s.cfg := rfl
@[simp] theorem State.modPaced_settledRoles (e : Eye) (f : Paced → Paced) : (s.modPaced e f).settledRoles = s.settledRoles := rfl
@[simp] theorem State.modPaced_farNeighbour (e : Eye) (f : Paced → Paced) : (s.modPaced e f).farNeighbour = s.farNeighbour := rfl
@[simp] theorem State.modPaced_lateSeen (e : Eye) (f : Paced → Paced) : (s.modPaced e f).lateSeen = s.lateSeen := rfl
@[simp] theorem State.modPaced_localSlot (e : Eye) (f : Paced → Paced) : (s.modPaced e f).localSlot = s.localSlot := rfl
@[simp] theorem State.modPaced_clock (e : Eye) (f : Paced → Paced) : (s.modPaced e f).clock = s.clock := rfl
@[simp] theorem State.modPaced_pins (e : Eye) (f : Paced → Paced) : (s.modPaced e f).pins = s.pins := rfl
@[simp] theorem State.modPaced_rx (e : Eye) (f : Paced → Paced) : (s.modPaced e f).rx = s.rx := rfl
@[simp] theorem State.modPaced_tx (e : Eye) (f : Paced → Paced) : (s.modPaced e f).tx = s.tx := rfl
@[simp] theorem State.modPaced_stations (e : Eye) (f : Paced → Paced) : (s.modPaced e f).stations = s.stations := rfl
@[simp] theorem State.modPaced_dst (e : Eye) (f : Paced → Paced) : (s.modPaced e f).dst = s.dst := rfl
@[simp] theorem State.modPaced_seqs (e : Eye) (f : Paced → Paced) : (s.modPaced e f).seqs = s.seqs := rfl
@[simp] theorem State.modPaced_counters (e : Eye) (f : Paced → Paced) : (s.modPaced e f).counters = s.counters := rfl
@[simp] theorem State.modPaced_paced (e : Eye) (f : Paced → Paced) : (s.modPaced e f).paced = s.paced.set e (f (s.paced.get e)) := rfl
@[simp] theorem State.modPaced_eyes (e : Eye) (f : Paced → Paced) : (s.modPaced e f).eyes = s.eyes := rfl
@[simp] theorem State.modPaced_surveyed (e : Eye) (f : Paced → Paced) : (s.modPaced e f).surveyed = s.surveyed := rfl
@[simp] theorem State.modPaced_surveys (e : Eye) (f : Paced → Paced) : (s.modPaced e f).surveys = s.surveys := rfl
@[simp] theorem State.modPaced_tokens (e : Eye) (f : Paced → Paced) : (s.modPaced e f).tokens = s.tokens := rfl
@[simp] theorem State.modPaced_motion (e : Eye) (f : Paced → Paced) : (s.modPaced e f).motion = s.motion := rfl
@[simp] theorem State.modPaced_motionOut (e : Eye) (f : Paced → Paced) : (s.modPaced e f).motionOut = s.motionOut := rfl
@[simp] theorem State.modPaced_audio (e : Eye) (f : Paced → Paced) : (s.modPaced e f).audio = s.audio := rfl
@[simp] theorem State.modPaced_power (e : Eye) (f : Paced → Paced) : (s.modPaced e f).power = s.power := rfl
@[simp] theorem State.modPaced_views (e : Eye) (f : Paced → Paced) : (s.modPaced e f).views = s.views := rfl
@[simp] theorem State.modPaced_balance (e : Eye) (f : Paced → Paced) : (s.modPaced e f).balance = s.balance := rfl
@[simp] theorem State.modPaced_notices (e : Eye) (f : Paced → Paced) : (s.modPaced e f).notices = s.notices := rfl
@[simp] theorem State.modPaced_pulses (e : Eye) (f : Paced → Paced) : (s.modPaced e f).pulses = s.pulses := rfl
@[simp] theorem State.modPaced_service (e : Eye) (f : Paced → Paced) : (s.modPaced e f).service = s.service := rfl
@[simp] theorem State.modPaced_pending (e : Eye) (f : Paced → Paced) : (s.modPaced e f).pending = s.pending := rfl

/-! ### modEye -/

@[simp] theorem State.modEye_start (e : Eye) (f : EyeDst → EyeDst) : (s.modEye e f).start = s.start := rfl
@[simp] theorem State.modEye_cause (e : Eye) (f : EyeDst → EyeDst) : (s.modEye e f).cause = s.cause := rfl
@[simp] theorem State.modEye_station (e : Eye) (f : EyeDst → EyeDst) : (s.modEye e f).station = s.station := rfl
@[simp] theorem State.modEye_sup (e : Eye) (f : EyeDst → EyeDst) : (s.modEye e f).sup = s.sup := rfl
@[simp] theorem State.modEye_srec (e : Eye) (f : EyeDst → EyeDst) : (s.modEye e f).srec = s.srec := rfl
@[simp] theorem State.modEye_cfg (e : Eye) (f : EyeDst → EyeDst) : (s.modEye e f).cfg = s.cfg := rfl
@[simp] theorem State.modEye_settledRoles (e : Eye) (f : EyeDst → EyeDst) : (s.modEye e f).settledRoles = s.settledRoles := rfl
@[simp] theorem State.modEye_farNeighbour (e : Eye) (f : EyeDst → EyeDst) : (s.modEye e f).farNeighbour = s.farNeighbour := rfl
@[simp] theorem State.modEye_lateSeen (e : Eye) (f : EyeDst → EyeDst) : (s.modEye e f).lateSeen = s.lateSeen := rfl
@[simp] theorem State.modEye_localSlot (e : Eye) (f : EyeDst → EyeDst) : (s.modEye e f).localSlot = s.localSlot := rfl
@[simp] theorem State.modEye_clock (e : Eye) (f : EyeDst → EyeDst) : (s.modEye e f).clock = s.clock := rfl
@[simp] theorem State.modEye_pins (e : Eye) (f : EyeDst → EyeDst) : (s.modEye e f).pins = s.pins := rfl
@[simp] theorem State.modEye_rx (e : Eye) (f : EyeDst → EyeDst) : (s.modEye e f).rx = s.rx := rfl
@[simp] theorem State.modEye_tx (e : Eye) (f : EyeDst → EyeDst) : (s.modEye e f).tx = s.tx := rfl
@[simp] theorem State.modEye_stations (e : Eye) (f : EyeDst → EyeDst) : (s.modEye e f).stations = s.stations := rfl
@[simp] theorem State.modEye_dst (e : Eye) (f : EyeDst → EyeDst) : (s.modEye e f).dst = s.dst := rfl
@[simp] theorem State.modEye_seqs (e : Eye) (f : EyeDst → EyeDst) : (s.modEye e f).seqs = s.seqs := rfl
@[simp] theorem State.modEye_counters (e : Eye) (f : EyeDst → EyeDst) : (s.modEye e f).counters = s.counters := rfl
@[simp] theorem State.modEye_paced (e : Eye) (f : EyeDst → EyeDst) : (s.modEye e f).paced = s.paced := rfl
@[simp] theorem State.modEye_eyes (e : Eye) (f : EyeDst → EyeDst) : (s.modEye e f).eyes = s.eyes.set e (f (s.eyes.get e)) := rfl
@[simp] theorem State.modEye_surveyed (e : Eye) (f : EyeDst → EyeDst) : (s.modEye e f).surveyed = s.surveyed := rfl
@[simp] theorem State.modEye_surveys (e : Eye) (f : EyeDst → EyeDst) : (s.modEye e f).surveys = s.surveys := rfl
@[simp] theorem State.modEye_tokens (e : Eye) (f : EyeDst → EyeDst) : (s.modEye e f).tokens = s.tokens := rfl
@[simp] theorem State.modEye_motion (e : Eye) (f : EyeDst → EyeDst) : (s.modEye e f).motion = s.motion := rfl
@[simp] theorem State.modEye_motionOut (e : Eye) (f : EyeDst → EyeDst) : (s.modEye e f).motionOut = s.motionOut := rfl
@[simp] theorem State.modEye_audio (e : Eye) (f : EyeDst → EyeDst) : (s.modEye e f).audio = s.audio := rfl
@[simp] theorem State.modEye_power (e : Eye) (f : EyeDst → EyeDst) : (s.modEye e f).power = s.power := rfl
@[simp] theorem State.modEye_views (e : Eye) (f : EyeDst → EyeDst) : (s.modEye e f).views = s.views := rfl
@[simp] theorem State.modEye_balance (e : Eye) (f : EyeDst → EyeDst) : (s.modEye e f).balance = s.balance := rfl
@[simp] theorem State.modEye_notices (e : Eye) (f : EyeDst → EyeDst) : (s.modEye e f).notices = s.notices := rfl
@[simp] theorem State.modEye_pulses (e : Eye) (f : EyeDst → EyeDst) : (s.modEye e f).pulses = s.pulses := rfl
@[simp] theorem State.modEye_service (e : Eye) (f : EyeDst → EyeDst) : (s.modEye e f).service = s.service := rfl
@[simp] theorem State.modEye_pending (e : Eye) (f : EyeDst → EyeDst) : (s.modEye e f).pending = s.pending := rfl

/-! ### modSurvey -/

@[simp] theorem State.modSurvey_start (t : Station) (f : Survey → Survey) : (s.modSurvey t f).start = s.start := rfl
@[simp] theorem State.modSurvey_cause (t : Station) (f : Survey → Survey) : (s.modSurvey t f).cause = s.cause := rfl
@[simp] theorem State.modSurvey_station (t : Station) (f : Survey → Survey) : (s.modSurvey t f).station = s.station := rfl
@[simp] theorem State.modSurvey_sup (t : Station) (f : Survey → Survey) : (s.modSurvey t f).sup = s.sup := rfl
@[simp] theorem State.modSurvey_srec (t : Station) (f : Survey → Survey) : (s.modSurvey t f).srec = s.srec := rfl
@[simp] theorem State.modSurvey_cfg (t : Station) (f : Survey → Survey) : (s.modSurvey t f).cfg = s.cfg := rfl
@[simp] theorem State.modSurvey_settledRoles (t : Station) (f : Survey → Survey) : (s.modSurvey t f).settledRoles = s.settledRoles := rfl
@[simp] theorem State.modSurvey_farNeighbour (t : Station) (f : Survey → Survey) : (s.modSurvey t f).farNeighbour = s.farNeighbour := rfl
@[simp] theorem State.modSurvey_lateSeen (t : Station) (f : Survey → Survey) : (s.modSurvey t f).lateSeen = s.lateSeen := rfl
@[simp] theorem State.modSurvey_localSlot (t : Station) (f : Survey → Survey) : (s.modSurvey t f).localSlot = s.localSlot := rfl
@[simp] theorem State.modSurvey_clock (t : Station) (f : Survey → Survey) : (s.modSurvey t f).clock = s.clock := rfl
@[simp] theorem State.modSurvey_pins (t : Station) (f : Survey → Survey) : (s.modSurvey t f).pins = s.pins := rfl
@[simp] theorem State.modSurvey_rx (t : Station) (f : Survey → Survey) : (s.modSurvey t f).rx = s.rx := rfl
@[simp] theorem State.modSurvey_tx (t : Station) (f : Survey → Survey) : (s.modSurvey t f).tx = s.tx := rfl
@[simp] theorem State.modSurvey_stations (t : Station) (f : Survey → Survey) : (s.modSurvey t f).stations = s.stations := rfl
@[simp] theorem State.modSurvey_dst (t : Station) (f : Survey → Survey) : (s.modSurvey t f).dst = s.dst := rfl
@[simp] theorem State.modSurvey_seqs (t : Station) (f : Survey → Survey) : (s.modSurvey t f).seqs = s.seqs := rfl
@[simp] theorem State.modSurvey_counters (t : Station) (f : Survey → Survey) : (s.modSurvey t f).counters = s.counters := rfl
@[simp] theorem State.modSurvey_paced (t : Station) (f : Survey → Survey) : (s.modSurvey t f).paced = s.paced := rfl
@[simp] theorem State.modSurvey_eyes (t : Station) (f : Survey → Survey) : (s.modSurvey t f).eyes = s.eyes := rfl
@[simp] theorem State.modSurvey_surveyed (t : Station) (f : Survey → Survey) : (s.modSurvey t f).surveyed = s.surveyed := rfl
@[simp] theorem State.modSurvey_surveys (t : Station) (f : Survey → Survey) : (s.modSurvey t f).surveys = s.surveys.set t (f (s.surveys.get t)) := rfl
@[simp] theorem State.modSurvey_tokens (t : Station) (f : Survey → Survey) : (s.modSurvey t f).tokens = s.tokens := rfl
@[simp] theorem State.modSurvey_motion (t : Station) (f : Survey → Survey) : (s.modSurvey t f).motion = s.motion := rfl
@[simp] theorem State.modSurvey_motionOut (t : Station) (f : Survey → Survey) : (s.modSurvey t f).motionOut = s.motionOut := rfl
@[simp] theorem State.modSurvey_audio (t : Station) (f : Survey → Survey) : (s.modSurvey t f).audio = s.audio := rfl
@[simp] theorem State.modSurvey_power (t : Station) (f : Survey → Survey) : (s.modSurvey t f).power = s.power := rfl
@[simp] theorem State.modSurvey_views (t : Station) (f : Survey → Survey) : (s.modSurvey t f).views = s.views := rfl
@[simp] theorem State.modSurvey_balance (t : Station) (f : Survey → Survey) : (s.modSurvey t f).balance = s.balance := rfl
@[simp] theorem State.modSurvey_notices (t : Station) (f : Survey → Survey) : (s.modSurvey t f).notices = s.notices := rfl
@[simp] theorem State.modSurvey_pulses (t : Station) (f : Survey → Survey) : (s.modSurvey t f).pulses = s.pulses := rfl
@[simp] theorem State.modSurvey_service (t : Station) (f : Survey → Survey) : (s.modSurvey t f).service = s.service := rfl
@[simp] theorem State.modSurvey_pending (t : Station) (f : Survey → Survey) : (s.modSurvey t f).pending = s.pending := rfl

/-! ### modStation -/

@[simp] theorem State.modStation_start (t : Station) (f : StationEntry → StationEntry) : (s.modStation t f).start = s.start := rfl
@[simp] theorem State.modStation_cause (t : Station) (f : StationEntry → StationEntry) : (s.modStation t f).cause = s.cause := rfl
@[simp] theorem State.modStation_station (t : Station) (f : StationEntry → StationEntry) : (s.modStation t f).station = s.station := rfl
@[simp] theorem State.modStation_sup (t : Station) (f : StationEntry → StationEntry) : (s.modStation t f).sup = s.sup := rfl
@[simp] theorem State.modStation_srec (t : Station) (f : StationEntry → StationEntry) : (s.modStation t f).srec = s.srec := rfl
@[simp] theorem State.modStation_cfg (t : Station) (f : StationEntry → StationEntry) : (s.modStation t f).cfg = s.cfg := rfl
@[simp] theorem State.modStation_settledRoles (t : Station) (f : StationEntry → StationEntry) : (s.modStation t f).settledRoles = s.settledRoles := rfl
@[simp] theorem State.modStation_farNeighbour (t : Station) (f : StationEntry → StationEntry) : (s.modStation t f).farNeighbour = s.farNeighbour := rfl
@[simp] theorem State.modStation_lateSeen (t : Station) (f : StationEntry → StationEntry) : (s.modStation t f).lateSeen = s.lateSeen := rfl
@[simp] theorem State.modStation_localSlot (t : Station) (f : StationEntry → StationEntry) : (s.modStation t f).localSlot = s.localSlot := rfl
@[simp] theorem State.modStation_clock (t : Station) (f : StationEntry → StationEntry) : (s.modStation t f).clock = s.clock := rfl
@[simp] theorem State.modStation_pins (t : Station) (f : StationEntry → StationEntry) : (s.modStation t f).pins = s.pins := rfl
@[simp] theorem State.modStation_rx (t : Station) (f : StationEntry → StationEntry) : (s.modStation t f).rx = s.rx := rfl
@[simp] theorem State.modStation_tx (t : Station) (f : StationEntry → StationEntry) : (s.modStation t f).tx = s.tx := rfl
@[simp] theorem State.modStation_stations (t : Station) (f : StationEntry → StationEntry) : (s.modStation t f).stations = s.stations.set t (f (s.stations.get t)) := rfl
@[simp] theorem State.modStation_dst (t : Station) (f : StationEntry → StationEntry) : (s.modStation t f).dst = s.dst := rfl
@[simp] theorem State.modStation_seqs (t : Station) (f : StationEntry → StationEntry) : (s.modStation t f).seqs = s.seqs := rfl
@[simp] theorem State.modStation_counters (t : Station) (f : StationEntry → StationEntry) : (s.modStation t f).counters = s.counters := rfl
@[simp] theorem State.modStation_paced (t : Station) (f : StationEntry → StationEntry) : (s.modStation t f).paced = s.paced := rfl
@[simp] theorem State.modStation_eyes (t : Station) (f : StationEntry → StationEntry) : (s.modStation t f).eyes = s.eyes := rfl
@[simp] theorem State.modStation_surveyed (t : Station) (f : StationEntry → StationEntry) : (s.modStation t f).surveyed = s.surveyed := rfl
@[simp] theorem State.modStation_surveys (t : Station) (f : StationEntry → StationEntry) : (s.modStation t f).surveys = s.surveys := rfl
@[simp] theorem State.modStation_tokens (t : Station) (f : StationEntry → StationEntry) : (s.modStation t f).tokens = s.tokens := rfl
@[simp] theorem State.modStation_motion (t : Station) (f : StationEntry → StationEntry) : (s.modStation t f).motion = s.motion := rfl
@[simp] theorem State.modStation_motionOut (t : Station) (f : StationEntry → StationEntry) : (s.modStation t f).motionOut = s.motionOut := rfl
@[simp] theorem State.modStation_audio (t : Station) (f : StationEntry → StationEntry) : (s.modStation t f).audio = s.audio := rfl
@[simp] theorem State.modStation_power (t : Station) (f : StationEntry → StationEntry) : (s.modStation t f).power = s.power := rfl
@[simp] theorem State.modStation_views (t : Station) (f : StationEntry → StationEntry) : (s.modStation t f).views = s.views := rfl
@[simp] theorem State.modStation_balance (t : Station) (f : StationEntry → StationEntry) : (s.modStation t f).balance = s.balance := rfl
@[simp] theorem State.modStation_notices (t : Station) (f : StationEntry → StationEntry) : (s.modStation t f).notices = s.notices := rfl
@[simp] theorem State.modStation_pulses (t : Station) (f : StationEntry → StationEntry) : (s.modStation t f).pulses = s.pulses := rfl
@[simp] theorem State.modStation_service (t : Station) (f : StationEntry → StationEntry) : (s.modStation t f).service = s.service := rfl
@[simp] theorem State.modStation_pending (t : Station) (f : StationEntry → StationEntry) : (s.modStation t f).pending = s.pending := rfl

/-! ### modSource -/

@[simp] theorem State.modSource_start (f : Source → Source) : (s.modSource f).start = s.start := rfl
@[simp] theorem State.modSource_cause (f : Source → Source) : (s.modSource f).cause = s.cause := rfl
@[simp] theorem State.modSource_station (f : Source → Source) : (s.modSource f).station = s.station := rfl
@[simp] theorem State.modSource_sup (f : Source → Source) : (s.modSource f).sup = s.sup := rfl
@[simp] theorem State.modSource_srec (f : Source → Source) : (s.modSource f).srec = s.srec := rfl
@[simp] theorem State.modSource_cfg (f : Source → Source) : (s.modSource f).cfg = s.cfg := rfl
@[simp] theorem State.modSource_settledRoles (f : Source → Source) : (s.modSource f).settledRoles = s.settledRoles := rfl
@[simp] theorem State.modSource_farNeighbour (f : Source → Source) : (s.modSource f).farNeighbour = s.farNeighbour := rfl
@[simp] theorem State.modSource_lateSeen (f : Source → Source) : (s.modSource f).lateSeen = s.lateSeen := rfl
@[simp] theorem State.modSource_localSlot (f : Source → Source) : (s.modSource f).localSlot = s.localSlot := rfl
@[simp] theorem State.modSource_clock (f : Source → Source) : (s.modSource f).clock = s.clock := rfl
@[simp] theorem State.modSource_pins (f : Source → Source) : (s.modSource f).pins = s.pins := rfl
@[simp] theorem State.modSource_rx (f : Source → Source) : (s.modSource f).rx = s.rx := rfl
@[simp] theorem State.modSource_tx (f : Source → Source) : (s.modSource f).tx = s.tx := rfl
@[simp] theorem State.modSource_stations (f : Source → Source) : (s.modSource f).stations = s.stations := rfl
@[simp] theorem State.modSource_dst (f : Source → Source) : (s.modSource f).dst = s.dst := rfl
@[simp] theorem State.modSource_seqs (f : Source → Source) : (s.modSource f).seqs = s.seqs := rfl
@[simp] theorem State.modSource_counters (f : Source → Source) : (s.modSource f).counters = s.counters := rfl
@[simp] theorem State.modSource_paced (f : Source → Source) : (s.modSource f).paced = s.paced := rfl
@[simp] theorem State.modSource_eyes (f : Source → Source) : (s.modSource f).eyes = s.eyes := rfl
@[simp] theorem State.modSource_surveyed (f : Source → Source) : (s.modSource f).surveyed = s.surveyed := rfl
@[simp] theorem State.modSource_surveys (f : Source → Source) : (s.modSource f).surveys = s.surveys := rfl
@[simp] theorem State.modSource_tokens (f : Source → Source) : (s.modSource f).tokens = s.tokens := rfl
@[simp] theorem State.modSource_motion (f : Source → Source) : (s.modSource f).motion = s.motion := rfl
@[simp] theorem State.modSource_motionOut (f : Source → Source) : (s.modSource f).motionOut = s.motionOut := rfl
@[simp] theorem State.modSource_audio (f : Source → Source) : (s.modSource f).audio = { s.audio with source := f s.audio.source } := rfl
@[simp] theorem State.modSource_power (f : Source → Source) : (s.modSource f).power = s.power := rfl
@[simp] theorem State.modSource_views (f : Source → Source) : (s.modSource f).views = s.views := rfl
@[simp] theorem State.modSource_balance (f : Source → Source) : (s.modSource f).balance = s.balance := rfl
@[simp] theorem State.modSource_notices (f : Source → Source) : (s.modSource f).notices = s.notices := rfl
@[simp] theorem State.modSource_pulses (f : Source → Source) : (s.modSource f).pulses = s.pulses := rfl
@[simp] theorem State.modSource_service (f : Source → Source) : (s.modSource f).service = s.service := rfl
@[simp] theorem State.modSource_pending (f : Source → Source) : (s.modSource f).pending = s.pending := rfl

/-! ### modSink -/

@[simp] theorem State.modSink_start (f : Sink → Sink) : (s.modSink f).start = s.start := rfl
@[simp] theorem State.modSink_cause (f : Sink → Sink) : (s.modSink f).cause = s.cause := rfl
@[simp] theorem State.modSink_station (f : Sink → Sink) : (s.modSink f).station = s.station := rfl
@[simp] theorem State.modSink_sup (f : Sink → Sink) : (s.modSink f).sup = s.sup := rfl
@[simp] theorem State.modSink_srec (f : Sink → Sink) : (s.modSink f).srec = s.srec := rfl
@[simp] theorem State.modSink_cfg (f : Sink → Sink) : (s.modSink f).cfg = s.cfg := rfl
@[simp] theorem State.modSink_settledRoles (f : Sink → Sink) : (s.modSink f).settledRoles = s.settledRoles := rfl
@[simp] theorem State.modSink_farNeighbour (f : Sink → Sink) : (s.modSink f).farNeighbour = s.farNeighbour := rfl
@[simp] theorem State.modSink_lateSeen (f : Sink → Sink) : (s.modSink f).lateSeen = s.lateSeen := rfl
@[simp] theorem State.modSink_localSlot (f : Sink → Sink) : (s.modSink f).localSlot = s.localSlot := rfl
@[simp] theorem State.modSink_clock (f : Sink → Sink) : (s.modSink f).clock = s.clock := rfl
@[simp] theorem State.modSink_pins (f : Sink → Sink) : (s.modSink f).pins = s.pins := rfl
@[simp] theorem State.modSink_rx (f : Sink → Sink) : (s.modSink f).rx = s.rx := rfl
@[simp] theorem State.modSink_tx (f : Sink → Sink) : (s.modSink f).tx = s.tx := rfl
@[simp] theorem State.modSink_stations (f : Sink → Sink) : (s.modSink f).stations = s.stations := rfl
@[simp] theorem State.modSink_dst (f : Sink → Sink) : (s.modSink f).dst = s.dst := rfl
@[simp] theorem State.modSink_seqs (f : Sink → Sink) : (s.modSink f).seqs = s.seqs := rfl
@[simp] theorem State.modSink_counters (f : Sink → Sink) : (s.modSink f).counters = s.counters := rfl
@[simp] theorem State.modSink_paced (f : Sink → Sink) : (s.modSink f).paced = s.paced := rfl
@[simp] theorem State.modSink_eyes (f : Sink → Sink) : (s.modSink f).eyes = s.eyes := rfl
@[simp] theorem State.modSink_surveyed (f : Sink → Sink) : (s.modSink f).surveyed = s.surveyed := rfl
@[simp] theorem State.modSink_surveys (f : Sink → Sink) : (s.modSink f).surveys = s.surveys := rfl
@[simp] theorem State.modSink_tokens (f : Sink → Sink) : (s.modSink f).tokens = s.tokens := rfl
@[simp] theorem State.modSink_motion (f : Sink → Sink) : (s.modSink f).motion = s.motion := rfl
@[simp] theorem State.modSink_motionOut (f : Sink → Sink) : (s.modSink f).motionOut = s.motionOut := rfl
@[simp] theorem State.modSink_audio (f : Sink → Sink) : (s.modSink f).audio = { s.audio with sink := f s.audio.sink } := rfl
@[simp] theorem State.modSink_power (f : Sink → Sink) : (s.modSink f).power = s.power := rfl
@[simp] theorem State.modSink_views (f : Sink → Sink) : (s.modSink f).views = s.views := rfl
@[simp] theorem State.modSink_balance (f : Sink → Sink) : (s.modSink f).balance = s.balance := rfl
@[simp] theorem State.modSink_notices (f : Sink → Sink) : (s.modSink f).notices = s.notices := rfl
@[simp] theorem State.modSink_pulses (f : Sink → Sink) : (s.modSink f).pulses = s.pulses := rfl
@[simp] theorem State.modSink_service (f : Sink → Sink) : (s.modSink f).service = s.service := rfl
@[simp] theorem State.modSink_pending (f : Sink → Sink) : (s.modSink f).pending = s.pending := rfl

/-! ### modPower -/

@[simp] theorem State.modPower_start (f : Power → Power) : (s.modPower f).start = s.start := rfl
@[simp] theorem State.modPower_cause (f : Power → Power) : (s.modPower f).cause = s.cause := rfl
@[simp] theorem State.modPower_station (f : Power → Power) : (s.modPower f).station = s.station := rfl
@[simp] theorem State.modPower_sup (f : Power → Power) : (s.modPower f).sup = s.sup := rfl
@[simp] theorem State.modPower_srec (f : Power → Power) : (s.modPower f).srec = s.srec := rfl
@[simp] theorem State.modPower_cfg (f : Power → Power) : (s.modPower f).cfg = s.cfg := rfl
@[simp] theorem State.modPower_settledRoles (f : Power → Power) : (s.modPower f).settledRoles = s.settledRoles := rfl
@[simp] theorem State.modPower_farNeighbour (f : Power → Power) : (s.modPower f).farNeighbour = s.farNeighbour := rfl
@[simp] theorem State.modPower_lateSeen (f : Power → Power) : (s.modPower f).lateSeen = s.lateSeen := rfl
@[simp] theorem State.modPower_localSlot (f : Power → Power) : (s.modPower f).localSlot = s.localSlot := rfl
@[simp] theorem State.modPower_clock (f : Power → Power) : (s.modPower f).clock = s.clock := rfl
@[simp] theorem State.modPower_pins (f : Power → Power) : (s.modPower f).pins = s.pins := rfl
@[simp] theorem State.modPower_rx (f : Power → Power) : (s.modPower f).rx = s.rx := rfl
@[simp] theorem State.modPower_tx (f : Power → Power) : (s.modPower f).tx = s.tx := rfl
@[simp] theorem State.modPower_stations (f : Power → Power) : (s.modPower f).stations = s.stations := rfl
@[simp] theorem State.modPower_dst (f : Power → Power) : (s.modPower f).dst = s.dst := rfl
@[simp] theorem State.modPower_seqs (f : Power → Power) : (s.modPower f).seqs = s.seqs := rfl
@[simp] theorem State.modPower_counters (f : Power → Power) : (s.modPower f).counters = s.counters := rfl
@[simp] theorem State.modPower_paced (f : Power → Power) : (s.modPower f).paced = s.paced := rfl
@[simp] theorem State.modPower_eyes (f : Power → Power) : (s.modPower f).eyes = s.eyes := rfl
@[simp] theorem State.modPower_surveyed (f : Power → Power) : (s.modPower f).surveyed = s.surveyed := rfl
@[simp] theorem State.modPower_surveys (f : Power → Power) : (s.modPower f).surveys = s.surveys := rfl
@[simp] theorem State.modPower_tokens (f : Power → Power) : (s.modPower f).tokens = s.tokens := rfl
@[simp] theorem State.modPower_motion (f : Power → Power) : (s.modPower f).motion = s.motion := rfl
@[simp] theorem State.modPower_motionOut (f : Power → Power) : (s.modPower f).motionOut = s.motionOut := rfl
@[simp] theorem State.modPower_audio (f : Power → Power) : (s.modPower f).audio = s.audio := rfl
@[simp] theorem State.modPower_power (f : Power → Power) : (s.modPower f).power = f s.power := rfl
@[simp] theorem State.modPower_views (f : Power → Power) : (s.modPower f).views = s.views := rfl
@[simp] theorem State.modPower_balance (f : Power → Power) : (s.modPower f).balance = s.balance := rfl
@[simp] theorem State.modPower_notices (f : Power → Power) : (s.modPower f).notices = s.notices := rfl
@[simp] theorem State.modPower_pulses (f : Power → Power) : (s.modPower f).pulses = s.pulses := rfl
@[simp] theorem State.modPower_service (f : Power → Power) : (s.modPower f).service = s.service := rfl
@[simp] theorem State.modPower_pending (f : Power → Power) : (s.modPower f).pending = s.pending := rfl

/-! ### modService -/

@[simp] theorem State.modService_start (f : Service → Service) : (s.modService f).start = s.start := rfl
@[simp] theorem State.modService_cause (f : Service → Service) : (s.modService f).cause = s.cause := rfl
@[simp] theorem State.modService_station (f : Service → Service) : (s.modService f).station = s.station := rfl
@[simp] theorem State.modService_sup (f : Service → Service) : (s.modService f).sup = s.sup := rfl
@[simp] theorem State.modService_srec (f : Service → Service) : (s.modService f).srec = s.srec := rfl
@[simp] theorem State.modService_cfg (f : Service → Service) : (s.modService f).cfg = s.cfg := rfl
@[simp] theorem State.modService_settledRoles (f : Service → Service) : (s.modService f).settledRoles = s.settledRoles := rfl
@[simp] theorem State.modService_farNeighbour (f : Service → Service) : (s.modService f).farNeighbour = s.farNeighbour := rfl
@[simp] theorem State.modService_lateSeen (f : Service → Service) : (s.modService f).lateSeen = s.lateSeen := rfl
@[simp] theorem State.modService_localSlot (f : Service → Service) : (s.modService f).localSlot = s.localSlot := rfl
@[simp] theorem State.modService_clock (f : Service → Service) : (s.modService f).clock = s.clock := rfl
@[simp] theorem State.modService_pins (f : Service → Service) : (s.modService f).pins = s.pins := rfl
@[simp] theorem State.modService_rx (f : Service → Service) : (s.modService f).rx = s.rx := rfl
@[simp] theorem State.modService_tx (f : Service → Service) : (s.modService f).tx = s.tx := rfl
@[simp] theorem State.modService_stations (f : Service → Service) : (s.modService f).stations = s.stations := rfl
@[simp] theorem State.modService_dst (f : Service → Service) : (s.modService f).dst = s.dst := rfl
@[simp] theorem State.modService_seqs (f : Service → Service) : (s.modService f).seqs = s.seqs := rfl
@[simp] theorem State.modService_counters (f : Service → Service) : (s.modService f).counters = s.counters := rfl
@[simp] theorem State.modService_paced (f : Service → Service) : (s.modService f).paced = s.paced := rfl
@[simp] theorem State.modService_eyes (f : Service → Service) : (s.modService f).eyes = s.eyes := rfl
@[simp] theorem State.modService_surveyed (f : Service → Service) : (s.modService f).surveyed = s.surveyed := rfl
@[simp] theorem State.modService_surveys (f : Service → Service) : (s.modService f).surveys = s.surveys := rfl
@[simp] theorem State.modService_tokens (f : Service → Service) : (s.modService f).tokens = s.tokens := rfl
@[simp] theorem State.modService_motion (f : Service → Service) : (s.modService f).motion = s.motion := rfl
@[simp] theorem State.modService_motionOut (f : Service → Service) : (s.modService f).motionOut = s.motionOut := rfl
@[simp] theorem State.modService_audio (f : Service → Service) : (s.modService f).audio = s.audio := rfl
@[simp] theorem State.modService_power (f : Service → Service) : (s.modService f).power = s.power := rfl
@[simp] theorem State.modService_views (f : Service → Service) : (s.modService f).views = s.views := rfl
@[simp] theorem State.modService_balance (f : Service → Service) : (s.modService f).balance = s.balance := rfl
@[simp] theorem State.modService_notices (f : Service → Service) : (s.modService f).notices = s.notices := rfl
@[simp] theorem State.modService_pulses (f : Service → Service) : (s.modService f).pulses = s.pulses := rfl
@[simp] theorem State.modService_service (f : Service → Service) : (s.modService f).service = f s.service := rfl
@[simp] theorem State.modService_pending (f : Service → Service) : (s.modService f).pending = s.pending := rfl

/-! ### modHolder -/

@[simp] theorem State.modHolder_start (f : Holder → Holder) : (s.modHolder f).start = s.start := rfl
@[simp] theorem State.modHolder_cause (f : Holder → Holder) : (s.modHolder f).cause = s.cause := rfl
@[simp] theorem State.modHolder_station (f : Holder → Holder) : (s.modHolder f).station = s.station := rfl
@[simp] theorem State.modHolder_sup (f : Holder → Holder) : (s.modHolder f).sup = s.sup := rfl
@[simp] theorem State.modHolder_srec (f : Holder → Holder) : (s.modHolder f).srec = s.srec := rfl
@[simp] theorem State.modHolder_cfg (f : Holder → Holder) : (s.modHolder f).cfg = s.cfg := rfl
@[simp] theorem State.modHolder_settledRoles (f : Holder → Holder) : (s.modHolder f).settledRoles = s.settledRoles := rfl
@[simp] theorem State.modHolder_farNeighbour (f : Holder → Holder) : (s.modHolder f).farNeighbour = s.farNeighbour := rfl
@[simp] theorem State.modHolder_lateSeen (f : Holder → Holder) : (s.modHolder f).lateSeen = s.lateSeen := rfl
@[simp] theorem State.modHolder_localSlot (f : Holder → Holder) : (s.modHolder f).localSlot = s.localSlot := rfl
@[simp] theorem State.modHolder_clock (f : Holder → Holder) : (s.modHolder f).clock = s.clock := rfl
@[simp] theorem State.modHolder_pins (f : Holder → Holder) : (s.modHolder f).pins = s.pins := rfl
@[simp] theorem State.modHolder_rx (f : Holder → Holder) : (s.modHolder f).rx = s.rx := rfl
@[simp] theorem State.modHolder_tx (f : Holder → Holder) : (s.modHolder f).tx = s.tx := rfl
@[simp] theorem State.modHolder_stations (f : Holder → Holder) : (s.modHolder f).stations = s.stations := rfl
@[simp] theorem State.modHolder_dst (f : Holder → Holder) : (s.modHolder f).dst = s.dst := rfl
@[simp] theorem State.modHolder_seqs (f : Holder → Holder) : (s.modHolder f).seqs = s.seqs := rfl
@[simp] theorem State.modHolder_counters (f : Holder → Holder) : (s.modHolder f).counters = s.counters := rfl
@[simp] theorem State.modHolder_paced (f : Holder → Holder) : (s.modHolder f).paced = s.paced := rfl
@[simp] theorem State.modHolder_eyes (f : Holder → Holder) : (s.modHolder f).eyes = s.eyes := rfl
@[simp] theorem State.modHolder_surveyed (f : Holder → Holder) : (s.modHolder f).surveyed = s.surveyed := rfl
@[simp] theorem State.modHolder_surveys (f : Holder → Holder) : (s.modHolder f).surveys = s.surveys := rfl
@[simp] theorem State.modHolder_tokens (f : Holder → Holder) : (s.modHolder f).tokens = s.tokens := rfl
@[simp] theorem State.modHolder_motion (f : Holder → Holder) : (s.modHolder f).motion = s.motion := rfl
@[simp] theorem State.modHolder_motionOut (f : Holder → Holder) : (s.modHolder f).motionOut = s.motionOut := rfl
@[simp] theorem State.modHolder_audio (f : Holder → Holder) : (s.modHolder f).audio = s.audio := rfl
@[simp] theorem State.modHolder_power (f : Holder → Holder) : (s.modHolder f).power = s.power := rfl
@[simp] theorem State.modHolder_views (f : Holder → Holder) : (s.modHolder f).views = s.views := rfl
@[simp] theorem State.modHolder_balance (f : Holder → Holder) : (s.modHolder f).balance = s.balance := rfl
@[simp] theorem State.modHolder_notices (f : Holder → Holder) : (s.modHolder f).notices = s.notices := rfl
@[simp] theorem State.modHolder_pulses (f : Holder → Holder) : (s.modHolder f).pulses = s.pulses := rfl
@[simp] theorem State.modHolder_service (f : Holder → Holder) : (s.modHolder f).service = { s.service with holder := f s.service.holder } := rfl
@[simp] theorem State.modHolder_pending (f : Holder → Holder) : (s.modHolder f).pending = s.pending := rfl

/-! ### nextSeq -/

@[simp] theorem State.nextSeq_start (f : FlowId) : (s.nextSeq f).start = s.start := rfl
@[simp] theorem State.nextSeq_cause (f : FlowId) : (s.nextSeq f).cause = s.cause := rfl
@[simp] theorem State.nextSeq_station (f : FlowId) : (s.nextSeq f).station = s.station := rfl
@[simp] theorem State.nextSeq_sup (f : FlowId) : (s.nextSeq f).sup = s.sup := rfl
@[simp] theorem State.nextSeq_srec (f : FlowId) : (s.nextSeq f).srec = s.srec := rfl
@[simp] theorem State.nextSeq_cfg (f : FlowId) : (s.nextSeq f).cfg = s.cfg := rfl
@[simp] theorem State.nextSeq_settledRoles (f : FlowId) : (s.nextSeq f).settledRoles = s.settledRoles := rfl
@[simp] theorem State.nextSeq_farNeighbour (f : FlowId) : (s.nextSeq f).farNeighbour = s.farNeighbour := rfl
@[simp] theorem State.nextSeq_lateSeen (f : FlowId) : (s.nextSeq f).lateSeen = s.lateSeen := rfl
@[simp] theorem State.nextSeq_localSlot (f : FlowId) : (s.nextSeq f).localSlot = s.localSlot := rfl
@[simp] theorem State.nextSeq_clock (f : FlowId) : (s.nextSeq f).clock = s.clock := rfl
@[simp] theorem State.nextSeq_pins (f : FlowId) : (s.nextSeq f).pins = s.pins := rfl
@[simp] theorem State.nextSeq_rx (f : FlowId) : (s.nextSeq f).rx = s.rx := rfl
@[simp] theorem State.nextSeq_tx (f : FlowId) : (s.nextSeq f).tx = s.tx := rfl
@[simp] theorem State.nextSeq_stations (f : FlowId) : (s.nextSeq f).stations = s.stations := rfl
@[simp] theorem State.nextSeq_dst (f : FlowId) : (s.nextSeq f).dst = s.dst := rfl
@[simp] theorem State.nextSeq_seqs (f : FlowId) : (s.nextSeq f).seqs = s.seqs.set f (s.seqs.get f + 1) := rfl
@[simp] theorem State.nextSeq_counters (f : FlowId) : (s.nextSeq f).counters = s.counters := rfl
@[simp] theorem State.nextSeq_paced (f : FlowId) : (s.nextSeq f).paced = s.paced := rfl
@[simp] theorem State.nextSeq_eyes (f : FlowId) : (s.nextSeq f).eyes = s.eyes := rfl
@[simp] theorem State.nextSeq_surveyed (f : FlowId) : (s.nextSeq f).surveyed = s.surveyed := rfl
@[simp] theorem State.nextSeq_surveys (f : FlowId) : (s.nextSeq f).surveys = s.surveys := rfl
@[simp] theorem State.nextSeq_tokens (f : FlowId) : (s.nextSeq f).tokens = s.tokens := rfl
@[simp] theorem State.nextSeq_motion (f : FlowId) : (s.nextSeq f).motion = s.motion := rfl
@[simp] theorem State.nextSeq_motionOut (f : FlowId) : (s.nextSeq f).motionOut = s.motionOut := rfl
@[simp] theorem State.nextSeq_audio (f : FlowId) : (s.nextSeq f).audio = s.audio := rfl
@[simp] theorem State.nextSeq_power (f : FlowId) : (s.nextSeq f).power = s.power := rfl
@[simp] theorem State.nextSeq_views (f : FlowId) : (s.nextSeq f).views = s.views := rfl
@[simp] theorem State.nextSeq_balance (f : FlowId) : (s.nextSeq f).balance = s.balance := rfl
@[simp] theorem State.nextSeq_notices (f : FlowId) : (s.nextSeq f).notices = s.notices := rfl
@[simp] theorem State.nextSeq_pulses (f : FlowId) : (s.nextSeq f).pulses = s.pulses := rfl
@[simp] theorem State.nextSeq_service (f : FlowId) : (s.nextSeq f).service = s.service := rfl
@[simp] theorem State.nextSeq_pending (f : FlowId) : (s.nextSeq f).pending = s.pending := rfl

/-! ### count -/

@[simp] theorem State.count_start (f : FlowId) (g : FlowCounters → FlowCounters) : (s.count f g).start = s.start := by unfold State.count; split <;> rfl
@[simp] theorem State.count_cause (f : FlowId) (g : FlowCounters → FlowCounters) : (s.count f g).cause = s.cause := by unfold State.count; split <;> rfl
@[simp] theorem State.count_station (f : FlowId) (g : FlowCounters → FlowCounters) : (s.count f g).station = s.station := by unfold State.count; split <;> rfl
@[simp] theorem State.count_sup (f : FlowId) (g : FlowCounters → FlowCounters) : (s.count f g).sup = s.sup := by unfold State.count; split <;> rfl
@[simp] theorem State.count_srec (f : FlowId) (g : FlowCounters → FlowCounters) : (s.count f g).srec = s.srec := by unfold State.count; split <;> rfl
@[simp] theorem State.count_cfg (f : FlowId) (g : FlowCounters → FlowCounters) : (s.count f g).cfg = s.cfg := by unfold State.count; split <;> rfl
@[simp] theorem State.count_settledRoles (f : FlowId) (g : FlowCounters → FlowCounters) : (s.count f g).settledRoles = s.settledRoles := by unfold State.count; split <;> rfl
@[simp] theorem State.count_farNeighbour (f : FlowId) (g : FlowCounters → FlowCounters) : (s.count f g).farNeighbour = s.farNeighbour := by unfold State.count; split <;> rfl
@[simp] theorem State.count_lateSeen (f : FlowId) (g : FlowCounters → FlowCounters) : (s.count f g).lateSeen = s.lateSeen := by unfold State.count; split <;> rfl
@[simp] theorem State.count_localSlot (f : FlowId) (g : FlowCounters → FlowCounters) : (s.count f g).localSlot = s.localSlot := by unfold State.count; split <;> rfl
@[simp] theorem State.count_clock (f : FlowId) (g : FlowCounters → FlowCounters) : (s.count f g).clock = s.clock := by unfold State.count; split <;> rfl
@[simp] theorem State.count_pins (f : FlowId) (g : FlowCounters → FlowCounters) : (s.count f g).pins = s.pins := by unfold State.count; split <;> rfl
@[simp] theorem State.count_rx (f : FlowId) (g : FlowCounters → FlowCounters) : (s.count f g).rx = s.rx := by unfold State.count; split <;> rfl
@[simp] theorem State.count_tx (f : FlowId) (g : FlowCounters → FlowCounters) : (s.count f g).tx = s.tx := by unfold State.count; split <;> rfl
@[simp] theorem State.count_stations (f : FlowId) (g : FlowCounters → FlowCounters) : (s.count f g).stations = s.stations := by unfold State.count; split <;> rfl
@[simp] theorem State.count_dst (f : FlowId) (g : FlowCounters → FlowCounters) : (s.count f g).dst = s.dst := by unfold State.count; split <;> rfl
@[simp] theorem State.count_seqs (f : FlowId) (g : FlowCounters → FlowCounters) : (s.count f g).seqs = s.seqs := by unfold State.count; split <;> rfl
@[simp] theorem State.count_paced (f : FlowId) (g : FlowCounters → FlowCounters) : (s.count f g).paced = s.paced := by unfold State.count; split <;> rfl
@[simp] theorem State.count_eyes (f : FlowId) (g : FlowCounters → FlowCounters) : (s.count f g).eyes = s.eyes := by unfold State.count; split <;> rfl
@[simp] theorem State.count_surveyed (f : FlowId) (g : FlowCounters → FlowCounters) : (s.count f g).surveyed = s.surveyed := by unfold State.count; split <;> rfl
@[simp] theorem State.count_surveys (f : FlowId) (g : FlowCounters → FlowCounters) : (s.count f g).surveys = s.surveys := by unfold State.count; split <;> rfl
@[simp] theorem State.count_tokens (f : FlowId) (g : FlowCounters → FlowCounters) : (s.count f g).tokens = s.tokens := by unfold State.count; split <;> rfl
@[simp] theorem State.count_motion (f : FlowId) (g : FlowCounters → FlowCounters) : (s.count f g).motion = s.motion := by unfold State.count; split <;> rfl
@[simp] theorem State.count_motionOut (f : FlowId) (g : FlowCounters → FlowCounters) : (s.count f g).motionOut = s.motionOut := by unfold State.count; split <;> rfl
@[simp] theorem State.count_audio (f : FlowId) (g : FlowCounters → FlowCounters) : (s.count f g).audio = s.audio := by unfold State.count; split <;> rfl
@[simp] theorem State.count_power (f : FlowId) (g : FlowCounters → FlowCounters) : (s.count f g).power = s.power := by unfold State.count; split <;> rfl
@[simp] theorem State.count_views (f : FlowId) (g : FlowCounters → FlowCounters) : (s.count f g).views = s.views := by unfold State.count; split <;> rfl
@[simp] theorem State.count_balance (f : FlowId) (g : FlowCounters → FlowCounters) : (s.count f g).balance = s.balance := by unfold State.count; split <;> rfl
@[simp] theorem State.count_notices (f : FlowId) (g : FlowCounters → FlowCounters) : (s.count f g).notices = s.notices := by unfold State.count; split <;> rfl
@[simp] theorem State.count_pulses (f : FlowId) (g : FlowCounters → FlowCounters) : (s.count f g).pulses = s.pulses := by unfold State.count; split <;> rfl
@[simp] theorem State.count_service (f : FlowId) (g : FlowCounters → FlowCounters) : (s.count f g).service = s.service := by unfold State.count; split <;> rfl
@[simp] theorem State.count_pending (f : FlowId) (g : FlowCounters → FlowCounters) : (s.count f g).pending = s.pending := by unfold State.count; split <;> rfl

/-! ### post -/

@[simp] theorem State.post_start (k : NoticeKind) (x : Subject) (v : Nat) : (s.post k x v).start = s.start := by unfold State.post; split <;> rfl
@[simp] theorem State.post_cause (k : NoticeKind) (x : Subject) (v : Nat) : (s.post k x v).cause = s.cause := by unfold State.post; split <;> rfl
@[simp] theorem State.post_station (k : NoticeKind) (x : Subject) (v : Nat) : (s.post k x v).station = s.station := by unfold State.post; split <;> rfl
@[simp] theorem State.post_sup (k : NoticeKind) (x : Subject) (v : Nat) : (s.post k x v).sup = s.sup := by unfold State.post; split <;> rfl
@[simp] theorem State.post_srec (k : NoticeKind) (x : Subject) (v : Nat) : (s.post k x v).srec = s.srec := by unfold State.post; split <;> rfl
@[simp] theorem State.post_cfg (k : NoticeKind) (x : Subject) (v : Nat) : (s.post k x v).cfg = s.cfg := by unfold State.post; split <;> rfl
@[simp] theorem State.post_settledRoles (k : NoticeKind) (x : Subject) (v : Nat) : (s.post k x v).settledRoles = s.settledRoles := by unfold State.post; split <;> rfl
@[simp] theorem State.post_farNeighbour (k : NoticeKind) (x : Subject) (v : Nat) : (s.post k x v).farNeighbour = s.farNeighbour := by unfold State.post; split <;> rfl
@[simp] theorem State.post_lateSeen (k : NoticeKind) (x : Subject) (v : Nat) : (s.post k x v).lateSeen = s.lateSeen := by unfold State.post; split <;> rfl
@[simp] theorem State.post_localSlot (k : NoticeKind) (x : Subject) (v : Nat) : (s.post k x v).localSlot = s.localSlot := by unfold State.post; split <;> rfl
@[simp] theorem State.post_clock (k : NoticeKind) (x : Subject) (v : Nat) : (s.post k x v).clock = s.clock := by unfold State.post; split <;> rfl
@[simp] theorem State.post_pins (k : NoticeKind) (x : Subject) (v : Nat) : (s.post k x v).pins = s.pins := by unfold State.post; split <;> rfl
@[simp] theorem State.post_rx (k : NoticeKind) (x : Subject) (v : Nat) : (s.post k x v).rx = s.rx := by unfold State.post; split <;> rfl
@[simp] theorem State.post_tx (k : NoticeKind) (x : Subject) (v : Nat) : (s.post k x v).tx = s.tx := by unfold State.post; split <;> rfl
@[simp] theorem State.post_stations (k : NoticeKind) (x : Subject) (v : Nat) : (s.post k x v).stations = s.stations := by unfold State.post; split <;> rfl
@[simp] theorem State.post_dst (k : NoticeKind) (x : Subject) (v : Nat) : (s.post k x v).dst = s.dst := by unfold State.post; split <;> rfl
@[simp] theorem State.post_seqs (k : NoticeKind) (x : Subject) (v : Nat) : (s.post k x v).seqs = s.seqs := by unfold State.post; split <;> rfl
@[simp] theorem State.post_counters (k : NoticeKind) (x : Subject) (v : Nat) : (s.post k x v).counters = s.counters := by unfold State.post; split <;> rfl
@[simp] theorem State.post_paced (k : NoticeKind) (x : Subject) (v : Nat) : (s.post k x v).paced = s.paced := by unfold State.post; split <;> rfl
@[simp] theorem State.post_eyes (k : NoticeKind) (x : Subject) (v : Nat) : (s.post k x v).eyes = s.eyes := by unfold State.post; split <;> rfl
@[simp] theorem State.post_surveyed (k : NoticeKind) (x : Subject) (v : Nat) : (s.post k x v).surveyed = s.surveyed := by unfold State.post; split <;> rfl
@[simp] theorem State.post_surveys (k : NoticeKind) (x : Subject) (v : Nat) : (s.post k x v).surveys = s.surveys := by unfold State.post; split <;> rfl
@[simp] theorem State.post_tokens (k : NoticeKind) (x : Subject) (v : Nat) : (s.post k x v).tokens = s.tokens := by unfold State.post; split <;> rfl
@[simp] theorem State.post_motion (k : NoticeKind) (x : Subject) (v : Nat) : (s.post k x v).motion = s.motion := by unfold State.post; split <;> rfl
@[simp] theorem State.post_motionOut (k : NoticeKind) (x : Subject) (v : Nat) : (s.post k x v).motionOut = s.motionOut := by unfold State.post; split <;> rfl
@[simp] theorem State.post_audio (k : NoticeKind) (x : Subject) (v : Nat) : (s.post k x v).audio = s.audio := by unfold State.post; split <;> rfl
@[simp] theorem State.post_power (k : NoticeKind) (x : Subject) (v : Nat) : (s.post k x v).power = s.power := by unfold State.post; split <;> rfl
@[simp] theorem State.post_views (k : NoticeKind) (x : Subject) (v : Nat) : (s.post k x v).views = s.views := by unfold State.post; split <;> rfl
@[simp] theorem State.post_balance (k : NoticeKind) (x : Subject) (v : Nat) : (s.post k x v).balance = s.balance := by unfold State.post; split <;> rfl
@[simp] theorem State.post_pulses (k : NoticeKind) (x : Subject) (v : Nat) : (s.post k x v).pulses = s.pulses := by unfold State.post; split <;> rfl
@[simp] theorem State.post_service (k : NoticeKind) (x : Subject) (v : Nat) : (s.post k x v).service = s.service := by unfold State.post; split <;> rfl
@[simp] theorem State.post_pending (k : NoticeKind) (x : Subject) (v : Nat) : (s.post k x v).pending = s.pending := by unfold State.post; split <;> rfl

/-! ### startPulse -/

@[simp] theorem State.startPulse_start (f : OutFn) : (s.startPulse f).start = s.start := rfl
@[simp] theorem State.startPulse_cause (f : OutFn) : (s.startPulse f).cause = s.cause := rfl
@[simp] theorem State.startPulse_station (f : OutFn) : (s.startPulse f).station = s.station := rfl
@[simp] theorem State.startPulse_sup (f : OutFn) : (s.startPulse f).sup = s.sup := rfl
@[simp] theorem State.startPulse_srec (f : OutFn) : (s.startPulse f).srec = s.srec := rfl
@[simp] theorem State.startPulse_cfg (f : OutFn) : (s.startPulse f).cfg = s.cfg := rfl
@[simp] theorem State.startPulse_settledRoles (f : OutFn) : (s.startPulse f).settledRoles = s.settledRoles := rfl
@[simp] theorem State.startPulse_farNeighbour (f : OutFn) : (s.startPulse f).farNeighbour = s.farNeighbour := rfl
@[simp] theorem State.startPulse_lateSeen (f : OutFn) : (s.startPulse f).lateSeen = s.lateSeen := rfl
@[simp] theorem State.startPulse_localSlot (f : OutFn) : (s.startPulse f).localSlot = s.localSlot := rfl
@[simp] theorem State.startPulse_clock (f : OutFn) : (s.startPulse f).clock = s.clock := rfl
@[simp] theorem State.startPulse_pins (f : OutFn) : (s.startPulse f).pins = s.pins := rfl
@[simp] theorem State.startPulse_rx (f : OutFn) : (s.startPulse f).rx = s.rx := rfl
@[simp] theorem State.startPulse_tx (f : OutFn) : (s.startPulse f).tx = s.tx := rfl
@[simp] theorem State.startPulse_stations (f : OutFn) : (s.startPulse f).stations = s.stations := rfl
@[simp] theorem State.startPulse_dst (f : OutFn) : (s.startPulse f).dst = s.dst := rfl
@[simp] theorem State.startPulse_seqs (f : OutFn) : (s.startPulse f).seqs = s.seqs := rfl
@[simp] theorem State.startPulse_counters (f : OutFn) : (s.startPulse f).counters = s.counters := rfl
@[simp] theorem State.startPulse_paced (f : OutFn) : (s.startPulse f).paced = s.paced := rfl
@[simp] theorem State.startPulse_eyes (f : OutFn) : (s.startPulse f).eyes = s.eyes := rfl
@[simp] theorem State.startPulse_surveyed (f : OutFn) : (s.startPulse f).surveyed = s.surveyed := rfl
@[simp] theorem State.startPulse_surveys (f : OutFn) : (s.startPulse f).surveys = s.surveys := rfl
@[simp] theorem State.startPulse_tokens (f : OutFn) : (s.startPulse f).tokens = s.tokens := rfl
@[simp] theorem State.startPulse_motion (f : OutFn) : (s.startPulse f).motion = s.motion := rfl
@[simp] theorem State.startPulse_motionOut (f : OutFn) : (s.startPulse f).motionOut = s.motionOut := rfl
@[simp] theorem State.startPulse_audio (f : OutFn) : (s.startPulse f).audio = s.audio := rfl
@[simp] theorem State.startPulse_power (f : OutFn) : (s.startPulse f).power = s.power := rfl
@[simp] theorem State.startPulse_views (f : OutFn) : (s.startPulse f).views = s.views := rfl
@[simp] theorem State.startPulse_balance (f : OutFn) : (s.startPulse f).balance = s.balance := rfl
@[simp] theorem State.startPulse_notices (f : OutFn) : (s.startPulse f).notices = s.notices := rfl
@[simp] theorem State.startPulse_service (f : OutFn) : (s.startPulse f).service = s.service := rfl
@[simp] theorem State.startPulse_pending (f : OutFn) : (s.startPulse f).pending = s.pending := rfl

/-! ### setClock -/

@[simp] theorem State.setClock_start (t : Count32) : (s.setClock t).start = s.start := by unfold State.setClock; dsimp only; split <;> rfl
@[simp] theorem State.setClock_cause (t : Count32) : (s.setClock t).cause = s.cause := by unfold State.setClock; dsimp only; split <;> rfl
@[simp] theorem State.setClock_station (t : Count32) : (s.setClock t).station = s.station := by unfold State.setClock; dsimp only; split <;> rfl
@[simp] theorem State.setClock_sup (t : Count32) : (s.setClock t).sup = s.sup := by unfold State.setClock; dsimp only; split <;> rfl
@[simp] theorem State.setClock_srec (t : Count32) : (s.setClock t).srec = s.srec := by unfold State.setClock; dsimp only; split <;> rfl
@[simp] theorem State.setClock_cfg (t : Count32) : (s.setClock t).cfg = s.cfg := by unfold State.setClock; dsimp only; split <;> rfl
@[simp] theorem State.setClock_settledRoles (t : Count32) : (s.setClock t).settledRoles = s.settledRoles := by unfold State.setClock; dsimp only; split <;> rfl
@[simp] theorem State.setClock_farNeighbour (t : Count32) : (s.setClock t).farNeighbour = s.farNeighbour := by unfold State.setClock; dsimp only; split <;> rfl
@[simp] theorem State.setClock_lateSeen (t : Count32) : (s.setClock t).lateSeen = s.lateSeen := by unfold State.setClock; dsimp only; split <;> rfl
@[simp] theorem State.setClock_localSlot (t : Count32) : (s.setClock t).localSlot = s.localSlot := by unfold State.setClock; dsimp only; split <;> rfl
@[simp] theorem State.setClock_clock (t : Count32) : (s.setClock t).clock = t := by unfold State.setClock; dsimp only; split <;> rfl
@[simp] theorem State.setClock_pins (t : Count32) : (s.setClock t).pins = s.pins := by unfold State.setClock; dsimp only; split <;> rfl
@[simp] theorem State.setClock_rx (t : Count32) : (s.setClock t).rx = s.rx := by unfold State.setClock; dsimp only; split <;> rfl
@[simp] theorem State.setClock_tx (t : Count32) : (s.setClock t).tx = s.tx := by unfold State.setClock; dsimp only; split <;> rfl
@[simp] theorem State.setClock_stations (t : Count32) : (s.setClock t).stations = s.stations := by unfold State.setClock; dsimp only; split <;> rfl
@[simp] theorem State.setClock_dst (t : Count32) : (s.setClock t).dst = s.dst := by unfold State.setClock; dsimp only; split <;> rfl
@[simp] theorem State.setClock_seqs (t : Count32) : (s.setClock t).seqs = s.seqs := by unfold State.setClock; dsimp only; split <;> rfl
@[simp] theorem State.setClock_counters (t : Count32) : (s.setClock t).counters = s.counters := by unfold State.setClock; dsimp only; split <;> rfl
@[simp] theorem State.setClock_paced (t : Count32) : (s.setClock t).paced = s.paced := by unfold State.setClock; dsimp only; split <;> rfl
@[simp] theorem State.setClock_eyes (t : Count32) : (s.setClock t).eyes = s.eyes := by unfold State.setClock; dsimp only; split <;> rfl
@[simp] theorem State.setClock_surveyed (t : Count32) : (s.setClock t).surveyed = s.surveyed := by unfold State.setClock; dsimp only; split <;> rfl
@[simp] theorem State.setClock_surveys (t : Count32) : (s.setClock t).surveys = s.surveys := by unfold State.setClock; dsimp only; split <;> rfl
@[simp] theorem State.setClock_tokens (t : Count32) : (s.setClock t).tokens = s.tokens := by unfold State.setClock; dsimp only; split <;> rfl
@[simp] theorem State.setClock_motion (t : Count32) : (s.setClock t).motion = s.motion := by unfold State.setClock; dsimp only; split <;> rfl
@[simp] theorem State.setClock_motionOut (t : Count32) : (s.setClock t).motionOut = s.motionOut := by unfold State.setClock; dsimp only; split <;> rfl
@[simp] theorem State.setClock_audio (t : Count32) : (s.setClock t).audio = s.audio := by unfold State.setClock; dsimp only; split <;> rfl
@[simp] theorem State.setClock_power (t : Count32) : (s.setClock t).power = s.power := by unfold State.setClock; dsimp only; split <;> rfl
@[simp] theorem State.setClock_views (t : Count32) : (s.setClock t).views = s.views := by unfold State.setClock; dsimp only; split <;> rfl
@[simp] theorem State.setClock_balance (t : Count32) : (s.setClock t).balance = s.balance := by unfold State.setClock; dsimp only; split <;> rfl
@[simp] theorem State.setClock_notices (t : Count32) : (s.setClock t).notices = s.notices := by unfold State.setClock; dsimp only; split <;> rfl
@[simp] theorem State.setClock_service (t : Count32) : (s.setClock t).service = s.service := by unfold State.setClock; dsimp only; split <;> rfl
@[simp] theorem State.setClock_pending (t : Count32) : (s.setClock t).pending = s.pending := by unfold State.setClock; dsimp only; split <;> rfl

/-! ### syncClock -/

@[simp] theorem State.syncClock_start : (s.syncClock).start = s.start := by simp [State.syncClock]
@[simp] theorem State.syncClock_cause : (s.syncClock).cause = s.cause := by simp [State.syncClock]
@[simp] theorem State.syncClock_station : (s.syncClock).station = s.station := by simp [State.syncClock]
@[simp] theorem State.syncClock_sup : (s.syncClock).sup = s.sup := by simp [State.syncClock]
@[simp] theorem State.syncClock_srec : (s.syncClock).srec = s.srec := by simp [State.syncClock]
@[simp] theorem State.syncClock_cfg : (s.syncClock).cfg = s.cfg := by simp [State.syncClock]
@[simp] theorem State.syncClock_settledRoles : (s.syncClock).settledRoles = s.settledRoles := by simp [State.syncClock]
@[simp] theorem State.syncClock_farNeighbour : (s.syncClock).farNeighbour = s.farNeighbour := by simp [State.syncClock]
@[simp] theorem State.syncClock_lateSeen : (s.syncClock).lateSeen = s.lateSeen := by simp [State.syncClock]
@[simp] theorem State.syncClock_localSlot : (s.syncClock).localSlot = s.localSlot := by simp [State.syncClock]
@[simp] theorem State.syncClock_clock : (s.syncClock).clock = s.laneTime := by simp [State.syncClock]
@[simp] theorem State.syncClock_pins : (s.syncClock).pins = s.pins := by simp [State.syncClock]
@[simp] theorem State.syncClock_rx : (s.syncClock).rx = s.rx := by simp [State.syncClock]
@[simp] theorem State.syncClock_tx : (s.syncClock).tx = s.tx := by simp [State.syncClock]
@[simp] theorem State.syncClock_stations : (s.syncClock).stations = s.stations := by simp [State.syncClock]
@[simp] theorem State.syncClock_dst : (s.syncClock).dst = s.dst := by simp [State.syncClock]
@[simp] theorem State.syncClock_seqs : (s.syncClock).seqs = s.seqs := by simp [State.syncClock]
@[simp] theorem State.syncClock_counters : (s.syncClock).counters = s.counters := by simp [State.syncClock]
@[simp] theorem State.syncClock_paced : (s.syncClock).paced = s.paced := by simp [State.syncClock]
@[simp] theorem State.syncClock_eyes : (s.syncClock).eyes = s.eyes := by simp [State.syncClock]
@[simp] theorem State.syncClock_surveyed : (s.syncClock).surveyed = s.surveyed := by simp [State.syncClock]
@[simp] theorem State.syncClock_surveys : (s.syncClock).surveys = s.surveys := by simp [State.syncClock]
@[simp] theorem State.syncClock_tokens : (s.syncClock).tokens = s.tokens := by simp [State.syncClock]
@[simp] theorem State.syncClock_motion : (s.syncClock).motion = s.motion := by simp [State.syncClock]
@[simp] theorem State.syncClock_motionOut : (s.syncClock).motionOut = s.motionOut := by simp [State.syncClock]
@[simp] theorem State.syncClock_audio : (s.syncClock).audio = s.audio := by simp [State.syncClock]
@[simp] theorem State.syncClock_power : (s.syncClock).power = s.power := by simp [State.syncClock]
@[simp] theorem State.syncClock_views : (s.syncClock).views = s.views := by simp [State.syncClock]
@[simp] theorem State.syncClock_balance : (s.syncClock).balance = s.balance := by simp [State.syncClock]
@[simp] theorem State.syncClock_notices : (s.syncClock).notices = s.notices := by simp [State.syncClock]
@[simp] theorem State.syncClock_service : (s.syncClock).service = s.service := by simp [State.syncClock]
@[simp] theorem State.syncClock_pending : (s.syncClock).pending = s.pending := by simp [State.syncClock]

/-! ### offer -/

@[simp] theorem State.offer_start (l : Lane) (c : Ctl) : (s.offer l c).start = s.start := rfl
@[simp] theorem State.offer_cause (l : Lane) (c : Ctl) : (s.offer l c).cause = s.cause := rfl
@[simp] theorem State.offer_station (l : Lane) (c : Ctl) : (s.offer l c).station = s.station := rfl
@[simp] theorem State.offer_sup (l : Lane) (c : Ctl) : (s.offer l c).sup = s.sup := rfl
@[simp] theorem State.offer_srec (l : Lane) (c : Ctl) : (s.offer l c).srec = s.srec := rfl
@[simp] theorem State.offer_cfg (l : Lane) (c : Ctl) : (s.offer l c).cfg = s.cfg := rfl
@[simp] theorem State.offer_settledRoles (l : Lane) (c : Ctl) : (s.offer l c).settledRoles = s.settledRoles := rfl
@[simp] theorem State.offer_farNeighbour (l : Lane) (c : Ctl) : (s.offer l c).farNeighbour = s.farNeighbour := rfl
@[simp] theorem State.offer_lateSeen (l : Lane) (c : Ctl) : (s.offer l c).lateSeen = s.lateSeen := rfl
@[simp] theorem State.offer_localSlot (l : Lane) (c : Ctl) : (s.offer l c).localSlot = s.localSlot := rfl
@[simp] theorem State.offer_clock (l : Lane) (c : Ctl) : (s.offer l c).clock = s.clock := rfl
@[simp] theorem State.offer_pins (l : Lane) (c : Ctl) : (s.offer l c).pins = s.pins := rfl
@[simp] theorem State.offer_rx (l : Lane) (c : Ctl) : (s.offer l c).rx = s.rx := rfl
@[simp] theorem State.offer_stations (l : Lane) (c : Ctl) : (s.offer l c).stations = s.stations := rfl
@[simp] theorem State.offer_dst (l : Lane) (c : Ctl) : (s.offer l c).dst = s.dst := rfl
@[simp] theorem State.offer_seqs (l : Lane) (c : Ctl) : (s.offer l c).seqs = s.seqs := rfl
@[simp] theorem State.offer_counters (l : Lane) (c : Ctl) : (s.offer l c).counters = s.counters := rfl
@[simp] theorem State.offer_paced (l : Lane) (c : Ctl) : (s.offer l c).paced = s.paced := rfl
@[simp] theorem State.offer_eyes (l : Lane) (c : Ctl) : (s.offer l c).eyes = s.eyes := rfl
@[simp] theorem State.offer_surveyed (l : Lane) (c : Ctl) : (s.offer l c).surveyed = s.surveyed := rfl
@[simp] theorem State.offer_surveys (l : Lane) (c : Ctl) : (s.offer l c).surveys = s.surveys := rfl
@[simp] theorem State.offer_tokens (l : Lane) (c : Ctl) : (s.offer l c).tokens = s.tokens := rfl
@[simp] theorem State.offer_motion (l : Lane) (c : Ctl) : (s.offer l c).motion = s.motion := rfl
@[simp] theorem State.offer_motionOut (l : Lane) (c : Ctl) : (s.offer l c).motionOut = s.motionOut := rfl
@[simp] theorem State.offer_audio (l : Lane) (c : Ctl) : (s.offer l c).audio = s.audio := rfl
@[simp] theorem State.offer_power (l : Lane) (c : Ctl) : (s.offer l c).power = s.power := rfl
@[simp] theorem State.offer_views (l : Lane) (c : Ctl) : (s.offer l c).views = s.views := rfl
@[simp] theorem State.offer_balance (l : Lane) (c : Ctl) : (s.offer l c).balance = s.balance := rfl
@[simp] theorem State.offer_notices (l : Lane) (c : Ctl) : (s.offer l c).notices = s.notices := rfl
@[simp] theorem State.offer_pulses (l : Lane) (c : Ctl) : (s.offer l c).pulses = s.pulses := rfl
@[simp] theorem State.offer_service (l : Lane) (c : Ctl) : (s.offer l c).service = s.service := rfl
@[simp] theorem State.offer_pending (l : Lane) (c : Ctl) : (s.offer l c).pending = s.pending := rfl

/-! ### offerTo -/

@[simp] theorem State.offerTo_start (t : Station) (c : Ctl) : (s.offerTo t c).start = s.start := by unfold State.offerTo; split <;> rfl
@[simp] theorem State.offerTo_cause (t : Station) (c : Ctl) : (s.offerTo t c).cause = s.cause := by unfold State.offerTo; split <;> rfl
@[simp] theorem State.offerTo_station (t : Station) (c : Ctl) : (s.offerTo t c).station = s.station := by unfold State.offerTo; split <;> rfl
@[simp] theorem State.offerTo_sup (t : Station) (c : Ctl) : (s.offerTo t c).sup = s.sup := by unfold State.offerTo; split <;> rfl
@[simp] theorem State.offerTo_srec (t : Station) (c : Ctl) : (s.offerTo t c).srec = s.srec := by unfold State.offerTo; split <;> rfl
@[simp] theorem State.offerTo_cfg (t : Station) (c : Ctl) : (s.offerTo t c).cfg = s.cfg := by unfold State.offerTo; split <;> rfl
@[simp] theorem State.offerTo_settledRoles (t : Station) (c : Ctl) : (s.offerTo t c).settledRoles = s.settledRoles := by unfold State.offerTo; split <;> rfl
@[simp] theorem State.offerTo_farNeighbour (t : Station) (c : Ctl) : (s.offerTo t c).farNeighbour = s.farNeighbour := by unfold State.offerTo; split <;> rfl
@[simp] theorem State.offerTo_lateSeen (t : Station) (c : Ctl) : (s.offerTo t c).lateSeen = s.lateSeen := by unfold State.offerTo; split <;> rfl
@[simp] theorem State.offerTo_localSlot (t : Station) (c : Ctl) : (s.offerTo t c).localSlot = s.localSlot := by unfold State.offerTo; split <;> rfl
@[simp] theorem State.offerTo_clock (t : Station) (c : Ctl) : (s.offerTo t c).clock = s.clock := by unfold State.offerTo; split <;> rfl
@[simp] theorem State.offerTo_pins (t : Station) (c : Ctl) : (s.offerTo t c).pins = s.pins := by unfold State.offerTo; split <;> rfl
@[simp] theorem State.offerTo_rx (t : Station) (c : Ctl) : (s.offerTo t c).rx = s.rx := by unfold State.offerTo; split <;> rfl
@[simp] theorem State.offerTo_stations (t : Station) (c : Ctl) : (s.offerTo t c).stations = s.stations := by unfold State.offerTo; split <;> rfl
@[simp] theorem State.offerTo_dst (t : Station) (c : Ctl) : (s.offerTo t c).dst = s.dst := by unfold State.offerTo; split <;> rfl
@[simp] theorem State.offerTo_seqs (t : Station) (c : Ctl) : (s.offerTo t c).seqs = s.seqs := by unfold State.offerTo; split <;> rfl
@[simp] theorem State.offerTo_counters (t : Station) (c : Ctl) : (s.offerTo t c).counters = s.counters := by unfold State.offerTo; split <;> rfl
@[simp] theorem State.offerTo_paced (t : Station) (c : Ctl) : (s.offerTo t c).paced = s.paced := by unfold State.offerTo; split <;> rfl
@[simp] theorem State.offerTo_eyes (t : Station) (c : Ctl) : (s.offerTo t c).eyes = s.eyes := by unfold State.offerTo; split <;> rfl
@[simp] theorem State.offerTo_surveyed (t : Station) (c : Ctl) : (s.offerTo t c).surveyed = s.surveyed := by unfold State.offerTo; split <;> rfl
@[simp] theorem State.offerTo_surveys (t : Station) (c : Ctl) : (s.offerTo t c).surveys = s.surveys := by unfold State.offerTo; split <;> rfl
@[simp] theorem State.offerTo_tokens (t : Station) (c : Ctl) : (s.offerTo t c).tokens = s.tokens := by unfold State.offerTo; split <;> rfl
@[simp] theorem State.offerTo_motion (t : Station) (c : Ctl) : (s.offerTo t c).motion = s.motion := by unfold State.offerTo; split <;> rfl
@[simp] theorem State.offerTo_motionOut (t : Station) (c : Ctl) : (s.offerTo t c).motionOut = s.motionOut := by unfold State.offerTo; split <;> rfl
@[simp] theorem State.offerTo_audio (t : Station) (c : Ctl) : (s.offerTo t c).audio = s.audio := by unfold State.offerTo; split <;> rfl
@[simp] theorem State.offerTo_power (t : Station) (c : Ctl) : (s.offerTo t c).power = s.power := by unfold State.offerTo; split <;> rfl
@[simp] theorem State.offerTo_views (t : Station) (c : Ctl) : (s.offerTo t c).views = s.views := by unfold State.offerTo; split <;> rfl
@[simp] theorem State.offerTo_balance (t : Station) (c : Ctl) : (s.offerTo t c).balance = s.balance := by unfold State.offerTo; split <;> rfl
@[simp] theorem State.offerTo_notices (t : Station) (c : Ctl) : (s.offerTo t c).notices = s.notices := by unfold State.offerTo; split <;> rfl
@[simp] theorem State.offerTo_pulses (t : Station) (c : Ctl) : (s.offerTo t c).pulses = s.pulses := by unfold State.offerTo; split <;> rfl
@[simp] theorem State.offerTo_service (t : Station) (c : Ctl) : (s.offerTo t c).service = s.service := by unfold State.offerTo; split <;> rfl
@[simp] theorem State.offerTo_pending (t : Station) (c : Ctl) : (s.offerTo t c).pending = s.pending := by unfold State.offerTo; split <;> rfl

/-! ### taken -/

@[simp] theorem State.taken_start (l : Lane) (c : Cell) : (s.taken l c).start = s.start := rfl
@[simp] theorem State.taken_cause (l : Lane) (c : Cell) : (s.taken l c).cause = s.cause := rfl
@[simp] theorem State.taken_station (l : Lane) (c : Cell) : (s.taken l c).station = s.station := rfl
@[simp] theorem State.taken_sup (l : Lane) (c : Cell) : (s.taken l c).sup = s.sup := rfl
@[simp] theorem State.taken_srec (l : Lane) (c : Cell) : (s.taken l c).srec = s.srec := rfl
@[simp] theorem State.taken_cfg (l : Lane) (c : Cell) : (s.taken l c).cfg = s.cfg := rfl
@[simp] theorem State.taken_settledRoles (l : Lane) (c : Cell) : (s.taken l c).settledRoles = s.settledRoles := rfl
@[simp] theorem State.taken_farNeighbour (l : Lane) (c : Cell) : (s.taken l c).farNeighbour = s.farNeighbour := rfl
@[simp] theorem State.taken_lateSeen (l : Lane) (c : Cell) : (s.taken l c).lateSeen = s.lateSeen := rfl
@[simp] theorem State.taken_localSlot (l : Lane) (c : Cell) : (s.taken l c).localSlot = s.localSlot := rfl
@[simp] theorem State.taken_clock (l : Lane) (c : Cell) : (s.taken l c).clock = s.clock := rfl
@[simp] theorem State.taken_pins (l : Lane) (c : Cell) : (s.taken l c).pins = s.pins := rfl
@[simp] theorem State.taken_tx (l : Lane) (c : Cell) : (s.taken l c).tx = s.tx := rfl
@[simp] theorem State.taken_stations (l : Lane) (c : Cell) : (s.taken l c).stations = s.stations := rfl
@[simp] theorem State.taken_dst (l : Lane) (c : Cell) : (s.taken l c).dst = s.dst := rfl
@[simp] theorem State.taken_seqs (l : Lane) (c : Cell) : (s.taken l c).seqs = s.seqs := rfl
@[simp] theorem State.taken_counters (l : Lane) (c : Cell) : (s.taken l c).counters = s.counters := rfl
@[simp] theorem State.taken_paced (l : Lane) (c : Cell) : (s.taken l c).paced = s.paced := rfl
@[simp] theorem State.taken_eyes (l : Lane) (c : Cell) : (s.taken l c).eyes = s.eyes := rfl
@[simp] theorem State.taken_surveyed (l : Lane) (c : Cell) : (s.taken l c).surveyed = s.surveyed := rfl
@[simp] theorem State.taken_surveys (l : Lane) (c : Cell) : (s.taken l c).surveys = s.surveys := rfl
@[simp] theorem State.taken_tokens (l : Lane) (c : Cell) : (s.taken l c).tokens = s.tokens := rfl
@[simp] theorem State.taken_motion (l : Lane) (c : Cell) : (s.taken l c).motion = s.motion := rfl
@[simp] theorem State.taken_motionOut (l : Lane) (c : Cell) : (s.taken l c).motionOut = s.motionOut := rfl
@[simp] theorem State.taken_audio (l : Lane) (c : Cell) : (s.taken l c).audio = s.audio := rfl
@[simp] theorem State.taken_power (l : Lane) (c : Cell) : (s.taken l c).power = s.power := rfl
@[simp] theorem State.taken_views (l : Lane) (c : Cell) : (s.taken l c).views = s.views := rfl
@[simp] theorem State.taken_balance (l : Lane) (c : Cell) : (s.taken l c).balance = s.balance := rfl
@[simp] theorem State.taken_notices (l : Lane) (c : Cell) : (s.taken l c).notices = s.notices := rfl
@[simp] theorem State.taken_pulses (l : Lane) (c : Cell) : (s.taken l c).pulses = s.pulses := rfl
@[simp] theorem State.taken_service (l : Lane) (c : Cell) : (s.taken l c).service = s.service := rfl
@[simp] theorem State.taken_pending (l : Lane) (c : Cell) : (s.taken l c).pending = s.pending := rfl

end Sys2Proof.Machine
end

