-- ==== Sys2Proof/Laws/Frames.lean ====
section
/-! SUPPORT. What the shared operations can change: for each one lemma that names everything it leaves as it was, so that what
it may change is what the lemma does not name. As simp lemmas they give one rewriting rule for each field. -/

namespace Sys2Proof.Machine

variable (s : State)

/-! #### Lane time and notices -/

/-- A BUTTON notice changes the notice queue alone (R185). -/
@[simp] theorem State.postButton_keeps (b : Nat) :
    (s.postButton b).start = s.start ∧ (s.postButton b).cause = s.cause ∧ (s.postButton b).station = s.station ∧
    (s.postButton b).sup = s.sup ∧ (s.postButton b).srec = s.srec ∧ (s.postButton b).cfg = s.cfg ∧
    (s.postButton b).settledRoles = s.settledRoles ∧ (s.postButton b).farNeighbour = s.farNeighbour ∧
    (s.postButton b).lateSeen = s.lateSeen ∧ (s.postButton b).localSlot = s.localSlot ∧ (s.postButton b).clock = s.clock ∧
    (s.postButton b).pins = s.pins ∧ (s.postButton b).rx = s.rx ∧ (s.postButton b).tx = s.tx ∧
    (s.postButton b).stations = s.stations ∧ (s.postButton b).dst = s.dst ∧ (s.postButton b).seqs = s.seqs ∧
    (s.postButton b).counters = s.counters ∧ (s.postButton b).paced = s.paced ∧ (s.postButton b).eyes = s.eyes ∧
    (s.postButton b).surveyed = s.surveyed ∧ (s.postButton b).surveys = s.surveys ∧ (s.postButton b).tokens = s.tokens ∧
    (s.postButton b).motion = s.motion ∧ (s.postButton b).motionOut = s.motionOut ∧ (s.postButton b).audio = s.audio ∧
    (s.postButton b).power = s.power ∧ (s.postButton b).views = s.views ∧ (s.postButton b).balance = s.balance ∧
    (s.postButton b).pulses = s.pulses ∧ (s.postButton b).service = s.service ∧ (s.postButton b).pending = s.pending := by
  simp [State.postButton]

/-- LANE_STATE changes the notice queue alone (R13). -/
@[simp] theorem State.postLane_keeps (l : Lane) :
    (s.postLane l).start = s.start ∧ (s.postLane l).cause = s.cause ∧ (s.postLane l).station = s.station ∧
    (s.postLane l).sup = s.sup ∧ (s.postLane l).srec = s.srec ∧ (s.postLane l).cfg = s.cfg ∧
    (s.postLane l).settledRoles = s.settledRoles ∧ (s.postLane l).farNeighbour = s.farNeighbour ∧
    (s.postLane l).lateSeen = s.lateSeen ∧ (s.postLane l).localSlot = s.localSlot ∧ (s.postLane l).clock = s.clock ∧
    (s.postLane l).pins = s.pins ∧ (s.postLane l).rx = s.rx ∧ (s.postLane l).tx = s.tx ∧
    (s.postLane l).stations = s.stations ∧ (s.postLane l).dst = s.dst ∧ (s.postLane l).seqs = s.seqs ∧
    (s.postLane l).counters = s.counters ∧ (s.postLane l).paced = s.paced ∧ (s.postLane l).eyes = s.eyes ∧
    (s.postLane l).surveyed = s.surveyed ∧ (s.postLane l).surveys = s.surveys ∧ (s.postLane l).tokens = s.tokens ∧
    (s.postLane l).motion = s.motion ∧ (s.postLane l).motionOut = s.motionOut ∧ (s.postLane l).audio = s.audio ∧
    (s.postLane l).power = s.power ∧ (s.postLane l).views = s.views ∧ (s.postLane l).balance = s.balance ∧
    (s.postLane l).pulses = s.pulses ∧ (s.postLane l).service = s.service ∧ (s.postLane l).pending = s.pending := by
  simp [State.postLane]

/-- A SLIP notice changes the notice queue alone (R184). -/
@[simp] theorem State.postSlip_keeps (v : Nat) :
    (s.postSlip v).start = s.start ∧ (s.postSlip v).cause = s.cause ∧ (s.postSlip v).station = s.station ∧
    (s.postSlip v).sup = s.sup ∧ (s.postSlip v).srec = s.srec ∧ (s.postSlip v).cfg = s.cfg ∧
    (s.postSlip v).settledRoles = s.settledRoles ∧ (s.postSlip v).farNeighbour = s.farNeighbour ∧
    (s.postSlip v).lateSeen = s.lateSeen ∧ (s.postSlip v).localSlot = s.localSlot ∧ (s.postSlip v).clock = s.clock ∧
    (s.postSlip v).pins = s.pins ∧ (s.postSlip v).rx = s.rx ∧ (s.postSlip v).tx = s.tx ∧
    (s.postSlip v).stations = s.stations ∧ (s.postSlip v).dst = s.dst ∧ (s.postSlip v).seqs = s.seqs ∧
    (s.postSlip v).counters = s.counters ∧ (s.postSlip v).paced = s.paced ∧ (s.postSlip v).eyes = s.eyes ∧
    (s.postSlip v).surveyed = s.surveyed ∧ (s.postSlip v).surveys = s.surveys ∧ (s.postSlip v).tokens = s.tokens ∧
    (s.postSlip v).motion = s.motion ∧ (s.postSlip v).motionOut = s.motionOut ∧ (s.postSlip v).audio = s.audio ∧
    (s.postSlip v).power = s.power ∧ (s.postSlip v).views = s.views ∧ (s.postSlip v).balance = s.balance ∧
    (s.postSlip v).pulses = s.pulses ∧ (s.postSlip v).service = s.service ∧ (s.postSlip v).pending = s.pending := by
  simp [State.postSlip]

/-! #### The report balance -/

/-- A report built changes the FIFOs, the report number and the balance (R167, R179). -/
@[simp] theorem State.buildReport_keeps :
    (s.buildReport).start = s.start ∧ (s.buildReport).cause = s.cause ∧ (s.buildReport).station = s.station ∧
    (s.buildReport).sup = s.sup ∧ (s.buildReport).srec = s.srec ∧ (s.buildReport).cfg = s.cfg ∧
    (s.buildReport).settledRoles = s.settledRoles ∧ (s.buildReport).farNeighbour = s.farNeighbour ∧
    (s.buildReport).lateSeen = s.lateSeen ∧ (s.buildReport).localSlot = s.localSlot ∧ (s.buildReport).clock = s.clock ∧
    (s.buildReport).pins = s.pins ∧ (s.buildReport).rx = s.rx ∧ (s.buildReport).stations = s.stations ∧
    (s.buildReport).dst = s.dst ∧ (s.buildReport).seqs = s.seqs ∧ (s.buildReport).counters = s.counters ∧
    (s.buildReport).paced = s.paced ∧ (s.buildReport).eyes = s.eyes ∧ (s.buildReport).surveyed = s.surveyed ∧
    (s.buildReport).surveys = s.surveys ∧ (s.buildReport).tokens = s.tokens ∧ (s.buildReport).motion = s.motion ∧
    (s.buildReport).motionOut = s.motionOut ∧ (s.buildReport).audio = s.audio ∧ (s.buildReport).views = s.views ∧
    (s.buildReport).notices = s.notices ∧ (s.buildReport).pulses = s.pulses ∧ (s.buildReport).service = s.service ∧
    (s.buildReport).pending = s.pending := by
  simp [State.buildReport]

/-- The tests for a report change what a report changes (R178). -/
@[simp] theorem State.reportTests_keeps (n k : Nat) :
    (State.reportTests n k s).start = s.start ∧ (State.reportTests n k s).cause = s.cause ∧
    (State.reportTests n k s).station = s.station ∧ (State.reportTests n k s).sup = s.sup ∧
    (State.reportTests n k s).srec = s.srec ∧ (State.reportTests n k s).cfg = s.cfg ∧
    (State.reportTests n k s).settledRoles = s.settledRoles ∧ (State.reportTests n k s).farNeighbour = s.farNeighbour ∧
    (State.reportTests n k s).lateSeen = s.lateSeen ∧ (State.reportTests n k s).localSlot = s.localSlot ∧
    (State.reportTests n k s).clock = s.clock ∧ (State.reportTests n k s).pins = s.pins ∧
    (State.reportTests n k s).rx = s.rx ∧ (State.reportTests n k s).stations = s.stations ∧
    (State.reportTests n k s).dst = s.dst ∧ (State.reportTests n k s).seqs = s.seqs ∧
    (State.reportTests n k s).counters = s.counters ∧ (State.reportTests n k s).paced = s.paced ∧
    (State.reportTests n k s).eyes = s.eyes ∧ (State.reportTests n k s).surveyed = s.surveyed ∧
    (State.reportTests n k s).surveys = s.surveys ∧ (State.reportTests n k s).tokens = s.tokens ∧
    (State.reportTests n k s).motion = s.motion ∧ (State.reportTests n k s).motionOut = s.motionOut ∧
    (State.reportTests n k s).audio = s.audio ∧ (State.reportTests n k s).views = s.views ∧
    (State.reportTests n k s).notices = s.notices ∧ (State.reportTests n k s).pulses = s.pulses ∧
    (State.reportTests n k s).service = s.service ∧ (State.reportTests n k s).pending = s.pending := by
  induction n generalizing k s with
  | zero => simp [State.reportTests]
  | succ n ih =>
    cases k with
    | zero => simp [State.reportTests]
    | succ k => unfold State.reportTests; split <;> simp [ih]

/-- The test for a report changes what a report changes (R178). -/
@[simp] theorem State.reportTest_keeps :
    (s.reportTest).start = s.start ∧ (s.reportTest).cause = s.cause ∧ (s.reportTest).station = s.station ∧
    (s.reportTest).sup = s.sup ∧ (s.reportTest).srec = s.srec ∧ (s.reportTest).cfg = s.cfg ∧
    (s.reportTest).settledRoles = s.settledRoles ∧ (s.reportTest).farNeighbour = s.farNeighbour ∧
    (s.reportTest).lateSeen = s.lateSeen ∧ (s.reportTest).localSlot = s.localSlot ∧ (s.reportTest).clock = s.clock ∧
    (s.reportTest).pins = s.pins ∧ (s.reportTest).rx = s.rx ∧ (s.reportTest).stations = s.stations ∧
    (s.reportTest).dst = s.dst ∧ (s.reportTest).seqs = s.seqs ∧ (s.reportTest).counters = s.counters ∧
    (s.reportTest).paced = s.paced ∧ (s.reportTest).eyes = s.eyes ∧ (s.reportTest).surveyed = s.surveyed ∧
    (s.reportTest).surveys = s.surveys ∧ (s.reportTest).tokens = s.tokens ∧ (s.reportTest).motion = s.motion ∧
    (s.reportTest).motionOut = s.motionOut ∧ (s.reportTest).audio = s.audio ∧ (s.reportTest).views = s.views ∧
    (s.reportTest).notices = s.notices ∧ (s.reportTest).pulses = s.pulses ∧ (s.reportTest).service = s.service ∧
    (s.reportTest).pending = s.pending := by
  simp [State.reportTest]

/-- A call for an event report changes what a report changes (R177). -/
@[simp] theorem State.callEvent_keeps :
    (s.callEvent).start = s.start ∧ (s.callEvent).cause = s.cause ∧ (s.callEvent).station = s.station ∧
    (s.callEvent).sup = s.sup ∧ (s.callEvent).srec = s.srec ∧ (s.callEvent).cfg = s.cfg ∧
    (s.callEvent).settledRoles = s.settledRoles ∧ (s.callEvent).farNeighbour = s.farNeighbour ∧
    (s.callEvent).lateSeen = s.lateSeen ∧ (s.callEvent).localSlot = s.localSlot ∧ (s.callEvent).clock = s.clock ∧
    (s.callEvent).pins = s.pins ∧ (s.callEvent).rx = s.rx ∧ (s.callEvent).stations = s.stations ∧ (s.callEvent).dst = s.dst ∧
    (s.callEvent).seqs = s.seqs ∧ (s.callEvent).counters = s.counters ∧ (s.callEvent).paced = s.paced ∧
    (s.callEvent).eyes = s.eyes ∧ (s.callEvent).surveyed = s.surveyed ∧ (s.callEvent).surveys = s.surveys ∧
    (s.callEvent).tokens = s.tokens ∧ (s.callEvent).motion = s.motion ∧ (s.callEvent).motionOut = s.motionOut ∧
    (s.callEvent).audio = s.audio ∧ (s.callEvent).views = s.views ∧ (s.callEvent).notices = s.notices ∧
    (s.callEvent).pulses = s.pulses ∧ (s.callEvent).service = s.service ∧ (s.callEvent).pending = s.pending := by
  simp [State.callEvent]

/-- Fresh-pending changes the balance, and what a report changes (R180). -/
@[simp] theorem State.setFresh_keeps :
    (s.setFresh).start = s.start ∧ (s.setFresh).cause = s.cause ∧ (s.setFresh).station = s.station ∧
    (s.setFresh).sup = s.sup ∧ (s.setFresh).srec = s.srec ∧ (s.setFresh).cfg = s.cfg ∧
    (s.setFresh).settledRoles = s.settledRoles ∧ (s.setFresh).farNeighbour = s.farNeighbour ∧
    (s.setFresh).lateSeen = s.lateSeen ∧ (s.setFresh).localSlot = s.localSlot ∧ (s.setFresh).clock = s.clock ∧
    (s.setFresh).pins = s.pins ∧ (s.setFresh).rx = s.rx ∧ (s.setFresh).stations = s.stations ∧ (s.setFresh).dst = s.dst ∧
    (s.setFresh).seqs = s.seqs ∧ (s.setFresh).counters = s.counters ∧ (s.setFresh).paced = s.paced ∧
    (s.setFresh).eyes = s.eyes ∧ (s.setFresh).surveyed = s.surveyed ∧ (s.setFresh).surveys = s.surveys ∧
    (s.setFresh).tokens = s.tokens ∧ (s.setFresh).motion = s.motion ∧ (s.setFresh).motionOut = s.motionOut ∧
    (s.setFresh).audio = s.audio ∧ (s.setFresh).views = s.views ∧ (s.setFresh).notices = s.notices ∧
    (s.setFresh).pulses = s.pulses ∧ (s.setFresh).service = s.service ∧ (s.setFresh).pending = s.pending := by
  simp [State.setFresh]

/-- The insertion of a report's copy changes the balance, and what a report changes (R179). -/
@[simp] theorem State.copyInserted_keeps (l : Lane) (n : Nat) :
    (s.copyInserted l n).start = s.start ∧ (s.copyInserted l n).cause = s.cause ∧ (s.copyInserted l n).station = s.station ∧
    (s.copyInserted l n).sup = s.sup ∧ (s.copyInserted l n).srec = s.srec ∧ (s.copyInserted l n).cfg = s.cfg ∧
    (s.copyInserted l n).settledRoles = s.settledRoles ∧ (s.copyInserted l n).farNeighbour = s.farNeighbour ∧
    (s.copyInserted l n).lateSeen = s.lateSeen ∧ (s.copyInserted l n).localSlot = s.localSlot ∧
    (s.copyInserted l n).clock = s.clock ∧ (s.copyInserted l n).pins = s.pins ∧ (s.copyInserted l n).rx = s.rx ∧
    (s.copyInserted l n).stations = s.stations ∧ (s.copyInserted l n).dst = s.dst ∧ (s.copyInserted l n).seqs = s.seqs ∧
    (s.copyInserted l n).counters = s.counters ∧ (s.copyInserted l n).paced = s.paced ∧ (s.copyInserted l n).eyes = s.eyes ∧
    (s.copyInserted l n).surveyed = s.surveyed ∧ (s.copyInserted l n).surveys = s.surveys ∧
    (s.copyInserted l n).tokens = s.tokens ∧ (s.copyInserted l n).motion = s.motion ∧
    (s.copyInserted l n).motionOut = s.motionOut ∧ (s.copyInserted l n).audio = s.audio ∧
    (s.copyInserted l n).views = s.views ∧ (s.copyInserted l n).notices = s.notices ∧
    (s.copyInserted l n).pulses = s.pulses ∧ (s.copyInserted l n).service = s.service ∧
    (s.copyInserted l n).pending = s.pending := by
  unfold State.copyInserted
  dsimp only
  (repeat' split) <;> simp

/-- Calls for event reports change what a report changes (R178). -/
@[simp] theorem State.callEvents_keeps (n : Nat) :
    (State.callEvents n s).start = s.start ∧ (State.callEvents n s).cause = s.cause ∧
    (State.callEvents n s).station = s.station ∧ (State.callEvents n s).sup = s.sup ∧ (State.callEvents n s).srec = s.srec ∧
    (State.callEvents n s).cfg = s.cfg ∧ (State.callEvents n s).settledRoles = s.settledRoles ∧
    (State.callEvents n s).farNeighbour = s.farNeighbour ∧ (State.callEvents n s).lateSeen = s.lateSeen ∧
    (State.callEvents n s).localSlot = s.localSlot ∧ (State.callEvents n s).clock = s.clock ∧
    (State.callEvents n s).pins = s.pins ∧ (State.callEvents n s).rx = s.rx ∧ (State.callEvents n s).stations = s.stations ∧
    (State.callEvents n s).dst = s.dst ∧ (State.callEvents n s).seqs = s.seqs ∧
    (State.callEvents n s).counters = s.counters ∧ (State.callEvents n s).paced = s.paced ∧
    (State.callEvents n s).eyes = s.eyes ∧ (State.callEvents n s).surveyed = s.surveyed ∧
    (State.callEvents n s).surveys = s.surveys ∧ (State.callEvents n s).tokens = s.tokens ∧
    (State.callEvents n s).motion = s.motion ∧ (State.callEvents n s).motionOut = s.motionOut ∧
    (State.callEvents n s).audio = s.audio ∧ (State.callEvents n s).views = s.views ∧
    (State.callEvents n s).notices = s.notices ∧ (State.callEvents n s).pulses = s.pulses ∧
    (State.callEvents n s).service = s.service ∧ (State.callEvents n s).pending = s.pending := by
  induction n generalizing s with
  | zero => simp [State.callEvents]
  | succ n ih => simp [State.callEvents, ih]

/-- The calls that changes bring change what a report changes (R178). -/
@[simp] theorem State.callOnChange_keeps (b : State) :
    (State.callOnChange b s).start = s.start ∧ (State.callOnChange b s).cause = s.cause ∧
    (State.callOnChange b s).station = s.station ∧ (State.callOnChange b s).sup = s.sup ∧
    (State.callOnChange b s).srec = s.srec ∧ (State.callOnChange b s).cfg = s.cfg ∧
    (State.callOnChange b s).settledRoles = s.settledRoles ∧ (State.callOnChange b s).farNeighbour = s.farNeighbour ∧
    (State.callOnChange b s).lateSeen = s.lateSeen ∧ (State.callOnChange b s).localSlot = s.localSlot ∧
    (State.callOnChange b s).clock = s.clock ∧ (State.callOnChange b s).pins = s.pins ∧ (State.callOnChange b s).rx = s.rx ∧
    (State.callOnChange b s).stations = s.stations ∧ (State.callOnChange b s).dst = s.dst ∧
    (State.callOnChange b s).seqs = s.seqs ∧ (State.callOnChange b s).counters = s.counters ∧
    (State.callOnChange b s).paced = s.paced ∧ (State.callOnChange b s).eyes = s.eyes ∧
    (State.callOnChange b s).surveyed = s.surveyed ∧ (State.callOnChange b s).surveys = s.surveys ∧
    (State.callOnChange b s).tokens = s.tokens ∧ (State.callOnChange b s).motion = s.motion ∧
    (State.callOnChange b s).motionOut = s.motionOut ∧ (State.callOnChange b s).audio = s.audio ∧
    (State.callOnChange b s).views = s.views ∧ (State.callOnChange b s).notices = s.notices ∧
    (State.callOnChange b s).pulses = s.pulses ∧ (State.callOnChange b s).service = s.service ∧
    (State.callOnChange b s).pending = s.pending := by
  simp [State.callOnChange]

/-- The calls of an event's changes change what a report changes, beside what the event does (R178). -/
@[simp] theorem State.calling_keeps (f : State → State) :
    (s.calling f).start = (f s).start ∧ (s.calling f).cause = (f s).cause ∧ (s.calling f).station = (f s).station ∧
    (s.calling f).sup = (f s).sup ∧ (s.calling f).srec = (f s).srec ∧ (s.calling f).cfg = (f s).cfg ∧
    (s.calling f).settledRoles = (f s).settledRoles ∧ (s.calling f).farNeighbour = (f s).farNeighbour ∧
    (s.calling f).lateSeen = (f s).lateSeen ∧ (s.calling f).localSlot = (f s).localSlot ∧ (s.calling f).clock = (f s).clock ∧
    (s.calling f).pins = (f s).pins ∧ (s.calling f).rx = (f s).rx ∧ (s.calling f).stations = (f s).stations ∧
    (s.calling f).dst = (f s).dst ∧ (s.calling f).seqs = (f s).seqs ∧ (s.calling f).counters = (f s).counters ∧
    (s.calling f).paced = (f s).paced ∧ (s.calling f).eyes = (f s).eyes ∧ (s.calling f).surveyed = (f s).surveyed ∧
    (s.calling f).surveys = (f s).surveys ∧ (s.calling f).tokens = (f s).tokens ∧ (s.calling f).motion = (f s).motion ∧
    (s.calling f).motionOut = (f s).motionOut ∧ (s.calling f).audio = (f s).audio ∧ (s.calling f).views = (f s).views ∧
    (s.calling f).notices = (f s).notices ∧ (s.calling f).pulses = (f s).pulses ∧ (s.calling f).service = (f s).service ∧
    (s.calling f).pending = (f s).pending := by
  simp [State.calling]

/-! #### Domains and what follows them -/

/-- An eye that enters LISTENING changes its record and its destination state (R108). -/
@[simp] theorem State.listenEye_keeps (e : Eye) :
    (s.listenEye e).start = s.start ∧ (s.listenEye e).cause = s.cause ∧ (s.listenEye e).station = s.station ∧
    (s.listenEye e).sup = s.sup ∧ (s.listenEye e).srec = s.srec ∧ (s.listenEye e).cfg = s.cfg ∧
    (s.listenEye e).settledRoles = s.settledRoles ∧ (s.listenEye e).farNeighbour = s.farNeighbour ∧
    (s.listenEye e).lateSeen = s.lateSeen ∧ (s.listenEye e).localSlot = s.localSlot ∧ (s.listenEye e).clock = s.clock ∧
    (s.listenEye e).pins = s.pins ∧ (s.listenEye e).rx = s.rx ∧ (s.listenEye e).tx = s.tx ∧
    (s.listenEye e).stations = s.stations ∧ (s.listenEye e).seqs = s.seqs ∧ (s.listenEye e).counters = s.counters ∧
    (s.listenEye e).paced = s.paced ∧ (s.listenEye e).surveyed = s.surveyed ∧ (s.listenEye e).surveys = s.surveys ∧
    (s.listenEye e).tokens = s.tokens ∧ (s.listenEye e).motion = s.motion ∧ (s.listenEye e).motionOut = s.motionOut ∧
    (s.listenEye e).audio = s.audio ∧ (s.listenEye e).power = s.power ∧ (s.listenEye e).views = s.views ∧
    (s.listenEye e).balance = s.balance ∧ (s.listenEye e).notices = s.notices ∧ (s.listenEye e).pulses = s.pulses ∧
    (s.listenEye e).service = s.service ∧ (s.listenEye e).pending = s.pending := by
  simp [State.listenEye]

/-- An eye that enters HOLDING changes its record and its destination state (R108). -/
@[simp] theorem State.holdEye_keeps (e : Eye) :
    (s.holdEye e).start = s.start ∧ (s.holdEye e).cause = s.cause ∧ (s.holdEye e).station = s.station ∧
    (s.holdEye e).sup = s.sup ∧ (s.holdEye e).srec = s.srec ∧ (s.holdEye e).cfg = s.cfg ∧
    (s.holdEye e).settledRoles = s.settledRoles ∧ (s.holdEye e).farNeighbour = s.farNeighbour ∧
    (s.holdEye e).lateSeen = s.lateSeen ∧ (s.holdEye e).localSlot = s.localSlot ∧ (s.holdEye e).clock = s.clock ∧
    (s.holdEye e).pins = s.pins ∧ (s.holdEye e).rx = s.rx ∧ (s.holdEye e).tx = s.tx ∧ (s.holdEye e).stations = s.stations ∧
    (s.holdEye e).seqs = s.seqs ∧ (s.holdEye e).counters = s.counters ∧ (s.holdEye e).paced = s.paced ∧
    (s.holdEye e).surveyed = s.surveyed ∧ (s.holdEye e).surveys = s.surveys ∧ (s.holdEye e).tokens = s.tokens ∧
    (s.holdEye e).motion = s.motion ∧ (s.holdEye e).motionOut = s.motionOut ∧ (s.holdEye e).audio = s.audio ∧
    (s.holdEye e).power = s.power ∧ (s.holdEye e).views = s.views ∧ (s.holdEye e).balance = s.balance ∧
    (s.holdEye e).notices = s.notices ∧ (s.holdEye e).pulses = s.pulses ∧ (s.holdEye e).service = s.service ∧
    (s.holdEye e).pending = s.pending := by
  simp [State.holdEye]

/-- An eye follows the display domain by its record and destination state (R57). -/
@[simp] theorem State.followEye_keeps (e : Eye) :
    (s.followEye e).start = s.start ∧ (s.followEye e).cause = s.cause ∧ (s.followEye e).station = s.station ∧
    (s.followEye e).sup = s.sup ∧ (s.followEye e).srec = s.srec ∧ (s.followEye e).cfg = s.cfg ∧
    (s.followEye e).settledRoles = s.settledRoles ∧ (s.followEye e).farNeighbour = s.farNeighbour ∧
    (s.followEye e).lateSeen = s.lateSeen ∧ (s.followEye e).localSlot = s.localSlot ∧ (s.followEye e).clock = s.clock ∧
    (s.followEye e).pins = s.pins ∧ (s.followEye e).rx = s.rx ∧ (s.followEye e).tx = s.tx ∧
    (s.followEye e).stations = s.stations ∧ (s.followEye e).seqs = s.seqs ∧ (s.followEye e).counters = s.counters ∧
    (s.followEye e).paced = s.paced ∧ (s.followEye e).surveyed = s.surveyed ∧ (s.followEye e).surveys = s.surveys ∧
    (s.followEye e).tokens = s.tokens ∧ (s.followEye e).motion = s.motion ∧ (s.followEye e).motionOut = s.motionOut ∧
    (s.followEye e).audio = s.audio ∧ (s.followEye e).power = s.power ∧ (s.followEye e).views = s.views ∧
    (s.followEye e).balance = s.balance ∧ (s.followEye e).notices = s.notices ∧ (s.followEye e).pulses = s.pulses ∧
    (s.followEye e).service = s.service ∧ (s.followEye e).pending = s.pending := by
  unfold State.followEye
  (repeat' split) <;> simp

/-- The eyes follow the display domain by their records and destination states (R57). -/
@[simp] theorem State.followDisplay_keeps :
    (s.followDisplay).start = s.start ∧ (s.followDisplay).cause = s.cause ∧ (s.followDisplay).station = s.station ∧
    (s.followDisplay).sup = s.sup ∧ (s.followDisplay).srec = s.srec ∧ (s.followDisplay).cfg = s.cfg ∧
    (s.followDisplay).settledRoles = s.settledRoles ∧ (s.followDisplay).farNeighbour = s.farNeighbour ∧
    (s.followDisplay).lateSeen = s.lateSeen ∧ (s.followDisplay).localSlot = s.localSlot ∧ (s.followDisplay).clock = s.clock ∧
    (s.followDisplay).pins = s.pins ∧ (s.followDisplay).rx = s.rx ∧ (s.followDisplay).tx = s.tx ∧
    (s.followDisplay).stations = s.stations ∧ (s.followDisplay).seqs = s.seqs ∧ (s.followDisplay).counters = s.counters ∧
    (s.followDisplay).paced = s.paced ∧ (s.followDisplay).surveyed = s.surveyed ∧ (s.followDisplay).surveys = s.surveys ∧
    (s.followDisplay).tokens = s.tokens ∧ (s.followDisplay).motion = s.motion ∧ (s.followDisplay).motionOut = s.motionOut ∧
    (s.followDisplay).audio = s.audio ∧ (s.followDisplay).power = s.power ∧ (s.followDisplay).views = s.views ∧
    (s.followDisplay).balance = s.balance ∧ (s.followDisplay).notices = s.notices ∧ (s.followDisplay).pulses = s.pulses ∧
    (s.followDisplay).service = s.service ∧ (s.followDisplay).pending = s.pending := by
  unfold State.followDisplay
  (repeat' split) <;> simp

/-- DOMAIN_STATE notices change the notice queue alone (R153). -/
@[simp] theorem State.postDomains_keeps (a b : List Domain) :
    (s.postDomains a b).start = s.start ∧ (s.postDomains a b).cause = s.cause ∧ (s.postDomains a b).station = s.station ∧
    (s.postDomains a b).sup = s.sup ∧ (s.postDomains a b).srec = s.srec ∧ (s.postDomains a b).cfg = s.cfg ∧
    (s.postDomains a b).settledRoles = s.settledRoles ∧ (s.postDomains a b).farNeighbour = s.farNeighbour ∧
    (s.postDomains a b).lateSeen = s.lateSeen ∧ (s.postDomains a b).localSlot = s.localSlot ∧
    (s.postDomains a b).clock = s.clock ∧ (s.postDomains a b).pins = s.pins ∧ (s.postDomains a b).rx = s.rx ∧
    (s.postDomains a b).tx = s.tx ∧ (s.postDomains a b).stations = s.stations ∧ (s.postDomains a b).dst = s.dst ∧
    (s.postDomains a b).seqs = s.seqs ∧ (s.postDomains a b).counters = s.counters ∧ (s.postDomains a b).paced = s.paced ∧
    (s.postDomains a b).eyes = s.eyes ∧ (s.postDomains a b).surveyed = s.surveyed ∧ (s.postDomains a b).surveys = s.surveys ∧
    (s.postDomains a b).tokens = s.tokens ∧ (s.postDomains a b).motion = s.motion ∧
    (s.postDomains a b).motionOut = s.motionOut ∧ (s.postDomains a b).audio = s.audio ∧ (s.postDomains a b).power = s.power ∧
    (s.postDomains a b).views = s.views ∧ (s.postDomains a b).balance = s.balance ∧ (s.postDomains a b).pulses = s.pulses ∧
    (s.postDomains a b).service = s.service ∧ (s.postDomains a b).pending = s.pending := by
  induction a generalizing s b with
  | nil => simp [State.postDomains]
  | cons x xs ih =>
    cases b with
    | nil => simp [State.postDomains]
    | cons y ys => unfold State.postDomains; split <;> simp [ih]

/-- A change of domains changes the power unit and the notice queue (R153). -/
@[simp] theorem State.changeDomains_keeps (f : Domain → Domain) :
    (s.changeDomains f).start = s.start ∧ (s.changeDomains f).cause = s.cause ∧ (s.changeDomains f).station = s.station ∧
    (s.changeDomains f).sup = s.sup ∧ (s.changeDomains f).srec = s.srec ∧ (s.changeDomains f).cfg = s.cfg ∧
    (s.changeDomains f).settledRoles = s.settledRoles ∧ (s.changeDomains f).farNeighbour = s.farNeighbour ∧
    (s.changeDomains f).lateSeen = s.lateSeen ∧ (s.changeDomains f).localSlot = s.localSlot ∧
    (s.changeDomains f).clock = s.clock ∧ (s.changeDomains f).pins = s.pins ∧ (s.changeDomains f).rx = s.rx ∧
    (s.changeDomains f).tx = s.tx ∧ (s.changeDomains f).stations = s.stations ∧ (s.changeDomains f).dst = s.dst ∧
    (s.changeDomains f).seqs = s.seqs ∧ (s.changeDomains f).counters = s.counters ∧ (s.changeDomains f).paced = s.paced ∧
    (s.changeDomains f).eyes = s.eyes ∧ (s.changeDomains f).surveyed = s.surveyed ∧ (s.changeDomains f).surveys = s.surveys ∧
    (s.changeDomains f).tokens = s.tokens ∧ (s.changeDomains f).motion = s.motion ∧
    (s.changeDomains f).motionOut = s.motionOut ∧ (s.changeDomains f).audio = s.audio ∧ (s.changeDomains f).views = s.views ∧
    (s.changeDomains f).balance = s.balance ∧ (s.changeDomains f).pulses = s.pulses ∧
    (s.changeDomains f).service = s.service ∧ (s.changeDomains f).pending = s.pending := by
  simp [State.changeDomains]

/-- The wear link changes the domains and what follows the display domain (R123). -/
@[simp] theorem State.wearLink_keeps (v : Bool) :
    (s.wearLink v).start = s.start ∧ (s.wearLink v).cause = s.cause ∧ (s.wearLink v).station = s.station ∧
    (s.wearLink v).sup = s.sup ∧ (s.wearLink v).srec = s.srec ∧ (s.wearLink v).cfg = s.cfg ∧
    (s.wearLink v).settledRoles = s.settledRoles ∧ (s.wearLink v).farNeighbour = s.farNeighbour ∧
    (s.wearLink v).lateSeen = s.lateSeen ∧ (s.wearLink v).localSlot = s.localSlot ∧ (s.wearLink v).clock = s.clock ∧
    (s.wearLink v).pins = s.pins ∧ (s.wearLink v).rx = s.rx ∧ (s.wearLink v).tx = s.tx ∧
    (s.wearLink v).stations = s.stations ∧ (s.wearLink v).seqs = s.seqs ∧ (s.wearLink v).counters = s.counters ∧
    (s.wearLink v).paced = s.paced ∧ (s.wearLink v).surveyed = s.surveyed ∧ (s.wearLink v).surveys = s.surveys ∧
    (s.wearLink v).tokens = s.tokens ∧ (s.wearLink v).motion = s.motion ∧ (s.wearLink v).motionOut = s.motionOut ∧
    (s.wearLink v).audio = s.audio ∧ (s.wearLink v).views = s.views ∧ (s.wearLink v).balance = s.balance ∧
    (s.wearLink v).pulses = s.pulses ∧ (s.wearLink v).service = s.service ∧ (s.wearLink v).pending = s.pending := by
  unfold State.wearLink
  (repeat' split) <;> simp

/-- A change of motion state changes the motion unit and posts (R121). -/
@[simp] theorem State.motionTo_keeps (f : Motion → Motion) :
    (s.motionTo f).start = s.start ∧ (s.motionTo f).cause = s.cause ∧ (s.motionTo f).station = s.station ∧
    (s.motionTo f).sup = s.sup ∧ (s.motionTo f).srec = s.srec ∧ (s.motionTo f).cfg = s.cfg ∧
    (s.motionTo f).settledRoles = s.settledRoles ∧ (s.motionTo f).farNeighbour = s.farNeighbour ∧
    (s.motionTo f).lateSeen = s.lateSeen ∧ (s.motionTo f).localSlot = s.localSlot ∧ (s.motionTo f).clock = s.clock ∧
    (s.motionTo f).pins = s.pins ∧ (s.motionTo f).rx = s.rx ∧ (s.motionTo f).tx = s.tx ∧
    (s.motionTo f).stations = s.stations ∧ (s.motionTo f).dst = s.dst ∧ (s.motionTo f).seqs = s.seqs ∧
    (s.motionTo f).counters = s.counters ∧ (s.motionTo f).paced = s.paced ∧ (s.motionTo f).eyes = s.eyes ∧
    (s.motionTo f).surveyed = s.surveyed ∧ (s.motionTo f).surveys = s.surveys ∧ (s.motionTo f).tokens = s.tokens ∧
    (s.motionTo f).motionOut = s.motionOut ∧ (s.motionTo f).audio = s.audio ∧ (s.motionTo f).power = s.power ∧
    (s.motionTo f).views = s.views ∧ (s.motionTo f).balance = s.balance ∧ (s.motionTo f).pulses = s.pulses ∧
    (s.motionTo f).service = s.service ∧ (s.motionTo f).pending = s.pending := by
  simp [State.motionTo]

/-- The motion unit follows the sensors domain (R121, R123). -/
@[simp] theorem State.followSensors_keeps :
    (s.followSensors).start = s.start ∧ (s.followSensors).cause = s.cause ∧ (s.followSensors).station = s.station ∧
    (s.followSensors).sup = s.sup ∧ (s.followSensors).srec = s.srec ∧ (s.followSensors).cfg = s.cfg ∧
    (s.followSensors).settledRoles = s.settledRoles ∧ (s.followSensors).farNeighbour = s.farNeighbour ∧
    (s.followSensors).lateSeen = s.lateSeen ∧ (s.followSensors).localSlot = s.localSlot ∧ (s.followSensors).clock = s.clock ∧
    (s.followSensors).pins = s.pins ∧ (s.followSensors).rx = s.rx ∧ (s.followSensors).tx = s.tx ∧
    (s.followSensors).stations = s.stations ∧ (s.followSensors).seqs = s.seqs ∧ (s.followSensors).counters = s.counters ∧
    (s.followSensors).paced = s.paced ∧ (s.followSensors).surveyed = s.surveyed ∧ (s.followSensors).surveys = s.surveys ∧
    (s.followSensors).tokens = s.tokens ∧ (s.followSensors).motionOut = s.motionOut ∧ (s.followSensors).audio = s.audio ∧
    (s.followSensors).views = s.views ∧ (s.followSensors).balance = s.balance ∧ (s.followSensors).pulses = s.pulses ∧
    (s.followSensors).service = s.service ∧ (s.followSensors).pending = s.pending := by
  unfold State.followSensors
  (repeat' split) <;> simp

/-- The source follows its clock and domain (R132). -/
@[simp] theorem State.followSource_keeps :
    (s.followSource).start = s.start ∧ (s.followSource).cause = s.cause ∧ (s.followSource).station = s.station ∧
    (s.followSource).sup = s.sup ∧ (s.followSource).srec = s.srec ∧ (s.followSource).cfg = s.cfg ∧
    (s.followSource).settledRoles = s.settledRoles ∧ (s.followSource).farNeighbour = s.farNeighbour ∧
    (s.followSource).lateSeen = s.lateSeen ∧ (s.followSource).localSlot = s.localSlot ∧ (s.followSource).clock = s.clock ∧
    (s.followSource).pins = s.pins ∧ (s.followSource).rx = s.rx ∧ (s.followSource).tx = s.tx ∧
    (s.followSource).stations = s.stations ∧ (s.followSource).dst = s.dst ∧ (s.followSource).seqs = s.seqs ∧
    (s.followSource).counters = s.counters ∧ (s.followSource).paced = s.paced ∧ (s.followSource).eyes = s.eyes ∧
    (s.followSource).surveyed = s.surveyed ∧ (s.followSource).surveys = s.surveys ∧ (s.followSource).tokens = s.tokens ∧
    (s.followSource).motion = s.motion ∧ (s.followSource).motionOut = s.motionOut ∧ (s.followSource).power = s.power ∧
    (s.followSource).views = s.views ∧ (s.followSource).balance = s.balance ∧ (s.followSource).notices = s.notices ∧
    (s.followSource).pulses = s.pulses ∧ (s.followSource).service = s.service ∧ (s.followSource).pending = s.pending := by
  unfold State.followSource
  (repeat' split) <;> simp

/-- The sink follows its record and domain (R135). -/
@[simp] theorem State.followSink_keeps :
    (s.followSink).start = s.start ∧ (s.followSink).cause = s.cause ∧ (s.followSink).station = s.station ∧
    (s.followSink).sup = s.sup ∧ (s.followSink).srec = s.srec ∧ (s.followSink).cfg = s.cfg ∧
    (s.followSink).settledRoles = s.settledRoles ∧ (s.followSink).farNeighbour = s.farNeighbour ∧
    (s.followSink).lateSeen = s.lateSeen ∧ (s.followSink).localSlot = s.localSlot ∧ (s.followSink).clock = s.clock ∧
    (s.followSink).pins = s.pins ∧ (s.followSink).rx = s.rx ∧ (s.followSink).tx = s.tx ∧
    (s.followSink).stations = s.stations ∧ (s.followSink).dst = s.dst ∧ (s.followSink).seqs = s.seqs ∧
    (s.followSink).counters = s.counters ∧ (s.followSink).paced = s.paced ∧ (s.followSink).eyes = s.eyes ∧
    (s.followSink).surveyed = s.surveyed ∧ (s.followSink).surveys = s.surveys ∧ (s.followSink).tokens = s.tokens ∧
    (s.followSink).motion = s.motion ∧ (s.followSink).motionOut = s.motionOut ∧ (s.followSink).power = s.power ∧
    (s.followSink).views = s.views ∧ (s.followSink).balance = s.balance ∧ (s.followSink).notices = s.notices ∧
    (s.followSink).pulses = s.pulses ∧ (s.followSink).service = s.service ∧ (s.followSink).pending = s.pending := by
  unfold State.followSink
  (repeat' split) <;> simp

/-- The applied level changes the power unit and posts (R154). -/
@[simp] theorem State.lowerLevel_keeps :
    (s.lowerLevel).start = s.start ∧ (s.lowerLevel).cause = s.cause ∧ (s.lowerLevel).station = s.station ∧
    (s.lowerLevel).sup = s.sup ∧ (s.lowerLevel).srec = s.srec ∧ (s.lowerLevel).cfg = s.cfg ∧
    (s.lowerLevel).settledRoles = s.settledRoles ∧ (s.lowerLevel).farNeighbour = s.farNeighbour ∧
    (s.lowerLevel).lateSeen = s.lateSeen ∧ (s.lowerLevel).localSlot = s.localSlot ∧ (s.lowerLevel).clock = s.clock ∧
    (s.lowerLevel).pins = s.pins ∧ (s.lowerLevel).rx = s.rx ∧ (s.lowerLevel).tx = s.tx ∧
    (s.lowerLevel).stations = s.stations ∧ (s.lowerLevel).dst = s.dst ∧ (s.lowerLevel).seqs = s.seqs ∧
    (s.lowerLevel).counters = s.counters ∧ (s.lowerLevel).paced = s.paced ∧ (s.lowerLevel).eyes = s.eyes ∧
    (s.lowerLevel).surveyed = s.surveyed ∧ (s.lowerLevel).surveys = s.surveys ∧ (s.lowerLevel).tokens = s.tokens ∧
    (s.lowerLevel).motion = s.motion ∧ (s.lowerLevel).motionOut = s.motionOut ∧ (s.lowerLevel).audio = s.audio ∧
    (s.lowerLevel).views = s.views ∧ (s.lowerLevel).balance = s.balance ∧ (s.lowerLevel).pulses = s.pulses ∧
    (s.lowerLevel).service = s.service ∧ (s.lowerLevel).pending = s.pending := by
  unfold State.lowerLevel
  (repeat' split) <;> simp

/-- The supply level follows STRAP's offer (R166). -/
@[simp] theorem State.followOffer_keeps :
    (s.followOffer).start = s.start ∧ (s.followOffer).cause = s.cause ∧ (s.followOffer).station = s.station ∧
    (s.followOffer).sup = s.sup ∧ (s.followOffer).srec = s.srec ∧ (s.followOffer).cfg = s.cfg ∧
    (s.followOffer).settledRoles = s.settledRoles ∧ (s.followOffer).farNeighbour = s.farNeighbour ∧
    (s.followOffer).lateSeen = s.lateSeen ∧ (s.followOffer).localSlot = s.localSlot ∧ (s.followOffer).clock = s.clock ∧
    (s.followOffer).pins = s.pins ∧ (s.followOffer).rx = s.rx ∧ (s.followOffer).tx = s.tx ∧
    (s.followOffer).stations = s.stations ∧ (s.followOffer).dst = s.dst ∧ (s.followOffer).seqs = s.seqs ∧
    (s.followOffer).counters = s.counters ∧ (s.followOffer).paced = s.paced ∧ (s.followOffer).eyes = s.eyes ∧
    (s.followOffer).surveyed = s.surveyed ∧ (s.followOffer).surveys = s.surveys ∧ (s.followOffer).tokens = s.tokens ∧
    (s.followOffer).motion = s.motion ∧ (s.followOffer).motionOut = s.motionOut ∧ (s.followOffer).audio = s.audio ∧
    (s.followOffer).views = s.views ∧ (s.followOffer).balance = s.balance ∧ (s.followOffer).pulses = s.pulses ∧
    (s.followOffer).service = s.service ∧ (s.followOffer).pending = s.pending := by
  unfold State.followOffer
  (repeat' split) <;> simp

/-- What follows the domain table (R151, R153). -/
@[simp] theorem State.follow_keeps :
    (s.follow).start = s.start ∧ (s.follow).cause = s.cause ∧ (s.follow).station = s.station ∧ (s.follow).sup = s.sup ∧
    (s.follow).srec = s.srec ∧ (s.follow).cfg = s.cfg ∧ (s.follow).settledRoles = s.settledRoles ∧
    (s.follow).farNeighbour = s.farNeighbour ∧ (s.follow).lateSeen = s.lateSeen ∧ (s.follow).localSlot = s.localSlot ∧
    (s.follow).clock = s.clock ∧ (s.follow).pins = s.pins ∧ (s.follow).rx = s.rx ∧ (s.follow).tx = s.tx ∧
    (s.follow).stations = s.stations ∧ (s.follow).seqs = s.seqs ∧ (s.follow).counters = s.counters ∧
    (s.follow).paced = s.paced ∧ (s.follow).surveyed = s.surveyed ∧ (s.follow).surveys = s.surveys ∧
    (s.follow).tokens = s.tokens ∧ (s.follow).motionOut = s.motionOut ∧ (s.follow).views = s.views ∧
    (s.follow).balance = s.balance ∧ (s.follow).pulses = s.pulses ∧ (s.follow).service = s.service ∧
    (s.follow).pending = s.pending := by
  simp [State.follow]

/-- Shedding changes the domains and what follows them (R153). -/
@[simp] theorem State.shedWhere_keeps (p : Domain → Bool) :
    (s.shedWhere p).start = s.start ∧ (s.shedWhere p).cause = s.cause ∧ (s.shedWhere p).station = s.station ∧
    (s.shedWhere p).sup = s.sup ∧ (s.shedWhere p).srec = s.srec ∧ (s.shedWhere p).cfg = s.cfg ∧
    (s.shedWhere p).settledRoles = s.settledRoles ∧ (s.shedWhere p).farNeighbour = s.farNeighbour ∧
    (s.shedWhere p).lateSeen = s.lateSeen ∧ (s.shedWhere p).localSlot = s.localSlot ∧ (s.shedWhere p).clock = s.clock ∧
    (s.shedWhere p).pins = s.pins ∧ (s.shedWhere p).rx = s.rx ∧ (s.shedWhere p).tx = s.tx ∧
    (s.shedWhere p).stations = s.stations ∧ (s.shedWhere p).seqs = s.seqs ∧ (s.shedWhere p).counters = s.counters ∧
    (s.shedWhere p).paced = s.paced ∧ (s.shedWhere p).surveyed = s.surveyed ∧ (s.shedWhere p).surveys = s.surveys ∧
    (s.shedWhere p).tokens = s.tokens ∧ (s.shedWhere p).motionOut = s.motionOut ∧ (s.shedWhere p).views = s.views ∧
    (s.shedWhere p).balance = s.balance ∧ (s.shedWhere p).pulses = s.pulses ∧ (s.shedWhere p).service = s.service ∧
    (s.shedWhere p).pending = s.pending := by
  simp [State.shedWhere]

/-- The applied level worked out afresh changes the domains and what follows them (R154). -/
@[simp] theorem State.relevel_keeps :
    (s.relevel).start = s.start ∧ (s.relevel).cause = s.cause ∧ (s.relevel).station = s.station ∧ (s.relevel).sup = s.sup ∧
    (s.relevel).srec = s.srec ∧ (s.relevel).cfg = s.cfg ∧ (s.relevel).settledRoles = s.settledRoles ∧
    (s.relevel).farNeighbour = s.farNeighbour ∧ (s.relevel).lateSeen = s.lateSeen ∧ (s.relevel).localSlot = s.localSlot ∧
    (s.relevel).clock = s.clock ∧ (s.relevel).pins = s.pins ∧ (s.relevel).rx = s.rx ∧ (s.relevel).tx = s.tx ∧
    (s.relevel).stations = s.stations ∧ (s.relevel).seqs = s.seqs ∧ (s.relevel).counters = s.counters ∧
    (s.relevel).paced = s.paced ∧ (s.relevel).surveyed = s.surveyed ∧ (s.relevel).surveys = s.surveys ∧
    (s.relevel).tokens = s.tokens ∧ (s.relevel).motionOut = s.motionOut ∧ (s.relevel).views = s.views ∧
    (s.relevel).balance = s.balance ∧ (s.relevel).pulses = s.pulses ∧ (s.relevel).service = s.service ∧
    (s.relevel).pending = s.pending := by
  unfold State.relevel
  dsimp only
  (repeat' split) <;> simp

/-- A write of a wanted flag changes the domains and what follows them (R152). -/
@[simp] theorem State.want_keeps (n : Nat) (v : Bool) :
    (s.want n v).start = s.start ∧ (s.want n v).cause = s.cause ∧ (s.want n v).station = s.station ∧
    (s.want n v).sup = s.sup ∧ (s.want n v).srec = s.srec ∧ (s.want n v).cfg = s.cfg ∧
    (s.want n v).settledRoles = s.settledRoles ∧ (s.want n v).farNeighbour = s.farNeighbour ∧
    (s.want n v).lateSeen = s.lateSeen ∧ (s.want n v).localSlot = s.localSlot ∧ (s.want n v).clock = s.clock ∧
    (s.want n v).pins = s.pins ∧ (s.want n v).rx = s.rx ∧ (s.want n v).tx = s.tx ∧ (s.want n v).stations = s.stations ∧
    (s.want n v).seqs = s.seqs ∧ (s.want n v).counters = s.counters ∧ (s.want n v).paced = s.paced ∧
    (s.want n v).surveyed = s.surveyed ∧ (s.want n v).surveys = s.surveys ∧ (s.want n v).tokens = s.tokens ∧
    (s.want n v).motionOut = s.motionOut ∧ (s.want n v).views = s.views ∧ (s.want n v).balance = s.balance ∧
    (s.want n v).pulses = s.pulses ∧ (s.want n v).service = s.service ∧ (s.want n v).pending = s.pending := by
  simp [State.want]

/-! #### Allowed rate -/

/-- An allowed rate's change changes its record, the train and the notice queue (R40, R86, R87). -/
@[simp] theorem State.setRate_keeps (e : Eye) (a : Nat) :
    (s.setRate e a).start = s.start ∧ (s.setRate e a).cause = s.cause ∧ (s.setRate e a).station = s.station ∧
    (s.setRate e a).sup = s.sup ∧ (s.setRate e a).srec = s.srec ∧ (s.setRate e a).cfg = s.cfg ∧
    (s.setRate e a).settledRoles = s.settledRoles ∧ (s.setRate e a).farNeighbour = s.farNeighbour ∧
    (s.setRate e a).lateSeen = s.lateSeen ∧ (s.setRate e a).localSlot = s.localSlot ∧ (s.setRate e a).clock = s.clock ∧
    (s.setRate e a).pins = s.pins ∧ (s.setRate e a).rx = s.rx ∧ (s.setRate e a).stations = s.stations ∧
    (s.setRate e a).dst = s.dst ∧ (s.setRate e a).seqs = s.seqs ∧ (s.setRate e a).counters = s.counters ∧
    (s.setRate e a).eyes = s.eyes ∧ (s.setRate e a).surveyed = s.surveyed ∧ (s.setRate e a).surveys = s.surveys ∧
    (s.setRate e a).tokens = s.tokens ∧ (s.setRate e a).motion = s.motion ∧ (s.setRate e a).motionOut = s.motionOut ∧
    (s.setRate e a).audio = s.audio ∧ (s.setRate e a).power = s.power ∧ (s.setRate e a).views = s.views ∧
    (s.setRate e a).balance = s.balance ∧ (s.setRate e a).pulses = s.pulses ∧ (s.setRate e a).service = s.service ∧
    (s.setRate e a).pending = s.pending := by
  unfold State.setRate
  dsimp only
  (repeat' split) <;> simp

/-- A queued probe changes its record and a FIFO, and by a fade what a rate changes (R70, R71). -/
@[simp] theorem State.queueProbe_keeps (e : Eye) :
    (s.queueProbe e).start = s.start ∧ (s.queueProbe e).cause = s.cause ∧ (s.queueProbe e).station = s.station ∧
    (s.queueProbe e).sup = s.sup ∧ (s.queueProbe e).srec = s.srec ∧ (s.queueProbe e).cfg = s.cfg ∧
    (s.queueProbe e).settledRoles = s.settledRoles ∧ (s.queueProbe e).farNeighbour = s.farNeighbour ∧
    (s.queueProbe e).lateSeen = s.lateSeen ∧ (s.queueProbe e).localSlot = s.localSlot ∧ (s.queueProbe e).clock = s.clock ∧
    (s.queueProbe e).pins = s.pins ∧ (s.queueProbe e).rx = s.rx ∧ (s.queueProbe e).stations = s.stations ∧
    (s.queueProbe e).dst = s.dst ∧ (s.queueProbe e).seqs = s.seqs ∧ (s.queueProbe e).counters = s.counters ∧
    (s.queueProbe e).eyes = s.eyes ∧ (s.queueProbe e).surveyed = s.surveyed ∧ (s.queueProbe e).surveys = s.surveys ∧
    (s.queueProbe e).tokens = s.tokens ∧ (s.queueProbe e).motion = s.motion ∧ (s.queueProbe e).motionOut = s.motionOut ∧
    (s.queueProbe e).audio = s.audio ∧ (s.queueProbe e).power = s.power ∧ (s.queueProbe e).views = s.views ∧
    (s.queueProbe e).balance = s.balance ∧ (s.queueProbe e).pulses = s.pulses ∧ (s.queueProbe e).service = s.service ∧
    (s.queueProbe e).pending = s.pending := by
  unfold State.queueProbe
  dsimp only
  (repeat' split) <;> simp

/-- The check for a due probe changes what a queued probe changes (R69). -/
@[simp] theorem State.probeCheck_keeps (e : Eye) :
    (s.probeCheck e).start = s.start ∧ (s.probeCheck e).cause = s.cause ∧ (s.probeCheck e).station = s.station ∧
    (s.probeCheck e).sup = s.sup ∧ (s.probeCheck e).srec = s.srec ∧ (s.probeCheck e).cfg = s.cfg ∧
    (s.probeCheck e).settledRoles = s.settledRoles ∧ (s.probeCheck e).farNeighbour = s.farNeighbour ∧
    (s.probeCheck e).lateSeen = s.lateSeen ∧ (s.probeCheck e).localSlot = s.localSlot ∧ (s.probeCheck e).clock = s.clock ∧
    (s.probeCheck e).pins = s.pins ∧ (s.probeCheck e).rx = s.rx ∧ (s.probeCheck e).stations = s.stations ∧
    (s.probeCheck e).dst = s.dst ∧ (s.probeCheck e).seqs = s.seqs ∧ (s.probeCheck e).counters = s.counters ∧
    (s.probeCheck e).eyes = s.eyes ∧ (s.probeCheck e).surveyed = s.surveyed ∧ (s.probeCheck e).surveys = s.surveys ∧
    (s.probeCheck e).tokens = s.tokens ∧ (s.probeCheck e).motion = s.motion ∧ (s.probeCheck e).motionOut = s.motionOut ∧
    (s.probeCheck e).audio = s.audio ∧ (s.probeCheck e).power = s.power ∧ (s.probeCheck e).views = s.views ∧
    (s.probeCheck e).balance = s.balance ∧ (s.probeCheck e).pulses = s.pulses ∧ (s.probeCheck e).service = s.service ∧
    (s.probeCheck e).pending = s.pending := by
  unfold State.probeCheck
  (repeat' split) <;> simp

/-- IDLE changes the record alone (R49). -/
@[simp] theorem State.toIdle_keeps (e : Eye) :
    (s.toIdle e).start = s.start ∧ (s.toIdle e).cause = s.cause ∧ (s.toIdle e).station = s.station ∧
    (s.toIdle e).sup = s.sup ∧ (s.toIdle e).srec = s.srec ∧ (s.toIdle e).cfg = s.cfg ∧
    (s.toIdle e).settledRoles = s.settledRoles ∧ (s.toIdle e).farNeighbour = s.farNeighbour ∧
    (s.toIdle e).lateSeen = s.lateSeen ∧ (s.toIdle e).localSlot = s.localSlot ∧ (s.toIdle e).clock = s.clock ∧
    (s.toIdle e).pins = s.pins ∧ (s.toIdle e).rx = s.rx ∧ (s.toIdle e).tx = s.tx ∧ (s.toIdle e).stations = s.stations ∧
    (s.toIdle e).dst = s.dst ∧ (s.toIdle e).seqs = s.seqs ∧ (s.toIdle e).counters = s.counters ∧ (s.toIdle e).eyes = s.eyes ∧
    (s.toIdle e).surveyed = s.surveyed ∧ (s.toIdle e).surveys = s.surveys ∧ (s.toIdle e).tokens = s.tokens ∧
    (s.toIdle e).motion = s.motion ∧ (s.toIdle e).motionOut = s.motionOut ∧ (s.toIdle e).audio = s.audio ∧
    (s.toIdle e).power = s.power ∧ (s.toIdle e).views = s.views ∧ (s.toIdle e).balance = s.balance ∧
    (s.toIdle e).notices = s.notices ∧ (s.toIdle e).pulses = s.pulses ∧ (s.toIdle e).service = s.service ∧
    (s.toIdle e).pending = s.pending := by
  simp [State.toIdle]

/-- IDLE changes the record alone (R49). -/
@[simp] theorem State.idleIfEmpty_keeps (e : Eye) :
    (s.idleIfEmpty e).start = s.start ∧ (s.idleIfEmpty e).cause = s.cause ∧ (s.idleIfEmpty e).station = s.station ∧
    (s.idleIfEmpty e).sup = s.sup ∧ (s.idleIfEmpty e).srec = s.srec ∧ (s.idleIfEmpty e).cfg = s.cfg ∧
    (s.idleIfEmpty e).settledRoles = s.settledRoles ∧ (s.idleIfEmpty e).farNeighbour = s.farNeighbour ∧
    (s.idleIfEmpty e).lateSeen = s.lateSeen ∧ (s.idleIfEmpty e).localSlot = s.localSlot ∧ (s.idleIfEmpty e).clock = s.clock ∧
    (s.idleIfEmpty e).pins = s.pins ∧ (s.idleIfEmpty e).rx = s.rx ∧ (s.idleIfEmpty e).tx = s.tx ∧
    (s.idleIfEmpty e).stations = s.stations ∧ (s.idleIfEmpty e).dst = s.dst ∧ (s.idleIfEmpty e).seqs = s.seqs ∧
    (s.idleIfEmpty e).counters = s.counters ∧ (s.idleIfEmpty e).eyes = s.eyes ∧ (s.idleIfEmpty e).surveyed = s.surveyed ∧
    (s.idleIfEmpty e).surveys = s.surveys ∧ (s.idleIfEmpty e).tokens = s.tokens ∧ (s.idleIfEmpty e).motion = s.motion ∧
    (s.idleIfEmpty e).motionOut = s.motionOut ∧ (s.idleIfEmpty e).audio = s.audio ∧ (s.idleIfEmpty e).power = s.power ∧
    (s.idleIfEmpty e).views = s.views ∧ (s.idleIfEmpty e).balance = s.balance ∧ (s.idleIfEmpty e).notices = s.notices ∧
    (s.idleIfEmpty e).pulses = s.pulses ∧ (s.idleIfEmpty e).service = s.service ∧ (s.idleIfEmpty e).pending = s.pending := by
  unfold State.idleIfEmpty
  (repeat' split) <;> simp

/-- An entry to a state changes the record, and what a queued probe changes (R69). -/
@[simp] theorem State.enterPaced_keeps (e : Eye) (st : PacedState) :
    (s.enterPaced e st).start = s.start ∧ (s.enterPaced e st).cause = s.cause ∧ (s.enterPaced e st).station = s.station ∧
    (s.enterPaced e st).sup = s.sup ∧ (s.enterPaced e st).srec = s.srec ∧ (s.enterPaced e st).cfg = s.cfg ∧
    (s.enterPaced e st).settledRoles = s.settledRoles ∧ (s.enterPaced e st).farNeighbour = s.farNeighbour ∧
    (s.enterPaced e st).lateSeen = s.lateSeen ∧ (s.enterPaced e st).localSlot = s.localSlot ∧
    (s.enterPaced e st).clock = s.clock ∧ (s.enterPaced e st).pins = s.pins ∧ (s.enterPaced e st).rx = s.rx ∧
    (s.enterPaced e st).stations = s.stations ∧ (s.enterPaced e st).dst = s.dst ∧ (s.enterPaced e st).seqs = s.seqs ∧
    (s.enterPaced e st).counters = s.counters ∧ (s.enterPaced e st).eyes = s.eyes ∧
    (s.enterPaced e st).surveyed = s.surveyed ∧ (s.enterPaced e st).surveys = s.surveys ∧
    (s.enterPaced e st).tokens = s.tokens ∧ (s.enterPaced e st).motion = s.motion ∧
    (s.enterPaced e st).motionOut = s.motionOut ∧ (s.enterPaced e st).audio = s.audio ∧ (s.enterPaced e st).power = s.power ∧
    (s.enterPaced e st).views = s.views ∧ (s.enterPaced e st).balance = s.balance ∧ (s.enterPaced e st).pulses = s.pulses ∧
    (s.enterPaced e st).service = s.service ∧ (s.enterPaced e st).pending = s.pending := by
  simp [State.enterPaced]

/-- Credit changes the record alone (R67). -/
@[simp] theorem State.accrue_keeps (e : Eye) :
    (s.accrue e).start = s.start ∧ (s.accrue e).cause = s.cause ∧ (s.accrue e).station = s.station ∧
    (s.accrue e).sup = s.sup ∧ (s.accrue e).srec = s.srec ∧ (s.accrue e).cfg = s.cfg ∧
    (s.accrue e).settledRoles = s.settledRoles ∧ (s.accrue e).farNeighbour = s.farNeighbour ∧
    (s.accrue e).lateSeen = s.lateSeen ∧ (s.accrue e).localSlot = s.localSlot ∧ (s.accrue e).clock = s.clock ∧
    (s.accrue e).pins = s.pins ∧ (s.accrue e).rx = s.rx ∧ (s.accrue e).tx = s.tx ∧ (s.accrue e).stations = s.stations ∧
    (s.accrue e).dst = s.dst ∧ (s.accrue e).seqs = s.seqs ∧ (s.accrue e).counters = s.counters ∧ (s.accrue e).eyes = s.eyes ∧
    (s.accrue e).surveyed = s.surveyed ∧ (s.accrue e).surveys = s.surveys ∧ (s.accrue e).tokens = s.tokens ∧
    (s.accrue e).motion = s.motion ∧ (s.accrue e).motionOut = s.motionOut ∧ (s.accrue e).audio = s.audio ∧
    (s.accrue e).power = s.power ∧ (s.accrue e).views = s.views ∧ (s.accrue e).balance = s.balance ∧
    (s.accrue e).notices = s.notices ∧ (s.accrue e).pulses = s.pulses ∧ (s.accrue e).service = s.service ∧
    (s.accrue e).pending = s.pending := by
  simp [State.accrue]

/-- Credit changes the records alone (R67). -/
@[simp] theorem State.accrueAll_keeps :
    (s.accrueAll).start = s.start ∧ (s.accrueAll).cause = s.cause ∧ (s.accrueAll).station = s.station ∧
    (s.accrueAll).sup = s.sup ∧ (s.accrueAll).srec = s.srec ∧ (s.accrueAll).cfg = s.cfg ∧
    (s.accrueAll).settledRoles = s.settledRoles ∧ (s.accrueAll).farNeighbour = s.farNeighbour ∧
    (s.accrueAll).lateSeen = s.lateSeen ∧ (s.accrueAll).localSlot = s.localSlot ∧ (s.accrueAll).clock = s.clock ∧
    (s.accrueAll).pins = s.pins ∧ (s.accrueAll).rx = s.rx ∧ (s.accrueAll).tx = s.tx ∧ (s.accrueAll).stations = s.stations ∧
    (s.accrueAll).dst = s.dst ∧ (s.accrueAll).seqs = s.seqs ∧ (s.accrueAll).counters = s.counters ∧
    (s.accrueAll).eyes = s.eyes ∧ (s.accrueAll).surveyed = s.surveyed ∧ (s.accrueAll).surveys = s.surveys ∧
    (s.accrueAll).tokens = s.tokens ∧ (s.accrueAll).motion = s.motion ∧ (s.accrueAll).motionOut = s.motionOut ∧
    (s.accrueAll).audio = s.audio ∧ (s.accrueAll).power = s.power ∧ (s.accrueAll).views = s.views ∧
    (s.accrueAll).balance = s.balance ∧ (s.accrueAll).notices = s.notices ∧ (s.accrueAll).pulses = s.pulses ∧
    (s.accrueAll).service = s.service ∧ (s.accrueAll).pending = s.pending := by
  unfold State.accrueAll
  (repeat' split) <;> simp

/-- An answered probe changes the entry last seen and a FIFO (R74 to R77). -/
@[simp] theorem State.answerProbe_keeps (e : Eye) (d : DstState) (r : RateCell) :
    (s.answerProbe e d r).start = s.start ∧ (s.answerProbe e d r).cause = s.cause ∧
    (s.answerProbe e d r).station = s.station ∧ (s.answerProbe e d r).sup = s.sup ∧ (s.answerProbe e d r).srec = s.srec ∧
    (s.answerProbe e d r).cfg = s.cfg ∧ (s.answerProbe e d r).settledRoles = s.settledRoles ∧
    (s.answerProbe e d r).farNeighbour = s.farNeighbour ∧ (s.answerProbe e d r).lateSeen = s.lateSeen ∧
    (s.answerProbe e d r).localSlot = s.localSlot ∧ (s.answerProbe e d r).clock = s.clock ∧
    (s.answerProbe e d r).pins = s.pins ∧ (s.answerProbe e d r).rx = s.rx ∧ (s.answerProbe e d r).stations = s.stations ∧
    (s.answerProbe e d r).dst = s.dst ∧ (s.answerProbe e d r).seqs = s.seqs ∧ (s.answerProbe e d r).counters = s.counters ∧
    (s.answerProbe e d r).paced = s.paced ∧ (s.answerProbe e d r).surveyed = s.surveyed ∧
    (s.answerProbe e d r).surveys = s.surveys ∧ (s.answerProbe e d r).tokens = s.tokens ∧
    (s.answerProbe e d r).motion = s.motion ∧ (s.answerProbe e d r).motionOut = s.motionOut ∧
    (s.answerProbe e d r).audio = s.audio ∧ (s.answerProbe e d r).power = s.power ∧ (s.answerProbe e d r).views = s.views ∧
    (s.answerProbe e d r).balance = s.balance ∧ (s.answerProbe e d r).notices = s.notices ∧
    (s.answerProbe e d r).pulses = s.pulses ∧ (s.answerProbe e d r).service = s.service ∧
    (s.answerProbe e d r).pending = s.pending := by
  unfold State.answerProbe
  (repeat' split) <;> simp

/-- A reply's hold mark changes the record alone (R50, R51, R82). -/
@[simp] theorem State.replyState_keeps (e : Eye) (h : Bool) :
    (s.replyState e h).start = s.start ∧ (s.replyState e h).cause = s.cause ∧ (s.replyState e h).station = s.station ∧
    (s.replyState e h).sup = s.sup ∧ (s.replyState e h).srec = s.srec ∧ (s.replyState e h).cfg = s.cfg ∧
    (s.replyState e h).settledRoles = s.settledRoles ∧ (s.replyState e h).farNeighbour = s.farNeighbour ∧
    (s.replyState e h).lateSeen = s.lateSeen ∧ (s.replyState e h).localSlot = s.localSlot ∧
    (s.replyState e h).clock = s.clock ∧ (s.replyState e h).pins = s.pins ∧ (s.replyState e h).rx = s.rx ∧
    (s.replyState e h).tx = s.tx ∧ (s.replyState e h).stations = s.stations ∧ (s.replyState e h).dst = s.dst ∧
    (s.replyState e h).seqs = s.seqs ∧ (s.replyState e h).counters = s.counters ∧ (s.replyState e h).eyes = s.eyes ∧
    (s.replyState e h).surveyed = s.surveyed ∧ (s.replyState e h).surveys = s.surveys ∧
    (s.replyState e h).tokens = s.tokens ∧ (s.replyState e h).motion = s.motion ∧
    (s.replyState e h).motionOut = s.motionOut ∧ (s.replyState e h).audio = s.audio ∧ (s.replyState e h).power = s.power ∧
    (s.replyState e h).views = s.views ∧ (s.replyState e h).balance = s.balance ∧ (s.replyState e h).notices = s.notices ∧
    (s.replyState e h).pulses = s.pulses ∧ (s.replyState e h).service = s.service ∧
    (s.replyState e h).pending = s.pending := by
  unfold State.replyState
  dsimp only
  (repeat' split) <;> simp

/-- A reply changes its record, and what a rate and a queued probe change, or a counter (R79 to R82). -/
@[simp] theorem State.takeReply_keeps (e : Eye) (r : RateCell) :
    (s.takeReply e r).start = s.start ∧ (s.takeReply e r).cause = s.cause ∧ (s.takeReply e r).station = s.station ∧
    (s.takeReply e r).sup = s.sup ∧ (s.takeReply e r).srec = s.srec ∧ (s.takeReply e r).cfg = s.cfg ∧
    (s.takeReply e r).settledRoles = s.settledRoles ∧ (s.takeReply e r).farNeighbour = s.farNeighbour ∧
    (s.takeReply e r).lateSeen = s.lateSeen ∧ (s.takeReply e r).localSlot = s.localSlot ∧ (s.takeReply e r).clock = s.clock ∧
    (s.takeReply e r).pins = s.pins ∧ (s.takeReply e r).rx = s.rx ∧ (s.takeReply e r).stations = s.stations ∧
    (s.takeReply e r).dst = s.dst ∧ (s.takeReply e r).seqs = s.seqs ∧ (s.takeReply e r).eyes = s.eyes ∧
    (s.takeReply e r).surveyed = s.surveyed ∧ (s.takeReply e r).surveys = s.surveys ∧ (s.takeReply e r).tokens = s.tokens ∧
    (s.takeReply e r).motion = s.motion ∧ (s.takeReply e r).motionOut = s.motionOut ∧ (s.takeReply e r).audio = s.audio ∧
    (s.takeReply e r).power = s.power ∧ (s.takeReply e r).views = s.views ∧ (s.takeReply e r).balance = s.balance ∧
    (s.takeReply e r).pulses = s.pulses ∧ (s.takeReply e r).service = s.service ∧ (s.takeReply e r).pending = s.pending := by
  unfold State.takeReply
  dsimp only
  (repeat' split) <;> simp

/-! #### Picture slices -/

/-- The port's answer changes the record alone (R90). -/
@[simp] theorem State.answerSlice_keeps (e : Eye) (a : SliceAnswer) :
    (s.answerSlice e a).start = s.start ∧ (s.answerSlice e a).cause = s.cause ∧ (s.answerSlice e a).station = s.station ∧
    (s.answerSlice e a).sup = s.sup ∧ (s.answerSlice e a).srec = s.srec ∧ (s.answerSlice e a).cfg = s.cfg ∧
    (s.answerSlice e a).settledRoles = s.settledRoles ∧ (s.answerSlice e a).farNeighbour = s.farNeighbour ∧
    (s.answerSlice e a).lateSeen = s.lateSeen ∧ (s.answerSlice e a).localSlot = s.localSlot ∧
    (s.answerSlice e a).clock = s.clock ∧ (s.answerSlice e a).pins = s.pins ∧ (s.answerSlice e a).rx = s.rx ∧
    (s.answerSlice e a).tx = s.tx ∧ (s.answerSlice e a).stations = s.stations ∧ (s.answerSlice e a).dst = s.dst ∧
    (s.answerSlice e a).seqs = s.seqs ∧ (s.answerSlice e a).counters = s.counters ∧ (s.answerSlice e a).eyes = s.eyes ∧
    (s.answerSlice e a).surveyed = s.surveyed ∧ (s.answerSlice e a).surveys = s.surveys ∧
    (s.answerSlice e a).tokens = s.tokens ∧ (s.answerSlice e a).motion = s.motion ∧
    (s.answerSlice e a).motionOut = s.motionOut ∧ (s.answerSlice e a).audio = s.audio ∧ (s.answerSlice e a).power = s.power ∧
    (s.answerSlice e a).views = s.views ∧ (s.answerSlice e a).balance = s.balance ∧ (s.answerSlice e a).notices = s.notices ∧
    (s.answerSlice e a).pulses = s.pulses ∧ (s.answerSlice e a).service = s.service ∧
    (s.answerSlice e a).pending = s.pending := by
  simp [State.answerSlice]

/-- The idle reset changes what a rate changes (R85). -/
@[simp] theorem State.idleReset_keeps (e : Eye) :
    (s.idleReset e).start = s.start ∧ (s.idleReset e).cause = s.cause ∧ (s.idleReset e).station = s.station ∧
    (s.idleReset e).sup = s.sup ∧ (s.idleReset e).srec = s.srec ∧ (s.idleReset e).cfg = s.cfg ∧
    (s.idleReset e).settledRoles = s.settledRoles ∧ (s.idleReset e).farNeighbour = s.farNeighbour ∧
    (s.idleReset e).lateSeen = s.lateSeen ∧ (s.idleReset e).localSlot = s.localSlot ∧ (s.idleReset e).clock = s.clock ∧
    (s.idleReset e).pins = s.pins ∧ (s.idleReset e).rx = s.rx ∧ (s.idleReset e).stations = s.stations ∧
    (s.idleReset e).dst = s.dst ∧ (s.idleReset e).seqs = s.seqs ∧ (s.idleReset e).counters = s.counters ∧
    (s.idleReset e).eyes = s.eyes ∧ (s.idleReset e).surveyed = s.surveyed ∧ (s.idleReset e).surveys = s.surveys ∧
    (s.idleReset e).tokens = s.tokens ∧ (s.idleReset e).motion = s.motion ∧ (s.idleReset e).motionOut = s.motionOut ∧
    (s.idleReset e).audio = s.audio ∧ (s.idleReset e).power = s.power ∧ (s.idleReset e).views = s.views ∧
    (s.idleReset e).balance = s.balance ∧ (s.idleReset e).pulses = s.pulses ∧ (s.idleReset e).service = s.service ∧
    (s.idleReset e).pending = s.pending := by
  unfold State.idleReset
  dsimp only
  (repeat' split) <;> simp

/-- Purged slices leave the record and are counted (R96, R97). -/
@[simp] theorem State.leaveQueue_keeps (e : Eye) (q : List SliceRec) :
    (s.leaveQueue e q).start = s.start ∧ (s.leaveQueue e q).cause = s.cause ∧ (s.leaveQueue e q).station = s.station ∧
    (s.leaveQueue e q).sup = s.sup ∧ (s.leaveQueue e q).srec = s.srec ∧ (s.leaveQueue e q).cfg = s.cfg ∧
    (s.leaveQueue e q).settledRoles = s.settledRoles ∧ (s.leaveQueue e q).farNeighbour = s.farNeighbour ∧
    (s.leaveQueue e q).lateSeen = s.lateSeen ∧ (s.leaveQueue e q).localSlot = s.localSlot ∧
    (s.leaveQueue e q).clock = s.clock ∧ (s.leaveQueue e q).pins = s.pins ∧ (s.leaveQueue e q).rx = s.rx ∧
    (s.leaveQueue e q).tx = s.tx ∧ (s.leaveQueue e q).stations = s.stations ∧ (s.leaveQueue e q).dst = s.dst ∧
    (s.leaveQueue e q).seqs = s.seqs ∧ (s.leaveQueue e q).eyes = s.eyes ∧ (s.leaveQueue e q).surveyed = s.surveyed ∧
    (s.leaveQueue e q).surveys = s.surveys ∧ (s.leaveQueue e q).tokens = s.tokens ∧ (s.leaveQueue e q).motion = s.motion ∧
    (s.leaveQueue e q).motionOut = s.motionOut ∧ (s.leaveQueue e q).audio = s.audio ∧ (s.leaveQueue e q).power = s.power ∧
    (s.leaveQueue e q).views = s.views ∧ (s.leaveQueue e q).balance = s.balance ∧ (s.leaveQueue e q).notices = s.notices ∧
    (s.leaveQueue e q).pulses = s.pulses ∧ (s.leaveQueue e q).service = s.service ∧
    (s.leaveQueue e q).pending = s.pending := by
  simp [State.leaveQueue]

/-- The supersede purge changes the record and its counter (R96). -/
@[simp] theorem State.supersede_keeps (e : Eye) (p : Num8) :
    (s.supersede e p).start = s.start ∧ (s.supersede e p).cause = s.cause ∧ (s.supersede e p).station = s.station ∧
    (s.supersede e p).sup = s.sup ∧ (s.supersede e p).srec = s.srec ∧ (s.supersede e p).cfg = s.cfg ∧
    (s.supersede e p).settledRoles = s.settledRoles ∧ (s.supersede e p).farNeighbour = s.farNeighbour ∧
    (s.supersede e p).lateSeen = s.lateSeen ∧ (s.supersede e p).localSlot = s.localSlot ∧ (s.supersede e p).clock = s.clock ∧
    (s.supersede e p).pins = s.pins ∧ (s.supersede e p).rx = s.rx ∧ (s.supersede e p).tx = s.tx ∧
    (s.supersede e p).stations = s.stations ∧ (s.supersede e p).dst = s.dst ∧ (s.supersede e p).seqs = s.seqs ∧
    (s.supersede e p).eyes = s.eyes ∧ (s.supersede e p).surveyed = s.surveyed ∧ (s.supersede e p).surveys = s.surveys ∧
    (s.supersede e p).tokens = s.tokens ∧ (s.supersede e p).motion = s.motion ∧ (s.supersede e p).motionOut = s.motionOut ∧
    (s.supersede e p).audio = s.audio ∧ (s.supersede e p).power = s.power ∧ (s.supersede e p).views = s.views ∧
    (s.supersede e p).balance = s.balance ∧ (s.supersede e p).notices = s.notices ∧ (s.supersede e p).pulses = s.pulses ∧
    (s.supersede e p).service = s.service ∧ (s.supersede e p).pending = s.pending := by
  unfold State.supersede
  dsimp only
  (repeat' split) <;> simp

/-- An accepted slice changes the record, and what a queued probe changes (R49, R69). -/
@[simp] theorem State.acceptSlice_keeps (e : Eye) (r : SliceRec) :
    (s.acceptSlice e r).start = s.start ∧ (s.acceptSlice e r).cause = s.cause ∧ (s.acceptSlice e r).station = s.station ∧
    (s.acceptSlice e r).sup = s.sup ∧ (s.acceptSlice e r).srec = s.srec ∧ (s.acceptSlice e r).cfg = s.cfg ∧
    (s.acceptSlice e r).settledRoles = s.settledRoles ∧ (s.acceptSlice e r).farNeighbour = s.farNeighbour ∧
    (s.acceptSlice e r).lateSeen = s.lateSeen ∧ (s.acceptSlice e r).localSlot = s.localSlot ∧
    (s.acceptSlice e r).clock = s.clock ∧ (s.acceptSlice e r).pins = s.pins ∧ (s.acceptSlice e r).rx = s.rx ∧
    (s.acceptSlice e r).stations = s.stations ∧ (s.acceptSlice e r).dst = s.dst ∧ (s.acceptSlice e r).seqs = s.seqs ∧
    (s.acceptSlice e r).counters = s.counters ∧ (s.acceptSlice e r).eyes = s.eyes ∧
    (s.acceptSlice e r).surveyed = s.surveyed ∧ (s.acceptSlice e r).surveys = s.surveys ∧
    (s.acceptSlice e r).tokens = s.tokens ∧ (s.acceptSlice e r).motion = s.motion ∧
    (s.acceptSlice e r).motionOut = s.motionOut ∧ (s.acceptSlice e r).audio = s.audio ∧ (s.acceptSlice e r).power = s.power ∧
    (s.acceptSlice e r).views = s.views ∧ (s.acceptSlice e r).balance = s.balance ∧ (s.acceptSlice e r).pulses = s.pulses ∧
    (s.acceptSlice e r).service = s.service ∧ (s.acceptSlice e r).pending = s.pending := by
  unfold State.acceptSlice
  dsimp only
  (repeat' split) <;> simp

/-- The entry policy changes the record and its counters, and what a queued probe changes (R94 to R97). -/
@[simp] theorem State.entryPolicy_keeps (e : Eye) (r : SliceRec) :
    (s.entryPolicy e r).start = s.start ∧ (s.entryPolicy e r).cause = s.cause ∧ (s.entryPolicy e r).station = s.station ∧
    (s.entryPolicy e r).sup = s.sup ∧ (s.entryPolicy e r).srec = s.srec ∧ (s.entryPolicy e r).cfg = s.cfg ∧
    (s.entryPolicy e r).settledRoles = s.settledRoles ∧ (s.entryPolicy e r).farNeighbour = s.farNeighbour ∧
    (s.entryPolicy e r).lateSeen = s.lateSeen ∧ (s.entryPolicy e r).localSlot = s.localSlot ∧
    (s.entryPolicy e r).clock = s.clock ∧ (s.entryPolicy e r).pins = s.pins ∧ (s.entryPolicy e r).rx = s.rx ∧
    (s.entryPolicy e r).stations = s.stations ∧ (s.entryPolicy e r).dst = s.dst ∧ (s.entryPolicy e r).seqs = s.seqs ∧
    (s.entryPolicy e r).eyes = s.eyes ∧ (s.entryPolicy e r).surveyed = s.surveyed ∧ (s.entryPolicy e r).surveys = s.surveys ∧
    (s.entryPolicy e r).tokens = s.tokens ∧ (s.entryPolicy e r).motion = s.motion ∧
    (s.entryPolicy e r).motionOut = s.motionOut ∧ (s.entryPolicy e r).audio = s.audio ∧ (s.entryPolicy e r).power = s.power ∧
    (s.entryPolicy e r).views = s.views ∧ (s.entryPolicy e r).balance = s.balance ∧ (s.entryPolicy e r).pulses = s.pulses ∧
    (s.entryPolicy e r).service = s.service ∧ (s.entryPolicy e r).pending = s.pending := by
  unfold State.entryPolicy
  dsimp only
  (repeat' split) <;> simp

/-- A release changes the eye's state and its counter (R104, R105). -/
@[simp] theorem State.considerRelease_keeps (e : Eye) :
    (s.considerRelease e).start = s.start ∧ (s.considerRelease e).cause = s.cause ∧
    (s.considerRelease e).station = s.station ∧ (s.considerRelease e).sup = s.sup ∧ (s.considerRelease e).srec = s.srec ∧
    (s.considerRelease e).cfg = s.cfg ∧ (s.considerRelease e).settledRoles = s.settledRoles ∧
    (s.considerRelease e).farNeighbour = s.farNeighbour ∧ (s.considerRelease e).lateSeen = s.lateSeen ∧
    (s.considerRelease e).localSlot = s.localSlot ∧ (s.considerRelease e).clock = s.clock ∧
    (s.considerRelease e).pins = s.pins ∧ (s.considerRelease e).rx = s.rx ∧ (s.considerRelease e).tx = s.tx ∧
    (s.considerRelease e).stations = s.stations ∧ (s.considerRelease e).dst = s.dst ∧ (s.considerRelease e).seqs = s.seqs ∧
    (s.considerRelease e).paced = s.paced ∧ (s.considerRelease e).surveyed = s.surveyed ∧
    (s.considerRelease e).surveys = s.surveys ∧ (s.considerRelease e).tokens = s.tokens ∧
    (s.considerRelease e).motion = s.motion ∧ (s.considerRelease e).motionOut = s.motionOut ∧
    (s.considerRelease e).audio = s.audio ∧ (s.considerRelease e).power = s.power ∧ (s.considerRelease e).views = s.views ∧
    (s.considerRelease e).balance = s.balance ∧ (s.considerRelease e).notices = s.notices ∧
    (s.considerRelease e).pulses = s.pulses ∧ (s.considerRelease e).service = s.service ∧
    (s.considerRelease e).pending = s.pending := by
  unfold State.considerRelease
  (repeat' split) <;> simp

/-- A break changes the eye's state and its counter (R102). -/
@[simp] theorem State.breakEye_keeps (e : Eye) :
    (s.breakEye e).start = s.start ∧ (s.breakEye e).cause = s.cause ∧ (s.breakEye e).station = s.station ∧
    (s.breakEye e).sup = s.sup ∧ (s.breakEye e).srec = s.srec ∧ (s.breakEye e).cfg = s.cfg ∧
    (s.breakEye e).settledRoles = s.settledRoles ∧ (s.breakEye e).farNeighbour = s.farNeighbour ∧
    (s.breakEye e).lateSeen = s.lateSeen ∧ (s.breakEye e).localSlot = s.localSlot ∧ (s.breakEye e).clock = s.clock ∧
    (s.breakEye e).pins = s.pins ∧ (s.breakEye e).rx = s.rx ∧ (s.breakEye e).tx = s.tx ∧
    (s.breakEye e).stations = s.stations ∧ (s.breakEye e).dst = s.dst ∧ (s.breakEye e).seqs = s.seqs ∧
    (s.breakEye e).paced = s.paced ∧ (s.breakEye e).surveyed = s.surveyed ∧ (s.breakEye e).surveys = s.surveys ∧
    (s.breakEye e).tokens = s.tokens ∧ (s.breakEye e).motion = s.motion ∧ (s.breakEye e).motionOut = s.motionOut ∧
    (s.breakEye e).audio = s.audio ∧ (s.breakEye e).power = s.power ∧ (s.breakEye e).views = s.views ∧
    (s.breakEye e).balance = s.balance ∧ (s.breakEye e).notices = s.notices ∧ (s.breakEye e).pulses = s.pulses ∧
    (s.breakEye e).service = s.service ∧ (s.breakEye e).pending = s.pending := by
  unfold State.breakEye
  (repeat' split) <;> simp

/-- A first cell changes the eye's state and its counters (R100). -/
@[simp] theorem State.judgeFirst_keeps (e : Eye) (h : SliceHead) (c : Cell) :
    (s.judgeFirst e h c).start = s.start ∧ (s.judgeFirst e h c).cause = s.cause ∧ (s.judgeFirst e h c).station = s.station ∧
    (s.judgeFirst e h c).sup = s.sup ∧ (s.judgeFirst e h c).srec = s.srec ∧ (s.judgeFirst e h c).cfg = s.cfg ∧
    (s.judgeFirst e h c).settledRoles = s.settledRoles ∧ (s.judgeFirst e h c).farNeighbour = s.farNeighbour ∧
    (s.judgeFirst e h c).lateSeen = s.lateSeen ∧ (s.judgeFirst e h c).localSlot = s.localSlot ∧
    (s.judgeFirst e h c).clock = s.clock ∧ (s.judgeFirst e h c).pins = s.pins ∧ (s.judgeFirst e h c).rx = s.rx ∧
    (s.judgeFirst e h c).tx = s.tx ∧ (s.judgeFirst e h c).stations = s.stations ∧ (s.judgeFirst e h c).dst = s.dst ∧
    (s.judgeFirst e h c).seqs = s.seqs ∧ (s.judgeFirst e h c).paced = s.paced ∧ (s.judgeFirst e h c).surveyed = s.surveyed ∧
    (s.judgeFirst e h c).surveys = s.surveys ∧ (s.judgeFirst e h c).tokens = s.tokens ∧
    (s.judgeFirst e h c).motion = s.motion ∧ (s.judgeFirst e h c).motionOut = s.motionOut ∧
    (s.judgeFirst e h c).audio = s.audio ∧ (s.judgeFirst e h c).power = s.power ∧ (s.judgeFirst e h c).views = s.views ∧
    (s.judgeFirst e h c).balance = s.balance ∧ (s.judgeFirst e h c).notices = s.notices ∧
    (s.judgeFirst e h c).pulses = s.pulses ∧ (s.judgeFirst e h c).service = s.service ∧
    (s.judgeFirst e h c).pending = s.pending := by
  unfold State.judgeFirst
  dsimp only
  (repeat' split) <;> simp

/-- A next cell changes the eye's state and its counters (R101). -/
@[simp] theorem State.nextCell_keeps (e : Eye) (c : Cell) :
    (s.nextCell e c).start = s.start ∧ (s.nextCell e c).cause = s.cause ∧ (s.nextCell e c).station = s.station ∧
    (s.nextCell e c).sup = s.sup ∧ (s.nextCell e c).srec = s.srec ∧ (s.nextCell e c).cfg = s.cfg ∧
    (s.nextCell e c).settledRoles = s.settledRoles ∧ (s.nextCell e c).farNeighbour = s.farNeighbour ∧
    (s.nextCell e c).lateSeen = s.lateSeen ∧ (s.nextCell e c).localSlot = s.localSlot ∧ (s.nextCell e c).clock = s.clock ∧
    (s.nextCell e c).pins = s.pins ∧ (s.nextCell e c).rx = s.rx ∧ (s.nextCell e c).tx = s.tx ∧
    (s.nextCell e c).stations = s.stations ∧ (s.nextCell e c).dst = s.dst ∧ (s.nextCell e c).seqs = s.seqs ∧
    (s.nextCell e c).paced = s.paced ∧ (s.nextCell e c).surveyed = s.surveyed ∧ (s.nextCell e c).surveys = s.surveys ∧
    (s.nextCell e c).tokens = s.tokens ∧ (s.nextCell e c).motion = s.motion ∧ (s.nextCell e c).motionOut = s.motionOut ∧
    (s.nextCell e c).audio = s.audio ∧ (s.nextCell e c).power = s.power ∧ (s.nextCell e c).views = s.views ∧
    (s.nextCell e c).balance = s.balance ∧ (s.nextCell e c).notices = s.notices ∧ (s.nextCell e c).pulses = s.pulses ∧
    (s.nextCell e c).service = s.service ∧ (s.nextCell e c).pending = s.pending := by
  simp [State.nextCell]

/-- A start cell changes the eye's state and its counters (R100, R103). -/
@[simp] theorem State.startCell_keeps (e : Eye) (c : Cell) :
    (s.startCell e c).start = s.start ∧ (s.startCell e c).cause = s.cause ∧ (s.startCell e c).station = s.station ∧
    (s.startCell e c).sup = s.sup ∧ (s.startCell e c).srec = s.srec ∧ (s.startCell e c).cfg = s.cfg ∧
    (s.startCell e c).settledRoles = s.settledRoles ∧ (s.startCell e c).farNeighbour = s.farNeighbour ∧
    (s.startCell e c).lateSeen = s.lateSeen ∧ (s.startCell e c).localSlot = s.localSlot ∧ (s.startCell e c).clock = s.clock ∧
    (s.startCell e c).pins = s.pins ∧ (s.startCell e c).rx = s.rx ∧ (s.startCell e c).tx = s.tx ∧
    (s.startCell e c).stations = s.stations ∧ (s.startCell e c).dst = s.dst ∧ (s.startCell e c).seqs = s.seqs ∧
    (s.startCell e c).paced = s.paced ∧ (s.startCell e c).surveyed = s.surveyed ∧ (s.startCell e c).surveys = s.surveys ∧
    (s.startCell e c).tokens = s.tokens ∧ (s.startCell e c).motion = s.motion ∧ (s.startCell e c).motionOut = s.motionOut ∧
    (s.startCell e c).audio = s.audio ∧ (s.startCell e c).power = s.power ∧ (s.startCell e c).views = s.views ∧
    (s.startCell e c).balance = s.balance ∧ (s.startCell e c).notices = s.notices ∧ (s.startCell e c).pulses = s.pulses ∧
    (s.startCell e c).service = s.service ∧ (s.startCell e c).pending = s.pending := by
  unfold State.startCell
  (repeat' split) <;> simp

/-- An END cell changes the eye's state and its counter (R103). -/
@[simp] theorem State.endCell_keeps (e : Eye) :
    (s.endCell e).start = s.start ∧ (s.endCell e).cause = s.cause ∧ (s.endCell e).station = s.station ∧
    (s.endCell e).sup = s.sup ∧ (s.endCell e).srec = s.srec ∧ (s.endCell e).cfg = s.cfg ∧
    (s.endCell e).settledRoles = s.settledRoles ∧ (s.endCell e).farNeighbour = s.farNeighbour ∧
    (s.endCell e).lateSeen = s.lateSeen ∧ (s.endCell e).localSlot = s.localSlot ∧ (s.endCell e).clock = s.clock ∧
    (s.endCell e).pins = s.pins ∧ (s.endCell e).rx = s.rx ∧ (s.endCell e).tx = s.tx ∧ (s.endCell e).stations = s.stations ∧
    (s.endCell e).dst = s.dst ∧ (s.endCell e).seqs = s.seqs ∧ (s.endCell e).paced = s.paced ∧
    (s.endCell e).surveyed = s.surveyed ∧ (s.endCell e).surveys = s.surveys ∧ (s.endCell e).tokens = s.tokens ∧
    (s.endCell e).motion = s.motion ∧ (s.endCell e).motionOut = s.motionOut ∧ (s.endCell e).audio = s.audio ∧
    (s.endCell e).power = s.power ∧ (s.endCell e).views = s.views ∧ (s.endCell e).balance = s.balance ∧
    (s.endCell e).notices = s.notices ∧ (s.endCell e).pulses = s.pulses ∧ (s.endCell e).service = s.service ∧
    (s.endCell e).pending = s.pending := by
  unfold State.endCell
  (repeat' split) <;> simp

/-- A picture cell changes the eye's state and its counters (R100 to R103). -/
@[simp] theorem State.takePictureCell_keeps (e : Eye) (g : Bool) (c : Cell) :
    (s.takePictureCell e g c).start = s.start ∧ (s.takePictureCell e g c).cause = s.cause ∧
    (s.takePictureCell e g c).station = s.station ∧ (s.takePictureCell e g c).sup = s.sup ∧
    (s.takePictureCell e g c).srec = s.srec ∧ (s.takePictureCell e g c).cfg = s.cfg ∧
    (s.takePictureCell e g c).settledRoles = s.settledRoles ∧ (s.takePictureCell e g c).farNeighbour = s.farNeighbour ∧
    (s.takePictureCell e g c).lateSeen = s.lateSeen ∧ (s.takePictureCell e g c).localSlot = s.localSlot ∧
    (s.takePictureCell e g c).clock = s.clock ∧ (s.takePictureCell e g c).pins = s.pins ∧
    (s.takePictureCell e g c).rx = s.rx ∧ (s.takePictureCell e g c).tx = s.tx ∧
    (s.takePictureCell e g c).stations = s.stations ∧ (s.takePictureCell e g c).dst = s.dst ∧
    (s.takePictureCell e g c).seqs = s.seqs ∧ (s.takePictureCell e g c).paced = s.paced ∧
    (s.takePictureCell e g c).surveyed = s.surveyed ∧ (s.takePictureCell e g c).surveys = s.surveys ∧
    (s.takePictureCell e g c).tokens = s.tokens ∧ (s.takePictureCell e g c).motion = s.motion ∧
    (s.takePictureCell e g c).motionOut = s.motionOut ∧ (s.takePictureCell e g c).audio = s.audio ∧
    (s.takePictureCell e g c).power = s.power ∧ (s.takePictureCell e g c).views = s.views ∧
    (s.takePictureCell e g c).balance = s.balance ∧ (s.takePictureCell e g c).notices = s.notices ∧
    (s.takePictureCell e g c).pulses = s.pulses ∧ (s.takePictureCell e g c).service = s.service ∧
    (s.takePictureCell e g c).pending = s.pending := by
  unfold State.takePictureCell
  dsimp only
  (repeat' split) <;> simp

/-! #### Surveys and motion -/

/-- An attempt changes its record, the token and a FIFO (R116). -/
@[simp] theorem State.beginAttempt_keeps (t : Station) :
    (s.beginAttempt t).start = s.start ∧ (s.beginAttempt t).cause = s.cause ∧ (s.beginAttempt t).station = s.station ∧
    (s.beginAttempt t).sup = s.sup ∧ (s.beginAttempt t).srec = s.srec ∧ (s.beginAttempt t).cfg = s.cfg ∧
    (s.beginAttempt t).settledRoles = s.settledRoles ∧ (s.beginAttempt t).farNeighbour = s.farNeighbour ∧
    (s.beginAttempt t).lateSeen = s.lateSeen ∧ (s.beginAttempt t).localSlot = s.localSlot ∧
    (s.beginAttempt t).clock = s.clock ∧ (s.beginAttempt t).pins = s.pins ∧ (s.beginAttempt t).rx = s.rx ∧
    (s.beginAttempt t).stations = s.stations ∧ (s.beginAttempt t).dst = s.dst ∧ (s.beginAttempt t).seqs = s.seqs ∧
    (s.beginAttempt t).counters = s.counters ∧ (s.beginAttempt t).paced = s.paced ∧ (s.beginAttempt t).eyes = s.eyes ∧
    (s.beginAttempt t).surveyed = s.surveyed ∧ (s.beginAttempt t).motion = s.motion ∧
    (s.beginAttempt t).motionOut = s.motionOut ∧ (s.beginAttempt t).audio = s.audio ∧ (s.beginAttempt t).power = s.power ∧
    (s.beginAttempt t).views = s.views ∧ (s.beginAttempt t).balance = s.balance ∧ (s.beginAttempt t).notices = s.notices ∧
    (s.beginAttempt t).pulses = s.pulses ∧ (s.beginAttempt t).service = s.service ∧
    (s.beginAttempt t).pending = s.pending := by
  simp [State.beginAttempt]

/-- A survey's start changes what an attempt changes (R115). -/
@[simp] theorem State.startSurvey_keeps (t : Station) :
    (s.startSurvey t).start = s.start ∧ (s.startSurvey t).cause = s.cause ∧ (s.startSurvey t).station = s.station ∧
    (s.startSurvey t).sup = s.sup ∧ (s.startSurvey t).srec = s.srec ∧ (s.startSurvey t).cfg = s.cfg ∧
    (s.startSurvey t).settledRoles = s.settledRoles ∧ (s.startSurvey t).farNeighbour = s.farNeighbour ∧
    (s.startSurvey t).lateSeen = s.lateSeen ∧ (s.startSurvey t).localSlot = s.localSlot ∧ (s.startSurvey t).clock = s.clock ∧
    (s.startSurvey t).pins = s.pins ∧ (s.startSurvey t).rx = s.rx ∧ (s.startSurvey t).stations = s.stations ∧
    (s.startSurvey t).dst = s.dst ∧ (s.startSurvey t).seqs = s.seqs ∧ (s.startSurvey t).counters = s.counters ∧
    (s.startSurvey t).paced = s.paced ∧ (s.startSurvey t).eyes = s.eyes ∧ (s.startSurvey t).surveyed = s.surveyed ∧
    (s.startSurvey t).motion = s.motion ∧ (s.startSurvey t).motionOut = s.motionOut ∧ (s.startSurvey t).audio = s.audio ∧
    (s.startSurvey t).power = s.power ∧ (s.startSurvey t).views = s.views ∧ (s.startSurvey t).balance = s.balance ∧
    (s.startSurvey t).notices = s.notices ∧ (s.startSurvey t).pulses = s.pulses ∧ (s.startSurvey t).service = s.service ∧
    (s.startSurvey t).pending = s.pending := by
  unfold State.startSurvey
  (repeat' split) <;> simp

/-- A failed attempt changes what an attempt changes, or posts (R116). -/
@[simp] theorem State.failAttempt_keeps (t : Station) :
    (s.failAttempt t).start = s.start ∧ (s.failAttempt t).cause = s.cause ∧ (s.failAttempt t).station = s.station ∧
    (s.failAttempt t).sup = s.sup ∧ (s.failAttempt t).srec = s.srec ∧ (s.failAttempt t).cfg = s.cfg ∧
    (s.failAttempt t).settledRoles = s.settledRoles ∧ (s.failAttempt t).farNeighbour = s.farNeighbour ∧
    (s.failAttempt t).lateSeen = s.lateSeen ∧ (s.failAttempt t).localSlot = s.localSlot ∧ (s.failAttempt t).clock = s.clock ∧
    (s.failAttempt t).pins = s.pins ∧ (s.failAttempt t).rx = s.rx ∧ (s.failAttempt t).stations = s.stations ∧
    (s.failAttempt t).dst = s.dst ∧ (s.failAttempt t).seqs = s.seqs ∧ (s.failAttempt t).counters = s.counters ∧
    (s.failAttempt t).paced = s.paced ∧ (s.failAttempt t).eyes = s.eyes ∧ (s.failAttempt t).surveyed = s.surveyed ∧
    (s.failAttempt t).motion = s.motion ∧ (s.failAttempt t).motionOut = s.motionOut ∧ (s.failAttempt t).audio = s.audio ∧
    (s.failAttempt t).power = s.power ∧ (s.failAttempt t).views = s.views ∧ (s.failAttempt t).balance = s.balance ∧
    (s.failAttempt t).pulses = s.pulses ∧ (s.failAttempt t).service = s.service ∧ (s.failAttempt t).pending = s.pending := by
  unfold State.failAttempt
  dsimp only
  (repeat' split) <;> simp

/-- As a failed attempt (R116). -/
@[simp] theorem State.surveyTimeout_keeps (t : Station) :
    (s.surveyTimeout t).start = s.start ∧ (s.surveyTimeout t).cause = s.cause ∧ (s.surveyTimeout t).station = s.station ∧
    (s.surveyTimeout t).sup = s.sup ∧ (s.surveyTimeout t).srec = s.srec ∧ (s.surveyTimeout t).cfg = s.cfg ∧
    (s.surveyTimeout t).settledRoles = s.settledRoles ∧ (s.surveyTimeout t).farNeighbour = s.farNeighbour ∧
    (s.surveyTimeout t).lateSeen = s.lateSeen ∧ (s.surveyTimeout t).localSlot = s.localSlot ∧
    (s.surveyTimeout t).clock = s.clock ∧ (s.surveyTimeout t).pins = s.pins ∧ (s.surveyTimeout t).rx = s.rx ∧
    (s.surveyTimeout t).stations = s.stations ∧ (s.surveyTimeout t).dst = s.dst ∧ (s.surveyTimeout t).seqs = s.seqs ∧
    (s.surveyTimeout t).counters = s.counters ∧ (s.surveyTimeout t).paced = s.paced ∧ (s.surveyTimeout t).eyes = s.eyes ∧
    (s.surveyTimeout t).surveyed = s.surveyed ∧ (s.surveyTimeout t).motion = s.motion ∧
    (s.surveyTimeout t).motionOut = s.motionOut ∧ (s.surveyTimeout t).audio = s.audio ∧ (s.surveyTimeout t).power = s.power ∧
    (s.surveyTimeout t).views = s.views ∧ (s.surveyTimeout t).balance = s.balance ∧ (s.surveyTimeout t).pulses = s.pulses ∧
    (s.surveyTimeout t).service = s.service ∧ (s.surveyTimeout t).pending = s.pending := by
  unfold State.surveyTimeout
  (repeat' split) <;> simp

/-- As a failed attempt (R116). -/
@[simp] theorem State.echoDiscarded_keeps (t : Station) :
    (s.echoDiscarded t).start = s.start ∧ (s.echoDiscarded t).cause = s.cause ∧ (s.echoDiscarded t).station = s.station ∧
    (s.echoDiscarded t).sup = s.sup ∧ (s.echoDiscarded t).srec = s.srec ∧ (s.echoDiscarded t).cfg = s.cfg ∧
    (s.echoDiscarded t).settledRoles = s.settledRoles ∧ (s.echoDiscarded t).farNeighbour = s.farNeighbour ∧
    (s.echoDiscarded t).lateSeen = s.lateSeen ∧ (s.echoDiscarded t).localSlot = s.localSlot ∧
    (s.echoDiscarded t).clock = s.clock ∧ (s.echoDiscarded t).pins = s.pins ∧ (s.echoDiscarded t).rx = s.rx ∧
    (s.echoDiscarded t).stations = s.stations ∧ (s.echoDiscarded t).dst = s.dst ∧ (s.echoDiscarded t).seqs = s.seqs ∧
    (s.echoDiscarded t).counters = s.counters ∧ (s.echoDiscarded t).paced = s.paced ∧ (s.echoDiscarded t).eyes = s.eyes ∧
    (s.echoDiscarded t).surveyed = s.surveyed ∧ (s.echoDiscarded t).motion = s.motion ∧
    (s.echoDiscarded t).motionOut = s.motionOut ∧ (s.echoDiscarded t).audio = s.audio ∧ (s.echoDiscarded t).power = s.power ∧
    (s.echoDiscarded t).views = s.views ∧ (s.echoDiscarded t).balance = s.balance ∧ (s.echoDiscarded t).pulses = s.pulses ∧
    (s.echoDiscarded t).service = s.service ∧ (s.echoDiscarded t).pending = s.pending := by
  unfold State.echoDiscarded
  (repeat' split) <;> simp

/-- A boundary changes the record, or as a failed attempt (R116). -/
@[simp] theorem State.surveyBoundary_keeps (t : Station) :
    (s.surveyBoundary t).start = s.start ∧ (s.surveyBoundary t).cause = s.cause ∧ (s.surveyBoundary t).station = s.station ∧
    (s.surveyBoundary t).sup = s.sup ∧ (s.surveyBoundary t).srec = s.srec ∧ (s.surveyBoundary t).cfg = s.cfg ∧
    (s.surveyBoundary t).settledRoles = s.settledRoles ∧ (s.surveyBoundary t).farNeighbour = s.farNeighbour ∧
    (s.surveyBoundary t).lateSeen = s.lateSeen ∧ (s.surveyBoundary t).localSlot = s.localSlot ∧
    (s.surveyBoundary t).clock = s.clock ∧ (s.surveyBoundary t).pins = s.pins ∧ (s.surveyBoundary t).rx = s.rx ∧
    (s.surveyBoundary t).stations = s.stations ∧ (s.surveyBoundary t).dst = s.dst ∧ (s.surveyBoundary t).seqs = s.seqs ∧
    (s.surveyBoundary t).counters = s.counters ∧ (s.surveyBoundary t).paced = s.paced ∧ (s.surveyBoundary t).eyes = s.eyes ∧
    (s.surveyBoundary t).surveyed = s.surveyed ∧ (s.surveyBoundary t).motion = s.motion ∧
    (s.surveyBoundary t).motionOut = s.motionOut ∧ (s.surveyBoundary t).audio = s.audio ∧
    (s.surveyBoundary t).power = s.power ∧ (s.surveyBoundary t).views = s.views ∧ (s.surveyBoundary t).balance = s.balance ∧
    (s.surveyBoundary t).pulses = s.pulses ∧ (s.surveyBoundary t).service = s.service ∧
    (s.surveyBoundary t).pending = s.pending := by
  unfold State.surveyBoundary
  dsimp only
  (repeat' split) <;> simp

/-- RESURVEY changes a FIFO alone (R118). -/
@[simp] theorem State.offerResurvey_keeps :
    (s.offerResurvey).start = s.start ∧ (s.offerResurvey).cause = s.cause ∧ (s.offerResurvey).station = s.station ∧
    (s.offerResurvey).sup = s.sup ∧ (s.offerResurvey).srec = s.srec ∧ (s.offerResurvey).cfg = s.cfg ∧
    (s.offerResurvey).settledRoles = s.settledRoles ∧ (s.offerResurvey).farNeighbour = s.farNeighbour ∧
    (s.offerResurvey).lateSeen = s.lateSeen ∧ (s.offerResurvey).localSlot = s.localSlot ∧ (s.offerResurvey).clock = s.clock ∧
    (s.offerResurvey).pins = s.pins ∧ (s.offerResurvey).rx = s.rx ∧ (s.offerResurvey).stations = s.stations ∧
    (s.offerResurvey).dst = s.dst ∧ (s.offerResurvey).seqs = s.seqs ∧ (s.offerResurvey).counters = s.counters ∧
    (s.offerResurvey).paced = s.paced ∧ (s.offerResurvey).eyes = s.eyes ∧ (s.offerResurvey).surveyed = s.surveyed ∧
    (s.offerResurvey).surveys = s.surveys ∧ (s.offerResurvey).tokens = s.tokens ∧ (s.offerResurvey).motion = s.motion ∧
    (s.offerResurvey).motionOut = s.motionOut ∧ (s.offerResurvey).audio = s.audio ∧ (s.offerResurvey).power = s.power ∧
    (s.offerResurvey).views = s.views ∧ (s.offerResurvey).balance = s.balance ∧ (s.offerResurvey).notices = s.notices ∧
    (s.offerResurvey).pulses = s.pulses ∧ (s.offerResurvey).service = s.service ∧ (s.offerResurvey).pending = s.pending := by
  unfold State.offerResurvey
  (repeat' split) <;> simp

/-- The wait's end changes the surveyed side and a FIFO (R118). -/
@[simp] theorem State.delayWaitExpiry_keeps :
    (s.delayWaitExpiry).start = s.start ∧ (s.delayWaitExpiry).cause = s.cause ∧ (s.delayWaitExpiry).station = s.station ∧
    (s.delayWaitExpiry).sup = s.sup ∧ (s.delayWaitExpiry).srec = s.srec ∧ (s.delayWaitExpiry).cfg = s.cfg ∧
    (s.delayWaitExpiry).settledRoles = s.settledRoles ∧ (s.delayWaitExpiry).farNeighbour = s.farNeighbour ∧
    (s.delayWaitExpiry).lateSeen = s.lateSeen ∧ (s.delayWaitExpiry).localSlot = s.localSlot ∧
    (s.delayWaitExpiry).clock = s.clock ∧ (s.delayWaitExpiry).pins = s.pins ∧ (s.delayWaitExpiry).rx = s.rx ∧
    (s.delayWaitExpiry).stations = s.stations ∧ (s.delayWaitExpiry).dst = s.dst ∧ (s.delayWaitExpiry).seqs = s.seqs ∧
    (s.delayWaitExpiry).counters = s.counters ∧ (s.delayWaitExpiry).paced = s.paced ∧ (s.delayWaitExpiry).eyes = s.eyes ∧
    (s.delayWaitExpiry).surveys = s.surveys ∧ (s.delayWaitExpiry).tokens = s.tokens ∧ (s.delayWaitExpiry).motion = s.motion ∧
    (s.delayWaitExpiry).motionOut = s.motionOut ∧ (s.delayWaitExpiry).audio = s.audio ∧ (s.delayWaitExpiry).power = s.power ∧
    (s.delayWaitExpiry).views = s.views ∧ (s.delayWaitExpiry).balance = s.balance ∧ (s.delayWaitExpiry).notices = s.notices ∧
    (s.delayWaitExpiry).pulses = s.pulses ∧ (s.delayWaitExpiry).service = s.service ∧
    (s.delayWaitExpiry).pending = s.pending := by
  unfold State.delayWaitExpiry
  (repeat' split) <;> simp

/-- A boundary changes the surveyed side and a FIFO (R118). -/
@[simp] theorem State.delayBoundary_keeps :
    (s.delayBoundary).start = s.start ∧ (s.delayBoundary).cause = s.cause ∧ (s.delayBoundary).station = s.station ∧
    (s.delayBoundary).sup = s.sup ∧ (s.delayBoundary).srec = s.srec ∧ (s.delayBoundary).cfg = s.cfg ∧
    (s.delayBoundary).settledRoles = s.settledRoles ∧ (s.delayBoundary).farNeighbour = s.farNeighbour ∧
    (s.delayBoundary).lateSeen = s.lateSeen ∧ (s.delayBoundary).localSlot = s.localSlot ∧ (s.delayBoundary).clock = s.clock ∧
    (s.delayBoundary).pins = s.pins ∧ (s.delayBoundary).rx = s.rx ∧ (s.delayBoundary).stations = s.stations ∧
    (s.delayBoundary).dst = s.dst ∧ (s.delayBoundary).seqs = s.seqs ∧ (s.delayBoundary).counters = s.counters ∧
    (s.delayBoundary).paced = s.paced ∧ (s.delayBoundary).eyes = s.eyes ∧ (s.delayBoundary).surveys = s.surveys ∧
    (s.delayBoundary).tokens = s.tokens ∧ (s.delayBoundary).motion = s.motion ∧ (s.delayBoundary).motionOut = s.motionOut ∧
    (s.delayBoundary).audio = s.audio ∧ (s.delayBoundary).power = s.power ∧ (s.delayBoundary).views = s.views ∧
    (s.delayBoundary).balance = s.balance ∧ (s.delayBoundary).notices = s.notices ∧ (s.delayBoundary).pulses = s.pulses ∧
    (s.delayBoundary).service = s.service ∧ (s.delayBoundary).pending = s.pending := by
  unfold State.delayBoundary
  dsimp only
  (repeat' split) <;> simp

/-- A wear change changes the motion unit, and by the wear link the domains (R122, R123). -/
@[simp] theorem State.wearTo_keeps (w : Bool) :
    (s.wearTo w).start = s.start ∧ (s.wearTo w).cause = s.cause ∧ (s.wearTo w).station = s.station ∧
    (s.wearTo w).sup = s.sup ∧ (s.wearTo w).srec = s.srec ∧ (s.wearTo w).cfg = s.cfg ∧
    (s.wearTo w).settledRoles = s.settledRoles ∧ (s.wearTo w).farNeighbour = s.farNeighbour ∧
    (s.wearTo w).lateSeen = s.lateSeen ∧ (s.wearTo w).localSlot = s.localSlot ∧ (s.wearTo w).clock = s.clock ∧
    (s.wearTo w).pins = s.pins ∧ (s.wearTo w).rx = s.rx ∧ (s.wearTo w).tx = s.tx ∧ (s.wearTo w).stations = s.stations ∧
    (s.wearTo w).seqs = s.seqs ∧ (s.wearTo w).counters = s.counters ∧ (s.wearTo w).paced = s.paced ∧
    (s.wearTo w).surveyed = s.surveyed ∧ (s.wearTo w).surveys = s.surveys ∧ (s.wearTo w).tokens = s.tokens ∧
    (s.wearTo w).motionOut = s.motionOut ∧ (s.wearTo w).audio = s.audio ∧ (s.wearTo w).views = s.views ∧
    (s.wearTo w).balance = s.balance ∧ (s.wearTo w).pulses = s.pulses ∧ (s.wearTo w).service = s.service ∧
    (s.wearTo w).pending = s.pending := by
  unfold State.wearTo
  (repeat' split) <;> simp

/-- The move to DOZE changes the motion unit, and by the wear link the domains (R123). -/
@[simp] theorem State.fallAsleep_keeps :
    (s.fallAsleep).start = s.start ∧ (s.fallAsleep).cause = s.cause ∧ (s.fallAsleep).station = s.station ∧
    (s.fallAsleep).sup = s.sup ∧ (s.fallAsleep).srec = s.srec ∧ (s.fallAsleep).cfg = s.cfg ∧
    (s.fallAsleep).settledRoles = s.settledRoles ∧ (s.fallAsleep).farNeighbour = s.farNeighbour ∧
    (s.fallAsleep).lateSeen = s.lateSeen ∧ (s.fallAsleep).localSlot = s.localSlot ∧ (s.fallAsleep).clock = s.clock ∧
    (s.fallAsleep).pins = s.pins ∧ (s.fallAsleep).rx = s.rx ∧ (s.fallAsleep).tx = s.tx ∧
    (s.fallAsleep).stations = s.stations ∧ (s.fallAsleep).seqs = s.seqs ∧ (s.fallAsleep).counters = s.counters ∧
    (s.fallAsleep).paced = s.paced ∧ (s.fallAsleep).surveyed = s.surveyed ∧ (s.fallAsleep).surveys = s.surveys ∧
    (s.fallAsleep).tokens = s.tokens ∧ (s.fallAsleep).motionOut = s.motionOut ∧ (s.fallAsleep).audio = s.audio ∧
    (s.fallAsleep).views = s.views ∧ (s.fallAsleep).balance = s.balance ∧ (s.fallAsleep).pulses = s.pulses ∧
    (s.fallAsleep).service = s.service ∧ (s.fallAsleep).pending = s.pending := by
  unfold State.fallAsleep
  (repeat' split) <;> simp

/-- The move to SAMPLING changes the motion unit and posts (R123). -/
@[simp] theorem State.wakeUp_keeps :
    (s.wakeUp).start = s.start ∧ (s.wakeUp).cause = s.cause ∧ (s.wakeUp).station = s.station ∧ (s.wakeUp).sup = s.sup ∧
    (s.wakeUp).srec = s.srec ∧ (s.wakeUp).cfg = s.cfg ∧ (s.wakeUp).settledRoles = s.settledRoles ∧
    (s.wakeUp).farNeighbour = s.farNeighbour ∧ (s.wakeUp).lateSeen = s.lateSeen ∧ (s.wakeUp).localSlot = s.localSlot ∧
    (s.wakeUp).clock = s.clock ∧ (s.wakeUp).pins = s.pins ∧ (s.wakeUp).rx = s.rx ∧ (s.wakeUp).tx = s.tx ∧
    (s.wakeUp).stations = s.stations ∧ (s.wakeUp).dst = s.dst ∧ (s.wakeUp).seqs = s.seqs ∧ (s.wakeUp).counters = s.counters ∧
    (s.wakeUp).paced = s.paced ∧ (s.wakeUp).eyes = s.eyes ∧ (s.wakeUp).surveyed = s.surveyed ∧
    (s.wakeUp).surveys = s.surveys ∧ (s.wakeUp).tokens = s.tokens ∧ (s.wakeUp).motionOut = s.motionOut ∧
    (s.wakeUp).audio = s.audio ∧ (s.wakeUp).power = s.power ∧ (s.wakeUp).views = s.views ∧ (s.wakeUp).balance = s.balance ∧
    (s.wakeUp).pulses = s.pulses ∧ (s.wakeUp).service = s.service ∧ (s.wakeUp).pending = s.pending := by
  unfold State.wakeUp
  (repeat' split) <;> simp

/-- A boundary changes the records, or as a failed attempt (R116). -/
@[simp] theorem State.surveyBoundaries_keeps :
    (s.surveyBoundaries).start = s.start ∧ (s.surveyBoundaries).cause = s.cause ∧ (s.surveyBoundaries).station = s.station ∧
    (s.surveyBoundaries).sup = s.sup ∧ (s.surveyBoundaries).srec = s.srec ∧ (s.surveyBoundaries).cfg = s.cfg ∧
    (s.surveyBoundaries).settledRoles = s.settledRoles ∧ (s.surveyBoundaries).farNeighbour = s.farNeighbour ∧
    (s.surveyBoundaries).lateSeen = s.lateSeen ∧ (s.surveyBoundaries).localSlot = s.localSlot ∧
    (s.surveyBoundaries).clock = s.clock ∧ (s.surveyBoundaries).pins = s.pins ∧ (s.surveyBoundaries).rx = s.rx ∧
    (s.surveyBoundaries).stations = s.stations ∧ (s.surveyBoundaries).dst = s.dst ∧ (s.surveyBoundaries).seqs = s.seqs ∧
    (s.surveyBoundaries).counters = s.counters ∧ (s.surveyBoundaries).paced = s.paced ∧ (s.surveyBoundaries).eyes = s.eyes ∧
    (s.surveyBoundaries).surveyed = s.surveyed ∧ (s.surveyBoundaries).motion = s.motion ∧
    (s.surveyBoundaries).motionOut = s.motionOut ∧ (s.surveyBoundaries).audio = s.audio ∧
    (s.surveyBoundaries).power = s.power ∧ (s.surveyBoundaries).views = s.views ∧ (s.surveyBoundaries).balance = s.balance ∧
    (s.surveyBoundaries).pulses = s.pulses ∧ (s.surveyBoundaries).service = s.service ∧
    (s.surveyBoundaries).pending = s.pending := by
  simp [State.surveyBoundaries]

/-- A boundary changes the motion unit, and as the moves do (R123). -/
@[simp] theorem State.motionBoundary_keeps :
    (s.motionBoundary).start = s.start ∧ (s.motionBoundary).cause = s.cause ∧ (s.motionBoundary).station = s.station ∧
    (s.motionBoundary).sup = s.sup ∧ (s.motionBoundary).srec = s.srec ∧ (s.motionBoundary).cfg = s.cfg ∧
    (s.motionBoundary).settledRoles = s.settledRoles ∧ (s.motionBoundary).farNeighbour = s.farNeighbour ∧
    (s.motionBoundary).lateSeen = s.lateSeen ∧ (s.motionBoundary).localSlot = s.localSlot ∧
    (s.motionBoundary).clock = s.clock ∧ (s.motionBoundary).pins = s.pins ∧ (s.motionBoundary).rx = s.rx ∧
    (s.motionBoundary).tx = s.tx ∧ (s.motionBoundary).stations = s.stations ∧ (s.motionBoundary).seqs = s.seqs ∧
    (s.motionBoundary).counters = s.counters ∧ (s.motionBoundary).paced = s.paced ∧
    (s.motionBoundary).surveyed = s.surveyed ∧ (s.motionBoundary).surveys = s.surveys ∧
    (s.motionBoundary).tokens = s.tokens ∧ (s.motionBoundary).motionOut = s.motionOut ∧ (s.motionBoundary).audio = s.audio ∧
    (s.motionBoundary).views = s.views ∧ (s.motionBoundary).balance = s.balance ∧ (s.motionBoundary).pulses = s.pulses ∧
    (s.motionBoundary).service = s.service ∧ (s.motionBoundary).pending = s.pending := by
  unfold State.motionBoundary
  dsimp only
  (repeat' split) <;> simp

/-- The proximity line changes the motion unit, and as a wear change does (R122). -/
@[simp] theorem State.sampleWear_keeps (w : Bool) :
    (s.sampleWear w).start = s.start ∧ (s.sampleWear w).cause = s.cause ∧ (s.sampleWear w).station = s.station ∧
    (s.sampleWear w).sup = s.sup ∧ (s.sampleWear w).srec = s.srec ∧ (s.sampleWear w).cfg = s.cfg ∧
    (s.sampleWear w).settledRoles = s.settledRoles ∧ (s.sampleWear w).farNeighbour = s.farNeighbour ∧
    (s.sampleWear w).lateSeen = s.lateSeen ∧ (s.sampleWear w).localSlot = s.localSlot ∧ (s.sampleWear w).clock = s.clock ∧
    (s.sampleWear w).pins = s.pins ∧ (s.sampleWear w).rx = s.rx ∧ (s.sampleWear w).tx = s.tx ∧
    (s.sampleWear w).stations = s.stations ∧ (s.sampleWear w).seqs = s.seqs ∧ (s.sampleWear w).counters = s.counters ∧
    (s.sampleWear w).paced = s.paced ∧ (s.sampleWear w).surveyed = s.surveyed ∧ (s.sampleWear w).surveys = s.surveys ∧
    (s.sampleWear w).tokens = s.tokens ∧ (s.sampleWear w).motionOut = s.motionOut ∧ (s.sampleWear w).audio = s.audio ∧
    (s.sampleWear w).views = s.views ∧ (s.sampleWear w).balance = s.balance ∧ (s.sampleWear w).pulses = s.pulses ∧
    (s.sampleWear w).service = s.service ∧ (s.sampleWear w).pending = s.pending := by
  unfold State.sampleWear
  (repeat' split) <;> simp

/-- A silent sensor changes the silence count and posts (R124). -/
@[simp] theorem State.sensorSilent_keeps :
    (s.sensorSilent).start = s.start ∧ (s.sensorSilent).cause = s.cause ∧ (s.sensorSilent).station = s.station ∧
    (s.sensorSilent).sup = s.sup ∧ (s.sensorSilent).srec = s.srec ∧ (s.sensorSilent).cfg = s.cfg ∧
    (s.sensorSilent).settledRoles = s.settledRoles ∧ (s.sensorSilent).farNeighbour = s.farNeighbour ∧
    (s.sensorSilent).lateSeen = s.lateSeen ∧ (s.sensorSilent).localSlot = s.localSlot ∧ (s.sensorSilent).clock = s.clock ∧
    (s.sensorSilent).pins = s.pins ∧ (s.sensorSilent).rx = s.rx ∧ (s.sensorSilent).tx = s.tx ∧
    (s.sensorSilent).stations = s.stations ∧ (s.sensorSilent).dst = s.dst ∧ (s.sensorSilent).seqs = s.seqs ∧
    (s.sensorSilent).counters = s.counters ∧ (s.sensorSilent).paced = s.paced ∧ (s.sensorSilent).eyes = s.eyes ∧
    (s.sensorSilent).surveyed = s.surveyed ∧ (s.sensorSilent).surveys = s.surveys ∧ (s.sensorSilent).tokens = s.tokens ∧
    (s.sensorSilent).motionOut = s.motionOut ∧ (s.sensorSilent).audio = s.audio ∧ (s.sensorSilent).power = s.power ∧
    (s.sensorSilent).views = s.views ∧ (s.sensorSilent).balance = s.balance ∧ (s.sensorSilent).pulses = s.pulses ∧
    (s.sensorSilent).service = s.service ∧ (s.sensorSilent).pending = s.pending := by
  unfold State.sensorSilent
  (repeat' split) <;> simp

/-- Delivery changes the motion output alone (R127). -/
@[simp] theorem State.deliver_keeps :
    (s.deliver).start = s.start ∧ (s.deliver).cause = s.cause ∧ (s.deliver).station = s.station ∧ (s.deliver).sup = s.sup ∧
    (s.deliver).srec = s.srec ∧ (s.deliver).cfg = s.cfg ∧ (s.deliver).settledRoles = s.settledRoles ∧
    (s.deliver).farNeighbour = s.farNeighbour ∧ (s.deliver).lateSeen = s.lateSeen ∧ (s.deliver).localSlot = s.localSlot ∧
    (s.deliver).clock = s.clock ∧ (s.deliver).pins = s.pins ∧ (s.deliver).rx = s.rx ∧ (s.deliver).tx = s.tx ∧
    (s.deliver).stations = s.stations ∧ (s.deliver).dst = s.dst ∧ (s.deliver).seqs = s.seqs ∧
    (s.deliver).counters = s.counters ∧ (s.deliver).paced = s.paced ∧ (s.deliver).eyes = s.eyes ∧
    (s.deliver).surveyed = s.surveyed ∧ (s.deliver).surveys = s.surveys ∧ (s.deliver).tokens = s.tokens ∧
    (s.deliver).motion = s.motion ∧ (s.deliver).audio = s.audio ∧ (s.deliver).power = s.power ∧ (s.deliver).views = s.views ∧
    (s.deliver).balance = s.balance ∧ (s.deliver).notices = s.notices ∧ (s.deliver).pulses = s.pulses ∧
    (s.deliver).service = s.service ∧ (s.deliver).pending = s.pending := by
  unfold State.deliver
  (repeat' split) <;> simp

/-- A sample changes the motion output alone (R126, R127). -/
@[simp] theorem State.takeSample_keeps (x : Sample) :
    (s.takeSample x).start = s.start ∧ (s.takeSample x).cause = s.cause ∧ (s.takeSample x).station = s.station ∧
    (s.takeSample x).sup = s.sup ∧ (s.takeSample x).srec = s.srec ∧ (s.takeSample x).cfg = s.cfg ∧
    (s.takeSample x).settledRoles = s.settledRoles ∧ (s.takeSample x).farNeighbour = s.farNeighbour ∧
    (s.takeSample x).lateSeen = s.lateSeen ∧ (s.takeSample x).localSlot = s.localSlot ∧ (s.takeSample x).clock = s.clock ∧
    (s.takeSample x).pins = s.pins ∧ (s.takeSample x).rx = s.rx ∧ (s.takeSample x).tx = s.tx ∧
    (s.takeSample x).stations = s.stations ∧ (s.takeSample x).dst = s.dst ∧ (s.takeSample x).seqs = s.seqs ∧
    (s.takeSample x).counters = s.counters ∧ (s.takeSample x).paced = s.paced ∧ (s.takeSample x).eyes = s.eyes ∧
    (s.takeSample x).surveyed = s.surveyed ∧ (s.takeSample x).surveys = s.surveys ∧ (s.takeSample x).tokens = s.tokens ∧
    (s.takeSample x).motion = s.motion ∧ (s.takeSample x).audio = s.audio ∧ (s.takeSample x).power = s.power ∧
    (s.takeSample x).views = s.views ∧ (s.takeSample x).balance = s.balance ∧ (s.takeSample x).notices = s.notices ∧
    (s.takeSample x).pulses = s.pulses ∧ (s.takeSample x).service = s.service ∧ (s.takeSample x).pending = s.pending := by
  simp [State.takeSample]

/-- The restart run is the motion output's (R126). -/
@[simp] theorem State.endRestartRun_keeps :
    (s.endRestartRun).start = s.start ∧ (s.endRestartRun).cause = s.cause ∧ (s.endRestartRun).station = s.station ∧
    (s.endRestartRun).sup = s.sup ∧ (s.endRestartRun).srec = s.srec ∧ (s.endRestartRun).cfg = s.cfg ∧
    (s.endRestartRun).settledRoles = s.settledRoles ∧ (s.endRestartRun).farNeighbour = s.farNeighbour ∧
    (s.endRestartRun).lateSeen = s.lateSeen ∧ (s.endRestartRun).localSlot = s.localSlot ∧ (s.endRestartRun).clock = s.clock ∧
    (s.endRestartRun).pins = s.pins ∧ (s.endRestartRun).rx = s.rx ∧ (s.endRestartRun).tx = s.tx ∧
    (s.endRestartRun).stations = s.stations ∧ (s.endRestartRun).dst = s.dst ∧ (s.endRestartRun).seqs = s.seqs ∧
    (s.endRestartRun).counters = s.counters ∧ (s.endRestartRun).paced = s.paced ∧ (s.endRestartRun).eyes = s.eyes ∧
    (s.endRestartRun).surveyed = s.surveyed ∧ (s.endRestartRun).surveys = s.surveys ∧ (s.endRestartRun).tokens = s.tokens ∧
    (s.endRestartRun).motion = s.motion ∧ (s.endRestartRun).audio = s.audio ∧ (s.endRestartRun).power = s.power ∧
    (s.endRestartRun).views = s.views ∧ (s.endRestartRun).balance = s.balance ∧ (s.endRestartRun).notices = s.notices ∧
    (s.endRestartRun).pulses = s.pulses ∧ (s.endRestartRun).service = s.service ∧ (s.endRestartRun).pending = s.pending := by
  simp [State.endRestartRun]

/-! #### Audio -/

/-- An edge at the builder changes the source alone (R132). -/
@[simp] theorem State.buildStep_keeps (f : Frame) :
    (s.buildStep f).start = s.start ∧ (s.buildStep f).cause = s.cause ∧ (s.buildStep f).station = s.station ∧
    (s.buildStep f).sup = s.sup ∧ (s.buildStep f).srec = s.srec ∧ (s.buildStep f).cfg = s.cfg ∧
    (s.buildStep f).settledRoles = s.settledRoles ∧ (s.buildStep f).farNeighbour = s.farNeighbour ∧
    (s.buildStep f).lateSeen = s.lateSeen ∧ (s.buildStep f).localSlot = s.localSlot ∧ (s.buildStep f).clock = s.clock ∧
    (s.buildStep f).pins = s.pins ∧ (s.buildStep f).rx = s.rx ∧ (s.buildStep f).tx = s.tx ∧
    (s.buildStep f).stations = s.stations ∧ (s.buildStep f).dst = s.dst ∧ (s.buildStep f).seqs = s.seqs ∧
    (s.buildStep f).counters = s.counters ∧ (s.buildStep f).paced = s.paced ∧ (s.buildStep f).eyes = s.eyes ∧
    (s.buildStep f).surveyed = s.surveyed ∧ (s.buildStep f).surveys = s.surveys ∧ (s.buildStep f).tokens = s.tokens ∧
    (s.buildStep f).motion = s.motion ∧ (s.buildStep f).motionOut = s.motionOut ∧ (s.buildStep f).power = s.power ∧
    (s.buildStep f).views = s.views ∧ (s.buildStep f).balance = s.balance ∧ (s.buildStep f).notices = s.notices ∧
    (s.buildStep f).pulses = s.pulses ∧ (s.buildStep f).service = s.service ∧ (s.buildStep f).pending = s.pending := by
  unfold State.buildStep
  dsimp only
  (repeat' split) <;> simp

/-- A block appended changes the sink, and by an overflow slip counter, notices and pulses (R137). -/
@[simp] theorem State.appendBlock_keeps (b : PlayBlock) :
    (s.appendBlock b).start = s.start ∧ (s.appendBlock b).cause = s.cause ∧ (s.appendBlock b).station = s.station ∧
    (s.appendBlock b).sup = s.sup ∧ (s.appendBlock b).srec = s.srec ∧ (s.appendBlock b).cfg = s.cfg ∧
    (s.appendBlock b).settledRoles = s.settledRoles ∧ (s.appendBlock b).farNeighbour = s.farNeighbour ∧
    (s.appendBlock b).lateSeen = s.lateSeen ∧ (s.appendBlock b).localSlot = s.localSlot ∧ (s.appendBlock b).clock = s.clock ∧
    (s.appendBlock b).pins = s.pins ∧ (s.appendBlock b).rx = s.rx ∧ (s.appendBlock b).tx = s.tx ∧
    (s.appendBlock b).stations = s.stations ∧ (s.appendBlock b).dst = s.dst ∧ (s.appendBlock b).seqs = s.seqs ∧
    (s.appendBlock b).paced = s.paced ∧ (s.appendBlock b).eyes = s.eyes ∧ (s.appendBlock b).surveyed = s.surveyed ∧
    (s.appendBlock b).surveys = s.surveys ∧ (s.appendBlock b).tokens = s.tokens ∧ (s.appendBlock b).motion = s.motion ∧
    (s.appendBlock b).motionOut = s.motionOut ∧ (s.appendBlock b).power = s.power ∧ (s.appendBlock b).views = s.views ∧
    (s.appendBlock b).balance = s.balance ∧ (s.appendBlock b).service = s.service ∧
    (s.appendBlock b).pending = s.pending := by
  unfold State.appendBlock
  dsimp only
  (repeat' split) <;> simp

/-- A judgement changes the sink alone (R136). -/
@[simp] theorem State.judged_keeps (n : Num8) :
    (s.judged n).start = s.start ∧ (s.judged n).cause = s.cause ∧ (s.judged n).station = s.station ∧
    (s.judged n).sup = s.sup ∧ (s.judged n).srec = s.srec ∧ (s.judged n).cfg = s.cfg ∧
    (s.judged n).settledRoles = s.settledRoles ∧ (s.judged n).farNeighbour = s.farNeighbour ∧
    (s.judged n).lateSeen = s.lateSeen ∧ (s.judged n).localSlot = s.localSlot ∧ (s.judged n).clock = s.clock ∧
    (s.judged n).pins = s.pins ∧ (s.judged n).rx = s.rx ∧ (s.judged n).tx = s.tx ∧ (s.judged n).stations = s.stations ∧
    (s.judged n).dst = s.dst ∧ (s.judged n).seqs = s.seqs ∧ (s.judged n).counters = s.counters ∧
    (s.judged n).paced = s.paced ∧ (s.judged n).eyes = s.eyes ∧ (s.judged n).surveyed = s.surveyed ∧
    (s.judged n).surveys = s.surveys ∧ (s.judged n).tokens = s.tokens ∧ (s.judged n).motion = s.motion ∧
    (s.judged n).motionOut = s.motionOut ∧ (s.judged n).power = s.power ∧ (s.judged n).views = s.views ∧
    (s.judged n).balance = s.balance ∧ (s.judged n).notices = s.notices ∧ (s.judged n).pulses = s.pulses ∧
    (s.judged n).service = s.service ∧ (s.judged n).pending = s.pending := by
  simp [State.judged]

/-- Idle blocks appended change what a block appended changes (R136). -/
@[simp] theorem State.appendIdle_keeps (n : Nat) :
    (State.appendIdle n s).start = s.start ∧ (State.appendIdle n s).cause = s.cause ∧
    (State.appendIdle n s).station = s.station ∧ (State.appendIdle n s).sup = s.sup ∧ (State.appendIdle n s).srec = s.srec ∧
    (State.appendIdle n s).cfg = s.cfg ∧ (State.appendIdle n s).settledRoles = s.settledRoles ∧
    (State.appendIdle n s).farNeighbour = s.farNeighbour ∧ (State.appendIdle n s).lateSeen = s.lateSeen ∧
    (State.appendIdle n s).localSlot = s.localSlot ∧ (State.appendIdle n s).clock = s.clock ∧
    (State.appendIdle n s).pins = s.pins ∧ (State.appendIdle n s).rx = s.rx ∧ (State.appendIdle n s).tx = s.tx ∧
    (State.appendIdle n s).stations = s.stations ∧ (State.appendIdle n s).dst = s.dst ∧
    (State.appendIdle n s).seqs = s.seqs ∧ (State.appendIdle n s).paced = s.paced ∧ (State.appendIdle n s).eyes = s.eyes ∧
    (State.appendIdle n s).surveyed = s.surveyed ∧ (State.appendIdle n s).surveys = s.surveys ∧
    (State.appendIdle n s).tokens = s.tokens ∧ (State.appendIdle n s).motion = s.motion ∧
    (State.appendIdle n s).motionOut = s.motionOut ∧ (State.appendIdle n s).power = s.power ∧
    (State.appendIdle n s).views = s.views ∧ (State.appendIdle n s).balance = s.balance ∧
    (State.appendIdle n s).service = s.service ∧ (State.appendIdle n s).pending = s.pending := by
  induction n generalizing s with
  | zero => simp [State.appendIdle]
  | succ n ih => simp [State.appendIdle, ih]

/-- A discontinuity changes the sink and posts (R136). -/
@[simp] theorem State.discontinuity_keeps (b : PlayBlock) :
    (s.discontinuity b).start = s.start ∧ (s.discontinuity b).cause = s.cause ∧ (s.discontinuity b).station = s.station ∧
    (s.discontinuity b).sup = s.sup ∧ (s.discontinuity b).srec = s.srec ∧ (s.discontinuity b).cfg = s.cfg ∧
    (s.discontinuity b).settledRoles = s.settledRoles ∧ (s.discontinuity b).farNeighbour = s.farNeighbour ∧
    (s.discontinuity b).lateSeen = s.lateSeen ∧ (s.discontinuity b).localSlot = s.localSlot ∧
    (s.discontinuity b).clock = s.clock ∧ (s.discontinuity b).pins = s.pins ∧ (s.discontinuity b).rx = s.rx ∧
    (s.discontinuity b).tx = s.tx ∧ (s.discontinuity b).stations = s.stations ∧ (s.discontinuity b).dst = s.dst ∧
    (s.discontinuity b).seqs = s.seqs ∧ (s.discontinuity b).paced = s.paced ∧ (s.discontinuity b).eyes = s.eyes ∧
    (s.discontinuity b).surveyed = s.surveyed ∧ (s.discontinuity b).surveys = s.surveys ∧
    (s.discontinuity b).tokens = s.tokens ∧ (s.discontinuity b).motion = s.motion ∧
    (s.discontinuity b).motionOut = s.motionOut ∧ (s.discontinuity b).power = s.power ∧ (s.discontinuity b).views = s.views ∧
    (s.discontinuity b).balance = s.balance ∧ (s.discontinuity b).service = s.service ∧
    (s.discontinuity b).pending = s.pending := by
  simp [State.discontinuity]

/-- A block changes the sink, its counters, notices and pulses (R136, R137). -/
@[simp] theorem State.takeBlock_keeps (n : Num8) (fs : List Frame) :
    (s.takeBlock n fs).start = s.start ∧ (s.takeBlock n fs).cause = s.cause ∧ (s.takeBlock n fs).station = s.station ∧
    (s.takeBlock n fs).sup = s.sup ∧ (s.takeBlock n fs).srec = s.srec ∧ (s.takeBlock n fs).cfg = s.cfg ∧
    (s.takeBlock n fs).settledRoles = s.settledRoles ∧ (s.takeBlock n fs).farNeighbour = s.farNeighbour ∧
    (s.takeBlock n fs).lateSeen = s.lateSeen ∧ (s.takeBlock n fs).localSlot = s.localSlot ∧
    (s.takeBlock n fs).clock = s.clock ∧ (s.takeBlock n fs).pins = s.pins ∧ (s.takeBlock n fs).rx = s.rx ∧
    (s.takeBlock n fs).tx = s.tx ∧ (s.takeBlock n fs).stations = s.stations ∧ (s.takeBlock n fs).dst = s.dst ∧
    (s.takeBlock n fs).seqs = s.seqs ∧ (s.takeBlock n fs).paced = s.paced ∧ (s.takeBlock n fs).eyes = s.eyes ∧
    (s.takeBlock n fs).surveyed = s.surveyed ∧ (s.takeBlock n fs).surveys = s.surveys ∧
    (s.takeBlock n fs).tokens = s.tokens ∧ (s.takeBlock n fs).motion = s.motion ∧
    (s.takeBlock n fs).motionOut = s.motionOut ∧ (s.takeBlock n fs).power = s.power ∧ (s.takeBlock n fs).views = s.views ∧
    (s.takeBlock n fs).balance = s.balance ∧ (s.takeBlock n fs).service = s.service ∧
    (s.takeBlock n fs).pending = s.pending := by
  unfold State.takeBlock
  dsimp only
  (repeat' split) <;> simp

/-- The play register's load changes the sink, and by a slip counter, notices and pulses (R138). -/
@[simp] theorem State.loadPlay_keeps :
    (s.loadPlay).start = s.start ∧ (s.loadPlay).cause = s.cause ∧ (s.loadPlay).station = s.station ∧
    (s.loadPlay).sup = s.sup ∧ (s.loadPlay).srec = s.srec ∧ (s.loadPlay).cfg = s.cfg ∧
    (s.loadPlay).settledRoles = s.settledRoles ∧ (s.loadPlay).farNeighbour = s.farNeighbour ∧
    (s.loadPlay).lateSeen = s.lateSeen ∧ (s.loadPlay).localSlot = s.localSlot ∧ (s.loadPlay).clock = s.clock ∧
    (s.loadPlay).pins = s.pins ∧ (s.loadPlay).rx = s.rx ∧ (s.loadPlay).tx = s.tx ∧ (s.loadPlay).stations = s.stations ∧
    (s.loadPlay).dst = s.dst ∧ (s.loadPlay).seqs = s.seqs ∧ (s.loadPlay).paced = s.paced ∧ (s.loadPlay).eyes = s.eyes ∧
    (s.loadPlay).surveyed = s.surveyed ∧ (s.loadPlay).surveys = s.surveys ∧ (s.loadPlay).tokens = s.tokens ∧
    (s.loadPlay).motion = s.motion ∧ (s.loadPlay).motionOut = s.motionOut ∧ (s.loadPlay).power = s.power ∧
    (s.loadPlay).views = s.views ∧ (s.loadPlay).balance = s.balance ∧ (s.loadPlay).service = s.service ∧
    (s.loadPlay).pending = s.pending := by
  unfold State.loadPlay
  (repeat' split) <;> simp

/-- An edge at the sink changes what the load changes (R138). -/
@[simp] theorem State.sinkStep_keeps (m : Int) :
    (s.sinkStep m).start = s.start ∧ (s.sinkStep m).cause = s.cause ∧ (s.sinkStep m).station = s.station ∧
    (s.sinkStep m).sup = s.sup ∧ (s.sinkStep m).srec = s.srec ∧ (s.sinkStep m).cfg = s.cfg ∧
    (s.sinkStep m).settledRoles = s.settledRoles ∧ (s.sinkStep m).farNeighbour = s.farNeighbour ∧
    (s.sinkStep m).lateSeen = s.lateSeen ∧ (s.sinkStep m).localSlot = s.localSlot ∧ (s.sinkStep m).clock = s.clock ∧
    (s.sinkStep m).pins = s.pins ∧ (s.sinkStep m).rx = s.rx ∧ (s.sinkStep m).tx = s.tx ∧
    (s.sinkStep m).stations = s.stations ∧ (s.sinkStep m).dst = s.dst ∧ (s.sinkStep m).seqs = s.seqs ∧
    (s.sinkStep m).paced = s.paced ∧ (s.sinkStep m).eyes = s.eyes ∧ (s.sinkStep m).surveyed = s.surveyed ∧
    (s.sinkStep m).surveys = s.surveys ∧ (s.sinkStep m).tokens = s.tokens ∧ (s.sinkStep m).motion = s.motion ∧
    (s.sinkStep m).motionOut = s.motionOut ∧ (s.sinkStep m).power = s.power ∧ (s.sinkStep m).views = s.views ∧
    (s.sinkStep m).balance = s.balance ∧ (s.sinkStep m).service = s.service ∧ (s.sinkStep m).pending = s.pending := by
  unfold State.sinkStep
  (repeat' split) <;> simp

/-- A volume step changes the audio unit alone (R143). -/
@[simp] theorem State.moveVolume_keeps (q : Bool) :
    (s.moveVolume q).start = s.start ∧ (s.moveVolume q).cause = s.cause ∧ (s.moveVolume q).station = s.station ∧
    (s.moveVolume q).sup = s.sup ∧ (s.moveVolume q).srec = s.srec ∧ (s.moveVolume q).cfg = s.cfg ∧
    (s.moveVolume q).settledRoles = s.settledRoles ∧ (s.moveVolume q).farNeighbour = s.farNeighbour ∧
    (s.moveVolume q).lateSeen = s.lateSeen ∧ (s.moveVolume q).localSlot = s.localSlot ∧ (s.moveVolume q).clock = s.clock ∧
    (s.moveVolume q).pins = s.pins ∧ (s.moveVolume q).rx = s.rx ∧ (s.moveVolume q).tx = s.tx ∧
    (s.moveVolume q).stations = s.stations ∧ (s.moveVolume q).dst = s.dst ∧ (s.moveVolume q).seqs = s.seqs ∧
    (s.moveVolume q).counters = s.counters ∧ (s.moveVolume q).paced = s.paced ∧ (s.moveVolume q).eyes = s.eyes ∧
    (s.moveVolume q).surveyed = s.surveyed ∧ (s.moveVolume q).surveys = s.surveys ∧ (s.moveVolume q).tokens = s.tokens ∧
    (s.moveVolume q).motion = s.motion ∧ (s.moveVolume q).motionOut = s.motionOut ∧ (s.moveVolume q).power = s.power ∧
    (s.moveVolume q).views = s.views ∧ (s.moveVolume q).balance = s.balance ∧ (s.moveVolume q).notices = s.notices ∧
    (s.moveVolume q).pulses = s.pulses ∧ (s.moveVolume q).service = s.service ∧ (s.moveVolume q).pending = s.pending := by
  simp [State.moveVolume]

/-- Mute changes the audio unit alone (R134). -/
@[simp] theorem State.toggleMute_keeps :
    (s.toggleMute).start = s.start ∧ (s.toggleMute).cause = s.cause ∧ (s.toggleMute).station = s.station ∧
    (s.toggleMute).sup = s.sup ∧ (s.toggleMute).srec = s.srec ∧ (s.toggleMute).cfg = s.cfg ∧
    (s.toggleMute).settledRoles = s.settledRoles ∧ (s.toggleMute).farNeighbour = s.farNeighbour ∧
    (s.toggleMute).lateSeen = s.lateSeen ∧ (s.toggleMute).localSlot = s.localSlot ∧ (s.toggleMute).clock = s.clock ∧
    (s.toggleMute).pins = s.pins ∧ (s.toggleMute).rx = s.rx ∧ (s.toggleMute).tx = s.tx ∧
    (s.toggleMute).stations = s.stations ∧ (s.toggleMute).dst = s.dst ∧ (s.toggleMute).seqs = s.seqs ∧
    (s.toggleMute).counters = s.counters ∧ (s.toggleMute).paced = s.paced ∧ (s.toggleMute).eyes = s.eyes ∧
    (s.toggleMute).surveyed = s.surveyed ∧ (s.toggleMute).surveys = s.surveys ∧ (s.toggleMute).tokens = s.tokens ∧
    (s.toggleMute).motion = s.motion ∧ (s.toggleMute).motionOut = s.motionOut ∧ (s.toggleMute).power = s.power ∧
    (s.toggleMute).views = s.views ∧ (s.toggleMute).balance = s.balance ∧ (s.toggleMute).notices = s.notices ∧
    (s.toggleMute).pulses = s.pulses ∧ (s.toggleMute).service = s.service ∧ (s.toggleMute).pending = s.pending := by
  simp [State.toggleMute]

/-- A button line changes the audio unit alone (R144). -/
@[simp] theorem State.setButton_keeps (b : Button) (l : ButtonLine) :
    (s.setButton b l).start = s.start ∧ (s.setButton b l).cause = s.cause ∧ (s.setButton b l).station = s.station ∧
    (s.setButton b l).sup = s.sup ∧ (s.setButton b l).srec = s.srec ∧ (s.setButton b l).cfg = s.cfg ∧
    (s.setButton b l).settledRoles = s.settledRoles ∧ (s.setButton b l).farNeighbour = s.farNeighbour ∧
    (s.setButton b l).lateSeen = s.lateSeen ∧ (s.setButton b l).localSlot = s.localSlot ∧ (s.setButton b l).clock = s.clock ∧
    (s.setButton b l).pins = s.pins ∧ (s.setButton b l).rx = s.rx ∧ (s.setButton b l).tx = s.tx ∧
    (s.setButton b l).stations = s.stations ∧ (s.setButton b l).dst = s.dst ∧ (s.setButton b l).seqs = s.seqs ∧
    (s.setButton b l).counters = s.counters ∧ (s.setButton b l).paced = s.paced ∧ (s.setButton b l).eyes = s.eyes ∧
    (s.setButton b l).surveyed = s.surveyed ∧ (s.setButton b l).surveys = s.surveys ∧ (s.setButton b l).tokens = s.tokens ∧
    (s.setButton b l).motion = s.motion ∧ (s.setButton b l).motionOut = s.motionOut ∧ (s.setButton b l).power = s.power ∧
    (s.setButton b l).views = s.views ∧ (s.setButton b l).balance = s.balance ∧ (s.setButton b l).notices = s.notices ∧
    (s.setButton b l).pulses = s.pulses ∧ (s.setButton b l).service = s.service ∧ (s.setButton b l).pending = s.pending := by
  simp [State.setButton]

/-- A press at the audio station changes volume or mute (R145). -/
@[simp] theorem State.applyButton_keeps (b : Button) :
    (s.applyButton b).start = s.start ∧ (s.applyButton b).cause = s.cause ∧ (s.applyButton b).station = s.station ∧
    (s.applyButton b).sup = s.sup ∧ (s.applyButton b).srec = s.srec ∧ (s.applyButton b).cfg = s.cfg ∧
    (s.applyButton b).settledRoles = s.settledRoles ∧ (s.applyButton b).farNeighbour = s.farNeighbour ∧
    (s.applyButton b).lateSeen = s.lateSeen ∧ (s.applyButton b).localSlot = s.localSlot ∧ (s.applyButton b).clock = s.clock ∧
    (s.applyButton b).pins = s.pins ∧ (s.applyButton b).rx = s.rx ∧ (s.applyButton b).tx = s.tx ∧
    (s.applyButton b).stations = s.stations ∧ (s.applyButton b).dst = s.dst ∧ (s.applyButton b).seqs = s.seqs ∧
    (s.applyButton b).counters = s.counters ∧ (s.applyButton b).paced = s.paced ∧ (s.applyButton b).eyes = s.eyes ∧
    (s.applyButton b).surveyed = s.surveyed ∧ (s.applyButton b).surveys = s.surveys ∧ (s.applyButton b).tokens = s.tokens ∧
    (s.applyButton b).motion = s.motion ∧ (s.applyButton b).motionOut = s.motionOut ∧ (s.applyButton b).power = s.power ∧
    (s.applyButton b).views = s.views ∧ (s.applyButton b).balance = s.balance ∧ (s.applyButton b).notices = s.notices ∧
    (s.applyButton b).pulses = s.pulses ∧ (s.applyButton b).service = s.service ∧ (s.applyButton b).pending = s.pending := by
  cases b <;> simp [State.applyButton]

/-- A press changes volume or mute, and the FIFOs (R145). -/
@[simp] theorem State.press_keeps (b : Button) :
    (s.press b).start = s.start ∧ (s.press b).cause = s.cause ∧ (s.press b).station = s.station ∧ (s.press b).sup = s.sup ∧
    (s.press b).srec = s.srec ∧ (s.press b).cfg = s.cfg ∧ (s.press b).settledRoles = s.settledRoles ∧
    (s.press b).farNeighbour = s.farNeighbour ∧ (s.press b).lateSeen = s.lateSeen ∧ (s.press b).localSlot = s.localSlot ∧
    (s.press b).clock = s.clock ∧ (s.press b).pins = s.pins ∧ (s.press b).rx = s.rx ∧ (s.press b).stations = s.stations ∧
    (s.press b).dst = s.dst ∧ (s.press b).seqs = s.seqs ∧ (s.press b).counters = s.counters ∧ (s.press b).paced = s.paced ∧
    (s.press b).eyes = s.eyes ∧ (s.press b).surveyed = s.surveyed ∧ (s.press b).surveys = s.surveys ∧
    (s.press b).tokens = s.tokens ∧ (s.press b).motion = s.motion ∧ (s.press b).motionOut = s.motionOut ∧
    (s.press b).power = s.power ∧ (s.press b).views = s.views ∧ (s.press b).balance = s.balance ∧
    (s.press b).notices = s.notices ∧ (s.press b).pulses = s.pulses ∧ (s.press b).service = s.service ∧
    (s.press b).pending = s.pending := by
  unfold State.press
  (repeat' split) <;> simp

/-- A line's change changes the line, and as a press does (R144). -/
@[simp] theorem State.lineTo_keeps (b : Button) (p : Bool) :
    (s.lineTo b p).start = s.start ∧ (s.lineTo b p).cause = s.cause ∧ (s.lineTo b p).station = s.station ∧
    (s.lineTo b p).sup = s.sup ∧ (s.lineTo b p).srec = s.srec ∧ (s.lineTo b p).cfg = s.cfg ∧
    (s.lineTo b p).settledRoles = s.settledRoles ∧ (s.lineTo b p).farNeighbour = s.farNeighbour ∧
    (s.lineTo b p).lateSeen = s.lateSeen ∧ (s.lineTo b p).localSlot = s.localSlot ∧ (s.lineTo b p).clock = s.clock ∧
    (s.lineTo b p).pins = s.pins ∧ (s.lineTo b p).rx = s.rx ∧ (s.lineTo b p).stations = s.stations ∧
    (s.lineTo b p).dst = s.dst ∧ (s.lineTo b p).seqs = s.seqs ∧ (s.lineTo b p).counters = s.counters ∧
    (s.lineTo b p).paced = s.paced ∧ (s.lineTo b p).eyes = s.eyes ∧ (s.lineTo b p).surveyed = s.surveyed ∧
    (s.lineTo b p).surveys = s.surveys ∧ (s.lineTo b p).tokens = s.tokens ∧ (s.lineTo b p).motion = s.motion ∧
    (s.lineTo b p).motionOut = s.motionOut ∧ (s.lineTo b p).power = s.power ∧ (s.lineTo b p).views = s.views ∧
    (s.lineTo b p).balance = s.balance ∧ (s.lineTo b p).notices = s.notices ∧ (s.lineTo b p).pulses = s.pulses ∧
    (s.lineTo b p).service = s.service ∧ (s.lineTo b p).pending = s.pending := by
  unfold State.lineTo
  (repeat' split) <;> simp

/-- A line's sample changes the line, and as a press does (R144). -/
@[simp] theorem State.sampleLine_keeps (b : Button) (v : Bool) :
    (s.sampleLine b v).start = s.start ∧ (s.sampleLine b v).cause = s.cause ∧ (s.sampleLine b v).station = s.station ∧
    (s.sampleLine b v).sup = s.sup ∧ (s.sampleLine b v).srec = s.srec ∧ (s.sampleLine b v).cfg = s.cfg ∧
    (s.sampleLine b v).settledRoles = s.settledRoles ∧ (s.sampleLine b v).farNeighbour = s.farNeighbour ∧
    (s.sampleLine b v).lateSeen = s.lateSeen ∧ (s.sampleLine b v).localSlot = s.localSlot ∧
    (s.sampleLine b v).clock = s.clock ∧ (s.sampleLine b v).pins = s.pins ∧ (s.sampleLine b v).rx = s.rx ∧
    (s.sampleLine b v).stations = s.stations ∧ (s.sampleLine b v).dst = s.dst ∧ (s.sampleLine b v).seqs = s.seqs ∧
    (s.sampleLine b v).counters = s.counters ∧ (s.sampleLine b v).paced = s.paced ∧ (s.sampleLine b v).eyes = s.eyes ∧
    (s.sampleLine b v).surveyed = s.surveyed ∧ (s.sampleLine b v).surveys = s.surveys ∧
    (s.sampleLine b v).tokens = s.tokens ∧ (s.sampleLine b v).motion = s.motion ∧
    (s.sampleLine b v).motionOut = s.motionOut ∧ (s.sampleLine b v).power = s.power ∧ (s.sampleLine b v).views = s.views ∧
    (s.sampleLine b v).balance = s.balance ∧ (s.sampleLine b v).notices = s.notices ∧ (s.sampleLine b v).pulses = s.pulses ∧
    (s.sampleLine b v).service = s.service ∧ (s.sampleLine b v).pending = s.pending := by
  unfold State.sampleLine
  dsimp only
  (repeat' split) <;> simp

/-! #### Destination records -/

/-- A misrouted cell changes a counter alone (R58). -/
@[simp] theorem State.misroute_keeps (f : FlowId) :
    (s.misroute f).start = s.start ∧ (s.misroute f).cause = s.cause ∧ (s.misroute f).station = s.station ∧
    (s.misroute f).sup = s.sup ∧ (s.misroute f).srec = s.srec ∧ (s.misroute f).cfg = s.cfg ∧
    (s.misroute f).settledRoles = s.settledRoles ∧ (s.misroute f).farNeighbour = s.farNeighbour ∧
    (s.misroute f).lateSeen = s.lateSeen ∧ (s.misroute f).localSlot = s.localSlot ∧ (s.misroute f).clock = s.clock ∧
    (s.misroute f).pins = s.pins ∧ (s.misroute f).rx = s.rx ∧ (s.misroute f).tx = s.tx ∧
    (s.misroute f).stations = s.stations ∧ (s.misroute f).dst = s.dst ∧ (s.misroute f).seqs = s.seqs ∧
    (s.misroute f).paced = s.paced ∧ (s.misroute f).eyes = s.eyes ∧ (s.misroute f).surveyed = s.surveyed ∧
    (s.misroute f).surveys = s.surveys ∧ (s.misroute f).tokens = s.tokens ∧ (s.misroute f).motion = s.motion ∧
    (s.misroute f).motionOut = s.motionOut ∧ (s.misroute f).audio = s.audio ∧ (s.misroute f).power = s.power ∧
    (s.misroute f).views = s.views ∧ (s.misroute f).balance = s.balance ∧ (s.misroute f).notices = s.notices ∧
    (s.misroute f).pulses = s.pulses ∧ (s.misroute f).service = s.service ∧ (s.misroute f).pending = s.pending := by
  simp [State.misroute]

/-- A cell handed over changes its unit (R61). -/
@[simp] theorem State.handOver_keeps (f : FlowId) (g : Bool) (c : Cell) :
    (s.handOver f g c).start = s.start ∧ (s.handOver f g c).cause = s.cause ∧ (s.handOver f g c).station = s.station ∧
    (s.handOver f g c).sup = s.sup ∧ (s.handOver f g c).srec = s.srec ∧ (s.handOver f g c).cfg = s.cfg ∧
    (s.handOver f g c).settledRoles = s.settledRoles ∧ (s.handOver f g c).farNeighbour = s.farNeighbour ∧
    (s.handOver f g c).lateSeen = s.lateSeen ∧ (s.handOver f g c).localSlot = s.localSlot ∧
    (s.handOver f g c).clock = s.clock ∧ (s.handOver f g c).pins = s.pins ∧ (s.handOver f g c).rx = s.rx ∧
    (s.handOver f g c).tx = s.tx ∧ (s.handOver f g c).stations = s.stations ∧ (s.handOver f g c).dst = s.dst ∧
    (s.handOver f g c).seqs = s.seqs ∧ (s.handOver f g c).paced = s.paced ∧ (s.handOver f g c).surveyed = s.surveyed ∧
    (s.handOver f g c).surveys = s.surveys ∧ (s.handOver f g c).tokens = s.tokens ∧ (s.handOver f g c).motion = s.motion ∧
    (s.handOver f g c).power = s.power ∧ (s.handOver f g c).views = s.views ∧ (s.handOver f g c).balance = s.balance ∧
    (s.handOver f g c).service = s.service ∧ (s.handOver f g c).pending = s.pending := by
  unfold State.handOver
  (repeat' split) <;> simp

/-- The sequence check changes the record, and as the hand-over does (R59). -/
@[simp] theorem State.sequenceCheck_keeps (f : FlowId) (x : Option Seq) (c : Cell) :
    (s.sequenceCheck f x c).start = s.start ∧ (s.sequenceCheck f x c).cause = s.cause ∧
    (s.sequenceCheck f x c).station = s.station ∧ (s.sequenceCheck f x c).sup = s.sup ∧
    (s.sequenceCheck f x c).srec = s.srec ∧ (s.sequenceCheck f x c).cfg = s.cfg ∧
    (s.sequenceCheck f x c).settledRoles = s.settledRoles ∧ (s.sequenceCheck f x c).farNeighbour = s.farNeighbour ∧
    (s.sequenceCheck f x c).lateSeen = s.lateSeen ∧ (s.sequenceCheck f x c).localSlot = s.localSlot ∧
    (s.sequenceCheck f x c).clock = s.clock ∧ (s.sequenceCheck f x c).pins = s.pins ∧ (s.sequenceCheck f x c).rx = s.rx ∧
    (s.sequenceCheck f x c).tx = s.tx ∧ (s.sequenceCheck f x c).stations = s.stations ∧
    (s.sequenceCheck f x c).seqs = s.seqs ∧ (s.sequenceCheck f x c).paced = s.paced ∧
    (s.sequenceCheck f x c).surveyed = s.surveyed ∧ (s.sequenceCheck f x c).surveys = s.surveys ∧
    (s.sequenceCheck f x c).tokens = s.tokens ∧ (s.sequenceCheck f x c).motion = s.motion ∧
    (s.sequenceCheck f x c).power = s.power ∧ (s.sequenceCheck f x c).views = s.views ∧
    (s.sequenceCheck f x c).balance = s.balance ∧ (s.sequenceCheck f x c).service = s.service ∧
    (s.sequenceCheck f x c).pending = s.pending := by
  unfold State.sequenceCheck
  dsimp only
  (repeat' split) <;> simp

/-- A DATA cell changes what the sequence check changes (R58). -/
@[simp] theorem State.takeData_keeps (l : Lane) (c : Cell) :
    (s.takeData l c).start = s.start ∧ (s.takeData l c).cause = s.cause ∧ (s.takeData l c).station = s.station ∧
    (s.takeData l c).sup = s.sup ∧ (s.takeData l c).srec = s.srec ∧ (s.takeData l c).cfg = s.cfg ∧
    (s.takeData l c).settledRoles = s.settledRoles ∧ (s.takeData l c).farNeighbour = s.farNeighbour ∧
    (s.takeData l c).lateSeen = s.lateSeen ∧ (s.takeData l c).localSlot = s.localSlot ∧ (s.takeData l c).clock = s.clock ∧
    (s.takeData l c).pins = s.pins ∧ (s.takeData l c).rx = s.rx ∧ (s.takeData l c).tx = s.tx ∧
    (s.takeData l c).stations = s.stations ∧ (s.takeData l c).seqs = s.seqs ∧ (s.takeData l c).paced = s.paced ∧
    (s.takeData l c).surveyed = s.surveyed ∧ (s.takeData l c).surveys = s.surveys ∧ (s.takeData l c).tokens = s.tokens ∧
    (s.takeData l c).motion = s.motion ∧ (s.takeData l c).power = s.power ∧ (s.takeData l c).views = s.views ∧
    (s.takeData l c).balance = s.balance ∧ (s.takeData l c).service = s.service ∧ (s.takeData l c).pending = s.pending := by
  unfold State.takeData
  (repeat' split) <;> simp

/-- An expected number forgotten changes the record alone (R60). -/
@[simp] theorem State.forgetSeq_keeps (f : FlowId) :
    (s.forgetSeq f).start = s.start ∧ (s.forgetSeq f).cause = s.cause ∧ (s.forgetSeq f).station = s.station ∧
    (s.forgetSeq f).sup = s.sup ∧ (s.forgetSeq f).srec = s.srec ∧ (s.forgetSeq f).cfg = s.cfg ∧
    (s.forgetSeq f).settledRoles = s.settledRoles ∧ (s.forgetSeq f).farNeighbour = s.farNeighbour ∧
    (s.forgetSeq f).lateSeen = s.lateSeen ∧ (s.forgetSeq f).localSlot = s.localSlot ∧ (s.forgetSeq f).clock = s.clock ∧
    (s.forgetSeq f).pins = s.pins ∧ (s.forgetSeq f).rx = s.rx ∧ (s.forgetSeq f).tx = s.tx ∧
    (s.forgetSeq f).stations = s.stations ∧ (s.forgetSeq f).seqs = s.seqs ∧ (s.forgetSeq f).counters = s.counters ∧
    (s.forgetSeq f).paced = s.paced ∧ (s.forgetSeq f).eyes = s.eyes ∧ (s.forgetSeq f).surveyed = s.surveyed ∧
    (s.forgetSeq f).surveys = s.surveys ∧ (s.forgetSeq f).tokens = s.tokens ∧ (s.forgetSeq f).motion = s.motion ∧
    (s.forgetSeq f).motionOut = s.motionOut ∧ (s.forgetSeq f).audio = s.audio ∧ (s.forgetSeq f).power = s.power ∧
    (s.forgetSeq f).views = s.views ∧ (s.forgetSeq f).balance = s.balance ∧ (s.forgetSeq f).notices = s.notices ∧
    (s.forgetSeq f).pulses = s.pulses ∧ (s.forgetSeq f).service = s.service ∧ (s.forgetSeq f).pending = s.pending := by
  unfold State.forgetSeq
  (repeat' split) <;> simp

/-- Lane loss changes the record and the eye's state (R60, R102). -/
@[simp] theorem State.losePicture_keeps (e : Eye) :
    (s.losePicture e).start = s.start ∧ (s.losePicture e).cause = s.cause ∧ (s.losePicture e).station = s.station ∧
    (s.losePicture e).sup = s.sup ∧ (s.losePicture e).srec = s.srec ∧ (s.losePicture e).cfg = s.cfg ∧
    (s.losePicture e).settledRoles = s.settledRoles ∧ (s.losePicture e).farNeighbour = s.farNeighbour ∧
    (s.losePicture e).lateSeen = s.lateSeen ∧ (s.losePicture e).localSlot = s.localSlot ∧ (s.losePicture e).clock = s.clock ∧
    (s.losePicture e).pins = s.pins ∧ (s.losePicture e).rx = s.rx ∧ (s.losePicture e).tx = s.tx ∧
    (s.losePicture e).stations = s.stations ∧ (s.losePicture e).seqs = s.seqs ∧ (s.losePicture e).paced = s.paced ∧
    (s.losePicture e).surveyed = s.surveyed ∧ (s.losePicture e).surveys = s.surveys ∧ (s.losePicture e).tokens = s.tokens ∧
    (s.losePicture e).motion = s.motion ∧ (s.losePicture e).motionOut = s.motionOut ∧ (s.losePicture e).audio = s.audio ∧
    (s.losePicture e).power = s.power ∧ (s.losePicture e).views = s.views ∧ (s.losePicture e).balance = s.balance ∧
    (s.losePicture e).notices = s.notices ∧ (s.losePicture e).pulses = s.pulses ∧ (s.losePicture e).service = s.service ∧
    (s.losePicture e).pending = s.pending := by
  unfold State.losePicture
  (repeat' split) <;> simp

/-- Lane loss changes the records the lane feeds and their units (R60). -/
@[simp] theorem State.loseLane_keeps (l : Lane) :
    (s.loseLane l).start = s.start ∧ (s.loseLane l).cause = s.cause ∧ (s.loseLane l).station = s.station ∧
    (s.loseLane l).sup = s.sup ∧ (s.loseLane l).srec = s.srec ∧ (s.loseLane l).cfg = s.cfg ∧
    (s.loseLane l).settledRoles = s.settledRoles ∧ (s.loseLane l).farNeighbour = s.farNeighbour ∧
    (s.loseLane l).lateSeen = s.lateSeen ∧ (s.loseLane l).localSlot = s.localSlot ∧ (s.loseLane l).clock = s.clock ∧
    (s.loseLane l).pins = s.pins ∧ (s.loseLane l).rx = s.rx ∧ (s.loseLane l).tx = s.tx ∧
    (s.loseLane l).stations = s.stations ∧ (s.loseLane l).seqs = s.seqs ∧ (s.loseLane l).paced = s.paced ∧
    (s.loseLane l).surveyed = s.surveyed ∧ (s.loseLane l).surveys = s.surveys ∧ (s.loseLane l).tokens = s.tokens ∧
    (s.loseLane l).motion = s.motion ∧ (s.loseLane l).audio = s.audio ∧ (s.loseLane l).power = s.power ∧
    (s.loseLane l).views = s.views ∧ (s.loseLane l).balance = s.balance ∧ (s.loseLane l).notices = s.notices ∧
    (s.loseLane l).pulses = s.pulses ∧ (s.loseLane l).service = s.service ∧ (s.loseLane l).pending = s.pending := by
  unfold State.loseLane
  (repeat' split) <;> simp

/-! #### The station table and lane receivers -/

/-- The new audio station's record and units (R48). -/
@[simp] theorem State.becomeAudio_keeps :
    (s.becomeAudio).start = s.start ∧ (s.becomeAudio).cause = s.cause ∧ (s.becomeAudio).station = s.station ∧
    (s.becomeAudio).sup = s.sup ∧ (s.becomeAudio).srec = s.srec ∧ (s.becomeAudio).cfg = s.cfg ∧
    (s.becomeAudio).settledRoles = s.settledRoles ∧ (s.becomeAudio).farNeighbour = s.farNeighbour ∧
    (s.becomeAudio).lateSeen = s.lateSeen ∧ (s.becomeAudio).localSlot = s.localSlot ∧ (s.becomeAudio).clock = s.clock ∧
    (s.becomeAudio).pins = s.pins ∧ (s.becomeAudio).rx = s.rx ∧ (s.becomeAudio).tx = s.tx ∧
    (s.becomeAudio).stations = s.stations ∧ (s.becomeAudio).seqs = s.seqs ∧ (s.becomeAudio).counters = s.counters ∧
    (s.becomeAudio).paced = s.paced ∧ (s.becomeAudio).eyes = s.eyes ∧ (s.becomeAudio).surveyed = s.surveyed ∧
    (s.becomeAudio).surveys = s.surveys ∧ (s.becomeAudio).tokens = s.tokens ∧ (s.becomeAudio).motion = s.motion ∧
    (s.becomeAudio).motionOut = s.motionOut ∧ (s.becomeAudio).power = s.power ∧ (s.becomeAudio).views = s.views ∧
    (s.becomeAudio).balance = s.balance ∧ (s.becomeAudio).notices = s.notices ∧ (s.becomeAudio).pulses = s.pulses ∧
    (s.becomeAudio).service = s.service ∧ (s.becomeAudio).pending = s.pending := by
  unfold State.becomeAudio
  (repeat' split) <;> simp

/-- The former audio station's record and units (R48). -/
@[simp] theorem State.ceaseAudio_keeps :
    (s.ceaseAudio).start = s.start ∧ (s.ceaseAudio).cause = s.cause ∧ (s.ceaseAudio).station = s.station ∧
    (s.ceaseAudio).sup = s.sup ∧ (s.ceaseAudio).srec = s.srec ∧ (s.ceaseAudio).cfg = s.cfg ∧
    (s.ceaseAudio).settledRoles = s.settledRoles ∧ (s.ceaseAudio).farNeighbour = s.farNeighbour ∧
    (s.ceaseAudio).lateSeen = s.lateSeen ∧ (s.ceaseAudio).localSlot = s.localSlot ∧ (s.ceaseAudio).clock = s.clock ∧
    (s.ceaseAudio).pins = s.pins ∧ (s.ceaseAudio).rx = s.rx ∧ (s.ceaseAudio).tx = s.tx ∧
    (s.ceaseAudio).stations = s.stations ∧ (s.ceaseAudio).seqs = s.seqs ∧ (s.ceaseAudio).counters = s.counters ∧
    (s.ceaseAudio).paced = s.paced ∧ (s.ceaseAudio).eyes = s.eyes ∧ (s.ceaseAudio).surveyed = s.surveyed ∧
    (s.ceaseAudio).surveys = s.surveys ∧ (s.ceaseAudio).tokens = s.tokens ∧ (s.ceaseAudio).motion = s.motion ∧
    (s.ceaseAudio).motionOut = s.motionOut ∧ (s.ceaseAudio).power = s.power ∧ (s.ceaseAudio).views = s.views ∧
    (s.ceaseAudio).balance = s.balance ∧ (s.ceaseAudio).notices = s.notices ∧ (s.ceaseAudio).pulses = s.pulses ∧
    (s.ceaseAudio).service = s.service ∧ (s.ceaseAudio).pending = s.pending := by
  simp [State.ceaseAudio]

/-- A change of the audio station changes the records and the audio unit (R48). -/
@[simp] theorem State.audioChange_keeps (b : State) :
    (State.audioChange b s).start = s.start ∧ (State.audioChange b s).cause = s.cause ∧
    (State.audioChange b s).station = s.station ∧ (State.audioChange b s).sup = s.sup ∧
    (State.audioChange b s).srec = s.srec ∧ (State.audioChange b s).cfg = s.cfg ∧
    (State.audioChange b s).settledRoles = s.settledRoles ∧ (State.audioChange b s).farNeighbour = s.farNeighbour ∧
    (State.audioChange b s).lateSeen = s.lateSeen ∧ (State.audioChange b s).localSlot = s.localSlot ∧
    (State.audioChange b s).clock = s.clock ∧ (State.audioChange b s).pins = s.pins ∧ (State.audioChange b s).rx = s.rx ∧
    (State.audioChange b s).tx = s.tx ∧ (State.audioChange b s).stations = s.stations ∧
    (State.audioChange b s).seqs = s.seqs ∧ (State.audioChange b s).counters = s.counters ∧
    (State.audioChange b s).paced = s.paced ∧ (State.audioChange b s).eyes = s.eyes ∧
    (State.audioChange b s).surveyed = s.surveyed ∧ (State.audioChange b s).surveys = s.surveys ∧
    (State.audioChange b s).tokens = s.tokens ∧ (State.audioChange b s).motion = s.motion ∧
    (State.audioChange b s).motionOut = s.motionOut ∧ (State.audioChange b s).power = s.power ∧
    (State.audioChange b s).views = s.views ∧ (State.audioChange b s).balance = s.balance ∧
    (State.audioChange b s).notices = s.notices ∧ (State.audioChange b s).pulses = s.pulses ∧
    (State.audioChange b s).service = s.service ∧ (State.audioChange b s).pending = s.pending := by
  unfold State.audioChange
  (repeat' split) <;> simp

/-- Presence changes the entry, the applied level, a survey and the audio station (R23, R48, R115, R154). -/
@[simp] theorem State.becomePresent_keeps (t : Station) :
    (s.becomePresent t).start = s.start ∧ (s.becomePresent t).cause = s.cause ∧ (s.becomePresent t).station = s.station ∧
    (s.becomePresent t).sup = s.sup ∧ (s.becomePresent t).srec = s.srec ∧ (s.becomePresent t).cfg = s.cfg ∧
    (s.becomePresent t).settledRoles = s.settledRoles ∧ (s.becomePresent t).farNeighbour = s.farNeighbour ∧
    (s.becomePresent t).lateSeen = s.lateSeen ∧ (s.becomePresent t).localSlot = s.localSlot ∧
    (s.becomePresent t).clock = s.clock ∧ (s.becomePresent t).pins = s.pins ∧ (s.becomePresent t).rx = s.rx ∧
    (s.becomePresent t).seqs = s.seqs ∧ (s.becomePresent t).counters = s.counters ∧ (s.becomePresent t).paced = s.paced ∧
    (s.becomePresent t).surveyed = s.surveyed ∧ (s.becomePresent t).motionOut = s.motionOut ∧
    (s.becomePresent t).views = s.views ∧ (s.becomePresent t).balance = s.balance ∧ (s.becomePresent t).pulses = s.pulses ∧
    (s.becomePresent t).service = s.service ∧ (s.becomePresent t).pending = s.pending := by
  simp [State.becomePresent]

/-- Absence changes the entry, its survey, the applied level and the audio station (R23, R24, R48, R115, R154). -/
@[simp] theorem State.becomeAbsent_keeps (t : Station) :
    (s.becomeAbsent t).start = s.start ∧ (s.becomeAbsent t).cause = s.cause ∧ (s.becomeAbsent t).station = s.station ∧
    (s.becomeAbsent t).sup = s.sup ∧ (s.becomeAbsent t).srec = s.srec ∧ (s.becomeAbsent t).cfg = s.cfg ∧
    (s.becomeAbsent t).settledRoles = s.settledRoles ∧ (s.becomeAbsent t).farNeighbour = s.farNeighbour ∧
    (s.becomeAbsent t).lateSeen = s.lateSeen ∧ (s.becomeAbsent t).localSlot = s.localSlot ∧
    (s.becomeAbsent t).clock = s.clock ∧ (s.becomeAbsent t).pins = s.pins ∧ (s.becomeAbsent t).rx = s.rx ∧
    (s.becomeAbsent t).tx = s.tx ∧ (s.becomeAbsent t).seqs = s.seqs ∧ (s.becomeAbsent t).counters = s.counters ∧
    (s.becomeAbsent t).paced = s.paced ∧ (s.becomeAbsent t).surveyed = s.surveyed ∧ (s.becomeAbsent t).tokens = s.tokens ∧
    (s.becomeAbsent t).motionOut = s.motionOut ∧ (s.becomeAbsent t).views = s.views ∧
    (s.becomeAbsent t).balance = s.balance ∧ (s.becomeAbsent t).pulses = s.pulses ∧ (s.becomeAbsent t).service = s.service ∧
    (s.becomeAbsent t).pending = s.pending := by
  simp [State.becomeAbsent]

/-- A status byte changes the entry, and as presence does (R22). -/
@[simp] theorem State.takeStatus_keeps (l : Lane) (t : Station) (b : Byte) :
    (s.takeStatus l t b).start = s.start ∧ (s.takeStatus l t b).cause = s.cause ∧ (s.takeStatus l t b).station = s.station ∧
    (s.takeStatus l t b).sup = s.sup ∧ (s.takeStatus l t b).srec = s.srec ∧ (s.takeStatus l t b).cfg = s.cfg ∧
    (s.takeStatus l t b).settledRoles = s.settledRoles ∧ (s.takeStatus l t b).farNeighbour = s.farNeighbour ∧
    (s.takeStatus l t b).lateSeen = s.lateSeen ∧ (s.takeStatus l t b).localSlot = s.localSlot ∧
    (s.takeStatus l t b).clock = s.clock ∧ (s.takeStatus l t b).pins = s.pins ∧ (s.takeStatus l t b).rx = s.rx ∧
    (s.takeStatus l t b).seqs = s.seqs ∧ (s.takeStatus l t b).counters = s.counters ∧ (s.takeStatus l t b).paced = s.paced ∧
    (s.takeStatus l t b).surveyed = s.surveyed ∧ (s.takeStatus l t b).motionOut = s.motionOut ∧
    (s.takeStatus l t b).views = s.views ∧ (s.takeStatus l t b).balance = s.balance ∧
    (s.takeStatus l t b).pulses = s.pulses ∧ (s.takeStatus l t b).service = s.service ∧
    (s.takeStatus l t b).pending = s.pending := by
  unfold State.takeStatus
  dsimp only
  (repeat' split) <;> simp

/-- A timeout changes the entry, and as absence does (R23). -/
@[simp] theorem State.timeoutEntry_keeps (l : Lane) (t : Station) :
    (s.timeoutEntry l t).start = s.start ∧ (s.timeoutEntry l t).cause = s.cause ∧ (s.timeoutEntry l t).station = s.station ∧
    (s.timeoutEntry l t).sup = s.sup ∧ (s.timeoutEntry l t).srec = s.srec ∧ (s.timeoutEntry l t).cfg = s.cfg ∧
    (s.timeoutEntry l t).settledRoles = s.settledRoles ∧ (s.timeoutEntry l t).farNeighbour = s.farNeighbour ∧
    (s.timeoutEntry l t).lateSeen = s.lateSeen ∧ (s.timeoutEntry l t).localSlot = s.localSlot ∧
    (s.timeoutEntry l t).clock = s.clock ∧ (s.timeoutEntry l t).pins = s.pins ∧ (s.timeoutEntry l t).rx = s.rx ∧
    (s.timeoutEntry l t).tx = s.tx ∧ (s.timeoutEntry l t).seqs = s.seqs ∧ (s.timeoutEntry l t).counters = s.counters ∧
    (s.timeoutEntry l t).paced = s.paced ∧ (s.timeoutEntry l t).surveyed = s.surveyed ∧
    (s.timeoutEntry l t).tokens = s.tokens ∧ (s.timeoutEntry l t).motionOut = s.motionOut ∧
    (s.timeoutEntry l t).views = s.views ∧ (s.timeoutEntry l t).balance = s.balance ∧
    (s.timeoutEntry l t).pulses = s.pulses ∧ (s.timeoutEntry l t).service = s.service ∧
    (s.timeoutEntry l t).pending = s.pending := by
  unfold State.timeoutEntry
  (repeat' split) <;> simp

/-- A timeout changes the entries, and as absence does (R23). -/
@[simp] theorem State.timeoutLane_keeps (l : Lane) :
    (s.timeoutLane l).start = s.start ∧ (s.timeoutLane l).cause = s.cause ∧ (s.timeoutLane l).station = s.station ∧
    (s.timeoutLane l).sup = s.sup ∧ (s.timeoutLane l).srec = s.srec ∧ (s.timeoutLane l).cfg = s.cfg ∧
    (s.timeoutLane l).settledRoles = s.settledRoles ∧ (s.timeoutLane l).farNeighbour = s.farNeighbour ∧
    (s.timeoutLane l).lateSeen = s.lateSeen ∧ (s.timeoutLane l).localSlot = s.localSlot ∧ (s.timeoutLane l).clock = s.clock ∧
    (s.timeoutLane l).pins = s.pins ∧ (s.timeoutLane l).rx = s.rx ∧ (s.timeoutLane l).tx = s.tx ∧
    (s.timeoutLane l).seqs = s.seqs ∧ (s.timeoutLane l).counters = s.counters ∧ (s.timeoutLane l).paced = s.paced ∧
    (s.timeoutLane l).surveyed = s.surveyed ∧ (s.timeoutLane l).tokens = s.tokens ∧
    (s.timeoutLane l).motionOut = s.motionOut ∧ (s.timeoutLane l).views = s.views ∧ (s.timeoutLane l).balance = s.balance ∧
    (s.timeoutLane l).pulses = s.pulses ∧ (s.timeoutLane l).service = s.service ∧ (s.timeoutLane l).pending = s.pending := by
  simp [State.timeoutLane]

/-- The loss of lock changes the lane's receiver and transmitter, what lane loss changes, and posts (R13). -/
@[simp] theorem State.leaveLocked_keeps (l : Lane) (st : RxState) (c : Option AlignInfo) :
    (s.leaveLocked l st c).start = s.start ∧ (s.leaveLocked l st c).cause = s.cause ∧
    (s.leaveLocked l st c).station = s.station ∧ (s.leaveLocked l st c).sup = s.sup ∧ (s.leaveLocked l st c).srec = s.srec ∧
    (s.leaveLocked l st c).cfg = s.cfg ∧ (s.leaveLocked l st c).settledRoles = s.settledRoles ∧
    (s.leaveLocked l st c).farNeighbour = s.farNeighbour ∧ (s.leaveLocked l st c).lateSeen = s.lateSeen ∧
    (s.leaveLocked l st c).localSlot = s.localSlot ∧ (s.leaveLocked l st c).clock = s.clock ∧
    (s.leaveLocked l st c).pins = s.pins ∧ (s.leaveLocked l st c).stations = s.stations ∧
    (s.leaveLocked l st c).seqs = s.seqs ∧ (s.leaveLocked l st c).paced = s.paced ∧
    (s.leaveLocked l st c).surveyed = s.surveyed ∧ (s.leaveLocked l st c).surveys = s.surveys ∧
    (s.leaveLocked l st c).tokens = s.tokens ∧ (s.leaveLocked l st c).motion = s.motion ∧
    (s.leaveLocked l st c).audio = s.audio ∧ (s.leaveLocked l st c).power = s.power ∧
    (s.leaveLocked l st c).views = s.views ∧ (s.leaveLocked l st c).balance = s.balance ∧
    (s.leaveLocked l st c).pulses = s.pulses ∧ (s.leaveLocked l st c).service = s.service ∧
    (s.leaveLocked l st c).pending = s.pending := by
  unfold State.leaveLocked
  (repeat' split) <;> simp

/-- The return to REPEATING changes the transmitter and posts (R17). -/
@[simp] theorem State.returnToRepeating_keeps (l : Lane) :
    (s.returnToRepeating l).start = s.start ∧ (s.returnToRepeating l).cause = s.cause ∧
    (s.returnToRepeating l).station = s.station ∧ (s.returnToRepeating l).sup = s.sup ∧
    (s.returnToRepeating l).srec = s.srec ∧ (s.returnToRepeating l).cfg = s.cfg ∧
    (s.returnToRepeating l).settledRoles = s.settledRoles ∧ (s.returnToRepeating l).farNeighbour = s.farNeighbour ∧
    (s.returnToRepeating l).lateSeen = s.lateSeen ∧ (s.returnToRepeating l).localSlot = s.localSlot ∧
    (s.returnToRepeating l).clock = s.clock ∧ (s.returnToRepeating l).pins = s.pins ∧ (s.returnToRepeating l).rx = s.rx ∧
    (s.returnToRepeating l).stations = s.stations ∧ (s.returnToRepeating l).dst = s.dst ∧
    (s.returnToRepeating l).seqs = s.seqs ∧ (s.returnToRepeating l).counters = s.counters ∧
    (s.returnToRepeating l).paced = s.paced ∧ (s.returnToRepeating l).eyes = s.eyes ∧
    (s.returnToRepeating l).surveyed = s.surveyed ∧ (s.returnToRepeating l).surveys = s.surveys ∧
    (s.returnToRepeating l).tokens = s.tokens ∧ (s.returnToRepeating l).motion = s.motion ∧
    (s.returnToRepeating l).motionOut = s.motionOut ∧ (s.returnToRepeating l).audio = s.audio ∧
    (s.returnToRepeating l).power = s.power ∧ (s.returnToRepeating l).views = s.views ∧
    (s.returnToRepeating l).balance = s.balance ∧ (s.returnToRepeating l).pulses = s.pulses ∧
    (s.returnToRepeating l).service = s.service ∧ (s.returnToRepeating l).pending = s.pending := by
  unfold State.returnToRepeating
  dsimp only
  (repeat' split) <;> simp

/-- A late neighbour is noted and posted (R21). -/
@[simp] theorem State.lateNeighbour_keeps (l : Lane) :
    (s.lateNeighbour l).start = s.start ∧ (s.lateNeighbour l).cause = s.cause ∧ (s.lateNeighbour l).station = s.station ∧
    (s.lateNeighbour l).sup = s.sup ∧ (s.lateNeighbour l).srec = s.srec ∧ (s.lateNeighbour l).cfg = s.cfg ∧
    (s.lateNeighbour l).settledRoles = s.settledRoles ∧ (s.lateNeighbour l).farNeighbour = s.farNeighbour ∧
    (s.lateNeighbour l).localSlot = s.localSlot ∧ (s.lateNeighbour l).clock = s.clock ∧ (s.lateNeighbour l).pins = s.pins ∧
    (s.lateNeighbour l).rx = s.rx ∧ (s.lateNeighbour l).tx = s.tx ∧ (s.lateNeighbour l).stations = s.stations ∧
    (s.lateNeighbour l).dst = s.dst ∧ (s.lateNeighbour l).seqs = s.seqs ∧ (s.lateNeighbour l).counters = s.counters ∧
    (s.lateNeighbour l).paced = s.paced ∧ (s.lateNeighbour l).eyes = s.eyes ∧ (s.lateNeighbour l).surveyed = s.surveyed ∧
    (s.lateNeighbour l).surveys = s.surveys ∧ (s.lateNeighbour l).tokens = s.tokens ∧ (s.lateNeighbour l).motion = s.motion ∧
    (s.lateNeighbour l).motionOut = s.motionOut ∧ (s.lateNeighbour l).audio = s.audio ∧ (s.lateNeighbour l).power = s.power ∧
    (s.lateNeighbour l).views = s.views ∧ (s.lateNeighbour l).balance = s.balance ∧ (s.lateNeighbour l).pulses = s.pulses ∧
    (s.lateNeighbour l).service = s.service ∧ (s.lateNeighbour l).pending = s.pending := by
  unfold State.lateNeighbour
  (repeat' split) <;> simp

/-- Signal found changes the receiver and the far-neighbour record (R7, R19). -/
@[simp] theorem State.findSignal_keeps (l : Lane) :
    (s.findSignal l).start = s.start ∧ (s.findSignal l).cause = s.cause ∧ (s.findSignal l).station = s.station ∧
    (s.findSignal l).sup = s.sup ∧ (s.findSignal l).srec = s.srec ∧ (s.findSignal l).cfg = s.cfg ∧
    (s.findSignal l).settledRoles = s.settledRoles ∧ (s.findSignal l).lateSeen = s.lateSeen ∧
    (s.findSignal l).localSlot = s.localSlot ∧ (s.findSignal l).clock = s.clock ∧ (s.findSignal l).pins = s.pins ∧
    (s.findSignal l).tx = s.tx ∧ (s.findSignal l).stations = s.stations ∧ (s.findSignal l).dst = s.dst ∧
    (s.findSignal l).seqs = s.seqs ∧ (s.findSignal l).counters = s.counters ∧ (s.findSignal l).paced = s.paced ∧
    (s.findSignal l).eyes = s.eyes ∧ (s.findSignal l).surveyed = s.surveyed ∧ (s.findSignal l).surveys = s.surveys ∧
    (s.findSignal l).tokens = s.tokens ∧ (s.findSignal l).motion = s.motion ∧ (s.findSignal l).motionOut = s.motionOut ∧
    (s.findSignal l).audio = s.audio ∧ (s.findSignal l).power = s.power ∧ (s.findSignal l).views = s.views ∧
    (s.findSignal l).balance = s.balance ∧ (s.findSignal l).notices = s.notices ∧ (s.findSignal l).pulses = s.pulses ∧
    (s.findSignal l).service = s.service ∧ (s.findSignal l).pending = s.pending := by
  unfold State.findSignal
  (repeat' split) <;> simp

/-- The entry to LOCKED changes the receiver, the clock, the restart run, a FIFO, and posts (R8, R13, R118). -/
@[simp] theorem State.enterLocked_keeps (l : Lane) (i : AlignInfo) :
    (s.enterLocked l i).start = s.start ∧ (s.enterLocked l i).cause = s.cause ∧ (s.enterLocked l i).station = s.station ∧
    (s.enterLocked l i).sup = s.sup ∧ (s.enterLocked l i).srec = s.srec ∧ (s.enterLocked l i).cfg = s.cfg ∧
    (s.enterLocked l i).settledRoles = s.settledRoles ∧ (s.enterLocked l i).farNeighbour = s.farNeighbour ∧
    (s.enterLocked l i).lateSeen = s.lateSeen ∧ (s.enterLocked l i).localSlot = s.localSlot ∧
    (s.enterLocked l i).pins = s.pins ∧ (s.enterLocked l i).stations = s.stations ∧ (s.enterLocked l i).dst = s.dst ∧
    (s.enterLocked l i).seqs = s.seqs ∧ (s.enterLocked l i).counters = s.counters ∧ (s.enterLocked l i).paced = s.paced ∧
    (s.enterLocked l i).eyes = s.eyes ∧ (s.enterLocked l i).surveyed = s.surveyed ∧ (s.enterLocked l i).surveys = s.surveys ∧
    (s.enterLocked l i).tokens = s.tokens ∧ (s.enterLocked l i).motion = s.motion ∧ (s.enterLocked l i).audio = s.audio ∧
    (s.enterLocked l i).power = s.power ∧ (s.enterLocked l i).views = s.views ∧ (s.enterLocked l i).balance = s.balance ∧
    (s.enterLocked l i).service = s.service ∧ (s.enterLocked l i).pending = s.pending := by
  unfold State.enterLocked
  (repeat' split) <;> simp

/-- The expected position in CONFIRM changes the receiver, and as the entry to LOCKED does (R8). -/
@[simp] theorem State.confirmCell_keeps (l : Lane) (x : Option Cell) :
    (s.confirmCell l x).start = s.start ∧ (s.confirmCell l x).cause = s.cause ∧ (s.confirmCell l x).station = s.station ∧
    (s.confirmCell l x).sup = s.sup ∧ (s.confirmCell l x).srec = s.srec ∧ (s.confirmCell l x).cfg = s.cfg ∧
    (s.confirmCell l x).settledRoles = s.settledRoles ∧ (s.confirmCell l x).farNeighbour = s.farNeighbour ∧
    (s.confirmCell l x).lateSeen = s.lateSeen ∧ (s.confirmCell l x).localSlot = s.localSlot ∧
    (s.confirmCell l x).pins = s.pins ∧ (s.confirmCell l x).stations = s.stations ∧ (s.confirmCell l x).dst = s.dst ∧
    (s.confirmCell l x).seqs = s.seqs ∧ (s.confirmCell l x).counters = s.counters ∧ (s.confirmCell l x).paced = s.paced ∧
    (s.confirmCell l x).eyes = s.eyes ∧ (s.confirmCell l x).surveyed = s.surveyed ∧ (s.confirmCell l x).surveys = s.surveys ∧
    (s.confirmCell l x).tokens = s.tokens ∧ (s.confirmCell l x).motion = s.motion ∧ (s.confirmCell l x).audio = s.audio ∧
    (s.confirmCell l x).power = s.power ∧ (s.confirmCell l x).views = s.views ∧ (s.confirmCell l x).balance = s.balance ∧
    (s.confirmCell l x).service = s.service ∧ (s.confirmCell l x).pending = s.pending := by
  unfold State.confirmCell
  dsimp only
  (repeat' split) <;> simp

/-- An error changes the receiver, and as the loss of lock does (R10). -/
@[simp] theorem State.alignError_keeps (l : Lane) :
    (s.alignError l).start = s.start ∧ (s.alignError l).cause = s.cause ∧ (s.alignError l).station = s.station ∧
    (s.alignError l).sup = s.sup ∧ (s.alignError l).srec = s.srec ∧ (s.alignError l).cfg = s.cfg ∧
    (s.alignError l).settledRoles = s.settledRoles ∧ (s.alignError l).farNeighbour = s.farNeighbour ∧
    (s.alignError l).lateSeen = s.lateSeen ∧ (s.alignError l).localSlot = s.localSlot ∧ (s.alignError l).pins = s.pins ∧
    (s.alignError l).stations = s.stations ∧ (s.alignError l).seqs = s.seqs ∧ (s.alignError l).paced = s.paced ∧
    (s.alignError l).surveyed = s.surveyed ∧ (s.alignError l).surveys = s.surveys ∧ (s.alignError l).tokens = s.tokens ∧
    (s.alignError l).motion = s.motion ∧ (s.alignError l).audio = s.audio ∧ (s.alignError l).power = s.power ∧
    (s.alignError l).views = s.views ∧ (s.alignError l).balance = s.balance ∧ (s.alignError l).service = s.service ∧
    (s.alignError l).pending = s.pending := by
  unfold State.alignError
  dsimp only
  (repeat' split) <;> simp

/-- What the blocks make of a correct cell (R14, R17, R22, R180). -/
@[simp] theorem State.handAlign_keeps (l : Lane) (r : Rx) (i : AlignInfo) :
    (s.handAlign l r i).start = s.start ∧ (s.handAlign l r i).cause = s.cause ∧ (s.handAlign l r i).station = s.station ∧
    (s.handAlign l r i).sup = s.sup ∧ (s.handAlign l r i).srec = s.srec ∧ (s.handAlign l r i).cfg = s.cfg ∧
    (s.handAlign l r i).settledRoles = s.settledRoles ∧ (s.handAlign l r i).farNeighbour = s.farNeighbour ∧
    (s.handAlign l r i).lateSeen = s.lateSeen ∧ (s.handAlign l r i).localSlot = s.localSlot ∧
    (s.handAlign l r i).clock = s.clock ∧ (s.handAlign l r i).pins = s.pins ∧ (s.handAlign l r i).rx = s.rx ∧
    (s.handAlign l r i).seqs = s.seqs ∧ (s.handAlign l r i).counters = s.counters ∧ (s.handAlign l r i).paced = s.paced ∧
    (s.handAlign l r i).surveyed = s.surveyed ∧ (s.handAlign l r i).views = s.views ∧ (s.handAlign l r i).pulses = s.pulses ∧
    (s.handAlign l r i).service = s.service ∧ (s.handAlign l r i).pending = s.pending := by
  unfold State.handAlign
  (repeat' split) <;> simp

/-- A transmitter that is to be REPEATING, and LANE_STATE (R20). -/
@[simp] theorem State.toRepeating_keeps (l : Lane) :
    (s.toRepeating l).start = s.start ∧ (s.toRepeating l).cause = s.cause ∧ (s.toRepeating l).station = s.station ∧
    (s.toRepeating l).sup = s.sup ∧ (s.toRepeating l).srec = s.srec ∧ (s.toRepeating l).cfg = s.cfg ∧
    (s.toRepeating l).settledRoles = s.settledRoles ∧ (s.toRepeating l).farNeighbour = s.farNeighbour ∧
    (s.toRepeating l).lateSeen = s.lateSeen ∧ (s.toRepeating l).localSlot = s.localSlot ∧ (s.toRepeating l).clock = s.clock ∧
    (s.toRepeating l).pins = s.pins ∧ (s.toRepeating l).rx = s.rx ∧ (s.toRepeating l).stations = s.stations ∧
    (s.toRepeating l).dst = s.dst ∧ (s.toRepeating l).seqs = s.seqs ∧ (s.toRepeating l).counters = s.counters ∧
    (s.toRepeating l).paced = s.paced ∧ (s.toRepeating l).eyes = s.eyes ∧ (s.toRepeating l).surveyed = s.surveyed ∧
    (s.toRepeating l).surveys = s.surveys ∧ (s.toRepeating l).tokens = s.tokens ∧ (s.toRepeating l).motion = s.motion ∧
    (s.toRepeating l).motionOut = s.motionOut ∧ (s.toRepeating l).audio = s.audio ∧ (s.toRepeating l).power = s.power ∧
    (s.toRepeating l).views = s.views ∧ (s.toRepeating l).balance = s.balance ∧ (s.toRepeating l).pulses = s.pulses ∧
    (s.toRepeating l).service = s.service ∧ (s.toRepeating l).pending = s.pending := by
  unfold State.toRepeating
  (repeat' split) <;> simp

/-- The roles settle in the transmitters and the receiver not in use (R20). -/
@[simp] theorem State.settleRoles_keeps :
    (s.settleRoles).start = s.start ∧ (s.settleRoles).cause = s.cause ∧ (s.settleRoles).station = s.station ∧
    (s.settleRoles).sup = s.sup ∧ (s.settleRoles).srec = s.srec ∧ (s.settleRoles).cfg = s.cfg ∧
    (s.settleRoles).farNeighbour = s.farNeighbour ∧ (s.settleRoles).lateSeen = s.lateSeen ∧
    (s.settleRoles).localSlot = s.localSlot ∧ (s.settleRoles).clock = s.clock ∧ (s.settleRoles).pins = s.pins ∧
    (s.settleRoles).stations = s.stations ∧ (s.settleRoles).dst = s.dst ∧ (s.settleRoles).seqs = s.seqs ∧
    (s.settleRoles).counters = s.counters ∧ (s.settleRoles).paced = s.paced ∧ (s.settleRoles).eyes = s.eyes ∧
    (s.settleRoles).surveyed = s.surveyed ∧ (s.settleRoles).surveys = s.surveys ∧ (s.settleRoles).tokens = s.tokens ∧
    (s.settleRoles).motion = s.motion ∧ (s.settleRoles).motionOut = s.motionOut ∧ (s.settleRoles).audio = s.audio ∧
    (s.settleRoles).power = s.power ∧ (s.settleRoles).views = s.views ∧ (s.settleRoles).balance = s.balance ∧
    (s.settleRoles).pulses = s.pulses ∧ (s.settleRoles).service = s.service ∧ (s.settleRoles).pending = s.pending := by
  unfold State.settleRoles
  (repeat' split) <;> simp

/-! #### What transmitters send -/

/-- The own status byte changes the own entry (R24). -/
@[simp] theorem State.noteStatus_keeps (d : Bool) (i : AlignInfo) :
    (s.noteStatus d i).start = s.start ∧ (s.noteStatus d i).cause = s.cause ∧ (s.noteStatus d i).station = s.station ∧
    (s.noteStatus d i).sup = s.sup ∧ (s.noteStatus d i).srec = s.srec ∧ (s.noteStatus d i).cfg = s.cfg ∧
    (s.noteStatus d i).settledRoles = s.settledRoles ∧ (s.noteStatus d i).farNeighbour = s.farNeighbour ∧
    (s.noteStatus d i).lateSeen = s.lateSeen ∧ (s.noteStatus d i).localSlot = s.localSlot ∧
    (s.noteStatus d i).clock = s.clock ∧ (s.noteStatus d i).pins = s.pins ∧ (s.noteStatus d i).rx = s.rx ∧
    (s.noteStatus d i).tx = s.tx ∧ (s.noteStatus d i).dst = s.dst ∧ (s.noteStatus d i).seqs = s.seqs ∧
    (s.noteStatus d i).counters = s.counters ∧ (s.noteStatus d i).paced = s.paced ∧ (s.noteStatus d i).eyes = s.eyes ∧
    (s.noteStatus d i).surveyed = s.surveyed ∧ (s.noteStatus d i).surveys = s.surveys ∧
    (s.noteStatus d i).tokens = s.tokens ∧ (s.noteStatus d i).motion = s.motion ∧
    (s.noteStatus d i).motionOut = s.motionOut ∧ (s.noteStatus d i).audio = s.audio ∧ (s.noteStatus d i).power = s.power ∧
    (s.noteStatus d i).views = s.views ∧ (s.noteStatus d i).balance = s.balance ∧ (s.noteStatus d i).notices = s.notices ∧
    (s.noteStatus d i).pulses = s.pulses ∧ (s.noteStatus d i).service = s.service ∧
    (s.noteStatus d i).pending = s.pending := by
  unfold State.noteStatus
  (repeat' split) <;> simp

/-- An alignment cell changes the transmitter, the own entry and the clock (R4, R112). -/
@[simp] theorem State.putAlign_keeps (l : Lane) (d : Bool) (i : AlignInfo) :
    (s.putAlign l d i).start = s.start ∧ (s.putAlign l d i).cause = s.cause ∧ (s.putAlign l d i).station = s.station ∧
    (s.putAlign l d i).sup = s.sup ∧ (s.putAlign l d i).srec = s.srec ∧ (s.putAlign l d i).cfg = s.cfg ∧
    (s.putAlign l d i).settledRoles = s.settledRoles ∧ (s.putAlign l d i).farNeighbour = s.farNeighbour ∧
    (s.putAlign l d i).lateSeen = s.lateSeen ∧ (s.putAlign l d i).localSlot = s.localSlot ∧
    (s.putAlign l d i).pins = s.pins ∧ (s.putAlign l d i).rx = s.rx ∧ (s.putAlign l d i).dst = s.dst ∧
    (s.putAlign l d i).seqs = s.seqs ∧ (s.putAlign l d i).counters = s.counters ∧ (s.putAlign l d i).paced = s.paced ∧
    (s.putAlign l d i).eyes = s.eyes ∧ (s.putAlign l d i).surveyed = s.surveyed ∧ (s.putAlign l d i).surveys = s.surveys ∧
    (s.putAlign l d i).tokens = s.tokens ∧ (s.putAlign l d i).motion = s.motion ∧
    (s.putAlign l d i).motionOut = s.motionOut ∧ (s.putAlign l d i).audio = s.audio ∧ (s.putAlign l d i).power = s.power ∧
    (s.putAlign l d i).views = s.views ∧ (s.putAlign l d i).balance = s.balance ∧ (s.putAlign l d i).notices = s.notices ∧
    (s.putAlign l d i).service = s.service ∧ (s.putAlign l d i).pending = s.pending := by
  simp [State.putAlign]

/-- The test an alignment cell brings changes what a report changes (R178). -/
@[simp] theorem State.alignTest_keeps (l : Lane) :
    (s.alignTest l).start = s.start ∧ (s.alignTest l).cause = s.cause ∧ (s.alignTest l).station = s.station ∧
    (s.alignTest l).sup = s.sup ∧ (s.alignTest l).srec = s.srec ∧ (s.alignTest l).cfg = s.cfg ∧
    (s.alignTest l).settledRoles = s.settledRoles ∧ (s.alignTest l).farNeighbour = s.farNeighbour ∧
    (s.alignTest l).lateSeen = s.lateSeen ∧ (s.alignTest l).localSlot = s.localSlot ∧ (s.alignTest l).clock = s.clock ∧
    (s.alignTest l).pins = s.pins ∧ (s.alignTest l).rx = s.rx ∧ (s.alignTest l).stations = s.stations ∧
    (s.alignTest l).dst = s.dst ∧ (s.alignTest l).seqs = s.seqs ∧ (s.alignTest l).counters = s.counters ∧
    (s.alignTest l).paced = s.paced ∧ (s.alignTest l).eyes = s.eyes ∧ (s.alignTest l).surveyed = s.surveyed ∧
    (s.alignTest l).surveys = s.surveys ∧ (s.alignTest l).tokens = s.tokens ∧ (s.alignTest l).motion = s.motion ∧
    (s.alignTest l).motionOut = s.motionOut ∧ (s.alignTest l).audio = s.audio ∧ (s.alignTest l).views = s.views ∧
    (s.alignTest l).notices = s.notices ∧ (s.alignTest l).pulses = s.pulses ∧ (s.alignTest l).service = s.service ∧
    (s.alignTest l).pending = s.pending := by
  unfold State.alignTest
  (repeat' split) <;> simp

/-- A repeated alignment cell, with its test (R4, R178). -/
@[simp] theorem State.repeatAlign_keeps (l : Lane) (d : Bool) (i : AlignInfo) :
    (s.repeatAlign l d i).start = s.start ∧ (s.repeatAlign l d i).cause = s.cause ∧
    (s.repeatAlign l d i).station = s.station ∧ (s.repeatAlign l d i).sup = s.sup ∧ (s.repeatAlign l d i).srec = s.srec ∧
    (s.repeatAlign l d i).cfg = s.cfg ∧ (s.repeatAlign l d i).settledRoles = s.settledRoles ∧
    (s.repeatAlign l d i).farNeighbour = s.farNeighbour ∧ (s.repeatAlign l d i).lateSeen = s.lateSeen ∧
    (s.repeatAlign l d i).localSlot = s.localSlot ∧ (s.repeatAlign l d i).pins = s.pins ∧ (s.repeatAlign l d i).rx = s.rx ∧
    (s.repeatAlign l d i).dst = s.dst ∧ (s.repeatAlign l d i).seqs = s.seqs ∧ (s.repeatAlign l d i).counters = s.counters ∧
    (s.repeatAlign l d i).paced = s.paced ∧ (s.repeatAlign l d i).eyes = s.eyes ∧
    (s.repeatAlign l d i).surveyed = s.surveyed ∧ (s.repeatAlign l d i).surveys = s.surveys ∧
    (s.repeatAlign l d i).tokens = s.tokens ∧ (s.repeatAlign l d i).motion = s.motion ∧
    (s.repeatAlign l d i).motionOut = s.motionOut ∧ (s.repeatAlign l d i).audio = s.audio ∧
    (s.repeatAlign l d i).views = s.views ∧ (s.repeatAlign l d i).notices = s.notices ∧
    (s.repeatAlign l d i).service = s.service ∧ (s.repeatAlign l d i).pending = s.pending := by
  simp [State.repeatAlign]

/-- An alignment cell of a SUBSTITUTE or provisional origin, with its test (R4, R178). -/
@[simp] theorem State.ownAlign_keeps (l : Lane) (f : Bool) :
    (s.ownAlign l f).start = s.start ∧ (s.ownAlign l f).cause = s.cause ∧ (s.ownAlign l f).station = s.station ∧
    (s.ownAlign l f).sup = s.sup ∧ (s.ownAlign l f).srec = s.srec ∧ (s.ownAlign l f).cfg = s.cfg ∧
    (s.ownAlign l f).settledRoles = s.settledRoles ∧ (s.ownAlign l f).farNeighbour = s.farNeighbour ∧
    (s.ownAlign l f).lateSeen = s.lateSeen ∧ (s.ownAlign l f).localSlot = s.localSlot ∧ (s.ownAlign l f).pins = s.pins ∧
    (s.ownAlign l f).rx = s.rx ∧ (s.ownAlign l f).dst = s.dst ∧ (s.ownAlign l f).seqs = s.seqs ∧
    (s.ownAlign l f).counters = s.counters ∧ (s.ownAlign l f).paced = s.paced ∧ (s.ownAlign l f).eyes = s.eyes ∧
    (s.ownAlign l f).surveyed = s.surveyed ∧ (s.ownAlign l f).surveys = s.surveys ∧ (s.ownAlign l f).tokens = s.tokens ∧
    (s.ownAlign l f).motion = s.motion ∧ (s.ownAlign l f).motionOut = s.motionOut ∧ (s.ownAlign l f).audio = s.audio ∧
    (s.ownAlign l f).views = s.views ∧ (s.ownAlign l f).notices = s.notices ∧ (s.ownAlign l f).service = s.service ∧
    (s.ownAlign l f).pending = s.pending := by
  simp [State.ownAlign]

/-- A frame of CONSOLE's down TX adds credit and checks for probes (R67, R69). -/
@[simp] theorem State.consoleFrame_keeps (l : Lane) (f : BitVec 4) :
    (s.consoleFrame l f).start = s.start ∧ (s.consoleFrame l f).cause = s.cause ∧ (s.consoleFrame l f).station = s.station ∧
    (s.consoleFrame l f).sup = s.sup ∧ (s.consoleFrame l f).srec = s.srec ∧ (s.consoleFrame l f).cfg = s.cfg ∧
    (s.consoleFrame l f).settledRoles = s.settledRoles ∧ (s.consoleFrame l f).farNeighbour = s.farNeighbour ∧
    (s.consoleFrame l f).lateSeen = s.lateSeen ∧ (s.consoleFrame l f).localSlot = s.localSlot ∧
    (s.consoleFrame l f).clock = s.clock ∧ (s.consoleFrame l f).pins = s.pins ∧ (s.consoleFrame l f).rx = s.rx ∧
    (s.consoleFrame l f).stations = s.stations ∧ (s.consoleFrame l f).dst = s.dst ∧ (s.consoleFrame l f).seqs = s.seqs ∧
    (s.consoleFrame l f).counters = s.counters ∧ (s.consoleFrame l f).eyes = s.eyes ∧
    (s.consoleFrame l f).surveyed = s.surveyed ∧ (s.consoleFrame l f).surveys = s.surveys ∧
    (s.consoleFrame l f).tokens = s.tokens ∧ (s.consoleFrame l f).motion = s.motion ∧
    (s.consoleFrame l f).motionOut = s.motionOut ∧ (s.consoleFrame l f).audio = s.audio ∧
    (s.consoleFrame l f).power = s.power ∧ (s.consoleFrame l f).views = s.views ∧ (s.consoleFrame l f).balance = s.balance ∧
    (s.consoleFrame l f).pulses = s.pulses ∧ (s.consoleFrame l f).service = s.service ∧
    (s.consoleFrame l f).pending = s.pending := by
  unfold State.consoleFrame
  (repeat' split) <;> simp

/-- An alignment cell of an ORIGIN, with credit, probes, the fresh rule and the test (R4, R67, R69, R178, R180). -/
@[simp] theorem State.originAlign_keeps (l : Lane) (q : Quiet) :
    (s.originAlign l q).start = s.start ∧ (s.originAlign l q).cause = s.cause ∧ (s.originAlign l q).station = s.station ∧
    (s.originAlign l q).sup = s.sup ∧ (s.originAlign l q).srec = s.srec ∧ (s.originAlign l q).cfg = s.cfg ∧
    (s.originAlign l q).settledRoles = s.settledRoles ∧ (s.originAlign l q).farNeighbour = s.farNeighbour ∧
    (s.originAlign l q).lateSeen = s.lateSeen ∧ (s.originAlign l q).localSlot = s.localSlot ∧
    (s.originAlign l q).pins = s.pins ∧ (s.originAlign l q).rx = s.rx ∧ (s.originAlign l q).dst = s.dst ∧
    (s.originAlign l q).seqs = s.seqs ∧ (s.originAlign l q).counters = s.counters ∧ (s.originAlign l q).eyes = s.eyes ∧
    (s.originAlign l q).surveyed = s.surveyed ∧ (s.originAlign l q).surveys = s.surveys ∧
    (s.originAlign l q).tokens = s.tokens ∧ (s.originAlign l q).motion = s.motion ∧
    (s.originAlign l q).motionOut = s.motionOut ∧ (s.originAlign l q).audio = s.audio ∧ (s.originAlign l q).views = s.views ∧
    (s.originAlign l q).service = s.service ∧ (s.originAlign l q).pending = s.pending := by
  unfold State.originAlign
  dsimp only
  (repeat' split) <;> simp

/-- A repeated cell changes the transmitter alone (R32). -/
@[simp] theorem State.repeatCell_keeps (l : Lane) (c : Cell) :
    (s.repeatCell l c).start = s.start ∧ (s.repeatCell l c).cause = s.cause ∧ (s.repeatCell l c).station = s.station ∧
    (s.repeatCell l c).sup = s.sup ∧ (s.repeatCell l c).srec = s.srec ∧ (s.repeatCell l c).cfg = s.cfg ∧
    (s.repeatCell l c).settledRoles = s.settledRoles ∧ (s.repeatCell l c).farNeighbour = s.farNeighbour ∧
    (s.repeatCell l c).lateSeen = s.lateSeen ∧ (s.repeatCell l c).localSlot = s.localSlot ∧
    (s.repeatCell l c).clock = s.clock ∧ (s.repeatCell l c).pins = s.pins ∧ (s.repeatCell l c).rx = s.rx ∧
    (s.repeatCell l c).stations = s.stations ∧ (s.repeatCell l c).dst = s.dst ∧ (s.repeatCell l c).seqs = s.seqs ∧
    (s.repeatCell l c).counters = s.counters ∧ (s.repeatCell l c).paced = s.paced ∧ (s.repeatCell l c).eyes = s.eyes ∧
    (s.repeatCell l c).surveyed = s.surveyed ∧ (s.repeatCell l c).surveys = s.surveys ∧
    (s.repeatCell l c).tokens = s.tokens ∧ (s.repeatCell l c).motion = s.motion ∧
    (s.repeatCell l c).motionOut = s.motionOut ∧ (s.repeatCell l c).audio = s.audio ∧ (s.repeatCell l c).power = s.power ∧
    (s.repeatCell l c).views = s.views ∧ (s.repeatCell l c).balance = s.balance ∧ (s.repeatCell l c).notices = s.notices ∧
    (s.repeatCell l c).pulses = s.pulses ∧ (s.repeatCell l c).service = s.service ∧
    (s.repeatCell l c).pending = s.pending := by
  unfold State.repeatCell
  (repeat' split) <;> simp

/-- The decision for a payload cell changes the receiver and the transmitter (R30 to R33). -/
@[simp] theorem State.decideCell_keeps (l : Lane) (c : Cell) :
    (s.decideCell l c).start = s.start ∧ (s.decideCell l c).cause = s.cause ∧ (s.decideCell l c).station = s.station ∧
    (s.decideCell l c).sup = s.sup ∧ (s.decideCell l c).srec = s.srec ∧ (s.decideCell l c).cfg = s.cfg ∧
    (s.decideCell l c).settledRoles = s.settledRoles ∧ (s.decideCell l c).farNeighbour = s.farNeighbour ∧
    (s.decideCell l c).lateSeen = s.lateSeen ∧ (s.decideCell l c).localSlot = s.localSlot ∧
    (s.decideCell l c).clock = s.clock ∧ (s.decideCell l c).pins = s.pins ∧ (s.decideCell l c).stations = s.stations ∧
    (s.decideCell l c).dst = s.dst ∧ (s.decideCell l c).seqs = s.seqs ∧ (s.decideCell l c).counters = s.counters ∧
    (s.decideCell l c).paced = s.paced ∧ (s.decideCell l c).eyes = s.eyes ∧ (s.decideCell l c).surveyed = s.surveyed ∧
    (s.decideCell l c).surveys = s.surveys ∧ (s.decideCell l c).tokens = s.tokens ∧ (s.decideCell l c).motion = s.motion ∧
    (s.decideCell l c).motionOut = s.motionOut ∧ (s.decideCell l c).audio = s.audio ∧ (s.decideCell l c).power = s.power ∧
    (s.decideCell l c).views = s.views ∧ (s.decideCell l c).balance = s.balance ∧ (s.decideCell l c).notices = s.notices ∧
    (s.decideCell l c).pulses = s.pulses ∧ (s.decideCell l c).service = s.service ∧
    (s.decideCell l c).pending = s.pending := by
  unfold State.decideCell
  (repeat' split) <;> simp

/-- A sample inserted changes the transmitter, its sequence number and its queue (R38, R125). -/
@[simp] theorem State.insertMotion_keeps (l : Lane) (x : Sample) :
    (s.insertMotion l x).start = s.start ∧ (s.insertMotion l x).cause = s.cause ∧ (s.insertMotion l x).station = s.station ∧
    (s.insertMotion l x).sup = s.sup ∧ (s.insertMotion l x).srec = s.srec ∧ (s.insertMotion l x).cfg = s.cfg ∧
    (s.insertMotion l x).settledRoles = s.settledRoles ∧ (s.insertMotion l x).farNeighbour = s.farNeighbour ∧
    (s.insertMotion l x).lateSeen = s.lateSeen ∧ (s.insertMotion l x).localSlot = s.localSlot ∧
    (s.insertMotion l x).clock = s.clock ∧ (s.insertMotion l x).pins = s.pins ∧ (s.insertMotion l x).rx = s.rx ∧
    (s.insertMotion l x).stations = s.stations ∧ (s.insertMotion l x).dst = s.dst ∧
    (s.insertMotion l x).counters = s.counters ∧ (s.insertMotion l x).paced = s.paced ∧ (s.insertMotion l x).eyes = s.eyes ∧
    (s.insertMotion l x).surveyed = s.surveyed ∧ (s.insertMotion l x).surveys = s.surveys ∧
    (s.insertMotion l x).tokens = s.tokens ∧ (s.insertMotion l x).motionOut = s.motionOut ∧
    (s.insertMotion l x).audio = s.audio ∧ (s.insertMotion l x).power = s.power ∧ (s.insertMotion l x).views = s.views ∧
    (s.insertMotion l x).balance = s.balance ∧ (s.insertMotion l x).notices = s.notices ∧
    (s.insertMotion l x).pulses = s.pulses ∧ (s.insertMotion l x).service = s.service ∧
    (s.insertMotion l x).pending = s.pending := by
  unfold State.insertMotion
  (repeat' split) <;> simp

/-- A block inserted changes the transmitter, its sequence number and its queue (R38, R133). -/
@[simp] theorem State.insertAudio_keeps (l : Lane) (b : Block) :
    (s.insertAudio l b).start = s.start ∧ (s.insertAudio l b).cause = s.cause ∧ (s.insertAudio l b).station = s.station ∧
    (s.insertAudio l b).sup = s.sup ∧ (s.insertAudio l b).srec = s.srec ∧ (s.insertAudio l b).cfg = s.cfg ∧
    (s.insertAudio l b).settledRoles = s.settledRoles ∧ (s.insertAudio l b).farNeighbour = s.farNeighbour ∧
    (s.insertAudio l b).lateSeen = s.lateSeen ∧ (s.insertAudio l b).localSlot = s.localSlot ∧
    (s.insertAudio l b).clock = s.clock ∧ (s.insertAudio l b).pins = s.pins ∧ (s.insertAudio l b).rx = s.rx ∧
    (s.insertAudio l b).stations = s.stations ∧ (s.insertAudio l b).dst = s.dst ∧ (s.insertAudio l b).counters = s.counters ∧
    (s.insertAudio l b).paced = s.paced ∧ (s.insertAudio l b).eyes = s.eyes ∧ (s.insertAudio l b).surveyed = s.surveyed ∧
    (s.insertAudio l b).surveys = s.surveys ∧ (s.insertAudio l b).tokens = s.tokens ∧ (s.insertAudio l b).motion = s.motion ∧
    (s.insertAudio l b).motionOut = s.motionOut ∧ (s.insertAudio l b).power = s.power ∧ (s.insertAudio l b).views = s.views ∧
    (s.insertAudio l b).balance = s.balance ∧ (s.insertAudio l b).notices = s.notices ∧
    (s.insertAudio l b).pulses = s.pulses ∧ (s.insertAudio l b).service = s.service ∧
    (s.insertAudio l b).pending = s.pending := by
  simp [State.insertAudio]

/-- The insertion report changes the block that queued the cell (R38). -/
@[simp] theorem State.reportInserted_keeps (l : Lane) (c : Ctl) :
    (s.reportInserted l c).start = s.start ∧ (s.reportInserted l c).cause = s.cause ∧
    (s.reportInserted l c).station = s.station ∧ (s.reportInserted l c).sup = s.sup ∧ (s.reportInserted l c).srec = s.srec ∧
    (s.reportInserted l c).cfg = s.cfg ∧ (s.reportInserted l c).settledRoles = s.settledRoles ∧
    (s.reportInserted l c).farNeighbour = s.farNeighbour ∧ (s.reportInserted l c).lateSeen = s.lateSeen ∧
    (s.reportInserted l c).localSlot = s.localSlot ∧ (s.reportInserted l c).clock = s.clock ∧
    (s.reportInserted l c).pins = s.pins ∧ (s.reportInserted l c).rx = s.rx ∧ (s.reportInserted l c).stations = s.stations ∧
    (s.reportInserted l c).dst = s.dst ∧ (s.reportInserted l c).seqs = s.seqs ∧
    (s.reportInserted l c).counters = s.counters ∧ (s.reportInserted l c).eyes = s.eyes ∧
    (s.reportInserted l c).surveyed = s.surveyed ∧ (s.reportInserted l c).tokens = s.tokens ∧
    (s.reportInserted l c).motion = s.motion ∧ (s.reportInserted l c).motionOut = s.motionOut ∧
    (s.reportInserted l c).audio = s.audio ∧ (s.reportInserted l c).views = s.views ∧
    (s.reportInserted l c).pulses = s.pulses ∧ (s.reportInserted l c).service = s.service ∧
    (s.reportInserted l c).pending = s.pending := by
  unfold State.reportInserted
  (repeat' split) <;> simp

/-- A CONTROL cell inserted changes the transmitter, and as its insertion report does (R41). -/
@[simp] theorem State.insertControl_keeps (l : Lane) (c : Ctl) :
    (s.insertControl l c).start = s.start ∧ (s.insertControl l c).cause = s.cause ∧
    (s.insertControl l c).station = s.station ∧ (s.insertControl l c).sup = s.sup ∧ (s.insertControl l c).srec = s.srec ∧
    (s.insertControl l c).cfg = s.cfg ∧ (s.insertControl l c).settledRoles = s.settledRoles ∧
    (s.insertControl l c).farNeighbour = s.farNeighbour ∧ (s.insertControl l c).lateSeen = s.lateSeen ∧
    (s.insertControl l c).localSlot = s.localSlot ∧ (s.insertControl l c).clock = s.clock ∧
    (s.insertControl l c).pins = s.pins ∧ (s.insertControl l c).rx = s.rx ∧ (s.insertControl l c).stations = s.stations ∧
    (s.insertControl l c).dst = s.dst ∧ (s.insertControl l c).seqs = s.seqs ∧ (s.insertControl l c).counters = s.counters ∧
    (s.insertControl l c).eyes = s.eyes ∧ (s.insertControl l c).surveyed = s.surveyed ∧
    (s.insertControl l c).tokens = s.tokens ∧ (s.insertControl l c).motion = s.motion ∧
    (s.insertControl l c).motionOut = s.motionOut ∧ (s.insertControl l c).audio = s.audio ∧
    (s.insertControl l c).views = s.views ∧ (s.insertControl l c).pulses = s.pulses ∧
    (s.insertControl l c).service = s.service ∧ (s.insertControl l c).pending = s.pending := by
  simp [State.insertControl]

/-- END's insertion changes the record and posts (R52). -/
@[simp] theorem State.endInserted_keeps (e : Eye) :
    (s.endInserted e).start = s.start ∧ (s.endInserted e).cause = s.cause ∧ (s.endInserted e).station = s.station ∧
    (s.endInserted e).sup = s.sup ∧ (s.endInserted e).srec = s.srec ∧ (s.endInserted e).cfg = s.cfg ∧
    (s.endInserted e).settledRoles = s.settledRoles ∧ (s.endInserted e).farNeighbour = s.farNeighbour ∧
    (s.endInserted e).lateSeen = s.lateSeen ∧ (s.endInserted e).localSlot = s.localSlot ∧ (s.endInserted e).clock = s.clock ∧
    (s.endInserted e).pins = s.pins ∧ (s.endInserted e).rx = s.rx ∧ (s.endInserted e).tx = s.tx ∧
    (s.endInserted e).stations = s.stations ∧ (s.endInserted e).dst = s.dst ∧ (s.endInserted e).seqs = s.seqs ∧
    (s.endInserted e).counters = s.counters ∧ (s.endInserted e).eyes = s.eyes ∧ (s.endInserted e).surveyed = s.surveyed ∧
    (s.endInserted e).surveys = s.surveys ∧ (s.endInserted e).tokens = s.tokens ∧ (s.endInserted e).motion = s.motion ∧
    (s.endInserted e).motionOut = s.motionOut ∧ (s.endInserted e).audio = s.audio ∧ (s.endInserted e).power = s.power ∧
    (s.endInserted e).views = s.views ∧ (s.endInserted e).balance = s.balance ∧ (s.endInserted e).pulses = s.pulses ∧
    (s.endInserted e).service = s.service ∧ (s.endInserted e).pending = s.pending := by
  simp [State.endInserted]

/-! #### Power and start -/

/-- A trip changes the power unit and what follows the applied level, and posts (R163). -/
@[simp] theorem State.trip_keeps :
    (s.trip).start = s.start ∧ (s.trip).cause = s.cause ∧ (s.trip).station = s.station ∧ (s.trip).sup = s.sup ∧
    (s.trip).srec = s.srec ∧ (s.trip).cfg = s.cfg ∧ (s.trip).settledRoles = s.settledRoles ∧
    (s.trip).farNeighbour = s.farNeighbour ∧ (s.trip).lateSeen = s.lateSeen ∧ (s.trip).localSlot = s.localSlot ∧
    (s.trip).clock = s.clock ∧ (s.trip).pins = s.pins ∧ (s.trip).rx = s.rx ∧ (s.trip).tx = s.tx ∧
    (s.trip).stations = s.stations ∧ (s.trip).seqs = s.seqs ∧ (s.trip).counters = s.counters ∧ (s.trip).paced = s.paced ∧
    (s.trip).surveyed = s.surveyed ∧ (s.trip).surveys = s.surveys ∧ (s.trip).tokens = s.tokens ∧
    (s.trip).motionOut = s.motionOut ∧ (s.trip).views = s.views ∧ (s.trip).balance = s.balance ∧ (s.trip).pulses = s.pulses ∧
    (s.trip).service = s.service ∧ (s.trip).pending = s.pending := by
  simp [State.trip]

/-- A reclose changes the power unit and posts (R163). -/
@[simp] theorem State.reclose_keeps :
    (s.reclose).start = s.start ∧ (s.reclose).cause = s.cause ∧ (s.reclose).station = s.station ∧ (s.reclose).sup = s.sup ∧
    (s.reclose).srec = s.srec ∧ (s.reclose).cfg = s.cfg ∧ (s.reclose).settledRoles = s.settledRoles ∧
    (s.reclose).farNeighbour = s.farNeighbour ∧ (s.reclose).lateSeen = s.lateSeen ∧ (s.reclose).localSlot = s.localSlot ∧
    (s.reclose).clock = s.clock ∧ (s.reclose).pins = s.pins ∧ (s.reclose).rx = s.rx ∧ (s.reclose).tx = s.tx ∧
    (s.reclose).stations = s.stations ∧ (s.reclose).dst = s.dst ∧ (s.reclose).seqs = s.seqs ∧
    (s.reclose).counters = s.counters ∧ (s.reclose).paced = s.paced ∧ (s.reclose).eyes = s.eyes ∧
    (s.reclose).surveyed = s.surveyed ∧ (s.reclose).surveys = s.surveys ∧ (s.reclose).tokens = s.tokens ∧
    (s.reclose).motion = s.motion ∧ (s.reclose).motionOut = s.motionOut ∧ (s.reclose).audio = s.audio ∧
    (s.reclose).views = s.views ∧ (s.reclose).balance = s.balance ∧ (s.reclose).pulses = s.pulses ∧
    (s.reclose).service = s.service ∧ (s.reclose).pending = s.pending := by
  simp [State.reclose]

/-- A supply level changes the power unit and what follows the applied level (R154, R162). -/
@[simp] theorem State.setLevel_keeps (n : Nat) :
    (s.setLevel n).start = s.start ∧ (s.setLevel n).cause = s.cause ∧ (s.setLevel n).station = s.station ∧
    (s.setLevel n).sup = s.sup ∧ (s.setLevel n).srec = s.srec ∧ (s.setLevel n).cfg = s.cfg ∧
    (s.setLevel n).settledRoles = s.settledRoles ∧ (s.setLevel n).farNeighbour = s.farNeighbour ∧
    (s.setLevel n).lateSeen = s.lateSeen ∧ (s.setLevel n).localSlot = s.localSlot ∧ (s.setLevel n).clock = s.clock ∧
    (s.setLevel n).pins = s.pins ∧ (s.setLevel n).rx = s.rx ∧ (s.setLevel n).tx = s.tx ∧
    (s.setLevel n).stations = s.stations ∧ (s.setLevel n).seqs = s.seqs ∧ (s.setLevel n).counters = s.counters ∧
    (s.setLevel n).paced = s.paced ∧ (s.setLevel n).surveyed = s.surveyed ∧ (s.setLevel n).surveys = s.surveys ∧
    (s.setLevel n).tokens = s.tokens ∧ (s.setLevel n).motionOut = s.motionOut ∧ (s.setLevel n).views = s.views ∧
    (s.setLevel n).balance = s.balance ∧ (s.setLevel n).pulses = s.pulses ∧ (s.setLevel n).service = s.service ∧
    (s.setLevel n).pending = s.pending := by
  simp [State.setLevel]

/-- The trip wait changes the power unit, and as a reclose does (R163). -/
@[simp] theorem State.countTrip_keeps :
    (s.countTrip).start = s.start ∧ (s.countTrip).cause = s.cause ∧ (s.countTrip).station = s.station ∧
    (s.countTrip).sup = s.sup ∧ (s.countTrip).srec = s.srec ∧ (s.countTrip).cfg = s.cfg ∧
    (s.countTrip).settledRoles = s.settledRoles ∧ (s.countTrip).farNeighbour = s.farNeighbour ∧
    (s.countTrip).lateSeen = s.lateSeen ∧ (s.countTrip).localSlot = s.localSlot ∧ (s.countTrip).clock = s.clock ∧
    (s.countTrip).pins = s.pins ∧ (s.countTrip).rx = s.rx ∧ (s.countTrip).tx = s.tx ∧ (s.countTrip).stations = s.stations ∧
    (s.countTrip).dst = s.dst ∧ (s.countTrip).seqs = s.seqs ∧ (s.countTrip).counters = s.counters ∧
    (s.countTrip).paced = s.paced ∧ (s.countTrip).eyes = s.eyes ∧ (s.countTrip).surveyed = s.surveyed ∧
    (s.countTrip).surveys = s.surveys ∧ (s.countTrip).tokens = s.tokens ∧ (s.countTrip).motion = s.motion ∧
    (s.countTrip).motionOut = s.motionOut ∧ (s.countTrip).audio = s.audio ∧ (s.countTrip).views = s.views ∧
    (s.countTrip).balance = s.balance ∧ (s.countTrip).pulses = s.pulses ∧ (s.countTrip).service = s.service ∧
    (s.countTrip).pending = s.pending := by
  unfold State.countTrip
  dsimp only
  (repeat' split) <;> simp

/-- The supply step changes the power unit and what follows it (R156). -/
@[simp] theorem State.supplyStep_keeps :
    (s.supplyStep).start = s.start ∧ (s.supplyStep).cause = s.cause ∧ (s.supplyStep).station = s.station ∧
    (s.supplyStep).sup = s.sup ∧ (s.supplyStep).srec = s.srec ∧ (s.supplyStep).cfg = s.cfg ∧
    (s.supplyStep).settledRoles = s.settledRoles ∧ (s.supplyStep).farNeighbour = s.farNeighbour ∧
    (s.supplyStep).lateSeen = s.lateSeen ∧ (s.supplyStep).localSlot = s.localSlot ∧ (s.supplyStep).clock = s.clock ∧
    (s.supplyStep).pins = s.pins ∧ (s.supplyStep).rx = s.rx ∧ (s.supplyStep).tx = s.tx ∧
    (s.supplyStep).stations = s.stations ∧ (s.supplyStep).seqs = s.seqs ∧ (s.supplyStep).counters = s.counters ∧
    (s.supplyStep).paced = s.paced ∧ (s.supplyStep).surveyed = s.surveyed ∧ (s.supplyStep).surveys = s.surveys ∧
    (s.supplyStep).tokens = s.tokens ∧ (s.supplyStep).motionOut = s.motionOut ∧ (s.supplyStep).views = s.views ∧
    (s.supplyStep).balance = s.balance ∧ (s.supplyStep).pulses = s.pulses ∧ (s.supplyStep).service = s.service ∧
    (s.supplyStep).pending = s.pending := by
  unfold State.supplyStep
  (repeat' split) <;> simp

/-- The values change the power unit alone (R149). -/
@[simp] theorem State.takeValues_keeps (a b c : BitVec 10) :
    (s.takeValues a b c).start = s.start ∧ (s.takeValues a b c).cause = s.cause ∧ (s.takeValues a b c).station = s.station ∧
    (s.takeValues a b c).sup = s.sup ∧ (s.takeValues a b c).srec = s.srec ∧ (s.takeValues a b c).cfg = s.cfg ∧
    (s.takeValues a b c).settledRoles = s.settledRoles ∧ (s.takeValues a b c).farNeighbour = s.farNeighbour ∧
    (s.takeValues a b c).lateSeen = s.lateSeen ∧ (s.takeValues a b c).localSlot = s.localSlot ∧
    (s.takeValues a b c).clock = s.clock ∧ (s.takeValues a b c).pins = s.pins ∧ (s.takeValues a b c).rx = s.rx ∧
    (s.takeValues a b c).tx = s.tx ∧ (s.takeValues a b c).stations = s.stations ∧ (s.takeValues a b c).dst = s.dst ∧
    (s.takeValues a b c).seqs = s.seqs ∧ (s.takeValues a b c).counters = s.counters ∧ (s.takeValues a b c).paced = s.paced ∧
    (s.takeValues a b c).eyes = s.eyes ∧ (s.takeValues a b c).surveyed = s.surveyed ∧
    (s.takeValues a b c).surveys = s.surveys ∧ (s.takeValues a b c).tokens = s.tokens ∧
    (s.takeValues a b c).motion = s.motion ∧ (s.takeValues a b c).motionOut = s.motionOut ∧
    (s.takeValues a b c).audio = s.audio ∧ (s.takeValues a b c).views = s.views ∧ (s.takeValues a b c).balance = s.balance ∧
    (s.takeValues a b c).notices = s.notices ∧ (s.takeValues a b c).pulses = s.pulses ∧
    (s.takeValues a b c).service = s.service ∧ (s.takeValues a b c).pending = s.pending := by
  unfold State.takeValues
  (repeat' split) <;> simp

/-- Droop shedding changes the power unit and what follows it (R155). -/
@[simp] theorem State.droop_keeps :
    (s.droop).start = s.start ∧ (s.droop).cause = s.cause ∧ (s.droop).station = s.station ∧ (s.droop).sup = s.sup ∧
    (s.droop).srec = s.srec ∧ (s.droop).cfg = s.cfg ∧ (s.droop).settledRoles = s.settledRoles ∧
    (s.droop).farNeighbour = s.farNeighbour ∧ (s.droop).lateSeen = s.lateSeen ∧ (s.droop).localSlot = s.localSlot ∧
    (s.droop).clock = s.clock ∧ (s.droop).pins = s.pins ∧ (s.droop).rx = s.rx ∧ (s.droop).tx = s.tx ∧
    (s.droop).stations = s.stations ∧ (s.droop).seqs = s.seqs ∧ (s.droop).counters = s.counters ∧ (s.droop).paced = s.paced ∧
    (s.droop).surveyed = s.surveyed ∧ (s.droop).surveys = s.surveys ∧ (s.droop).tokens = s.tokens ∧
    (s.droop).motionOut = s.motionOut ∧ (s.droop).views = s.views ∧ (s.droop).balance = s.balance ∧
    (s.droop).pulses = s.pulses ∧ (s.droop).service = s.service ∧ (s.droop).pending = s.pending := by
  unfold State.droop
  (repeat' split) <;> simp

/-- Returned domains change the power unit and post (R153). -/
@[simp] theorem State.shedReturn_keeps :
    (s.shedReturn).start = s.start ∧ (s.shedReturn).cause = s.cause ∧ (s.shedReturn).station = s.station ∧
    (s.shedReturn).sup = s.sup ∧ (s.shedReturn).srec = s.srec ∧ (s.shedReturn).cfg = s.cfg ∧
    (s.shedReturn).settledRoles = s.settledRoles ∧ (s.shedReturn).farNeighbour = s.farNeighbour ∧
    (s.shedReturn).lateSeen = s.lateSeen ∧ (s.shedReturn).localSlot = s.localSlot ∧ (s.shedReturn).clock = s.clock ∧
    (s.shedReturn).pins = s.pins ∧ (s.shedReturn).rx = s.rx ∧ (s.shedReturn).tx = s.tx ∧
    (s.shedReturn).stations = s.stations ∧ (s.shedReturn).dst = s.dst ∧ (s.shedReturn).seqs = s.seqs ∧
    (s.shedReturn).counters = s.counters ∧ (s.shedReturn).paced = s.paced ∧ (s.shedReturn).eyes = s.eyes ∧
    (s.shedReturn).surveyed = s.surveyed ∧ (s.shedReturn).surveys = s.surveys ∧ (s.shedReturn).tokens = s.tokens ∧
    (s.shedReturn).motion = s.motion ∧ (s.shedReturn).motionOut = s.motionOut ∧ (s.shedReturn).audio = s.audio ∧
    (s.shedReturn).views = s.views ∧ (s.shedReturn).balance = s.balance ∧ (s.shedReturn).pulses = s.pulses ∧
    (s.shedReturn).service = s.service ∧ (s.shedReturn).pending = s.pending := by
  unfold State.shedReturn
  (repeat' split) <;> simp

/-- The overload judgement changes the power unit, and as a trip does (R163). -/
@[simp] theorem State.judgeOverload_keeps :
    (s.judgeOverload).start = s.start ∧ (s.judgeOverload).cause = s.cause ∧ (s.judgeOverload).station = s.station ∧
    (s.judgeOverload).sup = s.sup ∧ (s.judgeOverload).srec = s.srec ∧ (s.judgeOverload).cfg = s.cfg ∧
    (s.judgeOverload).settledRoles = s.settledRoles ∧ (s.judgeOverload).farNeighbour = s.farNeighbour ∧
    (s.judgeOverload).lateSeen = s.lateSeen ∧ (s.judgeOverload).localSlot = s.localSlot ∧ (s.judgeOverload).clock = s.clock ∧
    (s.judgeOverload).pins = s.pins ∧ (s.judgeOverload).rx = s.rx ∧ (s.judgeOverload).tx = s.tx ∧
    (s.judgeOverload).stations = s.stations ∧ (s.judgeOverload).seqs = s.seqs ∧ (s.judgeOverload).counters = s.counters ∧
    (s.judgeOverload).paced = s.paced ∧ (s.judgeOverload).surveyed = s.surveyed ∧ (s.judgeOverload).surveys = s.surveys ∧
    (s.judgeOverload).tokens = s.tokens ∧ (s.judgeOverload).motionOut = s.motionOut ∧ (s.judgeOverload).views = s.views ∧
    (s.judgeOverload).balance = s.balance ∧ (s.judgeOverload).pulses = s.pulses ∧ (s.judgeOverload).service = s.service ∧
    (s.judgeOverload).pending = s.pending := by
  unfold State.judgeOverload
  (repeat' split) <;> simp

/-- The battery judgement changes the power unit and posts (R165). -/
@[simp] theorem State.judgeBattery_keeps :
    (s.judgeBattery).start = s.start ∧ (s.judgeBattery).cause = s.cause ∧ (s.judgeBattery).station = s.station ∧
    (s.judgeBattery).sup = s.sup ∧ (s.judgeBattery).srec = s.srec ∧ (s.judgeBattery).cfg = s.cfg ∧
    (s.judgeBattery).settledRoles = s.settledRoles ∧ (s.judgeBattery).farNeighbour = s.farNeighbour ∧
    (s.judgeBattery).lateSeen = s.lateSeen ∧ (s.judgeBattery).localSlot = s.localSlot ∧ (s.judgeBattery).clock = s.clock ∧
    (s.judgeBattery).pins = s.pins ∧ (s.judgeBattery).rx = s.rx ∧ (s.judgeBattery).tx = s.tx ∧
    (s.judgeBattery).stations = s.stations ∧ (s.judgeBattery).dst = s.dst ∧ (s.judgeBattery).seqs = s.seqs ∧
    (s.judgeBattery).counters = s.counters ∧ (s.judgeBattery).paced = s.paced ∧ (s.judgeBattery).eyes = s.eyes ∧
    (s.judgeBattery).surveyed = s.surveyed ∧ (s.judgeBattery).surveys = s.surveys ∧ (s.judgeBattery).tokens = s.tokens ∧
    (s.judgeBattery).motion = s.motion ∧ (s.judgeBattery).motionOut = s.motionOut ∧ (s.judgeBattery).audio = s.audio ∧
    (s.judgeBattery).views = s.views ∧ (s.judgeBattery).balance = s.balance ∧ (s.judgeBattery).pulses = s.pulses ∧
    (s.judgeBattery).service = s.service ∧ (s.judgeBattery).pending = s.pending := by
  unfold State.judgeBattery
  (repeat' split) <;> simp

/-- The judgements of a sample event change the power unit, what follows it, and by their calls what a report changes (R153, R155, R163, R165). -/
@[simp] theorem State.judgeSample_keeps :
    (s.judgeSample).start = s.start ∧ (s.judgeSample).cause = s.cause ∧ (s.judgeSample).station = s.station ∧
    (s.judgeSample).sup = s.sup ∧ (s.judgeSample).srec = s.srec ∧ (s.judgeSample).cfg = s.cfg ∧
    (s.judgeSample).settledRoles = s.settledRoles ∧ (s.judgeSample).farNeighbour = s.farNeighbour ∧
    (s.judgeSample).lateSeen = s.lateSeen ∧ (s.judgeSample).localSlot = s.localSlot ∧ (s.judgeSample).clock = s.clock ∧
    (s.judgeSample).pins = s.pins ∧ (s.judgeSample).rx = s.rx ∧ (s.judgeSample).stations = s.stations ∧
    (s.judgeSample).seqs = s.seqs ∧ (s.judgeSample).counters = s.counters ∧ (s.judgeSample).paced = s.paced ∧
    (s.judgeSample).surveyed = s.surveyed ∧ (s.judgeSample).surveys = s.surveys ∧ (s.judgeSample).tokens = s.tokens ∧
    (s.judgeSample).motionOut = s.motionOut ∧ (s.judgeSample).views = s.views ∧ (s.judgeSample).pulses = s.pulses ∧
    (s.judgeSample).service = s.service ∧ (s.judgeSample).pending = s.pending := by
  simp [State.judgeSample]

/-- A silent entry changes the view and what follows the applied level (R157). -/
@[simp] theorem State.silence_keeps (t : Station) :
    (s.silence t).start = s.start ∧ (s.silence t).cause = s.cause ∧ (s.silence t).station = s.station ∧
    (s.silence t).sup = s.sup ∧ (s.silence t).srec = s.srec ∧ (s.silence t).cfg = s.cfg ∧
    (s.silence t).settledRoles = s.settledRoles ∧ (s.silence t).farNeighbour = s.farNeighbour ∧
    (s.silence t).lateSeen = s.lateSeen ∧ (s.silence t).localSlot = s.localSlot ∧ (s.silence t).clock = s.clock ∧
    (s.silence t).pins = s.pins ∧ (s.silence t).rx = s.rx ∧ (s.silence t).tx = s.tx ∧ (s.silence t).stations = s.stations ∧
    (s.silence t).seqs = s.seqs ∧ (s.silence t).counters = s.counters ∧ (s.silence t).paced = s.paced ∧
    (s.silence t).surveyed = s.surveyed ∧ (s.silence t).surveys = s.surveys ∧ (s.silence t).tokens = s.tokens ∧
    (s.silence t).motionOut = s.motionOut ∧ (s.silence t).balance = s.balance ∧ (s.silence t).pulses = s.pulses ∧
    (s.silence t).service = s.service ∧ (s.silence t).pending = s.pending := by
  simp [State.silence]

/-- An entry's age changes the view, and as silence does (R157). -/
@[simp] theorem State.ageEntry_keeps (t : Station) :
    (s.ageEntry t).start = s.start ∧ (s.ageEntry t).cause = s.cause ∧ (s.ageEntry t).station = s.station ∧
    (s.ageEntry t).sup = s.sup ∧ (s.ageEntry t).srec = s.srec ∧ (s.ageEntry t).cfg = s.cfg ∧
    (s.ageEntry t).settledRoles = s.settledRoles ∧ (s.ageEntry t).farNeighbour = s.farNeighbour ∧
    (s.ageEntry t).lateSeen = s.lateSeen ∧ (s.ageEntry t).localSlot = s.localSlot ∧ (s.ageEntry t).clock = s.clock ∧
    (s.ageEntry t).pins = s.pins ∧ (s.ageEntry t).rx = s.rx ∧ (s.ageEntry t).tx = s.tx ∧
    (s.ageEntry t).stations = s.stations ∧ (s.ageEntry t).seqs = s.seqs ∧ (s.ageEntry t).counters = s.counters ∧
    (s.ageEntry t).paced = s.paced ∧ (s.ageEntry t).surveyed = s.surveyed ∧ (s.ageEntry t).surveys = s.surveys ∧
    (s.ageEntry t).tokens = s.tokens ∧ (s.ageEntry t).motionOut = s.motionOut ∧ (s.ageEntry t).balance = s.balance ∧
    (s.ageEntry t).pulses = s.pulses ∧ (s.ageEntry t).service = s.service ∧ (s.ageEntry t).pending = s.pending := by
  unfold State.ageEntry
  dsimp only
  (repeat' split) <;> simp

/-- The entries' ages change the views, and as silence does (R157). -/
@[simp] theorem State.ageViews_keeps :
    (s.ageViews).start = s.start ∧ (s.ageViews).cause = s.cause ∧ (s.ageViews).station = s.station ∧
    (s.ageViews).sup = s.sup ∧ (s.ageViews).srec = s.srec ∧ (s.ageViews).cfg = s.cfg ∧
    (s.ageViews).settledRoles = s.settledRoles ∧ (s.ageViews).farNeighbour = s.farNeighbour ∧
    (s.ageViews).lateSeen = s.lateSeen ∧ (s.ageViews).localSlot = s.localSlot ∧ (s.ageViews).clock = s.clock ∧
    (s.ageViews).pins = s.pins ∧ (s.ageViews).rx = s.rx ∧ (s.ageViews).tx = s.tx ∧ (s.ageViews).stations = s.stations ∧
    (s.ageViews).seqs = s.seqs ∧ (s.ageViews).counters = s.counters ∧ (s.ageViews).paced = s.paced ∧
    (s.ageViews).surveyed = s.surveyed ∧ (s.ageViews).surveys = s.surveys ∧ (s.ageViews).tokens = s.tokens ∧
    (s.ageViews).motionOut = s.motionOut ∧ (s.ageViews).balance = s.balance ∧ (s.ageViews).pulses = s.pulses ∧
    (s.ageViews).service = s.service ∧ (s.ageViews).pending = s.pending := by
  simp [State.ageViews]

/-- A report changes the view and what follows the applied level (R157). -/
@[simp] theorem State.hear_keeps (t : Station) (r : Report) :
    (s.hear t r).start = s.start ∧ (s.hear t r).cause = s.cause ∧ (s.hear t r).station = s.station ∧
    (s.hear t r).sup = s.sup ∧ (s.hear t r).srec = s.srec ∧ (s.hear t r).cfg = s.cfg ∧
    (s.hear t r).settledRoles = s.settledRoles ∧ (s.hear t r).farNeighbour = s.farNeighbour ∧
    (s.hear t r).lateSeen = s.lateSeen ∧ (s.hear t r).localSlot = s.localSlot ∧ (s.hear t r).clock = s.clock ∧
    (s.hear t r).pins = s.pins ∧ (s.hear t r).rx = s.rx ∧ (s.hear t r).tx = s.tx ∧ (s.hear t r).stations = s.stations ∧
    (s.hear t r).seqs = s.seqs ∧ (s.hear t r).counters = s.counters ∧ (s.hear t r).paced = s.paced ∧
    (s.hear t r).surveyed = s.surveyed ∧ (s.hear t r).surveys = s.surveys ∧ (s.hear t r).tokens = s.tokens ∧
    (s.hear t r).motionOut = s.motionOut ∧ (s.hear t r).balance = s.balance ∧ (s.hear t r).pulses = s.pulses ∧
    (s.hear t r).service = s.service ∧ (s.hear t r).pending = s.pending := by
  simp [State.hear]

/-- Admission changes the domains and what follows them (R158 to R161). -/
@[simp] theorem State.admission_keeps :
    (s.admission).start = s.start ∧ (s.admission).cause = s.cause ∧ (s.admission).station = s.station ∧
    (s.admission).sup = s.sup ∧ (s.admission).srec = s.srec ∧ (s.admission).cfg = s.cfg ∧
    (s.admission).settledRoles = s.settledRoles ∧ (s.admission).farNeighbour = s.farNeighbour ∧
    (s.admission).lateSeen = s.lateSeen ∧ (s.admission).localSlot = s.localSlot ∧ (s.admission).clock = s.clock ∧
    (s.admission).pins = s.pins ∧ (s.admission).rx = s.rx ∧ (s.admission).tx = s.tx ∧ (s.admission).stations = s.stations ∧
    (s.admission).seqs = s.seqs ∧ (s.admission).counters = s.counters ∧ (s.admission).paced = s.paced ∧
    (s.admission).surveyed = s.surveyed ∧ (s.admission).surveys = s.surveys ∧ (s.admission).tokens = s.tokens ∧
    (s.admission).motionOut = s.motionOut ∧ (s.admission).views = s.views ∧ (s.admission).balance = s.balance ∧
    (s.admission).pulses = s.pulses ∧ (s.admission).service = s.service ∧ (s.admission).pending = s.pending := by
  unfold State.admission
  (repeat' split) <;> simp

/-- The steps of the power RI boundary change the views, the power unit, what follows it, and by their calls what a report changes (R156). -/
@[simp] theorem State.powerSteps_keeps :
    (s.powerSteps).start = s.start ∧ (s.powerSteps).cause = s.cause ∧ (s.powerSteps).station = s.station ∧
    (s.powerSteps).sup = s.sup ∧ (s.powerSteps).srec = s.srec ∧ (s.powerSteps).cfg = s.cfg ∧
    (s.powerSteps).settledRoles = s.settledRoles ∧ (s.powerSteps).farNeighbour = s.farNeighbour ∧
    (s.powerSteps).lateSeen = s.lateSeen ∧ (s.powerSteps).localSlot = s.localSlot ∧ (s.powerSteps).clock = s.clock ∧
    (s.powerSteps).pins = s.pins ∧ (s.powerSteps).rx = s.rx ∧ (s.powerSteps).stations = s.stations ∧
    (s.powerSteps).seqs = s.seqs ∧ (s.powerSteps).counters = s.counters ∧ (s.powerSteps).paced = s.paced ∧
    (s.powerSteps).surveyed = s.surveyed ∧ (s.powerSteps).surveys = s.surveys ∧ (s.powerSteps).tokens = s.tokens ∧
    (s.powerSteps).motionOut = s.motionOut ∧ (s.powerSteps).pulses = s.pulses ∧ (s.powerSteps).service = s.service ∧
    (s.powerSteps).pending = s.pending := by
  unfold State.powerSteps
  dsimp only
  (repeat' split) <;> simp

/-- The balance step changes the balance, and as a report does (R177). -/
@[simp] theorem State.balanceStep_keeps :
    (s.balanceStep).start = s.start ∧ (s.balanceStep).cause = s.cause ∧ (s.balanceStep).station = s.station ∧
    (s.balanceStep).sup = s.sup ∧ (s.balanceStep).srec = s.srec ∧ (s.balanceStep).cfg = s.cfg ∧
    (s.balanceStep).settledRoles = s.settledRoles ∧ (s.balanceStep).farNeighbour = s.farNeighbour ∧
    (s.balanceStep).lateSeen = s.lateSeen ∧ (s.balanceStep).localSlot = s.localSlot ∧ (s.balanceStep).clock = s.clock ∧
    (s.balanceStep).pins = s.pins ∧ (s.balanceStep).rx = s.rx ∧ (s.balanceStep).stations = s.stations ∧
    (s.balanceStep).dst = s.dst ∧ (s.balanceStep).seqs = s.seqs ∧ (s.balanceStep).counters = s.counters ∧
    (s.balanceStep).paced = s.paced ∧ (s.balanceStep).eyes = s.eyes ∧ (s.balanceStep).surveyed = s.surveyed ∧
    (s.balanceStep).surveys = s.surveys ∧ (s.balanceStep).tokens = s.tokens ∧ (s.balanceStep).motion = s.motion ∧
    (s.balanceStep).motionOut = s.motionOut ∧ (s.balanceStep).audio = s.audio ∧ (s.balanceStep).views = s.views ∧
    (s.balanceStep).notices = s.notices ∧ (s.balanceStep).pulses = s.pulses ∧ (s.balanceStep).service = s.service ∧
    (s.balanceStep).pending = s.pending := by
  unfold State.balanceStep
  dsimp only
  (repeat' split) <;> simp

/-- A record opened changes itself alone (R57). -/
@[simp] theorem State.openRecord_keeps (f : FlowId) :
    (s.openRecord f).start = s.start ∧ (s.openRecord f).cause = s.cause ∧ (s.openRecord f).station = s.station ∧
    (s.openRecord f).sup = s.sup ∧ (s.openRecord f).srec = s.srec ∧ (s.openRecord f).cfg = s.cfg ∧
    (s.openRecord f).settledRoles = s.settledRoles ∧ (s.openRecord f).farNeighbour = s.farNeighbour ∧
    (s.openRecord f).lateSeen = s.lateSeen ∧ (s.openRecord f).localSlot = s.localSlot ∧ (s.openRecord f).clock = s.clock ∧
    (s.openRecord f).pins = s.pins ∧ (s.openRecord f).rx = s.rx ∧ (s.openRecord f).tx = s.tx ∧
    (s.openRecord f).stations = s.stations ∧ (s.openRecord f).seqs = s.seqs ∧ (s.openRecord f).counters = s.counters ∧
    (s.openRecord f).paced = s.paced ∧ (s.openRecord f).eyes = s.eyes ∧ (s.openRecord f).surveyed = s.surveyed ∧
    (s.openRecord f).surveys = s.surveys ∧ (s.openRecord f).tokens = s.tokens ∧ (s.openRecord f).motion = s.motion ∧
    (s.openRecord f).motionOut = s.motionOut ∧ (s.openRecord f).audio = s.audio ∧ (s.openRecord f).power = s.power ∧
    (s.openRecord f).views = s.views ∧ (s.openRecord f).balance = s.balance ∧ (s.openRecord f).notices = s.notices ∧
    (s.openRecord f).pulses = s.pulses ∧ (s.openRecord f).service = s.service ∧ (s.openRecord f).pending = s.pending := by
  unfold State.openRecord
  (repeat' split) <;> simp

/-- A picture record opened changes itself and the eye's state (R57, R108). -/
@[simp] theorem State.openEye_keeps (e : Eye) :
    (s.openEye e).start = s.start ∧ (s.openEye e).cause = s.cause ∧ (s.openEye e).station = s.station ∧
    (s.openEye e).sup = s.sup ∧ (s.openEye e).srec = s.srec ∧ (s.openEye e).cfg = s.cfg ∧
    (s.openEye e).settledRoles = s.settledRoles ∧ (s.openEye e).farNeighbour = s.farNeighbour ∧
    (s.openEye e).lateSeen = s.lateSeen ∧ (s.openEye e).localSlot = s.localSlot ∧ (s.openEye e).clock = s.clock ∧
    (s.openEye e).pins = s.pins ∧ (s.openEye e).rx = s.rx ∧ (s.openEye e).tx = s.tx ∧ (s.openEye e).stations = s.stations ∧
    (s.openEye e).seqs = s.seqs ∧ (s.openEye e).counters = s.counters ∧ (s.openEye e).paced = s.paced ∧
    (s.openEye e).surveyed = s.surveyed ∧ (s.openEye e).surveys = s.surveys ∧ (s.openEye e).tokens = s.tokens ∧
    (s.openEye e).motion = s.motion ∧ (s.openEye e).motionOut = s.motionOut ∧ (s.openEye e).audio = s.audio ∧
    (s.openEye e).power = s.power ∧ (s.openEye e).views = s.views ∧ (s.openEye e).balance = s.balance ∧
    (s.openEye e).notices = s.notices ∧ (s.openEye e).pulses = s.pulses ∧ (s.openEye e).service = s.service ∧
    (s.openEye e).pending = s.pending := by
  unfold State.openEye
  (repeat' split) <;> simp

/-- The records opened, with the eyes and the sink (R57, R135). -/
@[simp] theorem State.openRecords_keeps :
    (s.openRecords).start = s.start ∧ (s.openRecords).cause = s.cause ∧ (s.openRecords).station = s.station ∧
    (s.openRecords).sup = s.sup ∧ (s.openRecords).srec = s.srec ∧ (s.openRecords).cfg = s.cfg ∧
    (s.openRecords).settledRoles = s.settledRoles ∧ (s.openRecords).farNeighbour = s.farNeighbour ∧
    (s.openRecords).lateSeen = s.lateSeen ∧ (s.openRecords).localSlot = s.localSlot ∧ (s.openRecords).clock = s.clock ∧
    (s.openRecords).pins = s.pins ∧ (s.openRecords).rx = s.rx ∧ (s.openRecords).tx = s.tx ∧
    (s.openRecords).stations = s.stations ∧ (s.openRecords).seqs = s.seqs ∧ (s.openRecords).counters = s.counters ∧
    (s.openRecords).paced = s.paced ∧ (s.openRecords).surveyed = s.surveyed ∧ (s.openRecords).surveys = s.surveys ∧
    (s.openRecords).tokens = s.tokens ∧ (s.openRecords).motion = s.motion ∧ (s.openRecords).motionOut = s.motionOut ∧
    (s.openRecords).power = s.power ∧ (s.openRecords).views = s.views ∧ (s.openRecords).balance = s.balance ∧
    (s.openRecords).notices = s.notices ∧ (s.openRecords).pulses = s.pulses ∧ (s.openRecords).service = s.service ∧
    (s.openRecords).pending = s.pending := by
  simp [State.openRecords]

/-- A present station's survey starts (R115). -/
@[simp] theorem State.surveyPresent_keeps (t : Station) :
    (s.surveyPresent t).start = s.start ∧ (s.surveyPresent t).cause = s.cause ∧ (s.surveyPresent t).station = s.station ∧
    (s.surveyPresent t).sup = s.sup ∧ (s.surveyPresent t).srec = s.srec ∧ (s.surveyPresent t).cfg = s.cfg ∧
    (s.surveyPresent t).settledRoles = s.settledRoles ∧ (s.surveyPresent t).farNeighbour = s.farNeighbour ∧
    (s.surveyPresent t).lateSeen = s.lateSeen ∧ (s.surveyPresent t).localSlot = s.localSlot ∧
    (s.surveyPresent t).clock = s.clock ∧ (s.surveyPresent t).pins = s.pins ∧ (s.surveyPresent t).rx = s.rx ∧
    (s.surveyPresent t).stations = s.stations ∧ (s.surveyPresent t).dst = s.dst ∧ (s.surveyPresent t).seqs = s.seqs ∧
    (s.surveyPresent t).counters = s.counters ∧ (s.surveyPresent t).paced = s.paced ∧ (s.surveyPresent t).eyes = s.eyes ∧
    (s.surveyPresent t).surveyed = s.surveyed ∧ (s.surveyPresent t).motion = s.motion ∧
    (s.surveyPresent t).motionOut = s.motionOut ∧ (s.surveyPresent t).audio = s.audio ∧ (s.surveyPresent t).power = s.power ∧
    (s.surveyPresent t).views = s.views ∧ (s.surveyPresent t).balance = s.balance ∧ (s.surveyPresent t).notices = s.notices ∧
    (s.surveyPresent t).pulses = s.pulses ∧ (s.surveyPresent t).service = s.service ∧
    (s.surveyPresent t).pending = s.pending := by
  unfold State.surveyPresent
  (repeat' split) <;> simp

/-- The surveys start, or RESURVEY is offered (R115, R118). -/
@[simp] theorem State.startSurveys_keeps :
    (s.startSurveys).start = s.start ∧ (s.startSurveys).cause = s.cause ∧ (s.startSurveys).station = s.station ∧
    (s.startSurveys).sup = s.sup ∧ (s.startSurveys).srec = s.srec ∧ (s.startSurveys).cfg = s.cfg ∧
    (s.startSurveys).settledRoles = s.settledRoles ∧ (s.startSurveys).farNeighbour = s.farNeighbour ∧
    (s.startSurveys).lateSeen = s.lateSeen ∧ (s.startSurveys).localSlot = s.localSlot ∧ (s.startSurveys).clock = s.clock ∧
    (s.startSurveys).pins = s.pins ∧ (s.startSurveys).rx = s.rx ∧ (s.startSurveys).stations = s.stations ∧
    (s.startSurveys).dst = s.dst ∧ (s.startSurveys).seqs = s.seqs ∧ (s.startSurveys).counters = s.counters ∧
    (s.startSurveys).paced = s.paced ∧ (s.startSurveys).eyes = s.eyes ∧ (s.startSurveys).surveyed = s.surveyed ∧
    (s.startSurveys).motion = s.motion ∧ (s.startSurveys).motionOut = s.motionOut ∧ (s.startSurveys).audio = s.audio ∧
    (s.startSurveys).power = s.power ∧ (s.startSurveys).views = s.views ∧ (s.startSurveys).balance = s.balance ∧
    (s.startSurveys).notices = s.notices ∧ (s.startSurveys).pulses = s.pulses ∧ (s.startSurveys).service = s.service ∧
    (s.startSurveys).pending = s.pending := by
  unfold State.startSurveys
  (repeat' split) <;> simp

/-- RUNNING begins (R201). -/
@[simp] theorem State.enterRunning_keeps :
    (s.enterRunning).cause = s.cause ∧ (s.enterRunning).station = s.station ∧ (s.enterRunning).sup = s.sup ∧
    (s.enterRunning).srec = s.srec ∧ (s.enterRunning).cfg = s.cfg ∧ (s.enterRunning).settledRoles = s.settledRoles ∧
    (s.enterRunning).farNeighbour = s.farNeighbour ∧ (s.enterRunning).lateSeen = s.lateSeen ∧
    (s.enterRunning).localSlot = s.localSlot ∧ (s.enterRunning).clock = s.clock ∧ (s.enterRunning).pins = s.pins ∧
    (s.enterRunning).rx = s.rx ∧ (s.enterRunning).stations = s.stations ∧ (s.enterRunning).seqs = s.seqs ∧
    (s.enterRunning).counters = s.counters ∧ (s.enterRunning).paced = s.paced ∧ (s.enterRunning).surveyed = s.surveyed ∧
    (s.enterRunning).motion = s.motion ∧ (s.enterRunning).motionOut = s.motionOut ∧ (s.enterRunning).views = s.views ∧
    (s.enterRunning).pulses = s.pulses ∧ (s.enterRunning).service = s.service ∧ (s.enterRunning).pending = s.pending := by
  simp [State.enterRunning]

/-! ### What the loss of lock and the wear link make -/

/-- The loss of lock clears the lane's receiver and counts the relock (R13, R25). -/
theorem State.leaveLocked_rx (l : Lane) (st : RxState) (c : Option AlignInfo) :
    (s.leaveLocked l st c).rx =
      s.rx.set l { (s.rx.get l).clear st with relocks := s.laneCount l (s.rx.get l).relocks, outOfLock := 0 } := by
  unfold State.leaveLocked
  split <;> simp [State.modRx, State.postLane]

/-- The loss of lock makes of the lane's transmitter what `Tx.loseLock` says (R16, R20). -/
theorem State.leaveLocked_tx (l : Lane) (st : RxState) (c : Option AlignInfo) :
    (s.leaveLocked l st c).tx = s.tx.set l ((s.tx.get l).loseLock c) := by
  unfold State.leaveLocked
  split <;> simp [State.modTx, State.modRx, State.postLane]

/-- One record forgets its expected number where it is LISTENING; every other record stays (R60). -/
theorem State.forgetSeq_dst (f g : FlowId) :
    (s.forgetSeq f).dst.get g =
      if g = f ∧ (s.dst.get f).map (fun d => d.state) = some .listening then some ⟨.listening, none⟩ else s.dst.get g := by
  unfold State.forgetSeq
  split
  · rename_i e
    by_cases h : g = f
    · subst h
      cases g <;> simp_all [PerFlow.get, PerFlow.set]
    · simp only [h, false_and, if_false]
      revert h
      cases f <;> cases g <;> simp [PerFlow.get, PerFlow.set]
  · rename_i h
    rw [if_neg]
    rintro ⟨-, k⟩
    obtain ⟨d, e, x⟩ := Option.map_eq_some_iff.mp k
    obtain ⟨st, n⟩ := d
    exact h n (by rw [e]; cases x; rfl)

/-- Lane loss at a picture record does to the records what forgetting its expected number does (R60). -/
theorem State.losePicture_dst (e : Eye) : (s.losePicture e).dst = (s.forgetSeq (Eye.flow e)).dst := by
  unfold State.losePicture
  split
  · simp
  · rename_i h
    unfold State.forgetSeq
    split
    · rename_i k
      exact absurd (by simp [State.listening, k]) h
    · rfl

/-- Lane loss makes the expected number of every LISTENING record the lane feeds absent (R60). -/
theorem State.loseLane_dst (l : Lane) (f : FlowId) :
    (s.loseLane l).dst.get f =
      if f ∈ (match l with | .down => [FlowId.pictureL, .pictureR, .audioOut] | .up => [.motion, .audioIn]) ∧
          (s.dst.get f).map (fun d => d.state) = some .listening then some ⟨.listening, none⟩ else s.dst.get f := by
  cases l <;>
    simp only [State.loseLane, State.endRestartRun, State.forgetSeq_dst, State.losePicture_dst, Eye.flow] <;>
    cases f <;> simp

/-- The loss of lock does to the records what lane loss does (R13). -/
theorem State.leaveLocked_dst (l : Lane) (st : RxState) (c : Option AlignInfo) (f : FlowId) :
    (s.leaveLocked l st c).dst.get f = (s.loseLane l).dst.get f := by
  unfold State.leaveLocked
  split <;> simp [State.loseLane_dst, State.postLane, State.modTx, State.modRx]

/-- Domains changed at once, and nothing else of the power unit (R153). -/
@[simp] theorem State.changeDomains_power (f : Domain → Domain) :
    (s.changeDomains f).power = { s.power with domains := s.power.domains.map f } := by
  simp [State.changeDomains]

/-- The wear link writes the display domain's wanted flag while it is enabled, and no other domain (R123). -/
theorem State.wearLink_power (v : Bool) :
    (s.wearLink v).power =
      if s.station = .headset ∧ s.cfg.wearLink = true then { s.power with domains := s.power.domains.map (wantOf 1 v) }
      else s.power := by
  unfold State.wearLink
  split <;> simp

end Sys2Proof.Machine
end

