-- ==== Sys2Proof/Laws/PerInstr.lean ====
section
/-! SUPPORT. A family of statements made per command, about the command as syntax: every cell that a well-formed command carries
is 36 bytes long, 32 of them payload (section 2.1). -/

namespace Sys2Proof

/-- The cells a command carries. -/
def Instr.cells : Instr → List Cell
  | .candidateAlignmentCell _ c => [c]
  | .expectedAlignmentCell _ found => found.toList
  | .payloadSlotReceived _ c => [c]
  | .dataCellTaken _ c => [c]
  | .probeTaken _ c => [c]
  | .replyTaken _ c => [c]
  | .powerReportTaken _ c => [c]
  | .echoTaken _ c => [c]
  | .delayTaken _ c => [c]
  | .echoBackTaken _ c => [c]
  | .resurveyTaken _ c => [c]
  | .volumeCellTaken _ c => [c]
  | .muteCellTaken _ c => [c]
  | .buttonCellTaken _ c => [c]
  | .relayRequestTaken _ c => [c]
  | .relayAnswerTaken _ c => [c]
  | .powerOn | .pin | .brownout | .endOfReset _ _ _ | .endOfLoading _ | .rolesSettle | .endOfLinking
  | .linkingTimeout | .signalPresent _ | .signalAbsent _ | .stationTableTimeout _ | .alignmentCellSent _
  | .idleSlotArbitration _ | .relayWaitExpiry | .sliceOffered _ _ _ _ _ _ | .endOfStream _ | .displayReadyRise _
  | .pictureTaken _ _ | .dataReadyEdge | .readCompletion _ | .motionReadyRise | .localSuperframeBoundary _
  | .wearChange _ | .notWornCountExpiry | .wakeHoldExpiry | .sensorSilent | .surveyTimeout _ | .echoDiscardFailure _
  | .delayWaitExpiry | .frameClockEdge _ _ | .frameClockAbsent | .buttonPress _ | .buttonRelease _
  | .sampleEvent _ _ _ | .supplyTrip | .supplyReclose | .powerRiBoundary | .viewEntrySilent _ | .keepAliveCall
  | .statusPulseEnd _ | .noticeTake | .countersTake _ | .tableRead _ _ | .tableNext | .domainWant _ _ | .volume _
  | .micMute _ | .summary | .relay _ _ | .relayTake | .unknownCode _ | .framingError | .idleGap | .discardEnd
  | .localRiBoundary _ _ _ | .frameStart | .superframePulseStart | .answerByteSent | .displayReadyFall _
  | .motionReadyFall => []

namespace Laws

/-- Every cell that the command carries, when it is well formed, has a payload of 32 bytes. -/
def CellsWhole.Statement (i : Instr) : Prop := i.wellFormed = true → ∀ c ∈ i.cells, c.payload.length = 32

/-- A command that carries no cell has no cell of another length. -/
theorem cellsWhole_of_no_cells (i : Instr) (h : i.cells = []) : CellsWhole.Statement i := by
  intro _ c hc
  simp [h] at hc

/-- A command that carries one cell, where its well-formedness implies the cell's. -/
theorem cellsWhole_of_cell (i : Instr) (c : Cell) (h : i.cells = [c]) (w : i.wellFormed = true → c.wellFormed = true) :
    CellsWhole.Statement i := by
  intro hw d hd
  rw [h, List.mem_singleton] at hd
  simpa [Cell.wellFormed, hd] using w hw

/-- A cell of a kind is whole. -/
theorem Cell.ofKind_whole {c : Cell} {k : Kind} (h : c.ofKind k = true) : c.wellFormed = true := by
  simp only [Cell.ofKind, Bool.and_eq_true] at h
  exact h.1

/-- A CONTROL cell of a subtype is whole. -/
theorem Cell.ofSubtype_whole {c : Cell} {n : Byte} (h : c.ofSubtype n = true) : c.wellFormed = true := by
  simp only [Cell.ofSubtype, Bool.and_eq_true] at h
  exact Cell.ofKind_whole h.1

/-- A RELAY cell of a direction is whole. -/
theorem Cell.ofRelay_whole {c : Cell} {b : Bool} (h : c.ofRelay b = true) : c.wellFormed = true := by
  simp only [Cell.ofRelay, Bool.and_eq_true] at h
  exact Cell.ofKind_whole h.1

theorem CellsWhole.powerOn : CellsWhole.Statement .powerOn := cellsWhole_of_no_cells _ rfl

theorem CellsWhole.pin : CellsWhole.Statement .pin := cellsWhole_of_no_cells _ rfl

theorem CellsWhole.brownout : CellsWhole.Statement .brownout := cellsWhole_of_no_cells _ rfl

theorem CellsWhole.endOfReset (stn : Station) (sup : BitVec 2) (srec : Bool) : CellsWhole.Statement (.endOfReset stn sup srec) := cellsWhole_of_no_cells _ rfl

theorem CellsWhole.endOfLoading (memory : List Byte) : CellsWhole.Statement (.endOfLoading memory) := cellsWhole_of_no_cells _ rfl

theorem CellsWhole.rolesSettle : CellsWhole.Statement .rolesSettle := cellsWhole_of_no_cells _ rfl

theorem CellsWhole.endOfLinking : CellsWhole.Statement .endOfLinking := cellsWhole_of_no_cells _ rfl

theorem CellsWhole.linkingTimeout : CellsWhole.Statement .linkingTimeout := cellsWhole_of_no_cells _ rfl

theorem CellsWhole.signalPresent (lane : Lane) : CellsWhole.Statement (.signalPresent lane) := cellsWhole_of_no_cells _ rfl

theorem CellsWhole.signalAbsent (lane : Lane) : CellsWhole.Statement (.signalAbsent lane) := cellsWhole_of_no_cells _ rfl

theorem CellsWhole.candidateAlignmentCell (lane : Lane) (cell : Cell) : CellsWhole.Statement (.candidateAlignmentCell lane cell) :=
  cellsWhole_of_cell _ cell rfl id

theorem CellsWhole.expectedAlignmentCell (lane : Lane) (found : Option Cell) : CellsWhole.Statement (.expectedAlignmentCell lane found) := by
  cases found with
  | none => exact cellsWhole_of_no_cells _ rfl
  | some c => exact cellsWhole_of_cell _ c rfl (by simp [Instr.wellFormed])

theorem CellsWhole.stationTableTimeout (lane : Lane) : CellsWhole.Statement (.stationTableTimeout lane) := cellsWhole_of_no_cells _ rfl

theorem CellsWhole.alignmentCellSent (lane : Lane) : CellsWhole.Statement (.alignmentCellSent lane) := cellsWhole_of_no_cells _ rfl

theorem CellsWhole.payloadSlotReceived (lane : Lane) (cell : Cell) : CellsWhole.Statement (.payloadSlotReceived lane cell) :=
  cellsWhole_of_cell _ cell rfl id

theorem CellsWhole.idleSlotArbitration (lane : Lane) : CellsWhole.Statement (.idleSlotArbitration lane) := cellsWhole_of_no_cells _ rfl

theorem CellsWhole.dataCellTaken (lane : Lane) (cell : Cell) : CellsWhole.Statement (.dataCellTaken lane cell) :=
  cellsWhole_of_cell _ cell rfl Cell.ofKind_whole

theorem CellsWhole.probeTaken (lane : Lane) (cell : Cell) : CellsWhole.Statement (.probeTaken lane cell) :=
  cellsWhole_of_cell _ cell rfl Cell.ofKind_whole

theorem CellsWhole.replyTaken (lane : Lane) (cell : Cell) : CellsWhole.Statement (.replyTaken lane cell) :=
  cellsWhole_of_cell _ cell rfl Cell.ofKind_whole

theorem CellsWhole.powerReportTaken (lane : Lane) (cell : Cell) : CellsWhole.Statement (.powerReportTaken lane cell) :=
  cellsWhole_of_cell _ cell rfl Cell.ofKind_whole

theorem CellsWhole.echoTaken (lane : Lane) (cell : Cell) : CellsWhole.Statement (.echoTaken lane cell) :=
  cellsWhole_of_cell _ cell rfl Cell.ofSubtype_whole

theorem CellsWhole.delayTaken (lane : Lane) (cell : Cell) : CellsWhole.Statement (.delayTaken lane cell) :=
  cellsWhole_of_cell _ cell rfl Cell.ofSubtype_whole

theorem CellsWhole.echoBackTaken (lane : Lane) (cell : Cell) : CellsWhole.Statement (.echoBackTaken lane cell) :=
  cellsWhole_of_cell _ cell rfl Cell.ofSubtype_whole

theorem CellsWhole.resurveyTaken (lane : Lane) (cell : Cell) : CellsWhole.Statement (.resurveyTaken lane cell) :=
  cellsWhole_of_cell _ cell rfl Cell.ofSubtype_whole

theorem CellsWhole.volumeCellTaken (lane : Lane) (cell : Cell) : CellsWhole.Statement (.volumeCellTaken lane cell) :=
  cellsWhole_of_cell _ cell rfl Cell.ofSubtype_whole

theorem CellsWhole.muteCellTaken (lane : Lane) (cell : Cell) : CellsWhole.Statement (.muteCellTaken lane cell) :=
  cellsWhole_of_cell _ cell rfl Cell.ofSubtype_whole

theorem CellsWhole.buttonCellTaken (lane : Lane) (cell : Cell) : CellsWhole.Statement (.buttonCellTaken lane cell) :=
  cellsWhole_of_cell _ cell rfl Cell.ofSubtype_whole

theorem CellsWhole.relayRequestTaken (lane : Lane) (cell : Cell) : CellsWhole.Statement (.relayRequestTaken lane cell) :=
  cellsWhole_of_cell _ cell rfl Cell.ofRelay_whole

theorem CellsWhole.relayAnswerTaken (lane : Lane) (cell : Cell) : CellsWhole.Statement (.relayAnswerTaken lane cell) :=
  cellsWhole_of_cell _ cell rfl Cell.ofRelay_whole

theorem CellsWhole.relayWaitExpiry : CellsWhole.Statement .relayWaitExpiry := cellsWhole_of_no_cells _ rfl

theorem CellsWhole.sliceOffered (eye : Eye) (picture : Num8) (index : BitVec 6) (layer : BitVec 2) (length : Nat) (data : List Byte) : CellsWhole.Statement (.sliceOffered eye picture index layer length data) := cellsWhole_of_no_cells _ rfl

theorem CellsWhole.endOfStream (eye : Eye) : CellsWhole.Statement (.endOfStream eye) := cellsWhole_of_no_cells _ rfl

theorem CellsWhole.displayReadyRise (eye : Eye) : CellsWhole.Statement (.displayReadyRise eye) := cellsWhole_of_no_cells _ rfl

theorem CellsWhole.pictureTaken (eye : Eye) (n : Num8) : CellsWhole.Statement (.pictureTaken eye n) := cellsWhole_of_no_cells _ rfl

theorem CellsWhole.dataReadyEdge : CellsWhole.Statement .dataReadyEdge := cellsWhole_of_no_cells _ rfl

theorem CellsWhole.readCompletion (axes : Axes) : CellsWhole.Statement (.readCompletion axes) := cellsWhole_of_no_cells _ rfl

theorem CellsWhole.motionReadyRise : CellsWhole.Statement .motionReadyRise := cellsWhole_of_no_cells _ rfl

theorem CellsWhole.localSuperframeBoundary (worn : Bool) : CellsWhole.Statement (.localSuperframeBoundary worn) := cellsWhole_of_no_cells _ rfl

theorem CellsWhole.wearChange (worn : Bool) : CellsWhole.Statement (.wearChange worn) := cellsWhole_of_no_cells _ rfl

theorem CellsWhole.notWornCountExpiry : CellsWhole.Statement .notWornCountExpiry := cellsWhole_of_no_cells _ rfl

theorem CellsWhole.wakeHoldExpiry : CellsWhole.Statement .wakeHoldExpiry := cellsWhole_of_no_cells _ rfl

theorem CellsWhole.sensorSilent : CellsWhole.Statement .sensorSilent := cellsWhole_of_no_cells _ rfl

theorem CellsWhole.surveyTimeout (station : Station) : CellsWhole.Statement (.surveyTimeout station) := cellsWhole_of_no_cells _ rfl

theorem CellsWhole.echoDiscardFailure (station : Station) : CellsWhole.Statement (.echoDiscardFailure station) := cellsWhole_of_no_cells _ rfl

theorem CellsWhole.delayWaitExpiry : CellsWhole.Statement .delayWaitExpiry := cellsWhole_of_no_cells _ rfl

theorem CellsWhole.frameClockEdge (ch1 : BitVec 24) (ch2 : BitVec 24) : CellsWhole.Statement (.frameClockEdge ch1 ch2) := cellsWhole_of_no_cells _ rfl

theorem CellsWhole.frameClockAbsent : CellsWhole.Statement .frameClockAbsent := cellsWhole_of_no_cells _ rfl

theorem CellsWhole.buttonPress (button : Button) : CellsWhole.Statement (.buttonPress button) := cellsWhole_of_no_cells _ rfl

theorem CellsWhole.buttonRelease (button : Button) : CellsWhole.Statement (.buttonRelease button) := cellsWhole_of_no_cells _ rfl

theorem CellsWhole.sampleEvent (rail : BitVec 10) (load : BitVec 10) (aux : BitVec 10) : CellsWhole.Statement (.sampleEvent rail load aux) := cellsWhole_of_no_cells _ rfl

theorem CellsWhole.supplyTrip : CellsWhole.Statement .supplyTrip := cellsWhole_of_no_cells _ rfl

theorem CellsWhole.supplyReclose : CellsWhole.Statement .supplyReclose := cellsWhole_of_no_cells _ rfl

theorem CellsWhole.powerRiBoundary : CellsWhole.Statement .powerRiBoundary := cellsWhole_of_no_cells _ rfl

theorem CellsWhole.viewEntrySilent (station : Station) : CellsWhole.Statement (.viewEntrySilent station) := cellsWhole_of_no_cells _ rfl

theorem CellsWhole.keepAliveCall : CellsWhole.Statement .keepAliveCall := cellsWhole_of_no_cells _ rfl

theorem CellsWhole.statusPulseEnd (out : StatusPin) : CellsWhole.Statement (.statusPulseEnd out) := cellsWhole_of_no_cells _ rfl

theorem CellsWhole.noticeTake : CellsWhole.Statement .noticeTake := cellsWhole_of_no_cells _ rfl

theorem CellsWhole.countersTake (group : Byte) : CellsWhole.Statement (.countersTake group) := cellsWhole_of_no_cells _ rfl

theorem CellsWhole.tableRead (table : Byte) (index : Byte) : CellsWhole.Statement (.tableRead table index) := cellsWhole_of_no_cells _ rfl

theorem CellsWhole.tableNext : CellsWhole.Statement .tableNext := cellsWhole_of_no_cells _ rfl

theorem CellsWhole.domainWant (domain : Byte) (onOff : Byte) : CellsWhole.Statement (.domainWant domain onOff) := cellsWhole_of_no_cells _ rfl

theorem CellsWhole.volume (step : Byte) : CellsWhole.Statement (.volume step) := cellsWhole_of_no_cells _ rfl

theorem CellsWhole.micMute (onOff : Byte) : CellsWhole.Statement (.micMute onOff) := cellsWhole_of_no_cells _ rfl

theorem CellsWhole.summary : CellsWhole.Statement .summary := cellsWhole_of_no_cells _ rfl

theorem CellsWhole.relay (station : Byte) (inner : List Byte) : CellsWhole.Statement (.relay station inner) := cellsWhole_of_no_cells _ rfl

theorem CellsWhole.relayTake : CellsWhole.Statement .relayTake := cellsWhole_of_no_cells _ rfl

theorem CellsWhole.unknownCode (code : Byte) : CellsWhole.Statement (.unknownCode code) := cellsWhole_of_no_cells _ rfl

theorem CellsWhole.framingError : CellsWhole.Statement .framingError := cellsWhole_of_no_cells _ rfl

theorem CellsWhole.idleGap : CellsWhole.Statement .idleGap := cellsWhole_of_no_cells _ rfl

theorem CellsWhole.discardEnd : CellsWhole.Statement .discardEnd := cellsWhole_of_no_cells _ rfl

theorem CellsWhole.localRiBoundary (volUp : Bool) (volDown : Bool) (mute : Bool) : CellsWhole.Statement (.localRiBoundary volUp volDown mute) := cellsWhole_of_no_cells _ rfl

theorem CellsWhole.frameStart : CellsWhole.Statement .frameStart := cellsWhole_of_no_cells _ rfl

theorem CellsWhole.superframePulseStart : CellsWhole.Statement .superframePulseStart := cellsWhole_of_no_cells _ rfl

theorem CellsWhole.answerByteSent : CellsWhole.Statement .answerByteSent := cellsWhole_of_no_cells _ rfl

theorem CellsWhole.displayReadyFall (eye : Eye) : CellsWhole.Statement (.displayReadyFall eye) := cellsWhole_of_no_cells _ rfl

theorem CellsWhole.motionReadyFall : CellsWhole.Statement .motionReadyFall := cellsWhole_of_no_cells _ rfl

end Laws

end Sys2Proof
end

