-- ==== Sys2Proof/Laws/Queues.lean ====
section
/-! SUPPORT. What the queue operations make of a queue: what they add, what they replace, and the length they keep; and what a
survey does as it starts. -/

namespace Sys2Proof.Machine

/-! ### Notices (R185) -/

/-- A notice put into a queue is in it. -/
theorem putNotice_mem_self (n : Notice) (q : List Notice) : n ∈ putNotice n q := by
  induction q with
  | nil => simp [putNotice]
  | cons m q ih => unfold putNotice; split <;> simp [ih]

/-- What the queue holds after a notice was put into it: the notice, and entries it held before. -/
theorem mem_putNotice {n x : Notice} {q : List Notice} (h : x ∈ putNotice n q) : x = n ∨ x ∈ q := by
  induction q with
  | nil => simpa [putNotice] using h
  | cons m q ih =>
    unfold putNotice at h
    split at h
    · rcases List.mem_cons.1 h with h | h
      · exact .inl h
      · exact .inr (List.mem_cons_of_mem _ h)
    · rcases List.mem_cons.1 h with h | h
      · exact .inr (h ▸ List.mem_cons_self)
      · exact (ih h).imp id (List.mem_cons_of_mem _)

/-- An entry of another subject stays. -/
theorem mem_putNotice_of_ne {n x : Notice} {q : List Notice} (h : x ∈ q) (hs : x.subject ≠ n.subject) :
    x ∈ putNotice n q := by
  induction q with
  | nil => exact absurd h List.not_mem_nil
  | cons m q ih =>
    unfold putNotice
    split
    · rename_i hm
      rcases List.mem_cons.1 h with h | h
      · exact absurd (h ▸ hm) hs
      · exact List.mem_cons_of_mem _ h
    · rcases List.mem_cons.1 h with h | h
      · exact h ▸ List.mem_cons_self
      · exact List.mem_cons_of_mem _ (ih h)

/-- The queue's subjects stay distinct. -/
theorem putNotice_distinct (n : Notice) (q : List Notice) (h : (q.map (·.subject)).Nodup) :
    ((putNotice n q).map (·.subject)).Nodup := by
  induction q with
  | nil => simp [putNotice]
  | cons m q ih =>
    rw [List.map_cons, List.nodup_cons] at h
    unfold putNotice
    split
    · rename_i hm
      simpa [← hm] using h
    · rename_i hm
      rw [List.map_cons, List.nodup_cons]
      refine ⟨fun hx => ?_, ih h.2⟩
      obtain ⟨x, hx, he⟩ := List.mem_map.1 hx
      rcases mem_putNotice hx with hx | hx
      · exact hm (by rw [← he, hx])
      · exact h.1 (List.mem_map.2 ⟨x, hx, he⟩)

/-! ### The CONTROL FIFO (R41, R42) -/

/-- A replaced POWER cell leaves the FIFO's length. -/
theorem replacePower_length {c : Ctl} {q : List Ctl} {p : List Ctl × Nat} (h : replacePower c q = some p) :
    p.1.length = q.length := by
  induction q generalizing p with
  | nil => simp [replacePower] at h
  | cons c q ih =>
    unfold replacePower at h
    split at h
    · simp at *
    · rename_i x y z
      cases z
      cases h
      simp
    · rename_i x y z _ w
      cases w
      obtain ⟨a, ha, rfl⟩ := Option.map_eq_some_iff.1 h
      simp [ih ha]

/-- An offer keeps the FIFO's room. -/
theorem offerFifo_length (role : TxRole) (q : List Ctl) (c : Ctl) (h : q.length ≤ 8) :
    (offerFifo role q c).fifo.length ≤ 8 := by
  unfold offerFifo
  split
  · exact h
  · split
    · simp; omega
    · split
      · split
        · rename_i hr
          simpa [replacePower_length hr] using h
        · exact h
      · exact h

/-- An offer to a sending transmitter whose FIFO holds fewer than 8 appends the cell. -/
theorem offerFifo_of_room {role : TxRole} {q : List Ctl} (c : Ctl) (hr : role.sends = true) (h : q.length < 8) :
    offerFifo role q c = { fifo := q ++ [c], accepted := true, replaced := none } := by
  simp [offerFifo, hr, h]

/-- A cell other than POWER is taken where the transmitter sends and its FIFO holds fewer than 8, and is lost elsewhere. -/
theorem State.offerResult_of_not_power (s : State) (l : Lane) {c : Ctl} (h : ∀ r n, c ≠ .power r n) :
    (s.offerResult l c).accepted = decide ((s.tx.get l).role.sends = true ∧ (s.tx.get l).fifo.length < 8) ∧
    (s.offerResult l c).fifo =
      if (s.tx.get l).role.sends = true ∧ (s.tx.get l).fifo.length < 8 then (s.tx.get l).fifo ++ [c] else (s.tx.get l).fifo := by
  unfold State.offerResult offerFifo
  by_cases h1 : (s.tx.get l).role.sends = false
  · simp [h1]
  · by_cases h2 : (s.tx.get l).fifo.length < 8
    · simp [h1, h2]
    · simp only [Bool.not_eq_false] at h1
      cases c <;> first | exact absurd rfl (h _ _) | simp [h1, h2]

/-- An offer of such a cell changes the lane's FIFO alone. -/
theorem State.offer_of_not_power (s : State) (l : Lane) {c : Ctl} (h : ∀ r n, c ≠ .power r n) :
    s.offer l c =
      s.modTx l fun t => { t with fifo := if t.role.sends = true ∧ t.fifo.length < 8 then t.fifo ++ [c] else t.fifo } := by
  unfold State.offer State.modTx
  rw [(s.offerResult_of_not_power l h).2]

/-! ### Surveys (R115, R116) -/

/-- A survey that starts at CONSOLE in RUNNING takes the next token, offers its ECHO to the down FIFO and sets its record. -/
theorem State.startSurvey_of_console (s : State) (y : Station) (hc : s.station = .console) (hr : s.running)
    (hy : y ≠ .console) :
    s.startSurvey y =
      { s.modTx .down fun t =>
          { t with
            fifo :=
              if t.role.sends = true ∧ t.fifo.length < 8 then t.fifo ++ [.echo y (s.tokens + 1)] else t.fifo } with
        tokens := s.tokens + 1,
        surveys := s.surveys.set y
          { s.surveys.get y with
            state := .sending, token := s.tokens + 1, failed := 0, unknown := false,
            discarded := !decide ((s.tx.get .down).role.sends = true ∧ (s.tx.get .down).fifo.length < 8) } } := by
  have lane : laneTo s.station y = some .down := by rw [hc]; cases y <;> first | rfl | exact absurd rfl hy
  have other : ∀ r n, Ctl.echo y (s.tokens + 1) ≠ .power r n := by intro r n h; cases h
  unfold State.startSurvey
  rw [if_pos ⟨hc, hr, hy⟩]
  unfold State.beginAttempt State.offerTo State.accepts State.modSurvey
  simp only [lane, State.offer_of_not_power _ _ other, (State.offerResult_of_not_power _ _ other).1]
  cases y <;> rfl

/-! ### Samples and blocks (R125, R133, R127) -/

/-- The sample queue keeps its room. -/
theorem append16_length {α : Type} (q : List α) (x : α) (h : q.length ≤ 16) : (append16 q x).length ≤ 16 := by
  unfold append16
  split <;> simp <;> omega

/-- The source queue keeps its room. -/
theorem queueBlock_length (q : List Block) (b : Block) (h : q.length ≤ 4) : (queueBlock q b).length ≤ 4 := by
  unfold queueBlock
  split <;> simp <;> omega

/-- The output queue keeps its room. -/
theorem appendOut_length (q : List OutSample) (x : OutSample) (h : q.length ≤ 16) : (appendOut q x).length ≤ 16 := by
  unfold appendOut
  split
  · simp; omega
  · split
    · simp
    · rename_i old rest _
      have : (passCount old (rest ++ [x])).length = rest.length + 1 := by
        cases rest <;> simp [passCount]
      simp at h
      omega

/-! ### Slice buffers (R97, R104, R105) -/

/-- A layer map keeps its two entries at most. -/
theorem mapFor_length {x : Num8} {m t : List LayerEntry} (h : mapFor x m = some t) (hm : m.length ≤ 2) : t.length ≤ 2 := by
  unfold mapFor at h
  split at h
  · cases h; exact hm
  · split at h
    · cases h; simp
    · split at h
      · cases h; simp
      · split at h
        · cases h; simp
        · split at h
          · cases h; simp
          · cases h

/-- A run of releases leaves the end of the buffer. -/
theorem releaseRun_buffer (m : List LayerEntry) (b : List BufRec) : (releaseRun m b).buffer <:+ b := by
  induction b generalizing m with
  | nil => simp [releaseRun]
  | cons r b ih =>
    unfold releaseRun
    split
    · dsimp only
      split <;> exact (ih _).trans (List.suffix_cons r b)
    · exact List.suffix_rfl

end Sys2Proof.Machine
end

