-- ==== Sys2Proof/Laws/Reports.lean ====
section
/-! SUPPORT. What the tests and calls for reports can do, said once: an induction rule for each, and what a copy that stops
waiting makes of the balance. -/

namespace Sys2Proof.Machine

/-! ### Tests and calls (R178) -/

/-- What every build made on a due test keeps, the tests for reports keep. -/
theorem State.reportTests_preserves {P : State → Prop} (build : ∀ s : State, s.reportDue = true → P s → P s.buildReport)
    (n k : Nat) (s : State) (h : P s) : P (State.reportTests n k s) := by
  induction n generalizing k s with
  | zero => simpa [State.reportTests] using h
  | succ n ih =>
    cases k with
    | zero => simpa [State.reportTests] using h
    | succ k =>
      unfold State.reportTests
      split
      · rename_i due
        exact ih _ _ (build s due h)
      · exact h

/-- What setting event pending and every build keep, the calls that changes bring keep. -/
theorem State.callOnChange_preserves {P : State → Prop} (build : ∀ s : State, s.reportDue = true → P s → P s.buildReport)
    (event : ∀ s : State, P s → P { s with balance := { s.balance with event := true } }) (before s : State) (h : P s) :
    P (State.callOnChange before s) := by
  have step : ∀ (n : Nat) (s : State), P s → P (State.callEvents n s) := by
    intro n
    induction n with
    | zero => exact fun _ h => h
    | succ n ih => exact fun s h => ih _ (State.reportTests_preserves build 100 1 _ (event s h))
  exact step _ s h

/-- A test that is not due builds nothing. -/
theorem State.reportTest_of_not_due {s : State} (h : s.reportDue = false) : s.reportTest = s := by
  simp [State.reportTest, State.reportTests, h]

/-- A build after which every report outstanding before and the one built are outstanding brings no test. -/
theorem testsAfter_of_none_gone {before after : State}
    (h : after.balance.outstanding.length =
      before.balance.outstanding.length + (after.balance.built - before.balance.built)) : testsAfter before after = 0 := by
  unfold testsAfter
  split <;> omega

/-- A test that is due and whose build brings no other is that build. -/
theorem State.reportTest_of_due {s : State} (h : s.reportDue = true) (none : testsAfter s s.buildReport = 0) :
    s.reportTest = s.buildReport := by
  simp [State.reportTest, State.reportTests, h, none]

/-- No test builds a report before RUNNING. -/
theorem State.reportTest_of_not_running {s : State} (h : s.start ≠ .running) : s.reportTest = s :=
  State.reportTest_of_not_due (by simp [State.reportDue, h])

/-! ### Copies (R179) -/

/-- A copy that stops waiting lowers b and the number of outstanding reports by one each, lowers that number alone by one, or
leaves both. -/
theorem Balance.copyGone_cases (b : Balance) (l : Lane) (serial : Nat) (inserted : Bool) :
    let c := b.copyGone l serial inserted
    (c.b = b.b ∧ c.outstanding.length = b.outstanding.length) ∨
      (c.outstanding.length + 1 = b.outstanding.length ∧ (c.b = b.b ∨ c.b = b.b - 1 ∧ c.age = 0 ∧ c.fresh = false)) := by
  unfold Balance.copyGone
  dsimp only
  split
  · exact .inl ⟨rfl, rfl⟩
  · rename_i o ho
    have hm : o ∈ b.outstanding := List.mem_of_find?_eq_some ho
    have hp : (o.serial == serial) = true := by simpa using List.find?_some ho
    have hl : (b.outstanding.eraseP fun x => x.serial == serial).length + 1 = b.outstanding.length := by
      have := List.length_pos_of_mem hm
      rw [List.length_eraseP_of_mem hm hp]
      omega
    split
    · exact .inl ⟨rfl, by simp⟩
    · split
      · exact .inr ⟨hl, .inr ⟨rfl, rfl, rfl⟩⟩
      · exact .inr ⟨hl, .inl rfl⟩

/-- A copy that stops waiting never lowers the net balance. -/
theorem Balance.copyGone_net (b : Balance) (l : Lane) (serial : Nat) (inserted : Bool) :
    b.net ≤ (b.copyGone l serial inserted).net := by
  have := Balance.copyGone_cases b l serial inserted
  dsimp only at this
  unfold Balance.net
  omega

end Sys2Proof.Machine
end

