-- ==== Sys2Proof/Tests/Slice0.lean ====
section
/-! SUPPORT. The package's own tests: ill-formed commands that WellFormed refuses, a step of each family with results taken from
the spec, and for every statement with hypotheses a state and operands that meet them. -/

namespace Sys2Proof.Tests

set_option Elab.async false

open Sys2Proof Sys2Proof.Machine

/-! ### Small states -/

/-- What a next state shows; false for a fault or a refusal. -/
def shows (o : Host.Outcome State Fault Refusal) (p : State → Bool) : Bool :=
  match o with
  | .next t => p t
  | _ => false

/-- A payload of 32 bytes that begins as given. -/
def cellOf (k : Kind) (src : Station) (dst : Dest) (bytes : List Byte) : Cell := mkCell k src dst 0 0 true bytes

/-- A receiver in LOCKED in an ACTIVE lane. -/
def lockedRx : Rx :=
  { Rx.reset with
    state := .locked, inEffect := some .active, count := some 0, infoOk := true, activeThis := true, activePrev := true,
    payloadState := some .active,
    info := some { frame := 0, origin := .console, lane := .active, fault := false, count := 0, status := 0, hop := 0 } }

/-- A transmitter of a role in an open frame. -/
def openTx (r : TxRole) : Tx :=
  { Tx.reset with
    role := r, begun := true, sentThis := some .active, sentPrev := some .active, own := true, whole := true,
    quiet := if r = .origin then some Quiet.start else none }

/-- A node of a role in RUNNING: every receiver in use LOCKED, its domain table all ON at its default. -/
def node (t : Station) (far : Bool) : State :=
  { State.reset with
    start := .running, station := t, settledRoles := true, farNeighbour := far,
    rx := ⟨if t = .console then Rx.reset else lockedRx, if far then lockedRx else Rx.reset⟩,
    tx :=
      ⟨openTx (if t = .console then .origin else if far then .repeating else .terminal),
       openTx (if t = .console then .terminal else if far then .repeating else .origin)⟩,
    stations := State.reset.stations.set t { present := true, status := 0x80, absentRun := 0, delay := none },
    paced := ⟨{ Paced.reset with ar := 160 }, { Paced.reset with ar := 160 }⟩,
    power :=
      { Power.reset with
        domains := (domainTable t Params.default).map (fun d => { d with state := .on }), rail := 12000,
        switchClosed := t == .console } }

/-- CONSOLE, POD and HEADSET of a tether of three, and a STRAP at its end. -/
def con : State := node .console true
def pod : State := node .pod true
def hs : State :=
  { node .headset false with
    dst := ⟨some ⟨.listening, none⟩, some ⟨.listening, none⟩, none, some ⟨.listening, none⟩, none⟩,
    motion := { Motion.reset with state := .sampling } }
def strap : State := node .strap false

/-- The state with one cell handed over by a lane's receiver and waiting to be taken (R34). -/
def handing (l : Lane) (c : Cell) (s : State) : State := s.modRx l fun r => { r with handed := [c] }

/-- The domain table of a role at the end of LOADING. -/
theorem test_console_running : con.live ∧ con.running ∧ con.station = .console := by decide

/-! ### Ill-formed commands are refused -/

/-- A cell of 31 payload bytes. -/
def shortCell (k : Kind) : Cell := { cellOf k .pod (.to .console) [] with payload := List.replicate 31 0 }

theorem test_wf_cells_short :
    (Instr.candidateAlignmentCell .up (shortCell .align)).wellFormed = false ∧
    (Instr.expectedAlignmentCell .up (some (shortCell .align))).wellFormed = false ∧
    (Instr.payloadSlotReceived .up (shortCell .data)).wellFormed = false ∧
    (Instr.dataCellTaken .up (shortCell .data)).wellFormed = false := by decide +kernel

theorem test_wf_cells_of_another_kind :
    (Instr.dataCellTaken .up (cellOf .probe .pod (.to .console) [])).wellFormed = false ∧
    (Instr.probeTaken .up (cellOf .data .pod (.to .console) [])).wellFormed = false ∧
    (Instr.replyTaken .up (cellOf .data .pod (.to .console) [])).wellFormed = false ∧
    (Instr.powerReportTaken .up (cellOf .data .pod (.to .console) [])).wellFormed = false := by decide +kernel

theorem test_wf_control_of_another_subtype :
    (Instr.echoTaken .down (cellOf .control .console (.to .pod) [2])).wellFormed = false ∧
    (Instr.echoBackTaken .up (cellOf .control .pod (.to .console) [1])).wellFormed = false ∧
    (Instr.delayTaken .down (cellOf .control .console (.to .pod) [4])).wellFormed = false ∧
    (Instr.resurveyTaken .up (cellOf .control .pod (.to .console) [3])).wellFormed = false ∧
    (Instr.volumeCellTaken .up (cellOf .control .headset (.to .pod) [7])).wellFormed = false ∧
    (Instr.buttonCellTaken .up (cellOf .control .pod (.to .console) [5])).wellFormed = false ∧
    (Instr.muteCellTaken .up (cellOf .control .headset (.to .pod) [6])).wellFormed = false := by decide +kernel

theorem test_wf_relay_of_another_direction :
    (Instr.relayRequestTaken .down (cellOf .relay .console (.to .pod) [0x80, 1, 1, 1, 0x17])).wellFormed = false ∧
    (Instr.relayAnswerTaken .up (cellOf .relay .pod (.to .console) [0, 1, 1, 1, 0x17])).wellFormed = false := by decide +kernel

theorem test_wf_lengths :
    (Instr.endOfLoading (List.replicate 97 0)).wellFormed = false ∧
    (Instr.sliceOffered .left 0 0 0 3 [1, 2]).wellFormed = false ∧
    (Instr.relay 1 [0x11]).wellFormed = false ∧ (Instr.unknownCode 0x17).wellFormed = false := by decide +kernel

theorem test_wf_accepts :
    (Instr.endOfLoading (List.replicate 96 0)).wellFormed = true ∧ (Instr.sliceOffered .left 0 0 3 2 [1, 2]).wellFormed = true ∧
    (Instr.relay 1 [0x11, 2]).wellFormed = true ∧ (Instr.unknownCode 0x1A).wellFormed = true ∧
    (Instr.relayRequestTaken .down (cellOf .relay .console (.to .pod) [0, 1, 1, 1, 0x17])).wellFormed = true ∧
    (Instr.echoTaken .down (cellOf .control .console (.to .pod) [1, 9])).wellFormed = true := by decide +kernel

/-! ### Values the spec works out -/

/-- 00 "Check codes": the nine ASCII bytes of 123456789 give 0x29B1. -/
theorem test_crc_of_the_manual :
    crc16 [0x31, 0x32, 0x33, 0x34, 0x35, 0x36, 0x37, 0x38, 0x39] = 0x29B1 := by decide +kernel

/-- R93: cells of a slice by its length. -/
theorem test_slice_cells : [1, 28, 29, 60, 100, 1000, 4096].map sliceCells = [1, 1, 2, 2, 4, 32, 129] := by decide

/-- R75: the offer at peak 480 and fills 256, 640, 900 and 1024. -/
theorem test_destination_offer : [0, 256, 640, 900, 1024].map (destOffer 480) = [480, 480, 240, 77, 0] := by decide

/-- The worked case of chapter 4: rate and band by each reply, and by each faded probe of the fault. -/
theorem test_worked_rates :
    let p : FlowParams := { scarce := 96, ease := 128, low := 200, ok := 240 }
    let r (o : Nat) (c n : Bool) : RateCell :=
      { number := 0, ar := 0, offered := o, peak := 480, congested := c, noRise := n, hold := false }
    rateAfterReply p 160 (r 480 false false) = 205 ∧ rateAfterReply p 205 (r 480 false false) = 250 ∧
    rateAfterReply p 250 (r 480 true false) = 187 ∧ rateAfterReply p 187 (r 240 false true) = 187 ∧
    rateAfterReply p 187 (r 77 true false) = 77 ∧ rateAfterReply p 48 (r 480 false false) = 93 ∧
    [77, 67, 58, 50, 48].map (fadedRate p) = [67, 58, 50, 48, 48] ∧
    bandAfter p .low 250 = .full ∧ bandAfter p .full 187 = .low ∧ bandAfter p .low 77 = .scarce ∧
    bandAfter p .scarce 93 = .scarce ∧ bandAfter p .scarce 138 = .low := by decide

/-- The example of R97: 1020 cells in 5 records, of which two unstarted refinements, and a BASE slice of 10 cells. -/
theorem test_room_making :
    let r (k : Layer) (total sent : Nat) : SliceRec :=
      { picture := 1, index := 0, layer := k, length := 0, total := total, sent := sent, data := [] }
    let old := [r .base 500 0, r .base 400 0, r .base 110 4]
    (roomFor (old ++ [r .refine1 8 0, r .refine2 6 0]) .base 10 = some (old ++ [r .refine1 8 0])) ∧
    (roomFor (old ++ [r .refine1 8 0, r .refine2 6 0]) .refine1 10 = none) := by decide +kernel

/-! ### A step of each family -/

/-- R202, R164: PIN leaves CONSOLE's switch as it was. -/
theorem test_pin_keeps_the_switch :
    shows (exec .pin con) (fun t => t.start == .reset && t.cause == .pin && t.power.switchClosed) = true := by decide +kernel

/-- R200, R197, R18: at CONSOLE the up TX is TERMINAL from LOADING. -/
theorem test_end_of_reset :
    shows (exec (.endOfReset .console 2 true) State.reset)
      (fun t => t.start == .loading && t.sup == 2 && t.srec && t.tx.up.role == .terminal) = true := by decide +kernel

/-- R198, R151, R153: with no memory HEADSET takes the defaults; core comes ON, the other wanted domains wait. -/
theorem test_end_of_loading :
    shows (exec (.endOfLoading []) { State.reset with start := .loading, station := .headset })
      (fun t =>
        t.start == .linking && t.cfg == Params.default && t.tx.up.role == .provisional &&
          t.power.domains.map (fun d => (d.number, d.state == .on, d.state == .waiting)) ==
            [(0, true, false), (1, false, true), (2, false, true), (3, false, true), (4, false, true)]) = true := by
  decide +kernel

/-- R199: a record that marks itself and says volume 15 gives 14, and a floor above its peak gives the peak. -/
theorem test_record_is_clamped :
    let m : List Byte :=
      [0xA6, 1, 0, 16, 3, 0xF0, 0, 0] ++ List.replicate 52 0 ++ [0xF0] ++ List.replicate 35 0
    (loadRecord true m).volume = 14 ∧ (loadRecord true m).flowL.peak = 16 ∧ (loadRecord true m).flowL.floor = 16 ∧
    (loadRecord false m).volume = 6 := by decide +kernel

/-- Section 11.2, the worked validation: the flow's record, its band at the end of LOADING, its rise amount and credit cap. -/
theorem test_worked_validation :
    let m : List Byte :=
      [0xA6, 1, 7, 208, 2, 88, 0, 10, 24, 64, 32, 32, 8, 0x0E, 0, 5, 0, 100, 0, 90, 1, 44, 1, 144] ++ List.replicate 72 0
    let p := (loadRecord true m).flowL
    (p.peak, p.floor, p.start, p.burst) = (1008, 600, 600, 63) ∧ (p.scarce, p.ease, p.low, p.ok) = (126, 189, 378, 504) ∧
    loadBand p = .full ∧ riseAmount p = 95 ∧ creditCap p = 1008 := by decide +kernel

/-- R20: at CONSOLE the down TX becomes the ORIGIN. -/
theorem test_roles_settle :
    shows (exec .rolesSettle { con with start := .linking, settledRoles := false, rx := ⟨Rx.reset, Rx.reset⟩ })
      (fun t => t.tx.down.role == .origin && t.settledRoles && t.start == .linking) = true := by decide +kernel

/-- R201, R184: LINKING_TIMEOUT enters RUNNING and posts RESET_CAUSE. -/
theorem test_linking_timeout :
    shows (exec .linkingTimeout { con with start := .linking })
      (fun t => t.start == .running && t.notices.any fun n => n.kind == .resetCause && n.value == 0) = true := by decide +kernel

/-- R8: a candidate in SEARCH, and R8's third cell. -/
theorem test_candidate :
    let i : AlignInfo :=
      { frame := 5, origin := .console, lane := .light, fault := false, count := 9, status := 0x80, hop := 0xFFFF }
    shows (exec (.candidateAlignmentCell .down (alignCell .console i)) { pod with rx := ⟨{ Rx.reset with state := .search }, Rx.reset⟩ })
      (fun t => t.rx.down.state == .confirm && t.rx.down.confirm == 1 && t.rx.down.frame == 5 && t.rx.down.inEffect == some .light) =
      true := by decide +kernel

/-- R23, R115, R116: a status byte that makes a station present at CONSOLE starts its survey with the next token; R118: the down
RX of another station that locks offers RESURVEY. -/
theorem test_survey_starts :
    let byte : AlignInfo := { frame := 2, origin := .headset, lane := .active, fault := false, count := 0, status := 0x80, hop := 0xFFFF }
    let last : AlignInfo := { byte with frame := 0, origin := .console, count := 7 }
    shows
      (exec (.expectedAlignmentCell .up (some (alignCell .headset byte)))
        { con with tokens := 39, rx := ⟨Rx.reset, { lockedRx with frame := 1 }⟩ })
      (fun t =>
        t.stations.headset.present && t.surveys.headset.state == .sending && t.surveys.headset.token == 40 && t.tokens == 40 &&
          t.tx.down.fifo == [.echo .headset 40]) = true ∧
    shows
      (exec (.expectedAlignmentCell .down (some (alignCell .console last)))
        { hs with rx := ⟨{ Rx.reset with state := .confirm, confirm := 2, frame := 15, inEffect := some .active }, Rx.reset⟩ })
      (fun t => t.rx.down.state == .locked && t.tx.up.fifo == [.resurvey]) = true := by decide +kernel

/-- R10, R13, R16, R184: the fourth alignment error in a row loses lock, the POD's down TX becomes SUBSTITUTE, and LANE_STATE says
SEARCH, 1, and SUBSTITUTE, 2. -/
theorem test_fourth_error_loses_lock :
    shows (exec (.expectedAlignmentCell .down none) { pod with rx := ⟨{ lockedRx with errRun := 3 }, lockedRx⟩ })
      (fun t =>
        t.rx.down.state == .search && t.rx.down.alignErrors == 1 && t.rx.down.relocks == 1 && t.tx.down.role == .substitute &&
          t.tx.up.role == .repeating && (t.notices.map fun n => (n.kind == .laneState, n.value)) == [(true, 0x12)]) = true := by
  decide +kernel

/-- R23: after 65 536 slots out of LOCKED, CONSOLE is absent at POD. -/
theorem test_station_table_timeout :
    shows
      (exec (.stationTableTimeout .down)
        { pod with
          rx := ⟨Rx.reset, lockedRx⟩,
          stations := pod.stations.set .console { present := true, status := 0x80, absentRun := 0, delay := none } })
      (fun t => !t.stations.console.present && t.notices.any fun n => n.kind == .stationAbsent && n.subject == .station .console) =
      true := by decide +kernel

/-- R3, R4: after frame 0 of count 0, CONSOLE sends frame 1 with its own origin and no fault. -/
theorem test_alignment_cell_sent :
    shows (exec (.alignmentCellSent .down) con)
      (fun t =>
        match t.tx.down.line with
        | some c =>
          match readAlign c with
          | some i => i.frame == 1 && i.origin == .console && !i.fault && i.count == 0
          | none => false
        | none => false) = true := by decide +kernel

/-- R30, R33: a cell with a wrong check is replaced and counted; one for a station beyond is repeated. -/
theorem test_payload_slot :
    let c := cellOf .control .headset (.to .console) [4]
    shows (exec (.payloadSlotReceived .up { c with check := c.check + 1 }) pod)
        (fun t => t.rx.up.cellErrors == 1 && t.tx.up.line == none) = true ∧
      shows (exec (.payloadSlotReceived .up c) pod) (fun t => t.tx.up.line == some c && t.rx.up.handed == []) = true := by
  decide +kernel

/-- R37: MOTION goes before CONTROL at HEADSET's up TX, with flow 2 and its next sequence number. -/
theorem test_motion_before_control :
    let x : Sample := { number := 7, time := 1, doze := false, unsettled := false, lapse := false, restart := true, axes := zeroAxes }
    shows
      (exec (.idleSlotArbitration .up)
        { hs with
          motion := { hs.motion with queue := [x] }, seqs := { hs.seqs with motion := 15 },
          tx := ⟨hs.tx.down, { hs.tx.up with fifo := [.resurvey] }⟩ })
      (fun t =>
        t.motion.queue == [] && t.seqs.motion == 0 && t.tx.up.fifo == [.resurvey] && t.motion.restart == 1 &&
          (t.tx.up.line.map fun c => (c.flow, c.seq)) == some (2, 15)) = true := by decide +kernel

/-- R59: a number other than the expected one counts one gap, and the expected number is the cell's plus one. -/
theorem test_sequence_gap :
    let c := mkCell .data .console (.to .headset) 0 11 false []
    shows (exec (.dataCellTaken .down c) (handing .down c { hs with dst := { hs.dst with pictureL := some ⟨.listening, some 9⟩ } }))
      (fun t => t.counters.pictureL.gaps == 1 && t.dst.pictureL == some ⟨.listening, some 12⟩) = true := by decide +kernel

/-- R34: blocks take a lane's cells in lane order, so a cell that stands behind another is not taken before it. -/
theorem test_lane_order :
    let c (q : Seq) := mkCell .data .console (.to .headset) 0 q false []
    let s := hs.modRx .down fun r => { r with handed := [c 1, c 2] }
    shows (exec (.dataCellTaken .down (c 2)) s) (fun t => decide (t = s)) = true ∧
      shows (exec (.dataCellTaken .down (c 1)) s)
        (fun t => t.rx.down.handed == [c 2] && t.dst.pictureL == some ⟨.listening, some 2⟩) = true := by decide +kernel

/-- R16: a REPEATING transmitter that followed a silent frame and loses signal goes on from that frame's number. -/
theorem test_silent_frames_are_followed :
    shows (exec (.signalAbsent .down) { pod with tx := ⟨{ openTx .repeating with frame := 15, offset := 130, count := 7 }, openTx .repeating⟩ })
      (fun t => t.tx.down.role == .substitute && t.tx.down.frame == 1 && t.tx.down.count == 8) = true := by decide +kernel

/-- R178: two domains shed at once are two changes, and each calls for an event report. -/
theorem test_each_change_calls :
    let s : State := { pod with power := { pod.power with domains := pod.power.domains.map fun d => { d with state := .shed } } }
    callsFor pod s = pod.power.domains.length ∧
      (State.callOnChange pod s).balance.outstanding.length = pod.power.domains.length := by decide +kernel

/-- R163: limit 12 000 mW, so the second sample in a row above 15 000 mW trips, one at 15 000 mW sets the run to 0. -/
theorem test_overload_trips :
    let s : State := { con with power := { con.power with converting := true, overRun := 1 } }
    shows (exec (.sampleEvent 1000 1001 0) s) (fun t => !t.power.switchClosed && t.power.tripWait == 256) = true ∧
      shows (exec (.sampleEvent 1000 1000 0) s) (fun t => t.power.switchClosed && t.power.overRun == 0) = true := by decide +kernel

/-- R121: the sensors domain switched off in DOZE leaves one lapse sample with the doze flag. -/
theorem test_lapse_sample :
    shows (exec (.domainWant 2 0) { hs with motion := { hs.motion with state := .doze, next := 9 } })
      (fun t => t.motion.state == .off && (t.motion.queue.map fun x => (x.number, x.lapse, x.doze)) == [(9, true, true)]) =
        true := by decide +kernel

/-- R178, R179: with two report lanes and a full down FIFO in which A alone waits, the report that supersedes A goes into the up
FIFO too, and the test that A's end brings builds one more, with which the net balance is 0. -/
theorem test_superseded_report_brings_a_test :
    let s : State :=
      { pod with
        tx := ⟨{ openTx .repeating with fifo := .power pod.report 0 :: List.replicate 7 .resurvey }, openTx .repeating⟩,
        balance :=
          { Balance.reset with
            b := 2, built := 1, outstanding := [{ serial := 0, waitDown := true, waitUp := false, inserted := false }] } }
    s.reportTest.balance.outstanding =
        [{ serial := 1, waitDown := false, waitUp := true, inserted := false },
         { serial := 2, waitDown := true, waitUp := true, inserted := false }] ∧
      s.reportTest.power.nextReport = 2 ∧ s.reportTest.tx.up.fifo.length = 2 := by decide +kernel

/-- R58: flow 6 on the down lane is misrouted, counted in flow 0's group. -/
theorem test_misrouted_flow :
    let c := mkCell .data .console (.to .headset) 6 0 true []
    shows (exec (.dataCellTaken .down c) (handing .down c hs))
      (fun t => t.counters.pictureL.misrouted == 1 && t.dst == hs.dst) = true := by decide +kernel

/-- R76: a probe met in HOLDING is answered with the hold mark and the full offer. -/
theorem test_probe_in_holding :
    let c := ctlCell .console 0 (.probe .left 21 160 480 480)
    shows (exec (.probeTaken .down c) (handing .down c { hs with dst := { hs.dst with pictureL := some ⟨.holding, none⟩ } }))
      (fun t => t.tx.up.fifo == [.reply .left 21 160 480 480 false false true]) = true := by decide +kernel

/-- Chapter 4, recovery: with last 12 and u 8 the reply for probe 11 is accepted and leaves u 1; one numbered 4 is stale. -/
theorem test_reply_window :
    let s := { con with paced := ⟨{ Paced.reset with ar := 48, unanswered := 8, lastProbe := 12, band := .scarce }, Paced.reset⟩ }
    let c (n : Num8) := ctlCell .headset 0 (.reply .left n 48 480 480 false false false)
    shows (exec (.replyTaken .up (c 11)) (handing .up (c 11) s))
        (fun t => t.paced.left.ar == 93 && t.paced.left.unanswered == 1) = true ∧
      shows (exec (.replyTaken .up (c 4)) (handing .up (c 4) s))
        (fun t => t.paced.left.ar == 48 && t.counters.pictureL.staleReplies == 1) = true := by decide +kernel

/-- Chapter 5, step 5: picture 68 with newest 70 queued is stale. -/
theorem test_stale_slice :
    let a := newSlice 70 0 .base 60 []
    shows
      (exec (.sliceOffered .left 68 2 0 60 (List.replicate 60 0))
        { con with
          paced := ⟨{ Paced.reset with state := .active, queue := [a], newest := some 70, ar := 480, band := .full }, Paced.reset⟩ })
      (fun t => t.paced.left.answer == some (.refused .stale) && t.counters.pictureL.staleRefusals == 1 && t.paced.left.queue == [a]) =
      true := by decide +kernel

/-- Chapter 3, R51: end-of-stream for a HELD record counts the slices it removes. -/
theorem test_end_of_stream_held :
    shows
      (exec (.endOfStream .left)
        { con with
          paced :=
            ⟨{ Paced.reset with state := .held, queue := [newSlice 1 0 .base 9 [], newSlice 1 1 .base 9 []], probeAt := some 0 },
             Paced.reset⟩ })
      (fun t => t.paced.left.state == .draining && t.paced.left.queue == [] && t.paced.left.discarded == 2) = true := by
  decide +kernel

/-- Chapter 5: REFINE2 of an index at BASE is orphaned; a BASE slice is released and a new picture's entry is made. -/
theorem test_release :
    let b (p : Num8) (k : Layer) : BufRec :=
      { picture := p, index := 0, layer := k, length := 1, expected := 1, received := 1, complete := true, data := [5] }
    let s (k : Layer) :=
      { hs with eyes := ⟨{ EyeDst.reset with buffer := [b 70 k], map := [(freshEntry 69), (freshEntry 68)] }, EyeDst.reset⟩ }
    shows (exec (.displayReadyRise .left) (s .base))
        (fun t => t.eyes.left.out.length == 1 && (t.eyes.left.map.map fun m => m.picture) == [70, 69]) = true ∧
      shows (exec (.displayReadyRise .left) (s .refine2))
        (fun t => t.eyes.left.out == [] && t.counters.pictureL.orphans == 1) = true := by decide +kernel

/-- R119, R125: a read takes the next number, the time of its edge and the restart flag; an edge during it is an overrun. -/
theorem test_read :
    let r : Reading := { time := 40, unsettled := true, doze := false }
    let s := { hs with motion := { hs.motion with reading := some r, next := 65535 } }
    shows (exec (.readCompletion zeroAxes) s)
        (fun t =>
          t.motion.next == 0 &&
            t.motion.queue ==
              [{ number := 65535, time := 40, doze := false, unsettled := true, lapse := false, restart := true, axes := zeroAxes }]) =
        true ∧
      shows (exec .dataReadyEdge s) (fun t => t.counters.motion.overruns == 1 && t.motion.reading == some r) = true := by
  decide +kernel

/-- R123: the not-worn count of 4096 puts the unit to sleep, and the wear link writes the display's wanted flag off; R121, R123: so
it does as the sensors domain, admitted (R159), wakes a unit that is not worn. -/
theorem test_not_worn :
    let waits : List Domain := hs.power.domains.map fun d => if d.number = 2 then { d with state := .waiting } else d
    let offers : View := { View.reset with state := .heard, report := { View.reset.report with offer := 5000, top := 8 } }
    shows (exec .notWornCountExpiry { hs with motion := { hs.motion with worn := false, notWorn := 4095 } })
      (fun t => t.motion.state == .doze && (t.power.domains.any fun d => d.number == 1 && d.wanted) == false && !t.domainOn 1) =
      true ∧
    shows
      (exec .powerRiBoundary
        { hs with
          motion := { hs.motion with state := .off, worn := false }, power := { hs.power with domains := waits },
          stations := hs.stations.set .console { present := true, status := 0x80, absentRun := 0, delay := none },
          views := hs.views.set .console offers })
      (fun t => t.domainOn 2 && t.motion.state == .doze && !t.domainOn 1 && t.dst.pictureL == some ⟨.holding, none⟩) = true := by
  decide +kernel

/-- R117: with h 10 and 110 slots since the insertion, the delay is 50. -/
theorem test_echo_back :
    let v : Survey := { Survey.reset with state := .waiting, token := 3, insertedAt := 100 }
    let c := cellOf .control .pod (.to .console) [2, 3, 0, 0, 0, 10]
    shows
      (exec (.echoBackTaken .up c) (handing .up c { con with surveys := con.surveys.set .pod v, localSlot := 210 }))
      (fun t => t.stations.pod.delay == some 50 && t.tx.down.fifo == [.delay .pod 3 50]) = true := by decide +kernel

/-- The example of R137: 16 blocks, e 46, block 48 arrives: three overflow slips, e 49. -/
theorem test_overflow_slips :
    let k : Sink := { Sink.reset with state := .playing, buffer := List.replicate 16 (.received []), expected := some 46 }
    let t := ({ hs with audio := { hs.audio with sink := k } }).takeBlock 48 []
    t.counters.audioOut.overflows = 3 ∧ t.audio.sink.expected = some 49 ∧
    t.audio.sink.buffer = List.replicate 13 (.received []) ++ [.idle, .idle, .received []] := by decide +kernel

/-- Chapter 7, step 12: a boundary with repeat done re-primes. -/
theorem test_reprime :
    let k : Sink := { Sink.reset with state := .playing, repeatDone := true, expected := some 125 }
    shows (exec (.frameClockEdge 0 0) { hs with audio := { hs.audio with sink := k } })
      (fun t =>
        t.audio.sink.state == .priming && t.audio.sink.expected == none && t.audio.out.isSome &&
          t.notices.any fun n => n.kind == .slip && n.value == 1) = true := by decide +kernel

/-- R138, R187: a boundary with the buffer empty is an underflow slip, value 0, and starts a pulse of 64 slots on the output that
carries SLIP_PULSE. -/
theorem test_underflow :
    let k : Sink := { Sink.reset with state := .playing, expected := some 125 }
    shows (exec (.frameClockEdge 0 0) { hs with cfg := { hs.cfg with outB := .slipPulse }, audio := { hs.audio with sink := k } })
      (fun t =>
        t.audio.sink.repeatDone && t.counters.audioOut.underflows == 1 && (t.notices.map fun n => (n.kind == .slip, n.value)) == [(true, 0)] &&
          t.pulses == { a := 0, b := 64 }) = true := by decide +kernel

/-- R141: 1000 at step 1 is 708 (1000 × 23198 / 32768 = 707.9…), ties go away from zero. -/
theorem test_scaling : scaled 1000 23198 = 708 ∧ scaled 1 16384 = 1 ∧ scaled (-1) 16384 = -1 := by decide

/-- R144: VOL+ at the audio station moves one step louder and is reported. -/
theorem test_button :
    shows (exec (.buttonPress .volUp) hs)
      (fun t => t.audio.volume == 5 && t.tx.up.fifo == [.button .volUp] && t.audio.volUp == ⟨true, 0⟩) = true := by decide +kernel

/-- Section 7.5, the worked press: the fourth pressed sample in a row at POD is a press, sent to HEADSET and to CONSOLE. -/
theorem test_worked_press :
    let line (n : Nat) : State := { pod with audio := { pod.audio with volUp := ⟨false, n⟩ } }
    shows (exec (.localRiBoundary true false false) (line 2)) (fun t => t.audio.volUp == ⟨false, 3⟩ && t.tx.up.fifo == []) = true ∧
    shows (exec (.localRiBoundary true false false) (line 3))
      (fun t =>
        t.audio.volUp == ⟨true, 0⟩ && t.tx.down.fifo == [.volume .headset false] && t.tx.up.fifo == [.button .volUp]) = true := by
  decide +kernel

/-- R149, R155: a code of 640 at gain 3840 is 9600 mV, below the cutoff of 9800: every domain above priority 0 is SHED. -/
theorem test_cutoff :
    shows (exec (.sampleEvent 640 0 0) { hs with power := { hs.power with converting := true } })
      (fun t =>
        t.power.rail == 9600 && t.power.droop && (t.power.domains.map fun d => d.state) == [.on, .shed, .shed, .shed, .shed]) = true := by
  decide +kernel

/-- R163: a trip opens the switch at level 7. -/
theorem test_trip :
    shows (exec .supplyTrip con)
      (fun t => !t.power.switchClosed && t.power.applied == 7 && t.power.tripWait == 256 && t.ownOffer == 0) = true := by decide +kernel

/-- R157: a HEARD entry of age 9 is SILENT at the next boundary; R177: the balance rises. -/
theorem test_power_boundary :
    shows (exec .powerRiBoundary { hs with views := hs.views.set .console { View.reset with state := .heard, age := 9 } })
      (fun t => t.views.console.state == .silent && t.views.console.age == 10) = true := by decide +kernel

/-- R185: three presses of one subject make one entry of count 3. -/
theorem test_button_notice :
    (((con.postButton 0).postButton 2).postButton 1).notices.map (fun n => n.value) = [0x301] := by decide +kernel

/-- R191: the 15 bytes of SUMMARY at CONSOLE. -/
theorem test_summary :
    shows (exec .summary con)
      (fun t => t.service.answers == [0x17, 0, 0, 3, 0, 0, 0, 3, 3, 0, 1, 0, 0, 0, 0]) = true := by decide +kernel

/-- R190, R192: a group above 6, a table above 4, an absent cursor, an unknown code, and one inside a RELAY. -/
theorem test_bad_requests :
    shows (exec (.countersTake 7) con) (fun t => t.service.answers == [0x11, 3] && t.service.parser == .waiting) = true ∧
    shows (exec (.tableRead 5 0) con) (fun t => t.service.answers == [0x12, 3]) = true ∧
    shows (exec .tableNext con) (fun t => t.service.answers == [0x13, 3]) = true ∧
    shows (exec (.unknownCode 0x42) con) (fun t => t.service.answers == [0x42, 3] && t.service.parser == .discard) = true ∧
    shows (exec (.relay 1 [0x42, 0x17]) con) (fun t => t.service.answers == [0x18, 3] && t.service.parser == .discard) = true := by
  decide +kernel

/-- R193: a relay to an absent station, and one accepted with tag 1. -/
theorem test_relay :
    shows (exec (.relay 1 [0x17]) con) (fun t => t.service.answers == [0x18, 4]) = true ∧
    shows
      (exec (.relay 1 [0x17])
        { con with stations := con.stations.set .pod { present := true, status := 0x80, absentRun := 0, delay := none } })
      (fun t => t.service.answers == [0x18, 5] && t.service.holder.tag == 1 && t.tx.down.fifo == [.relay .pod false 0 1 1 [0x17]]) =
      true := by decide +kernel

/-- R194: a relayed MIC_MUTE at HEADSET sets the mute, and its answer leaves in one part; a relayed TABLE_READ returns one
record where a local one returns up to four, and the cursor stands past it. -/
theorem test_relayed_request :
    let c := cellOf .relay .console (.to .headset) [0, 7, 1, 2, 0x16, 1]
    let d := cellOf .relay .console (.to .headset) [0, 8, 1, 3, 0x12, 1, 1]
    shows (exec (.relayRequestTaken .down c) (handing .down c hs))
      (fun t => t.audio.muted && t.tx.up.fifo == [.relay .console true 0 7 1 [0x16, 0]] && t.service.answers == []) = true ∧
    shows (exec (.relayRequestTaken .down d) (handing .down d hs))
      (fun t =>
        t.service.cursor == some (1, 2) &&
          t.tx.up.fifo.map (fun x => match x with | .relay _ _ _ _ n b => (n, b.take 5) | _ => (0, [])) == [(1, [0x12, 0, 1, 1, 1])]) =
      true := by
  decide +kernel

/-! ### The hypotheses of the statements are met -/

/-- A node in LINKING before roles settle, its receivers DARK. -/
def linking (t : Station) (far : Bool) : State :=
  { node t far with
    start := .linking, settledRoles := false, rx := ⟨Rx.reset, Rx.reset⟩,
    tx := ⟨openTx .provisional, openTx (if t = .console then .terminal else .provisional)⟩ }

theorem witness_StepRunsTheFrontCommand :
    ({ State.reset with pending := [.powerOn, .pin] } : State).pending = .powerOn :: [.pin] := by decide

theorem witness_ResetsReturnToTheResetState : con.live ∧ (linking .pod true).live ∧ State.reset.start = .reset := by decide

theorem witness_EndOfLoadingStartsLinking :
    let s (t : Station) : State := { State.reset with start := .loading, station := t }
    let m (marker version : Byte) (n : Nat) : List Byte := marker :: version :: List.replicate n 0
    let accepted (srec : Bool) (x : List Byte) : Prop :=
      srec = true ∧ x.length = 96 ∧ (x.getD 0 0).toNat = 0xA6 ∧ (x.getD 1 0).toNat = 1
    (s .console).start = .loading ∧ (s .console).station = .console ∧ (s .strap).start = .loading ∧
    (s .strap).station ≠ .console ∧
    (∀ d ∈ [0, 1, 2, 3, 4, 5], d < 6) ∧
    accepted true (m 0xA6 1 94) ∧ ¬accepted false (m 0xA6 1 94) ∧ ¬accepted true (m 0xA6 1 93) ∧
    ¬accepted true (m 0xA7 1 94) ∧ ¬accepted true (m 0xA6 2 94) ∧ ¬accepted true [] := by decide

theorem witness_AnEmptyStepIsOneSlot :
    let holder (w : Nat) : State :=
      { con with service := { con.service with holder := { Holder.reset with state := .outstanding, wait := w } } }
    let silent (n : Nat) : State := { hs with motion := { hs.motion with silence := n } }
    let lost : State := { con with rx := ⟨Rx.reset, { Rx.reset with outOfLock := 65535 }⟩ }
    (con.pending = [] ∧ con.live ∧ con.station = .console) ∧ ¬State.reset.live ∧
    (pod.pending = [] ∧ pod.live ∧ pod.station ≠ .console ∧ pod.rx.down.state = .locked ∧ pod.rx.down.count = some 0) ∧
    ((linking .pod true).live ∧ (linking .pod true).rx.down.state ≠ .locked) ∧
    (2 ≤ (holder 2).service.holder.wait ∧ (holder 1).service.holder.wait ≤ 1 ∧ (holder 1).service.holder.state = .outstanding ∧
      con.service.holder.state ≠ .outstanding) ∧
    (lost.live ∧ lost.rx.up.state ≠ .locked ∧ lost.rx.up.outOfLock = 65535 ∧ feeds lost.station .up .pod = true) ∧
    ((silent 319999).station = .headset ∧ (silent 319999).motion.state = .sampling ∧ (silent 319999).cfg.motionRate = 1 ∧
      ∀ l, ¬(((silent 319999).rx.get l).state ≠ .locked ∧ ((silent 319999).rx.get l).outOfLock = 65535)) ∧
    320000 ≤ (silent 320000).motion.silence ∧ con.motion.state ≠ .sampling := by
  refine ⟨by decide, by decide, by decide, by decide, by decide, by decide, ⟨by decide, by decide, by decide, ?_⟩,
    by decide, by decide⟩
  intro l
  cases l <;> decide +kernel

theorem witness_RolesSettleByTheFarNeighbour :
    let locked (up : Rx) : State := { linking .pod true with rx := ⟨lockedRx, up⟩ }
    let ready (s : State) (l : Lane) : Bool := decide ((s.rx.get l).state = .locked)
    let waits (s : State) : Bool := (s.station != .console && !ready s .down) || (s.farNeighbour && !ready s .up)
    (linking .console false).start = .linking ∧ (linking .console false).settledRoles = false ∧
    (linking .pod false).station ≠ .console ∧ (linking .pod false).farNeighbour = false ∧
    (locked Rx.reset).start = .linking ∧ (locked Rx.reset).settledRoles = false ∧ (locked Rx.reset).farNeighbour = true ∧
    ((locked Rx.reset).rx.get .down).state = .locked ∧ ((locked Rx.reset).rx.get .up).state ≠ .locked ∧
    (waits (linking .console false) = false ∧ waits (locked lockedRx) = false) ∧
    (waits (linking .console true) = true ∧ waits (linking .pod false) = true ∧ waits (locked Rx.reset) = true) := by
  decide +kernel

theorem witness_LinkingEndsInRunning :
    let s : State := { pod with start := .linking }
    let c : State :=
      { con with start := .linking, stations := con.stations.set .headset { present := true, status := 0x80, absentRun := 0, delay := none } }
    (s.start = .linking ∧ s.settledRoles = true ∧ s.station ≠ .console ∧ (∀ l, s.inUse l = true → (s.rx.get l).state = .locked)) ∧
    (c.start = .linking ∧ c.settledRoles = true ∧ c.station = .console ∧ (c.stations.get .headset).present = true ∧
      (c.stations.get .pod).present = false ∧ (∀ l, c.inUse l = true → (c.rx.get l).state = .locked)) := by
  refine ⟨⟨by decide, by decide, by decide, ?_⟩, by decide, by decide, by decide, by decide +kernel, by decide +kernel, ?_⟩ <;>
    (intro l; cases l <;> decide +kernel)

/-- HEADSET with its left record in a state, the display domain ON or SHED. -/
def facing (d : DstState) (on : Bool) : State :=
  { hs with
    dst := hs.dst.set .pictureL (some ⟨d, none⟩),
    power := { hs.power with domains := hs.power.domains.map fun x => if x.number = 1 ∧ on = false then { x with state := .shed } else x } }

theorem witness_RecordsFollowTheirDomains :
    let state (s : State) := (s.dst.get (Eye.flow .left)).map fun x => x.state
    let opened (k c : Bool) : State :=
      { hs with audio := { hs.audio with clock := c, source := { hs.audio.source with opened := k } } }
    let plays (x : SinkState) (d : Option DstRec) : State :=
      { hs with dst := hs.dst.set .audioOut d, audio := { hs.audio with sink := { hs.audio.sink with state := x } } }
    (hs.station = .headset ∧ con.station ≠ .headset) ∧
    (state (facing .listening false) = some .listening ∧ (facing .listening false).domainOn 1 = false) ∧
    (state (facing .holding true) = some .holding ∧ (facing .holding true).domainOn 1 = true) ∧
    (state (facing .closed true) ≠ some .listening ∧ state (facing .closed true) ≠ some .holding) ∧
    (hs.audioStation = hs.station ∧ hs.domainOn 3 = true ∧ (opened false true).audio.clock = true ∧
      (opened false true).audio.source.opened = false ∧ (opened true false).audio.source.opened = true) ∧
    ((plays .muted (some ⟨.listening, none⟩)).audio.sink.state = .muted ∧
      (plays .muted (some ⟨.listening, none⟩)).dst.get .audioOut = some ⟨.listening, none⟩ ∧
      (plays .muted (some ⟨.listening, none⟩)).domainOn 3 = true) ∧
    ((plays .playing none).audio.sink.state ≠ .muted ∧ (plays .playing none).dst.get .audioOut = none) := by decide +kernel

theorem witness_SignalMovesTheReceiver :
    let dark : State := { pod with rx := ⟨Rx.reset, lockedRx⟩ }
    let follows : State := { pod with tx := ⟨{ openTx .provisional with follows := true }, openTx .repeating⟩ }
    ((linking .pod false).live ∧ fitted (linking .pod false).station .up = true ∧ (linking .pod false).settledRoles = false ∧
      ((linking .pod false).rx.get .up).state = .dark) ∧
    (dark.live ∧ fitted dark.station .down = true ∧ dark.inUse .down = true ∧ (dark.rx.get .down).state = .dark) ∧
    (hs.live ∧ hs.settledRoles = true ∧ hs.farNeighbour = false ∧ hs.lateSeen = false) ∧
    ({ hs with lateSeen := true } : State).lateSeen = true ∧ (dark.rx.get .down).state ≠ .locked ∧
    (pod.live ∧ (pod.rx.get .down).state = .locked ∧ (pod.tx.get .down).role = .repeating ∧ pod.inUse .down = true) ∧
    (hs.rx.get .down).state = .locked ∧ (hs.tx.get .down).role ≠ .repeating ∧ (hs.tx.get .down).role ≠ .provisional ∧
    (follows.rx.get .down).state = .locked ∧ (follows.tx.get .down).role = .provisional ∧
    (follows.tx.get .down).follows = true ∧ hs.dst.get .pictureL = some ⟨.listening, none⟩ ∧
    ({ con with dst := ⟨none, none, some ⟨.listening, some 3⟩, none, none⟩ } : State).dst.get .motion =
      some ⟨.listening, some 3⟩ := by decide +kernel

/-- The alignment cell of a frame of an ACTIVE lane, with its fields. -/
def info (frame : BitVec 4) (count : Count32) (hop : Crc) : AlignInfo :=
  { frame := frame, origin := .console, lane := .active, fault := false, count := count, status := 0, hop := hop }

theorem witness_ThreeCorrectCellsLock :
    let at_ (n : Nat) : State :=
      { hs with rx := ⟨{ Rx.reset with state := .confirm, confirm := n, frame := 15, inEffect := some .active }, Rx.reset⟩ }
    let search : State := { hs with rx := ⟨{ Rx.reset with state := .search }, Rx.reset⟩ }
    let c := alignCell .console (info 0 7 0xFFFF)
    (search.live ∧ (search.rx.get .down).state = .search ∧ readAlign c = some (info 0 7 0xFFFF)) ∧
    ((at_ 1).live ∧ ((at_ 1).rx.get .down).state = .confirm ∧ ((at_ 1).rx.get .down).confirm = 1 ∧
      ((at_ 1).rx.get .down).correct (some c) = some (info 0 7 0xFFFF)) ∧
    (((at_ 2).rx.get .down).confirm = 2 ∧ ((at_ 2).rx.get .down).correct (some c) = some (info 0 7 0xFFFF)) ∧
    ((at_ 2).rx.get .down).correct none = none ∧ ((at_ 2).running ∧ (at_ 2).station ≠ .console) ∧
    (let linked : State := { at_ 2 with start := .linking }
     linked.live ∧ ¬linked.running ∧ (linked.rx.get .down).confirm = 2) := by decide +kernel

theorem witness_LockedCellsKeepOrLoseLock :
    let errs (n : Nat) : State := { pod with rx := ⟨{ lockedRx with errRun := n }, lockedRx⟩ }
    let bad : State := { pod with rx := ⟨{ lockedRx with history := List.replicate 11 true }, lockedRx⟩ }
    let end_ : State :=
      { pod with rx := ⟨{ lockedRx with frame := 15 }, lockedRx⟩, tx := ⟨openTx .substitute, openTx .repeating⟩ }
    ((errs 2).live ∧ ((errs 2).rx.get .down).state = .locked ∧ ((errs 2).rx.get .down).correct none = none ∧
      ((errs 2).rx.get .down).errRun < 3) ∧
    (3 ≤ ((errs 3).rx.get .down).errRun ∧ ((errs 3).rx.get .down).correct none = none ∧
      ((errs 3).tx.get .down).role = .repeating) ∧
    (pod.live ∧ (pod.rx.get .down).state = .locked ∧
      (pod.rx.get .down).correct (some (alignCell .console (info 1 0 0))) = some (info 1 0 0) ∧
      (pod.rx.get .down).payloadState ≠ some .deep ∧ (pod.rx.get .down).inEffect ≠ some .deep ∧
      ((((pod.rx.get .down).crc != 0) :: (pod.rx.get .down).history).take 16).count true < 12) ∧
    (pod.rx.get .down).correct (some (alignCell .console { info 1 0 0 with lane := .deep })) =
      some { info 1 0 0 with lane := .deep } ∧
    ((end_.rx.get .down).correct (some (alignCell .console (info 0 1 0))) = some (info 0 1 0) ∧
      (end_.tx.get .down).role = .substitute) ∧
    ((bad.rx.get .down).correct (some (alignCell .console (info 1 0 0))) = some (info 1 0 0) ∧
      12 ≤ ((((bad.rx.get .down).crc != 0) :: (bad.rx.get .down).history).take 16).count true) := by decide +kernel

theorem witness_LossOfLockHasItsConsequences :
    let errs (x : Tx) (settled : Bool) : State :=
      { pod with
        settledRoles := settled, rx := ⟨{ lockedRx with errRun := 3, frame := 15 }, lockedRx⟩, tx := ⟨x, openTx .repeating⟩,
        dst := ⟨none, none, some ⟨.listening, some 3⟩, some ⟨.listening, some 4⟩, none⟩ }
    let silent : Tx := { openTx .repeating with frame := 15, offset := 130 }
    (∀ x ∈ [openTx .repeating, silent, { openTx .provisional with follows := true }, openTx .substitute, openTx .origin],
      ∀ b ∈ [true, false],
        (errs x b).live ∧ ((errs x b).rx.get .down).state = .locked ∧ ((errs x b).rx.get .down).correct none = none ∧
          3 ≤ ((errs x b).rx.get .down).errRun ∧ (errs x b).inUse .down = b ∧
          ((errs x b).rx.get .down).expectedFrame = 0 ∧ (errs x b).dst.get .audioOut = some ⟨.listening, some 4⟩) ∧
    (let bad : State := { errs silent true with rx := ⟨{ lockedRx with history := List.replicate 11 true }, lockedRx⟩ }
     bad.live ∧ (bad.rx.get .down).correct (some (alignCell .console (info 1 0 0))) = some (info 1 0 0) ∧
       (bad.tx.get .down).role = .repeating ∧ (bad.tx.get .down).frame ≠ (info 1 0 0).frame ∧
       12 ≤ ((((bad.rx.get .down).crc != 0) :: (bad.rx.get .down).history).take 16).count true) := by decide +kernel

theorem witness_StatusBytesAndLongLossDecidePresence :
    let near (n : Nat) : State :=
      { con with stations := con.stations.set .pod { present := true, status := 0x80, absentRun := n, delay := none } }
    con.live ∧ feeds con.station .up .pod = true ∧ feeds con.station .up .console = false ∧
    ((0x80 : Byte).getLsbD 7 = true ∧ (con.stations.get .pod).present = false) ∧ (0x7F : Byte).getLsbD 7 = false ∧
    ((near 2).stations.get .pod).absentRun < 3 ∧
    (3 ≤ ((near 3).stations.get .pod).absentRun ∧ ((near 3).stations.get .pod).present = true) ∧
    ((linking .console true).live ∧ ((linking .console true).rx.get .up).state ≠ .locked) ∧
    (con.live ∧ (con.rx.get .up).state = .locked ∧
      (con.rx.get .up).correct (some (alignCell .pod { info 1 0 0 with status := 0x80 })) = some { info 1 0 0 with status := 0x80 } ∧
      stationOf (info 1 0 0).frame.toNat = .pod ∧ (con.rx.get .up).payloadState ≠ some .deep ∧
      ((((con.rx.get .up).crc != 0) :: (con.rx.get .up).history).take 16).count true < 12) ∧
    ((near 3).rx.up.correct (some (alignCell .pod (info 1 0 0))) = some (info 1 0 0) ∧ (info 1 0 0).status.getLsbD 7 = false) ∧
    (let bad : State := { con with rx := ⟨Rx.reset, { lockedRx with history := List.replicate 11 true }⟩ }
     (bad.rx.get .up).correct (some (alignCell .pod (info 1 0 0))) = some (info 1 0 0) ∧
       12 ≤ ((((bad.rx.get .up).crc != 0) :: (bad.rx.get .up).history).take 16).count true) ∧
    (con.rx.get .up).correct none = none ∧
    ({ Rx.reset with state := .confirm, confirm := 2 } : Rx).state = .confirm ∧
    (con.station = .console ∧ con.running ∧ con.tx.down.role.sends = true ∧ con.tx.down.fifo.length < 8) ∧
    ((near 3).station = .console ∧ ((near 3).stations.get .headset).present = false) ∧
    (let lost : State := { near 0 with rx := ⟨Rx.reset, Rx.reset⟩ }
     lost.live ∧ lost.station = .console ∧ (lost.rx.get .up).state ≠ .locked ∧ feeds lost.station .up .pod = true ∧
       (lost.stations.get .pod).present = true ∧ (lost.stations.get .strap).present = false) := by decide +kernel

theorem witness_PresenceMovesTheAudioStation :
    let named (s : State) (present : Bool) : State :=
      { s with
        cfg := { s.cfg with podAudio := true },
        stations := s.stations.set .pod { present := present, status := 0x80, absentRun := 3, delay := none } }
    let after (s : State) (b : Byte) : State := s.takeStatus (if s.station = .console then .up else .down) .pod b
    (∀ x ∈ [con, hs], feeds x.station (if x.station = .console then .up else .down) .pod = true ∧ x.live ∧ x.power.applied = x.appliedLevel ∧
      (after (named x false) 0x80).audioStation = .pod ∧ (named x false).audioStation = .headset ∧
      (after (named x true) 0).audioStation = .headset ∧ (named x true).audioStation = .pod ∧
      (named x false).power.applied = (named x false).appliedLevel ∧ (after x 0x80).audioStation = x.audioStation) ∧
    hs.station = .headset ∧ con.station = .console ∧
    (con.dst.set .audioIn (some ⟨.listening, some 3⟩)).get .audioIn = some ⟨.listening, some 3⟩ := by decide +kernel

/-- A station that judges POD the audio station, its units as their domains have them, its receivers out of LOCKED. -/
def podAudible (x : State) : State :=
  { x with
    cfg := { x.cfg with podAudio := true }, rx := ⟨Rx.reset, Rx.reset⟩, dst := x.dst.set .audioOut none,
    stations := x.stations.set .pod { present := true, status := 0x80, absentRun := 0, delay := none } }.follow

theorem witness_TimeoutMovesTheAudioStation :
    (∀ p ∈ [(Lane.up, con), (.down, hs), (.down, strap)],
      (podAudible p.2).live ∧ ((podAudible p.2).rx.get p.1).state ≠ .locked ∧ feeds (podAudible p.2).station p.1 .pod = true ∧
        ((podAudible p.2).stations.get .pod).present = true ∧ (podAudible p.2).audioStation = .pod ∧
        (podAudible p.2).follow = podAudible p.2 ∧ (podAudible p.2).station = p.2.station) ∧
    (podAudible con).ShedLevelHolds ∧ (podAudible hs).ShedLevelHolds ∧ (podAudible strap).ShedLevelHolds := by
  refine ⟨by decide +kernel, ?_, ?_, ?_⟩ <;>
    exact ⟨by decide +kernel, by decide +kernel, fun x => by cases x <;> decide +kernel, by decide +kernel, by decide +kernel,
      by decide +kernel, fun h => absurd (by decide +kernel) h⟩

theorem witness_LaneQuietDecidesAtFrame15 :
    let quiet : List Observed := List.replicate 16 { need := false, hold := false, reports := false }
    let held : List Observed := { need := false, hold := true, reports := false } :: quiet.tail
    let needy : List Observed := { need := true, hold := false, reports := false } :: quiet.tail
    quiet.length = 16 ∧ held.length = 16 ∧ needy.length = 16 ∧ (∃ o ∈ needy, o.need = true) ∧ (∀ o ∈ quiet, o.need = false) ∧
    (∀ o ∈ held, o.need = false) ∧ (∃ o ∈ held, o.hold = true ∨ o.reports = true) ∧
    (∀ o ∈ quiet, o.need = false ∧ o.hold = false ∧ o.reports = false) ∧
    (Quiet.start.lane ≠ .deep ∧ Quiet.start.lane = .active) ∧
    ({ Quiet.start with lane := .light, quietCount := 3 } : Quiet).quietCount = 3 ∧
    ({ Quiet.start with lane := .waking, wakeBegins := true } : Quiet).wakeBegins = true := by decide +kernel

theorem witness_OwnFramesCarryTheirAlignmentCell :
    let sub : State := { pod with tx := ⟨openTx .substitute, openTx .repeating⟩ }
    con.live ∧ (con.tx.get .down).role = .origin ∧ ((linking .pod true).tx.get .up).role = .provisional ∧
    (sub.live ∧ (sub.tx.get .down).role = .substitute ∧ (sub.tx.get .down).carry = none) ∧
    (stationOf ((con.tx.get .down).frame + 1).toNat ≠ con.station ∧ stationOf ((sub.tx.get .down).frame + 1).toNat = sub.station ∧
      stationOf ((15 : BitVec 4) + 1).toNat = con.station) := by decide +kernel

theorem witness_RepeatingCopiesTheAlignmentCell :
    pod.live ∧ (pod.tx.get .up).role = .repeating ∧ (pod.rx.get .up).info = some (info 0 0 0) ∧
    (pod.rx.get .up).infoOk = true ∧ stationOf (info 0 0 0).frame.toNat ≠ pod.station ∧
    stationOf (info 1 0 0).frame.toNat = pod.station ∧
    ({ lockedRx with infoOk := false } : Rx).infoOk = false ∧
    (let owing : State := { pod with tx := ⟨{ openTx .substitute with carry := some (info 5 0 0) }, openTx .repeating⟩ }
     owing.live ∧ (owing.tx.get .down).role = .substitute ∧ (owing.tx.get .down).carry = some (info 5 0 0)) := by decide +kernel

theorem witness_PayloadSlotIsDecided :
    let c (d : Dest) : Cell := cellOf .power .headset d [1]
    let early : State := { linking .pod true with rx := ⟨lockedRx, Rx.reset⟩ }
    (early.live ∧ (early.rx.get .down).state = .locked ∧ (early.rx.get .down).payloadState ≠ some .deep ∧
      early.settledRoles = false ∧ early.station ≠ .console) ∧
    (((handing .up (c .broadcast) pod).rx.get .up).handed.head? ≠ some (c (.to .pod)) ∧
      (pod.rx.get .up).handed.head? ≠ some (c .broadcast)) ∧
    (pod.live ∧ (pod.rx.get .up).state = .locked ∧ pod.inUse .up = true ∧ (pod.rx.get .up).payloadState ≠ some .deep ∧
      (pod.tx.get .up).role = .repeating) ∧
    (∀ d ∈ [Dest.to .pod, .to .console, .broadcast, .invalid 0], (c d).payload.length = 32 ∧ checkOk (c d) = true) ∧
    (checkOk (cellOf .control .console (.to .pod) [8]) = true ∧ byteAt (cellOf .control .console (.to .pod) [8]).payload 0 = 8) ∧
    (checkOk { c .broadcast with check := 0 } = false ∧ (idleCell .headset).payload.length = 32) ∧
    (ctlCell .headset 0 (.probe .left 1 2 3 16)).kind = .probe ∧
    (hs.rx.get .down).state = .locked ∧ hs.inUse .down = true ∧ (hs.tx.get .down).role ≠ .repeating := by decide +kernel

theorem witness_ClosedSlotLeavesIdle :
    let owed : State := { con with tx := ⟨{ openTx .origin with gapOwed := true }, openTx .terminal⟩ }
    let closed : State := { con with tx := ⟨{ openTx .origin with sentPrev := some .light }, openTx .terminal⟩ }
    ((con.tx.get .down).role.sends = true ∧ con.payloadSilent .down = false ∧ con.winner .down = .none) ∧
    ((owed.tx.get .down).gapOwed = true ∧ owed.payloadSilent .down = false) ∧
    (closed.frameOpen .down = false ∧ closed.payloadSilent .down = false) ∧
    ((linking .pod true).running → False) ∧ ((linking .pod true).tx.get .up).role.sends = true ∧
    (linking .pod true).payloadSilent .up = false ∧ con.frameOpen .down = true ∧ pod.frameOpen .up = true := by decide +kernel

theorem witness_FirstReadyClassTakesTheSlot :
    let x : Sample := { number := 7, time := 1, doze := false, unsettled := false, lapse := false, restart := true, axes := zeroAxes }
    let b : Block := { number := 1, dst := .console, frames := [] }
    let m : State := { hs with motion := { hs.motion with queue := [x] } }
    let a : State := { hs with audio := { hs.audio with source := { hs.audio.source with queue := [b] } } }
    let c : State := { con with tx := ⟨{ openTx .origin with fifo := [.echo .pod 1] }, openTx .terminal⟩,
                                surveys := con.surveys.set .pod { Survey.reset with state := .sending, token := 1 } }
    ((hs.tx.get .up).role.sends = true ∧ hs.payloadSilent .up = false ∧ hs.running ∧ hs.frameOpen .up = true ∧
      (hs.tx.get .up).gapOwed = false) ∧
    (m.station = .headset ∧ m.motion.queue = [x]) ∧
    (Lane.up = sourceLane a.station ∧ a.audio.source.queue = [b] ∧ a.motion.queue = []) ∧
    ((c.tx.get .down).role.sends = true ∧ c.payloadSilent .down = false ∧ c.running ∧ c.frameOpen .down = true ∧
      (c.tx.get .down).gapOwed = false ∧ c.audio.source.queue = [] ∧ (c.tx.get .down).fifo = [.echo .pod 1] ∧
      (c.surveys.get .pod).state = .sending ∧ (c.surveys.get .pod).token = 1) := by decide +kernel

/-- CONSOLE with the left eye's queue and credit given. -/
def sending (q : List SliceRec) (st : PacedState) : State :=
  { con with
    paced := ⟨{ Paced.reset with state := st, queue := q, credit := 16, ar := 160, newest := some 1, lastEntered := some 1 }, Paced.reset⟩ }

/-- An unstarted slice of one cell, and of two. -/
def slice1 : SliceRec := newSlice 1 0 .base 9 (List.replicate 9 0)
def slice2 : SliceRec := newSlice 1 1 .refine1 60 (List.replicate 60 0)

theorem witness_PictureCellTakesTheSlot :
    let ok (s : State) : Bool :=
      decide (s.station = .console) && decide s.running && s.tx.down.role.sends && !s.payloadSilent .down &&
        s.frameOpen .down && !s.tx.down.gapOwed && s.motion.queue.isEmpty && s.audio.source.queue.isEmpty &&
        s.tx.down.fifo.isEmpty && s.eligible .left && decide (s.tx.down.turn = .left)
    ok (sending [slice2] .active) = true ∧ ok (sending [slice1] .active) = true ∧ ok (sending [] .draining) = true ∧
    (slice2.sent + 1 < slice2.total) ∧ (slice1.total ≤ slice1.sent + 1) ∧ (sending [] .draining).paced.left.queue = [] ∧
    ((sending [] .draining).paced.get .left).unanswered < ((sending [] .draining).params .left).patience := by decide +kernel

theorem witness_InsertionChecksTheProbe :
    let at_ (since : Nat) (q : List SliceRec) (w : Bool) : State :=
      { sending q .active with
        paced := ⟨{ (sending q .active).paced.left with cellsSince := since, probeAt := some 0, probeWaiting := w }, Paced.reset⟩ }
    let due (s : State) : Bool := decide ((s.params .left).spacing ≤ min (s.paced.left.cellsSince + 1) 255)
    let leaves (s : State) : Option PacedState :=
      match exec (.idleSlotArbitration .down) s with
      | .next t => some t.paced.left.state
      | _ => none
    (due (at_ 254 [slice2] false) = true ∧ leaves (at_ 254 [slice2] false) = some .active ∧
      (at_ 254 [slice2] false).paced.left.probeWaiting = false) ∧
    (due (at_ 0 [slice2] false) = false ∧ (at_ 0 [slice2] false).paced.left.probeAt = some 0 ∧
      ¬((at_ 0 [slice2] false).params .left).interval ≤ ((at_ 0 [slice2] false).tx.down.count - 0).toNat) ∧
    (at_ 254 [slice2] true).paced.left.probeWaiting = true ∧ leaves (at_ 254 [slice1] false) = some .idle := by decide +kernel

theorem witness_DataCellsMeetThePlanAndTheSequence :
    let c (f : BitVec 3) : Cell := mkCell .data .console (.to .headset) f 3 true []
    let s : State := { hs with dst := { hs.dst with pictureL := some ⟨.listening, some 2⟩, pictureR := some ⟨.holding, none⟩ } }
    (∀ f ∈ [0, 1, 2, 5], ((handing .down (c f) s).rx.get .down).handed.head? = some (c f)) ∧
    (s.live ∧ (c 0).kind = .data ∧ (c 0).dst = .to s.station ∧ flowOf (c 5).flow = none ∧ flowOf (c 0).flow = some .pictureL) ∧
    (s.planDest .pictureL = s.station ∧ (c 0).src = s.planSource .pictureL ∧
      s.dst.get .pictureL = some ⟨.listening, some 2⟩) ∧
    (flowOf (c 2).flow = some .motion ∧ s.planDest .motion ≠ s.station) ∧
    (flowOf (c 1).flow = some .pictureR ∧ s.dst.get .pictureR = some ⟨.holding, none⟩) := by decide +kernel

theorem witness_SliceCellsRebuildTheSlice :
    let r (n : Nat) : SliceRec := newSlice 70 5 .base n (List.replicate n 1)
    let s : State := { hs with eyes := ⟨{ EyeDst.reset with lastTaken := some 70 }, EyeDst.reset⟩ }
    (∀ n ∈ [1, 28, 29, 60, 4096],
      1 ≤ (r n).length ∧ (r n).length ≤ 4096 ∧ (r n).data.length = (r n).length ∧ (r n).total = sliceCells (r n).length ∧
        reserved (s.eyes.get .left).buffer + (r n).total ≤ 1024) ∧
    s.station = .headset ∧ s.live ∧ s.rx.down.handed = [] ∧ s.dst.get (Eye.flow .left) = some ⟨.listening, none⟩ ∧
    s.pins.displayReady.get .left = false ∧ (s.eyes.get .left).reasm ≠ .filling ∧
    (∀ b ∈ (s.eyes.get .left).buffer, b.complete = true) ∧ (s.eyes.get .left).buffer.length ≤ 63 ∧
    ((s.eyes.get .left).lastTaken = some 70 ∧ newer 70 (70 - 1) = true) := by decide +kernel

/-- A picture cell of the left eye, and the head of a slice's first cell: picture, index and layer, length. -/
def picture (start : Bool) (bytes : List Byte) : Cell := mkCell .data .console (.to .headset) 0 3 start bytes
def head (p k : Byte) (len : Nat) : List Byte := [p, k, BitVec.ofNat 8 (len / 256), BitVec.ofNat 8 len]

/-- A slice of three cells with its first one received. -/
def partSlice : BufRec :=
  { picture := 70, index := 0, layer := .base, length := 90, expected := 3, received := 1, complete := false, data := [] }

/-- HEADSET in a state of reassembly that is handed a cell, a number expected or none. -/
def taking (r : Reasm) (x : Cell) (n : Option Seq) : State :=
  handing .down x
    { hs with
      eyes := ⟨{ EyeDst.reset with reasm := r, buffer := [partSlice], lastTaken := some 70 }, EyeDst.reset⟩,
      dst := hs.dst.set .pictureL (some ⟨.listening, n⟩) }

theorem witness_SlicesAreBrokenAndSkipped :
    (∀ r ∈ [Reasm.waitStart, .filling, .skipping], ∀ n ∈ [none, some 3, some (2 : Seq)],
      ∀ x ∈ [picture true (head 70 0 60), picture false []],
        (taking r x n).live ∧ (taking r x n).station = .headset ∧ ((taking r x n).rx.get .down).handed.head? = some x ∧
          (taking r x n).dst.get (Eye.flow .left) = some ⟨.listening, n⟩ ∧ (taking r x n).pins.displayReady.get .left = false ∧
          ((taking r x n).eyes.get .left).reasm = r ∧ (taking r x n).rx.down.state = .locked) ∧
    (∀ x ∈ [picture true (head 70 0 60), picture false []],
      x.kind = .data ∧ x.dst = .to .headset ∧ x.src = .console ∧ flowOf x.flow = some (Eye.flow .left) ∧ x.seq = 3) ∧
    (let losing : State :=
       { taking .filling (picture false []) (some 3) with
         rx := ⟨{ lockedRx with errRun := 3, history := List.replicate 11 true }, Rx.reset⟩ }
     losing.live ∧ losing.rx.down.state = .locked ∧ losing.dst.get (Eye.flow .left) = some ⟨.listening, some 3⟩ ∧
       (losing.eyes.get .left).reasm = .filling ∧ losing.rx.down.correct none = none ∧ 3 ≤ losing.rx.down.errRun ∧
       losing.rx.down.correct (some (alignCell .console (info 1 0 0))) = some (info 1 0 0) ∧
       hopLost (losing.rx.down.hopHistory (info 1 0 0).hop) = true) := by
  decide +kernel

theorem witness_FirstCellsAreJudged :
    ((picture false []).start = false ∧ (picture true (head 0 0 0)).start = true ∧ sliceLength (picture true (head 0 0 0)) = 0) ∧
    (∀ x ∈ [picture true (head 70 0 4097), picture true (head 70 3 60)], sliceLength x ≠ 0 ∧ readHead x = none) ∧
    ((readHead (picture true (head 69 0 60))).map (·.picture) = some 69 ∧ newer 69 (70 - 1) = false ∧ newer 70 (70 - 1) = true) ∧
    (∀ n ∈ [9, 28, 29, 4096], (readHead (picture true (head 70 0 n))).map (·.length) = some n) ∧
    (sliceCells 28 = 1 ∧ sliceCells 29 = 2) ∧
    (reserved [partSlice] + sliceCells 60 ≤ 1024 ∧ [partSlice].length ≤ 63 ∧ ¬(List.replicate 64 partSlice).length ≤ 63) := by
  decide +kernel

theorem witness_SliceOfferIsAnswered :
    let full : State := { sending [newSlice 1 0 .base 4096 []] .active with paced := ⟨{ (sending [] .active).paced.left with
      queue := [{ newSlice 1 0 .base 4096 [] with total := 1024 }] }, Paced.reset⟩ }
    let low : State := { sending [slice1] .active with paced := ⟨{ (sending [slice1] .active).paced.left with band := .low }, Paced.reset⟩ }
    let r (k : Layer) (total sent : Nat) : SliceRec :=
      { picture := 1, index := 0, layer := k, length := 0, total := total, sent := sent, data := [] }
    let old := [r .base 500 0, r .base 400 0, r .base 110 4, r .refine1 8 0, r .refine2 6 0]
    let gives (x : SliceRec) := x.sent == 0 && x.layer != .base
    let fits (q : List SliceRec) (c : Nat) : Bool := decide (cellsLeft q + c ≤ 1024) && decide (q.length ≤ 63)
    (fits old 10 = false ∧ fits (old.filter fun x => !gives x) 10 = true ∧ fits (old.filter fun x => !gives x) 50 = false ∧
      (sending old .active).running ∧ (sending old .active).paced.left.state ≠ .idle ∧ (sending old .active).paced.left.band = .low ∧
      layerOf (0 : BitVec 2).toNat = some .base ∧ layerOf (1 : BitVec 2).toNat = some .refine1 ∧
      1 + (316 - 28 + 31) / 32 = 10 ∧ (sending old .active).paced.left.newest = some 1) ∧
    con.station = .console ∧ con.running ∧ ¬(linking .console true).running ∧ (sending [] .draining).paced.left.state = .draining ∧
    layerOf (2 : BitVec 2).toNat = some .refine2 ∧ low.paced.left.state ≠ .idle ∧ low.paced.left.band = .low ∧
    (con.paced.left.state = .idle ∧ con.paced.left.dataAt = none ∧ con.paced.left.unanswered < (con.params .left).patience ∧
      (con.params .left).idleReset ≤ ((0 : Count32) - (0 - BitVec.ofNat 32 (con.params .left).idleReset)).toNat ∧
      ¬(con.params .left).idleReset ≤ ((0 : Count32) - (1 - BitVec.ofNat 32 (con.params .left).idleReset)).toNat) ∧
    newer ((1 : Num8) - 1) 255 = true ∧ cellsLeft low.paced.left.queue + 1 ≤ 1024 ∧
    ¬(cellsLeft full.paced.left.queue + 1 ≤ 1024) ∧ newer (3 : Num8) 1 = true := by decide +kernel

theorem witness_EndOfStreamDrains :
    con.station = .console ∧ con.running ∧ (sending [slice1] .held).paced.left.state = .held ∧ con.paced.left.state ≠ .held ∧
    ¬(linking .console true).running := by decide +kernel

theorem witness_RefinementsFollowTheLayerBelow :
    let b (k : Layer) : BufRec :=
      { picture := 70, index := 63, layer := k, length := 1, expected := 1, received := 1, complete := true, data := [5] }
    let out := (releaseRun [] [b .base, b .refine1, b .refine2]).out
    (out[1]?.map fun x => x.layer) = some .refine1 ∧ (out[2]?.map fun x => x.layer) = some .refine2 := by decide +kernel

theorem witness_DisplayLinesReleaseAndPurge :
    let b : BufRec :=
      { picture := 70, index := 0, layer := .base, length := 60, expected := 2, received := 1, complete := false, data := [] }
    let s : State := { hs with eyes := ⟨{ EyeDst.reset with buffer := [b], reasm := .filling }, EyeDst.reset⟩ }
    hs.dst.get (Eye.flow .left) = some ⟨.listening, none⟩ ∧ con.dst.get (Eye.flow .left) = none ∧ s.running ∧
    (s.eyes.get .left).buffer = [b] ∧ b.complete = false ∧ newer 71 b.picture = true ∧ (s.eyes.get .left).reasm = .filling ∧
    newer 70 b.picture = false ∧ s.pins.displayReady.get .left = false ∧
    ({ s.pins with displayReady := ⟨true, false⟩ } : Pins).displayReady.get .left = true := by
  decide +kernel

theorem witness_ReleasesGoThroughTheLayerMap :
    let b (p : Num8) (k : Layer) : BufRec :=
      { picture := p, index := 0, layer := k, length := 1, expected := 1, received := 1, complete := true, data := [5] }
    let m (p : Num8) : LayerEntry := { picture := p, levels := List.replicate 64 .none }
    let s : State := { hs with eyes := ⟨{ EyeDst.reset with buffer := [b 70 .base], map := [m 71, m 70] }, EyeDst.reset⟩ }
    (hs.dst.get (Eye.flow .left) = some ⟨.listening, none⟩ ∧ (s.eyes.get .left).buffer.length = 1 ∧ s.running ∧
      (releaseRun (s.eyes.get .left).map (s.eyes.get .left).buffer).out.length = 1) ∧
    (facing .holding true).dst.get (Eye.flow .left) = some ⟨.holding, none⟩ ∧
    ((b 70 .base).complete = true ∧ (∃ t ∈ [m 71, m 70], t.picture = 70) ∧ (∀ t ∈ [m 71, m 70], t.picture ≠ 69) ∧
      newer 69 71 = false ∧ newer 69 70 = false ∧ newer 72 71 = true ∧ newer (72 : Num8) 73 = false ∧ newer (72 : Num8) 70 = true) ∧
    (levelAt [m 71, m 70] 70 0 = .none ∧ (b 70 .base).layer = .base ∧ (b 70 .refine1).layer = .refine1 ∧
      levelAt (setLevel [m 71, m 70] 70 0 .base) 70 0 = .base) := by decide +kernel

theorem witness_ProbeIsAnsweredByTheFill :
    let c := ctlCell .console 0 (.probe .left 1 160 480 480)
    let s (d : DstState) : State := handing .down c { hs with dst := { hs.dst with pictureL := some ⟨d, none⟩ } }
    (∀ d ∈ [DstState.closed, .listening, .holding],
      (s d).live ∧ (s d).station = .headset ∧ (s d).dst.get (Eye.flow .left) = some ⟨d, none⟩ ∧
        ((handing .down c (s d)).rx.get .down).handed.head? = some c) ∧
    c.kind = .probe ∧ c.dst = .to .headset ∧ c.src = .console ∧ eyeOf c.flow = some .left ∧ (readRate c).isSome = true := by
  decide +kernel

theorem witness_RateMovesByMarksAndTheBandFollows :
    let p : FlowParams := {}
    let s : State := { con with paced := ⟨{ Paced.reset with ar := 240, band := .full }, Paced.reset⟩ }
    p.floor ≤ p.peak ∧ 59 < p.scarce ∧ p.scarce ≤ 60 ∧ p.ok ≤ 240 ∧ 239 < p.ok ∧ p.ease ≤ 90 ∧ 89 < p.ease ∧ 179 < p.low ∧ p.low ≤ 180 ∧
    (p.start < p.ok ∧ p.scarce ≤ p.start) ∧ ({ p with start := 240 } : FlowParams).start ≥ p.ok ∧
    ({ p with start := 59 } : FlowParams).start < p.scarce ∧
    bandAfter (s.params .left) (s.paced.get .left).band 179 ≠ (s.paced.get .left).band ∧ s.live := by decide +kernel

theorem witness_ReplyInTheWindowIsAccepted :
    let c (h : Bool) (n : Num8) : Cell := ctlCell .headset 0 (.reply .left n 48 480 480 false false h)
    let s (st : PacedState) : State :=
      { con with paced := ⟨{ Paced.reset with state := st, unanswered := 3, lastProbe := 12, ar := 48 }, Paced.reset⟩ }
    (∀ st ∈ [PacedState.idle, .active, .held, .draining],
      (s st).live ∧ (s st).station = .console ∧ (s st).paced.left.state = st ∧
        ((handing .up (c true 12) (s st)).rx.get .up).handed.head? = some (c true 12)) ∧
    ((c true 12).kind = .reply ∧ (c true 12).dst = .to .console ∧ (c true 12).src = .headset ∧ eyeOf (c true 12).flow = some .left) ∧
    (readRate (c true 12)).isSome = true ∧ (readRate (c false 9)).isSome = true ∧
    ((12 : Num8) - 10).toNat < 3 ∧ 3 ≤ ((12 : Num8) - 9).toNat ∧
    ((12 : Num8) - 10).toNat < ((s .active).params .left).patience ∧
    (let behind (st : PacedState) : State :=
       { con with paced := ⟨{ Paced.reset with state := st, unanswered := 200, lastProbe := 12, ar := 100 }, Paced.reset⟩ }
     let far := c false 100
     (∀ st ∈ [PacedState.active, .held],
       (behind st).live ∧ (behind st).station = .console ∧ (behind st).paced.left.state = st ∧
         ((handing .up far (behind st)).rx.get .up).handed.head? = some far) ∧
       readRate far = some { number := 100, ar := 48, offered := 480, peak := 480, congested := false, noRise := false, hold := false } ∧
       ((12 : Num8) - 100).toNat < 200 ∧ ((behind .active).params .left).patience ≤ ((12 : Num8) - 100).toNat) := by
  decide +kernel

theorem witness_SilentFrameAddsCredit :
    let s : State := { con with tx := ⟨{ openTx .origin with sentThis := some .deep, frame := 14 }, openTx .terminal⟩ }
    let probed (cells : Nat) (at_ : Option Count32) (w : Bool) : State :=
      { con with
        tx := ⟨{ openTx .origin with frame := 15, fifo := [.probe .left 1 160 480 480] }, openTx .terminal⟩,
        paced := ⟨{ con.paced.left with state := .active, probeWaiting := w, cellsSince := cells, probeAt := at_ }, con.paced.right⟩ }
    let p (c : Nat) (n : Option Count32) (w : Bool) : Paced := (probed c n w).paced.left
    let fp := con.params .left
    let due (x : Paced) : Prop := fp.spacing ≤ x.cellsSince ∨ ∀ n, x.probeAt = some n → fp.interval ≤ ((0 : Count32) - n).toNat
    (s.station = .console ∧ s.tx.down.role = .origin ∧ s.tx.down.sentThis = some .deep ∧ s.tx.down.frame ≠ 15) ∧
    (con.running ∧ con.station = .console ∧ con.tx.down.role = .origin ∧ con.tx.down.begun = true ∧
      con.tx.down.sentThis ≠ some .deep ∧ con.tx.down.frame ≠ 15) ∧
    (con.paced.left.state = .idle ∧ (p 0 none true).probeWaiting = true ∧ (p 0 none false).state ≠ .idle) ∧
    (due (p 0 none false) ∧ due (p 40 (some 0) false) ∧ ¬due (p 0 (some 0) false)) ∧
    ((probed 0 none false).running ∧ (probed 0 none false).station = .console ∧ (probed 0 none false).tx.down.role = .origin ∧
      (probed 0 none false).tx.down.begun = true ∧ (probed 0 none false).tx.down.frame = 15) ∧
    ((probed 40 (some 0) true).frameOpen .down = true ∧ (probed 40 (some 0) true).payloadSilent .down = false ∧
      (probed 40 (some 0) true).tx.down.gapOwed = false ∧ (probed 40 (some 0) true).audio.source.queue = [] ∧
      (probed 40 (some 0) true).tx.down.fifo = .probe .left 1 160 480 480 :: [] ∧ fp.spacing ≤ (p 40 (some 0) true).cellsSince) ∧
    ((p 3 (some 0) true).cellsSince < fp.spacing ∧ 1 ≤ fp.interval) := by
  refine ⟨by decide, by decide, by decide, ⟨.inr ?_, .inl (by decide), ?_⟩, by decide, by decide, by decide⟩
  · intro n h
    have h : (none : Option Count32) = some n := h
    cases h
  · rintro (h | h)
    · exact absurd h (by decide)
    · exact absurd (h 0 rfl) (by decide)

theorem witness_SurveyCellsSetTheDelay :
    let ctl (src dst : Station) (bs : List Byte) : Cell := cellOf .control src (.to dst) bs
    let w : State := { pod with surveyed := { pod.surveyed with awaited := some 9, wait := 8 } }
    let v : State :=
      { con with surveys := con.surveys.set .pod { Survey.reset with state := .waiting, token := 9, insertedAt := 100, failed := 2 },
                 localSlot := 110, stations := con.stations.set .pod { present := true, status := 0x80, absentRun := 0, delay := none } }
    (∀ b ∈ [[1, 9], [3, 9, 0, 0, 0, 5]],
      ((handing .down (ctl .console .pod b) w).rx.get .down).handed.head? = some (ctl .console .pod b)) ∧
    (∀ b ∈ [[2, 9, 0, 0, 0, 10], [4]],
      ((handing .up (ctl .pod .console b) v).rx.get .up).handed.head? = some (ctl .pod .console b)) ∧
    (pod.running ∧ pod.station ≠ .console ∧ (ctl .console .pod [1, 9]).dst = .to pod.station ∧
      byteAt (ctl .console .pod [1, 9]).payload 0 = 1 ∧ (ctl .console .pod [1, 9]).kind = .control) ∧
    (byteAt (ctl .console .pod [3, 9, 0, 0, 0, 5]).payload 0 = 3 ∧ w.surveyed.awaited = some 9 ∧
      (ctl .console .pod [3, 9, 0, 0, 0, 5]).payload.getD 1 0 = 9 ∧ w.following = true ∧ pod.surveyed.awaited ≠ some 9) ∧
    (v.running ∧ v.station = .console ∧ byteAt (ctl .pod .console [2, 9, 0, 0, 0, 10]).payload 0 = 2 ∧
      (ctl .pod .console [2, 9]).src ≠ .console ∧ (v.surveys.get .pod).state = .waiting ∧ (v.surveys.get .pod).token = 9 ∧
      10 ≤ v.localSlot - (v.surveys.get .pod).insertedAt ∧ v.localSlot - (v.surveys.get .pod).insertedAt < 11) ∧
    (byteAt (ctl .pod .console [4]).payload 0 = 4 ∧ (v.stations.get .pod).present = true) := by decide +kernel

theorem witness_SurveyAttemptsFailThrice :
    let s (st : SurveyState) (n : Nat) : State :=
      { con with surveys := con.surveys.set .pod { Survey.reset with state := st, failed := n, discarded := true, waited := 3 } }
    let w (n : Nat) : State := { pod with surveyed := { pod.surveyed with awaited := some 9, wait := n } }
    ((s .waiting 1).live ∧ (s .waiting 1).station = .console ∧ ((s .waiting 1).surveys.get .pod).state = .waiting ∧
      ((s .waiting 1).surveys.get .pod).failed < 2 ∧ 3 ≤ ((s .waiting 1).surveys.get .pod).waited) ∧
    (((s .sending 2).surveys.get .pod).state = .sending ∧ ((s .sending 2).surveys.get .pod).discarded = true ∧
      ((s .sending 2).surveys.get .pod).failed = 2) ∧
    ((w 2).live ∧ (w 2).station ≠ .console ∧ (w 2).surveyed.awaited ≠ none ∧ 2 ≤ (w 2).surveyed.wait ∧ (w 1).surveyed.wait ≤ 1) ∧
    ((w 1).tx.up.role.sends = true ∧ (w 1).tx.up.fifo.length < 8 ∧ (w 1).station ≠ .headset) ∧
    (((s .waiting 2).surveys.get .pod).failed = 2 ∧ (s .waiting 2).tx.down.fifo.length < 8 ∧
      (s .waiting 2).tx.down.role.sends = true) ∧
    8 ≤ ({ openTx .origin with fifo := List.replicate 8 .resurvey } : Tx).fifo.length ∧
    (({ Survey.reset with waited := 2, discarded := false } : Survey).waited < 3) ∧
    pod.surveyed.awaited = none ∧ (con.surveys.get .strap).state = .idle := by decide +kernel

/-- HEADSET with its motion unit in a state. -/
def moving (st : MotionState) (worn : Bool) (run : Nat) : State :=
  { hs with motion := { hs.motion with state := st, worn := worn, wearRun := run } }

theorem witness_WearIsDebouncedOverFourBoundaries :
    hs.live ∧ hs.station = .headset ∧ hs.motion.worn = true ∧ (moving .sampling true 2).motion.wearRun < 3 ∧
    3 ≤ (moving .sampling true 3).motion.wearRun := by decide

theorem witness_DecimationTakesEveryEighthEdge :
    let off : State := { moving .off false 0 with power := hs.power }
    hs.station = .headset ∧ (moving .doze false 0).motion.state = .doze ∧ (moving .waking true 0).motion.state = .waking ∧
    (moving .doze false 0).motion.reading = none ∧ hs.motion.state = .sampling ∧ hs.motion.reading = none ∧
    (moving .sampling false 0).live ∧ (moving .sampling false 0).motion.worn = false ∧
    (off.motion.state = .off ∧ off.domainOn 2 = true ∧ off.motion.worn = false) ∧
    (let m (st : MotionState) (n h : Nat) : State :=
       { moving st false 2 with motion := { (moving st false 2).motion with notWorn := n, wakeHold := h } }
     (m .sampling 4095 0).live ∧ (m .sampling 4095 0).motion.state = .sampling ∧ 4095 ≤ (m .sampling 4095 0).motion.notWorn ∧
       (m .sampling 4095 0).motion.wearRun < 3 ∧ (m .doze 0 0).motion.state = .doze ∧
       ((m .waking 0 2).motion.state = .waking ∧ 2 ≤ (m .waking 0 2).motion.wakeHold)) := by decide +kernel

theorem witness_ReadsFormNumberedSamples :
    let x : Sample := { number := 7, time := 1, doze := false, unsettled := false, lapse := false, restart := true, axes := zeroAxes }
    let r : Reading := { time := 40, unsettled := true, doze := false }
    let s (n : Nat) : State := { hs with motion := { hs.motion with reading := some r, queue := List.replicate n x } }
    (moving .off true 0).motion.state = .off ∧ (s 15).motion.state ≠ .off ∧ (s 15).motion.reading ≠ none ∧
    (s 15).motion.reading = some r ∧ (s 15).motion.queue.length < 16 ∧ 16 ≤ (s 16).motion.queue.length ∧ hs.station = .headset := by
  decide +kernel

/-- A HEADSET not worn, at values of the not-worn count and the wake hold. -/
def counting (notWorn hold : Nat) : State :=
  { hs with motion := { hs.motion with worn := false, notWorn := notWorn, wakeHold := hold } }

theorem witness_WearMovesTheMotionStates :
    hs.live ∧ hs.station = .headset ∧ (moving .sampling false 0).motion.worn = false ∧ (moving .doze false 0).motion.state = .doze ∧
    (moving .waking true 0).motion.state = .waking ∧ hs.cfg.wearLink = true ∧
    hs.motion.silence < silenceThreshold hs.cfg.motionRate ∧ (moving .waking true 2).motion.wearRun < 3 ∧
    ((counting 4094 2).motion.notWorn < 4095 ∧ 2 ≤ (counting 4094 2).motion.wakeHold) ∧
    (4095 ≤ (counting 4095 1).motion.notWorn ∧ (counting 4095 1).motion.wakeHold ≤ 1) ∧
    (let dark : State := { hs with power := { hs.power with domains := [] } }
     dark.motion.state ≠ .off ∧ dark.domainOn 2 = false) ∧
    (hs.motion.state ≠ .off ∧ hs.service.parser = .waiting ∧ hs.service.answers.length ≤ 510 ∧
      (∃ d ∈ hs.power.domains, d.number = 2) ∧
      ∀ d ∈ hs.power.domains, d.number = 2 → d.wanted = true ∧ d.priority ≠ 0) := by decide +kernel

/-- HEADSET with its motion unit OFF and its sensors domain in a state, the wear link on or off, CONSOLE's offer heard. -/
def sensing (st : DomainState) (worn link : Bool) : State :=
  { moving .off worn 0 with
    cfg := { hs.cfg with wearLink := link },
    power := { hs.power with domains := hs.power.domains.map fun d => if d.number = 2 then { d with state := st } else d },
    stations := hs.stations.set .console { present := true, status := 0x80, absentRun := 0, delay := none },
    views := hs.views.set .console { View.reset with state := .heard, report := { View.reset.report with offer := 5000, top := 8 } } }

theorem witness_TheUnitLeavesOffByAdmission :
    (∀ worn ∈ [true, false], ∀ link ∈ [true, false],
      (sensing .on worn link).live ∧ (sensing .on worn link).station = .headset ∧ (sensing .on worn link).motion.state = .off ∧
        (sensing .on worn link).domainOn 2 = true ∧ (sensing .on worn link).motion.worn = worn ∧
        (sensing .waiting worn link).motion.state = .off ∧ (candidate (sensing .waiting worn link).power.domains).map (·.number) = some 2 ∧
        ((candidate (sensing .waiting worn link).power.domains).map (sensing .waiting worn link).admissible) = some true ∧
        (sensing .off worn link).motion.state = .off ∧ (sensing .off worn link).domainOn 2 = false ∧
        (sensing .off worn link).service.parser = .waiting ∧ (sensing .off worn link).service.answers.length ≤ 510) ∧
    (3 ≤ (moving .sampling true 3).motion.wearRun ∧ false ≠ (moving .sampling true 3).motion.worn) ∧
    ({ hs.cfg with wearLink := false } : Params).wearLink = false := by decide +kernel

theorem witness_MotionOutputAccountsForSamples :
    let x : Sample := { number := 7, time := 1, doze := false, unsettled := false, lapse := false, restart := false, axes := zeroAxes }
    let y : OutSample := { sample := x, missing := 0, first := true }
    let s (n : Nat) : State := { con with motionOut := { con.motionOut with queue := List.replicate n y } }
    (con.pins.motionReady = false ∧ (s 15).motionOut.queue.length < 16) ∧
    ((s 16).motionOut.queue = y :: y :: List.replicate 14 y ∧ (s 16).motionOut.queue.length = 16) ∧
    ({ con.pins with motionReady := true } : Pins).motionReady = true ∧
    (let c (start : Bool) : Cell := mkCell .data .headset (.to .console) 2 4 start (samplePayload x)
     let t (start : Bool) : State := handing .up (c start) { con with dst := con.dst.set .motion (some ⟨.listening, some 3⟩) }
     ∀ b ∈ [true, false], (t b).live ∧ (t b).station = .console ∧ ((t b).rx.get .up).handed.head? = some (c b) ∧
       (c b).kind = .data ∧ (c b).dst = .to .console ∧ (c b).src = .headset ∧ flowOf (c b).flow = some .motion ∧
       (t b).dst.get .motion = some ⟨.listening, some 3⟩ ∧ (c b).start = b) ∧
    (let faulty : AlignInfo := { info 1 0 0 with fault := true }
     con.live ∧ con.rx.up.state = .locked ∧ con.rx.up.correct none = none ∧ 3 ≤ ({ lockedRx with errRun := 3 } : Rx).errRun ∧
       con.rx.up.correct (some (alignCell .pod faulty)) = some faulty ∧ con.rx.up.fault = false ∧ faulty.fault = true ∧
       hopLost (con.rx.up.hopHistory faulty.hop) = false ∧
       hopLost (({ lockedRx with history := List.replicate 11 true } : Rx).hopHistory faulty.hop) = true) := by decide +kernel

/-- HEADSET with a sink state. -/
def sinking (st : SinkState) (n : Nat) (rep : Bool) : State :=
  { hs with
    audio := { hs.audio with sink := { Sink.reset with state := st, buffer := List.replicate n .idle, repeatDone := rep } } }

theorem witness_EdgeEmitsOneFrameInEveryState :
    hs.live ∧ hs.station ≠ .strap ∧ ({ Sink.reset with position := 3 } : Sink).position ≠ 0 ∧
    (sinking .priming 1 false).audio.sink.state ≠ .playing ∧ (sinking .priming 1 false).audio.sink.position = 0 ∧
    (sinking .playing 1 false).audio.sink.buffer = .idle :: [] ∧ (sinking .playing 1 false).audio.sink.state = .playing ∧
    (sinking .playing 0 false).audio.sink.buffer = [] ∧ (sinking .playing 0 false).audio.sink.repeatDone = false ∧
    (sinking .playing 0 true).audio.sink.repeatDone = true ∧
    ({ hs.cfg with outA := .slipPulse } : Params).outA = .slipPulse ∧
    (let frames : List Frame := [⟨1, 2⟩, ⟨3, 4⟩, ⟨5, 6⟩, ⟨7, 8⟩]
     let c : State :=
       { con with audio := { con.audio with sink := { Sink.reset with state := .playing, position := 3, play := .received frames } } }
     c.live ∧ c.station = .console ∧ frames[c.audio.sink.position]? = some ⟨7, 8⟩ ∧
       shows (exec (.frameClockEdge 0 0) c) (fun t => t.audio.sink.play == .received frames) = true ∧
       shows (exec (.frameClockEdge 0 0) con) (fun t => t.audio.sink.play == .idle) = true) := by decide +kernel

theorem witness_FourFramesMakeABlock :
    let s (p : Nat) : State := { hs with audio := { hs.audio with source := { hs.audio.source with opened := true, position := p } } }
    let off : State := { hs with power := { hs.power with domains := [] } }
    (hs.live ∧ hs.station ≠ .strap ∧ hs.holdsSource = true) ∧
    ((s 2).audio.source.opened = true ∧ (s 2).domainOn (sourceDomain .headset) = true ∧ (s 2).audio.source.position < 3 ∧
      3 ≤ (s 3).audio.source.position) ∧
    (off.audio.source.opened = false ∧ off.domainOn (sourceDomain .headset) = false ∧ off.holdsSource = true) ∧
    (con.live ∧ con.station ≠ .strap ∧ con.holdsSource = true) := by decide +kernel

theorem witness_BlocksAreJudgedByNumber :
    let s (e : Num8) (n : Nat) : State :=
      { hs with
        audio :=
          { hs.audio with
            sink := { Sink.reset with state := .priming, buffer := List.replicate n .idle, expected := some e } } }
    hs.audio.sink.state = .muted ∧
    ((sinking .priming 7 false).audio.sink.state ≠ .muted ∧ (sinking .priming 7 false).audio.sink.expected = none ∧
      (sinking .priming 15 false).audio.sink.buffer.length < 16) ∧
    ((s 0 11).audio.sink.expected = some 0 ∧ (4 - 0 : Num8).toNat ≤ 4 ∧ (s 0 11).audio.sink.buffer.length + (4 - 0 : Num8).toNat < 16) ∧
    (5 ≤ (5 - 0 : Num8).toNat ∧ (127 - 0 : Num8).toNat ≤ 127) ∧ 128 ≤ (128 - 0 : Num8).toNat ∧
    (hs.live ∧ (sinking .playing 16 false).audio.sink.buffer.length = 16) ∧
    (let c (src : Station) (dst : Station) (f : BitVec 3) (n : Byte) : Cell := mkCell .data src (.to dst) f 4 true [7, n]
     let out : State := handing .down (c .console .headset 3 2) hs
     let mic : State :=
       handing .up (c .headset .console 4 2) { con with dst := con.dst.set .audioIn (some ⟨.listening, some 3⟩) }
     (out.live ∧ (out.rx.get .down).handed.head? = some (c .console .headset 3 2) ∧ out.planDest .audioOut = out.station ∧
       (c .console .headset 3 2).src = out.planSource .audioOut ∧ out.dst.get .audioOut = some ⟨.listening, none⟩ ∧
       (readBlock (c .console .headset 3 2) out.cfg.twoOut).isSome = true ∧
       readBlock (c .console .headset 3 0) out.cfg.twoOut = none) ∧
     (mic.live ∧ (mic.rx.get .up).handed.head? = some (c .headset .console 4 2) ∧ mic.planDest .audioIn = mic.station ∧
       (c .headset .console 4 2).src = mic.planSource .audioIn ∧ mic.dst.get .audioIn = some ⟨.listening, some 3⟩ ∧
       (readBlock (c .headset .console 4 2) mic.cfg.twoIn).isSome = true ∧ flowOf (c .headset .console 4 2).flow = some .audioIn ∧
       (mkCell .data .headset (.to .console) 4 4 false [7, 2]).start = false)) := by decide +kernel

theorem witness_MixerScalesAddsAndSaturates :
    let f : Frame := { ch1 := 8388607, ch2 := -8388608 }
    let s : State :=
      { hs with
        cfg := { hs.cfg with sidetone := 14 },
        audio := { hs.audio with sink := { Sink.reset with play := .received [f, f, f, f], position := 3 } } }
    s.station ≠ .console ∧ s.isAudio = true ∧ s.domainOn (sinkDomain s.station) = true ∧
    s.domainOn (sourceDomain s.station) = true ∧ s.audio.muted = false ∧ s.cfg.sidetone < 15 ∧
    s.audio.sink.play = .received [f, f, f, f] ∧ [f, f, f, f][s.audio.sink.position]? = some f ∧
    hs.audio.sink.play = .idle ∧ ¬hs.cfg.sidetone < 15 ∧ 2 * (scaled 1 16384 * 32768 - 1 * (16384 : Nat)).natAbs = 32768 := by
  decide +kernel

theorem witness_PressesActOrAreSent :
    let p (s : State) (b : Bool) (n : Nat) : State := { s with audio := { s.audio with volUp := ⟨b, n⟩ } }
    let far : State := { hs with cfg := { hs.cfg with podAudio := true }, stations := hs.stations.set .pod { present := true, status := 0x80, absentRun := 0, delay := none } }
    (hs.running ∧ hs.station = .headset ∧ hs.isAudio = true ∧ (hs.audio.line .volUp).pressed = false) ∧
    (pod.running ∧ pod.station = .pod ∧ pod.isAudio = false ∧ (pod.tx.get .down).role.sends = true ∧
      (pod.tx.get .down).fifo.length < 8) ∧
    (far.station = .headset ∧ far.isAudio = false ∧ far.tx.up.role.sends = true ∧ far.tx.up.fifo.length < 7) ∧
    ((p hs true 0).audio.line .volUp).pressed = true ∧
    (((p hs false 2).audio.line .volUp).run < 3 ∧ 3 ≤ ((p hs false 3).audio.line .volUp).run) ∧
    (let completes (s : State) (down mute : Bool) (b : Button) : Bool :=
       let level := match b with | .volUp => true | .volDown => down | .mute => mute
       !(s.audio.line b).pressed && level && decide (3 ≤ (s.audio.line b).run)
     (∀ b, completes (p hs false 2) false false b = false) ∧
       completes (p hs false 3) false true .volUp = true ∧ (∀ c, c ≠ .volUp → completes (p hs false 3) false true c = false) ∧
       ∀ b, completes (p hs true 3) false false b = false) := by
  refine ⟨by decide +kernel, by decide +kernel, by decide +kernel, by decide +kernel, by decide +kernel, ?_, by decide +kernel, ?_, ?_⟩ <;>
    (intro b; cases b <;> decide +kernel)

theorem witness_AudioCellsAct :
    let ctl (src dst : Station) (bs : List Byte) : Cell := cellOf .control src (.to dst) bs
    (hs.running ∧ hs.isAudio = true ∧ (ctl .pod .headset [5, 0]).kind = .control ∧ (ctl .pod .headset [5, 0]).dst = .to hs.station ∧
      byteAt (ctl .pod .headset [5, 0]).payload 0 = 5 ∧ byteAt (ctl .pod .headset [7]).payload 0 = 7) ∧
    pod.isAudio = false ∧
    (∀ b ∈ [[5, 0], [7]],
      ((handing .down (ctl .pod .headset b) hs).rx.get .down).handed.head? = some (ctl .pod .headset b)) ∧
    ((handing .up (ctl .pod .console [6, 2]) con).rx.get .up).handed.head? = some (ctl .pod .console [6, 2]) ∧
    (con.station = .console ∧ con.live ∧ byteAt (ctl .pod .console [6, 2]).payload 0 = 6 ∧
      byteAt (ctl .pod .console [6, 2]).payload 1 ≤ 2) := by decide +kernel

/-- A power report in range. -/
def report7 : Report :=
  { number := 1, draw := 100, waiting := 0, top := 8, offer := 0, level := 7, rail := 12000, tripped := true }

theorem witness_ReportsKeepThePeerView :
    let c := ctlCell .console 0 (.power report7 0)
    let s : State := handing .down c
      { hs with
        stations := hs.stations.set .console { present := true, status := 0x80, absentRun := 0, delay := none },
        views := hs.views.set .console { View.reset with state := .heard } }
    (s.live ∧ (s.rx.get .down).handed.head? = some c ∧ c.kind = .power ∧ c.dst = .broadcast ∧ c.src ≠ s.station ∧ readReport c = some report7) ∧
    readReport (ctlCell .console 0 (.power { report7 with level := 8 } 0)) = none ∧
    (Station.console ≠ s.station ∧ (s.views.get .console).state = .heard) ∧
    shows (exec (.powerReportTaken .down c) s) (fun t => decide (s.power.applied < t.power.applied)) = true := by decide +kernel

theorem witness_SheddingPremises :
    (∀ s ∈ [hs, con, strap], s.station = .headset → (s.motion.state = .off ↔ s.domainOn 2 = false)) ∧
    (let s (n : Nat) : State := { hs with power := { hs.power with converting := true, droop := n = 1 } }
     let rail (x : Nat) : Nat := x * hs.cfg.rail.gain / 256
     (s 0).live ∧ (s 0).station ≠ .console ∧ (s 0).power.droop = false ∧ (s 1).power.droop = true ∧
       rail 600 < hs.cfg.cutoffMv ∧ hs.cfg.cutoffMv ≤ rail 660 ∧ rail 660 < hs.cfg.shedMv ∧ rail 660 < hs.cfg.admitMv ∧
       hs.cfg.rail.offset = 0) ∧
    (con.station = .console ∧ con.power.overRun = 0) := by decide +kernel

theorem witness_SampleEventJudgesTheRail :
    let s (n : Nat) : State := { hs with power := { hs.power with converting := true, brownRun := n } }
    let value (x : BitVec 10) : Nat :=
      (max 0 (min 65535 (((x.toNat * hs.cfg.rail.gain / 256 : Nat) : Int) + hs.cfg.rail.offset))).toNat
    (s 3).live ∧ (s 3).power.converting = true ∧ (value 599 < hs.cfg.brownoutMv ∧ 3 ≤ (s 3).power.brownRun) ∧
    (hs.cfg.brownoutMv ≤ value 600 ∧ value 600 < hs.cfg.cutoffMv) ∧
    (hs.cfg.cutoffMv ≤ value 660 ∧ value 660 < hs.cfg.shedMv ∧ (s 0).power.droop = false ∧
      (droopPick (s 0).power.domains).isSome = true) ∧
    (hs.cfg.shedMv ≤ value 1023 ∧ hs.cfg.cutoffMv ≤ value 1023) ∧ droopPick [] = none ∧
    (hs.cfg.admitMv ≤ value 1023 ∧ hs.cfg.shedMv ≤ value 700 ∧ value 700 < hs.cfg.admitMv ∧
      ((hs.power.domains.map fun d => { d with state := .shed })[1]?.map (·.state)) = some .shed) ∧
    (let sup : State := { con with power := { con.power with converting := true, overRun := 1 } }
     let watts (x y : BitVec 10) : Nat :=
       (max 0 (min 65535 (((y.toNat * con.cfg.load.gain / 256 : Nat) : Int) + con.cfg.load.offset))).toNat * value x / 1000
     sup.live ∧ sup.station = .console ∧ sup.power.converting = true ∧ sup.power.switchClosed = true ∧
       hs.cfg.brownoutMv ≤ value 1000 ∧ watts 1000 1000 ≤ (12000 + 6000 * con.sup.toNat) * 5 / 4 ∧
       (12000 + 6000 * con.sup.toNat) * 5 / 4 < watts 1000 1001 ∧ con.power.overRun = 0 ∧ 1 ≤ sup.power.overRun ∧
       ({ sup with power := { sup.power with switchClosed := false } } : State).power.switchClosed = false) ∧
    (let brown (n : Nat) : State := { con with power := { con.power with converting := true, brownRun := 3, overRun := n } }
     ∀ n ∈ [0, 1], (brown n).live ∧ (brown n).station = .console ∧ (brown n).power.converting = true ∧
       value 599 < con.cfg.brownoutMv ∧ 3 ≤ (brown n).power.brownRun) ∧
    ({ (s 0) with power := { (s 0).power with droop := true } } : State).power.droop = true ∧
    ({ strap with power := { strap.power with converting := true } } : State).power.converting = true ∧ strap.live ∧
    (strap.station = .strap ∧ strap.cfg.batteryFloor + 200 ≤ 20000) := by decide +kernel

theorem witness_TripAndRecloseSwitchTheSupply :
    let t : State := { con with power := { con.power with switchClosed := false, tripped := true, tripWait := 1 } }
    con.live ∧ con.station = .console ∧ con.power.switchClosed = true ∧ t.power.tripped = true ∧ con.power.applied ≠ 7 ∧
    (∀ x, (con.views.get x).report.level ≤ 7) := by
  refine ⟨by decide, by decide, by decide, by decide, by decide, ?_⟩
  intro x
  cases x <;> decide

/-- The nodes in RUNNING meet the power rules, CONSOLE's step and the charger of STRAP among them; a HEADSET in LINKING too. -/
theorem witness_PowerBoundaryTestsAdmission :
    let hot (s : State) : State := { s with power := { s.power with p := 40000 } }
    (hot con).ShedLevelHolds ∧ (hot strap).ShedLevelHolds ∧ pod.ShedLevelHolds ∧ hs.ShedLevelHolds ∧
    ({ hs with start := .linking } : State).ShedLevelHolds ∧
    ((hot con).running ∧ (hot strap).running ∧ ¬({ hs with start := .linking } : State).running ∧
      ({ hs with start := .linking } : State).live) ∧
    (∀ s ∈ [hot con, hot strap, pod, hs], s.station = .headset → (s.motion.state = .off ↔ s.domainOn 2 = false)) := by
  refine ⟨?_, ?_, ?_, ?_, ?_, by decide +kernel, by decide +kernel⟩ <;>
    exact ⟨by decide +kernel, by decide +kernel, fun x => by cases x <;> decide, by decide +kernel, by decide +kernel,
      by decide +kernel, fun h => absurd (by decide) h⟩

theorem witness_PowerBoundaryAgesStepsAndBalances :
    let trip (n : Nat) : State := { con with power := { con.power with tripWait := n } }
    let aged : State := { pod with balance := { Balance.reset with age := 7 } }
    let heard : State := { hs with views := hs.views.set .console { View.reset with state := .heard, age := 9 } }
    (heard.live ∧ Station.console ≠ heard.station ∧ (heard.views.get .console).state = .heard ∧
      (heard.views.get .pod).state = .unknown) ∧
    (con.station = .console ∧ con.power.tripWait = 0 ∧ con.power.switchClosed = true) ∧ 2 ≤ (trip 2).power.tripWait ∧
    (trip 1).power.tripWait = 1 ∧ (hs.running ∧ hs.tx.down.fifo.length ≤ 4 ∧ hs.tx.up.fifo.length ≤ 4) ∧
    ¬(linking .pod true).running ∧ (linking .pod true).live ∧
    (aged.running ∧ aged.balance.age = 7 ∧
      -8 < (if aged.balance.b < 8 then aged.balance.b + 1 else aged.balance.b) - aged.balance.outstanding.length ∧
      (aged.tx.get .down).role.sends = true ∧ aged.tx.down.fifo.length ≤ 7 ∧ aged.tx.up.fifo.length ≤ 7) := by decide +kernel

/-- A node with no report outstanding whose copies were inserted, a WAITING domain and the offers to admit it, or not. -/
def admitting (offer : Nat) : State :=
  { hs with
    power := { hs.power with domains := hs.power.domains.map fun d => if d.number = 4 then { d with state := .waiting } else d },
    stations := hs.stations.set .console { present := true, status := 0x80, absentRun := 0, delay := none },
    views :=
      hs.views.set .console { View.reset with state := .heard, report := { View.reset.report with offer := offer, top := 8 } } }

/-- The wanted domain of `admitting`, the only one that waits. -/
theorem witness_PowerBoundaryAdmits :
    let s := admitting 1155
    let low := admitting 1154
    let d : Domain := { number := 4, priority := 6, nominal := 1500, wanted := true, state := .waiting }
    (s.live ∧ s.running ∧ s.station = .headset ∧ (∀ o ∈ s.balance.outstanding, o.inserted = false)) ∧
    (∀ x, x ≠ s.station → (s.views.get x).state = .heard → (s.views.get x).age < 9) ∧
    (∃ i, s.power.domains[i]? = some d ∧ low.power.domains[i]? = some d ∧
      ∀ (j : Nat) (e : Domain), s.power.domains[j]? = some e → e.state = .waiting →
        d.priority < e.priority ∨ (d.priority = e.priority ∧ i ≤ j)) ∧
    (d.priority < 8 - s.power.applied ∧ s.cfg.admitMv ≤ s.power.rail) ∧
    (s.station = .headset → (s.motion.state = .off ↔ s.domainOn 2 = false)) ∧
    (∀ e ∈ s.power.domains, e.number = d.number → e = d) ∧
    s.admission.power.domains = s.power.domains.map (fun e => if e.number = 4 then { e with state := .on } else e) ∧
    low.admission.power.domains = low.power.domains ∧ (∀ d ∈ hs.power.domains, d.state ≠ .waiting) ∧
    strap.live ∧ strap.station = .strap := by
  refine ⟨by decide +kernel, ?_, ⟨4, by decide +kernel, by decide +kernel, ?_⟩, by decide +kernel, by decide +kernel,
    by decide +kernel, by decide +kernel, by decide +kernel, by decide +kernel, by decide +kernel, by decide⟩
  · intro x
    cases x <;> decide +kernel
  · intro j e h w
    have on : ∀ k, k < 4 → ((admitting 1155).power.domains[k]?).map Domain.state = some .on := by decide +kernel
    have only : ∀ x ∈ (admitting 1155).power.domains, x.state = .waiting → x.priority = 6 := by decide +kernel
    rcases Nat.lt_or_ge j 4 with k | k
    · have := on j k
      rw [h, Option.map_some, w] at this
      exact absurd this (by decide)
    · exact .inr ⟨(only e (List.mem_of_getElem? h) w).symm, k⟩

theorem witness_ReportsAreBuiltByTheBalance :
    let event : State := { pod with balance := { Balance.reset with b := -7, event := true } }
    let owed : State := { pod with balance := { Balance.reset with b := 1 } }
    (event.running ∧ event.balance.event = true ∧ -8 < event.balance.net ∧ event.tx.down.fifo.length < 8 ∧
      event.tx.up.fifo.length < 8 ∧ event.tx.down.role.sends = true) ∧
    (owed.running ∧ 1 ≤ owed.balance.net ∧ (owed.tx.get .down).sentThis = some .active ∧
      (owed.tx.get .up).sentThis = some .active) ∧
    ¬(1 ≤ pod.balance.net) ∧ pod.balance.event = false := by decide +kernel

/-- CONSOLE with a POWER cell in its FIFO, the only copy of an outstanding report. -/
def reporting (a q : List Ctl) : State :=
  { con with
    tx := ⟨{ openTx .origin with fifo := a ++ .power report7 0 :: q }, openTx .terminal⟩,
    balance :=
      { Balance.reset with
        b := 1, event := true, built := 1, outstanding := [{ serial := 0, waitDown := true, waitUp := false, inserted := false }] } }

theorem witness_ReportsAreReplacedAndSent :
    let a : List Ctl := [.resurvey, .resurvey]
    let q : List Ctl := List.replicate 5 .resurvey
    let s := reporting a q
    let b (up ins : Bool) : Balance :=
      { Balance.reset with outstanding := [{ serial := 3, waitDown := true, waitUp := up, inserted := ins }], built := 4 }
    (s.running ∧ s.balance.event = true ∧ -8 < s.balance.net ∧ s.balance.net ≤ 0 ∧ s.tx.down.role.sends = true ∧
      s.tx.up.role.sends = false ∧ (∀ x ∈ a, x = .resurvey) ∧ a.length + q.length = 7 ∧
      (s.balance.outstanding.map (·.serial)).Nodup ∧ ∀ o ∈ s.balance.outstanding, o.serial < s.balance.built) ∧
    (∀ up ∈ [true, false], ∀ ins ∈ [true, false], ((b up ins).outstanding.map (·.serial)).Nodup) ∧
    (let t := reporting [] []
     t.running ∧ t.payloadSilent .down = false ∧ t.frameOpen .down = true ∧ t.tx.down.gapOwed = false ∧ t.motion.queue = [] ∧
      t.audio.source.queue = [] ∧ t.tx.down.fifo = .power report7 0 :: [] ∧
      (t.balance.copyGone .down 0 true).outstanding.length < t.balance.outstanding.length ∧
      (t.balance.copyGone .down 1 true).outstanding.length = t.balance.outstanding.length) := by decide +kernel

theorem witness_LanesThatWakeMakeFreshPending :
    let deep : State := { hs with rx := ⟨{ lockedRx with inEffect := some .deep }, Rx.reset⟩ }
    let origin : State :=
      { con with tx := ⟨{ openTx .origin with quiet := some { Quiet.start with lane := .deep } }, openTx .terminal⟩ }
    let none_ : State := { con with tx := ⟨openTx .silent, openTx .silent⟩ }
    let i (x : LaneState) : AlignInfo := { info 0 1 0xFFFF with lane := x }
    (deep.live ∧ (deep.rx.get .down).state = .locked ∧ (deep.rx.get .down).inEffect = some .deep ∧
      hopLost (deep.rx.get .down).history = false ∧ (∀ o ∈ deep.balance.outstanding, o.inserted = false) ∧
      ∀ x ∈ [LaneState.waking, .deep], (deep.rx.get .down).correct (some (alignCell .console (i x))) = some (i x)) ∧
    (origin.live ∧ (origin.tx.get .down).role = .origin ∧ (origin.tx.get .down).quiet = some { Quiet.start with lane := .deep }) ∧
    ¬(linking .pod true).running ∧ (pod.running ∧ -8 < pod.balance.net ∧ (pod.tx.get .up).role.sends = true) ∧
    (none_.running ∧ ∀ l, (none_.tx.get l).role.sends = false) := by
  refine ⟨by decide +kernel, by decide +kernel, by decide, by decide +kernel, by decide, ?_⟩
  intro l
  cases l <;> decide

theorem witness_NoticesWaitBySubject :
    let n : Notice := { kind := .slip, subject := .flow .audioOut, value := 0, time := 0, settled := false }
    let s : State := { con with notices := [n] }
    (s.live ∧ s.notices = [] ++ n :: [] ∧ (∀ m ∈ s.notices, m.subject ≠ .relay)) ∧ ¬State.reset.live ∧
    (s.service.parser = .waiting ∧ s.service.answers.length ≤ 499 ∧
      ({ con.service with answers := List.replicate 499 0 } : Service).answers.length ≤ 499) ∧ con.notices = [] := by
  decide +kernel

theorem witness_RequestsActAndAnswer :
    let d : Domain := { number := 1, priority := 3, nominal := 0, wanted := true, state := .on }
    let s : State := { hs with power := { hs.power with domains := [{ d with number := 0, priority := 0 }, d, { d with number := 2 }] } }
    (s.live ∧ s.service.parser = .waiting ∧ s.service.answers.length ≤ 489) ∧ (6 : Byte).toNat ≤ 6 ∧ 6 < (7 : Byte).toNat ∧
    (s.station = .pod ∨ s.station = .headset) ∧ (14 : Byte).toNat ≤ 14 ∧
    ((s.power.domains.find? fun x => x.number == (5 : Byte).toNat) = none) ∧
    ((s.power.domains.find? fun x => x.number == (0 : Byte).toNat) = some { d with number := 0, priority := 0 }) ∧
    ((s.power.domains.find? fun x => x.number == (1 : Byte).toNat) = some d ∧ d.priority ≠ 0 ∧
      (s.motion.state = .off ↔ s.domainOn 2 = false)) := by decide +kernel

theorem witness_TableReadsFollowTheCursor :
    let s (c : Option (Nat × Nat)) : State := { con with service := { con.service with cursor := c } }
    ((s none).live ∧ (s none).service.parser = .waiting ∧ (s none).service.answers.length ≤ 315 ∧ (s none).service.cursor = none) ∧
    (s (some (1, 4))).service.cursor = some (1, 4) ∧ (s (some (4, 3))).service.cursor = some (4, 3) ∧
    ((5 : Byte).toNat < 6 ∧ ¬(3 : Byte).toNat < 3) := by decide +kernel

theorem witness_TableRecordsHoldTheirItems :
    con.station = .console ∧ con.dst.get (Eye.flow .left) = none ∧ pod.station ≠ .console ∧ pod.dst.get (Eye.flow .left) = none ∧
    (hs.station ≠ .console ∧ hs.dst.get (Eye.flow .left) = some ⟨.listening, none⟩) ∧
    (hs.audioStation = hs.station ∧ hs.dst.get .audioOut = some ⟨.listening, none⟩) ∧
    (pod.audioStation ≠ pod.station ∧ pod.dst.get .audioIn = none) ∧
    (hs.power.domains.find? fun d => d.number == 5) = none ∧ (hs.power.domains.find? fun d => d.number == 0).isSome = true := by
  decide +kernel

theorem witness_RequestsAreTheirBytesAndFaultsRecover :
    let s (p : Parser) (n : Nat) : State := { con with service := { con.service with parser := p, answers := List.replicate n 0 } }
    ((s .waiting 510).live ∧ (s .waiting 510).service.parser = .waiting ∧
      parseRequest (Request.relay 1 [0x12, 0, 0]).bytes = some (.relay 1 [0x12, 0, 0]) ∧
      512 < (s .waiting 511).service.answers.length + (Request.relay 1 [0x12, 0, 0]).largest) ∧
    (0x42 : Byte) ∉ ([0x10, 0x11, 0x12, 0x13, 0x14, 0x15, 0x16, 0x17, 0x18, 0x19] : List Byte) ∧
    (s .discard 0).service.parser = .discard ∧ (s (.collecting [0x11]) 0).service.parser = .collecting [0x11] ∧
    (∀ n ∈ [0, 510, 511], (s (.collecting [0x18, 1]) n).live ∧ (s (.collecting [0x18, 1]) n).service.parser = .collecting [0x18, 1]) ∧
    (s .waiting 0).service.parser ≠ .discard ∧ (s .waiting 1).service.answers = 0 :: [] ∧ (s .waiting 0).service.answers = [] := by
  decide +kernel

theorem witness_RelayIsJudgedSentAndTimed :
    let seen : State := { con with stations := con.stations.set .pod { present := true, status := 0x80, absentRun := 0, delay := none } }
    let s (h : HolderState) : State := { seen with service := { con.service with holder := { Holder.reset with state := h } } }
    ((s .idle).live ∧ (s .idle).service.parser = .waiting ∧ (s .idle).service.answers.length ≤ 456) ∧
    requestLength [0x11, 2] = some 2 ∧ (3 < (4 : Byte).toNat ∧ stationOf (0 : Byte).toNat = con.station) ∧
    ([0x19] : List Byte).head? = some 0x19 ∧
    ((con.stations.get (stationOf (1 : Byte).toNat)).present = false ∧ (seen.stations.get (stationOf (1 : Byte).toNat)).present = true) ∧
    (s .outstanding).service.holder.state = .outstanding ∧ (s .ready).service.holder.state = .ready ∧
    (s .ready).service.holder.answer.length ≤ 53 ∧ (s .ready).service.holder.state ≠ .outstanding ∧ (s .idle).service.holder.state ≠ .ready := by decide +kernel

theorem witness_RelayCellsAreAnsweredAndAssembled :
    let req (n : Byte) (bs : List Byte) : Cell := cellOf .relay .console (.to .headset) ([0, 7, n, BitVec.ofNat 8 bs.length] ++ bs)
    let ans (i : Byte) (tag : Byte) : Cell := cellOf .relay .headset (.to .console) [0x80 + i, tag, 2, 1, i]
    let h : Holder := { Holder.reset with state := .outstanding, target := .headset, tag := 7, wait := 5, parts := [(0, [0])], count := some 2 }
    let s (x : Holder) : State := { con with service := { con.service with holder := x } }
    ((∀ n ∈ [1, 2], ((handing .down (req n [0x10]) hs).rx.get .down).handed.head? = some (req n [0x10])) ∧
      ∀ t ∈ [7, 8], ((handing .up (ans 1 t) (s h)).rx.get .up).handed.head? = some (ans 1 t)) ∧
    (hs.running ∧ (req 1 [0x10]).kind = .relay ∧ (req 1 [0x10]).dst = .to hs.station ∧ (req 1 [0x10]).src ≠ hs.station) ∧
    readRelay (req 1 [0x10]) = some { answer := false, index := 0, tag := 7, count := 1, bytes := [0x10] } ∧
    readRelay (req 2 [0x10]) = some { answer := false, index := 0, tag := 7, count := 2, bytes := [0x10] } ∧
    (parseRequest [0x42] = none ∧ (hs.actRelayed [0x17]).2.length ≤ 28 ∧ 1 ≤ (hs.actRelayed [0x17]).2.length) ∧
    (29 ≤ (hs.actRelayed [0x12, 2, 2]).2.length ∧ (hs.actRelayed [0x12, 2, 2]).2.length ≤ 56 ∧ hs.tx.up.fifo.length ≤ 6) ∧
    readRelay (ans 1 7) = some { answer := true, index := 1, tag := 7, count := 2, bytes := [1] } ∧
    readRelay (ans 1 8) = some { answer := true, index := 1, tag := 8, count := 2, bytes := [1] } ∧
    ((s h).running ∧ (ans 1 7).src = h.target ∧ h.tag = 7 ∧ h.state = .outstanding ∧ h.count = some 2) ∧
    (∀ x ∈ ([[0x10], [0x11, 6], [0x12, 4, 2], [0x12, 4, 3], [0x13], [0x14, 1, 1], [0x15, 14], [0x16, 1], [0x17], [0x18, 1, 0x17], [0x19]] :
         List (List Byte)),
      readRelay (req 1 x) = some { answer := false, index := 0, tag := 7, count := 1, bytes := x } ∧
        ((handing .down (req 1 x) hs).rx.get .down).handed.head? = some (req 1 x)) ∧
    requestLength [0x17] = some ([0x17] : List Byte).length ∧ hs.service.holder.answer.length ≤ 53 ∧ hs.service.cursor = none ∧
    ({ hs with service := { hs.service with cursor := some (4, 3) } } : State).service.cursor = some (4, 3) ∧
    (h.parts.find? fun p => p.1 == 0) = some (0, [0]) ∧ (([] : List (Nat × List Byte)).find? fun p => p.1 == 0) = none := by
  decide +kernel

theorem witness_OutputsFollowTheirFunctions :
    let s (f : OutFn) : State := { con with cfg := { con.cfg with outA := f, outB := f }, clock := 2048 }
    ¬State.reset.live ∧ (∀ f ∈ [OutFn.laneFault, .rateLow, .shed, .attention, .superframePulse, .slipPulse, .fixedLow, .fixedHigh],
      (s f).live ∧ (s f).cfg.outA = f) ∧ (s .slipPulse).clock.toNat % 1024 = 0 := by decide +kernel

theorem witness_CellLayoutsReadBack :
    let f : Frame := { ch1 := -8388608, ch2 := 8388607 }
    let b : Block := { number := 255, dst := .console, frames := [f, f, f, f] }
    b.frames = [f, f, f, f] ∧ (∀ x ∈ b.frames, -8388608 ≤ x.ch1 ∧ x.ch1 ≤ 8388607 ∧ -8388608 ≤ x.ch2 ∧ x.ch2 ≤ 8388607) ∧
    report7.draw < 65536 ∧ report7.top ≤ 8 ∧ report7.level ≤ 7 ∧ (newSlice 1 0 .base 4096 []).sent = 0 ∧
    (newSlice 1 0 .base 4096 []).length ≤ 4096 ∧
    (let r : SliceRec := newSlice 1 0 .base 27 (List.replicate 27 7)
     r.sent = 0 ∧ r.length ≤ 4096 ∧ r.data.length = r.length) ∧ (List.replicate 28 (0 : Byte)).length ≤ 28 ∧
    (let r : SliceRec := { newSlice 1 0 .base 61 (List.replicate 61 7) with sent := 2 }
     1 ≤ r.sent ∧ r.data.length = r.length ∧ 28 + 32 * (r.sent - 1) < r.length) ∧
    (100 ≤ 110 ∧ 110 - 100 < 4294967296) := by decide +kernel

/-- A state with the invariants of `State.QueuesBounded`: CONSOLE at work with a slice queued. -/
theorem witness_StepKeepsQueuesBounded :
    (sending [slice2] .active).QueuesBounded ∧ shows (step (sending [slice2] .active)) (fun _ => true) = true := by
  refine ⟨⟨?_, ?_, by decide, by decide, by decide, by decide, ?_, ?_, ?_, ?_, ?_, by decide, by decide, by decide, by decide +kernel⟩,
    by decide +kernel⟩ <;> intro x <;> cases x <;> decide +kernel

theorem witness_StepKeepsTheBalanceInRange :
    con.BalanceInRange ∧ shows (step con) (fun _ => true) = true :=
  ⟨⟨by decide, by decide, by decide⟩, by decide +kernel⟩

theorem witness_StepKeepsTheRatesInRange :
    con.RatesInRange ∧ shows (step con) (fun _ => true) = true := by
  refine ⟨⟨?_, fun _ _ => ?_, fun _ => ?_, fun h => absurd (by decide : con.live) h, ?_, ?_⟩, by decide +kernel⟩ <;>
    intro x <;> cases x <;> decide +kernel

theorem witness_StepKeepsTheShedLevel :
    hs.ShedLevelHolds ∧ shows (step hs) (fun _ => true) = true := by
  refine ⟨⟨by decide +kernel, by decide +kernel, ?_, by decide +kernel, by decide +kernel, by decide +kernel,
    fun h => absurd (by decide : hs.live) h⟩, by decide +kernel⟩
  intro x
  cases x <;> decide

end Sys2Proof.Tests
end

/-! The answer to a probe at HEADSET (section 4.5): what each operation on the way makes of the state, said once, and the
statement O26 put together from it. -/

namespace Sys2Proof.Machine

/-! ### Taking and offering a cell -/

/-- The oldest cell waiting on a lane leaves the list and is judged (R34). -/
theorem State.take_of_head? {s : State} {l : Lane} {c : Cell} (h : (s.rx.get l).handed.head? = some c) (f : State → State) :
    s.take l c f = f (s.taken l c) := by
  simp [State.take, State.nextHanded, h]

/-- A cell other than POWER that HEADSET sends to CONSOLE goes to the up lane's FIFO (R35, R41). -/
theorem State.offerTo_console_of_headset {s : State} {c : Ctl} (hs : s.station = .headset) (hc : ∀ r n, c ≠ .power r n) :
    s.offerTo .console c =
      s.modTx .up fun t => { t with fifo := if t.role.sends = true ∧ t.fifo.length < 8 then t.fifo ++ [c] else t.fifo } := by
  have lane : laneTo s.station .console = some .up := by rw [hs]; rfl
  rw [← State.offer_of_not_power s .up hc]
  simp [State.offerTo, lane]

/-! ### The offer and the marks -/

/-- The offer by ranges of fill: the middle range's quotient is 0 from fill 1024 on, as R75 has it there. -/
theorem destOffer_eq (peak f : Nat) :
    destOffer peak f = if f ≤ 256 then peak else if f ≤ 1023 then peak * (1024 - f) / 768 else 0 := by
  unfold destOffer
  by_cases full : f ≤ 1023
  · simp [full]
  · have none_left : 1024 - f = 0 := by omega
    simp [full, none_left]

/-- The answer at a fill, mark by mark (R75, R76). -/
theorem replySeen_eq (r : RateCell) (f : Nat) (holding : Bool) :
    replySeen r f holding =
      { offered := min r.offered (if f ≤ 256 then r.peak else if f ≤ 1023 then r.peak * (1024 - f) / 768 else 0),
        congested := r.congested || decide (768 ≤ f), noRise := r.noRise || decide (512 ≤ f ∧ f < 768),
        hold := r.hold || holding } := by
  simp [replySeen, destOffer_eq]

/-! ### The answer -/

/-- The fill a probe of an eye is answered by: 0 in HOLDING, else the cells reserved in the eye's buffer (R75). -/
def State.probeFill (s : State) (e : Eye) (d : DstState) : Nat :=
  if d = .holding then 0 else reserved (s.eyes.get e).buffer

/-- A probe met in CLOSED is noted and gets no reply (R74, R77). -/
theorem State.answerProbe_closed (s : State) (e : Eye) (r : RateCell) :
    s.answerProbe e .closed r =
      s.modEye e fun x =>
        { x with probeSeen := some { number := r.number, ar := r.ar, fill := s.probeFill e .closed, reply := none } } := by
  simp [State.answerProbe, State.probeFill]

/-- A probe met in LISTENING or HOLDING at HEADSET is noted with its answer, and the REPLY is offered to the up FIFO (R74 to
R77). -/
theorem State.answerProbe_of_open {s : State} {e : Eye} {d : DstState} (r : RateCell) (hs : s.station = .headset)
    (hd : d ≠ .closed) :
    let ans := replySeen r (s.probeFill e d) (decide (d = .holding))
    let c : Ctl := .reply e r.number r.ar ans.offered r.peak ans.congested ans.noRise ans.hold
    s.answerProbe e d r =
      (s.modEye e fun x =>
        { x with
          probeSeen := some { number := r.number, ar := r.ar, fill := s.probeFill e d, reply := some ans } }).modTx .up
        fun t => { t with fifo := if t.role.sends = true ∧ t.fifo.length < 8 then t.fifo ++ [c] else t.fifo } := by
  simp only [State.answerProbe, if_neg hd, beq_eq_decide]
  exact State.offerTo_console_of_headset (by simpa using hs) nofun

/-- PROBE_TAKEN at HEADSET, for a probe in range from CONSOLE that its lane hands over next: the cell is taken and its
destination record answers it (R74). -/
theorem exec_probeTaken_of_judged {l : Lane} {c : Cell} {e : Eye} {r : RateCell} {d : DstRec} {s : State} (hlive : s.live)
    (hs : s.station = .headset) (hkind : c.kind = .probe) (hdst : c.dst = .to .headset) (hsrc : c.src = .console)
    (heye : eyeOf c.flow = some e) (hrate : readRate c = some r) (hd : s.dst.get (Eye.flow e) = some d)
    (hhead : (s.rx.get l).handed.head? = some c) :
    exec (.probeTaken l c) s = .next ((s.taken l c).answerProbe e d.state r) := by
  have arm : exec (.probeTaken l c) s = execProbeTaken l c s := rfl
  have judged : (s.taken l c).live ∧ (s.taken l c).station = .headset ∧ c.kind = .probe ∧
      c.dst = .to (s.taken l c).station ∧ c.src = .console :=
    ⟨hlive, hs, hkind, by simp [hdst, hs], hsrc⟩
  simp only [arm, execProbeTaken, State.take_of_head? hhead]
  rw [if_pos judged]
  simp [heye, hrate, hd]

/-- Settles O26: the cell is taken, and the record's state, CLOSED or not, decides which of the two answers is made. -/
theorem probeIsAnsweredByTheFill : Obligations.ProbeIsAnsweredByTheFill := by
  unfold Obligations.ProbeIsAnsweredByTheFill
  intro l c e r d s hlive hs hkind hdst hsrc heye hrate hd hhead f offer congested noRise hold
  have fill : (s.taken l c).probeFill e d.state = f := by simp [State.probeFill, f]
  refine ⟨_, exec_probeTaken_of_judged hlive hs hkind hdst hsrc heye hrate hd hhead, ?_⟩
  by_cases closed : d.state = .closed
  · rw [closed] at fill ⊢
    rw [State.answerProbe_closed, fill]
    exact ⟨fun _ => by simp, fun h => absurd rfl h, rfl, by simp, fun k hk => by simp [PerEye.get_set, hk]⟩
  · have answer : replySeen r f (decide (d.state = .holding)) = ⟨offer, congested, noRise, hold⟩ := replySeen_eq _ _ _
    rw [State.answerProbe_of_open (s := s.taken l c) r hs closed, fill, answer]
    exact ⟨fun h => absurd h closed, fun _ => ⟨by simp, rfl, rfl⟩, rfl, by simp, fun k hk => by simp [PerEye.get_set, hk]⟩

end Sys2Proof.Machine

/-! The wear state at a local superframe boundary (section 6.4): what the motion counts and the sample of the proximity line
make of it, said once, and the statement O32 put together from it. -/

namespace Sys2Proof.Machine

/-! ### The motion unit's changes of state -/

/-- A change of motion state leaves in the motion unit what the change makes of it (R121). -/
@[simp] theorem State.motionTo_motion (s : State) (f : Motion → Motion) : (s.motionTo f).motion = f s.motion := by
  simp [State.motionTo]

/-- Falling asleep leaves the debounced wear state and its run (R123). -/
theorem State.fallAsleep_wear (s : State) :
    s.fallAsleep.motion.worn = s.motion.worn ∧ s.fallAsleep.motion.wearRun = s.motion.wearRun := by
  unfold State.fallAsleep
  split <;> simp [Motion.toDoze]

/-- Waking up leaves the debounced wear state and its run (R123). -/
theorem State.wakeUp_wear (s : State) :
    s.wakeUp.motion.worn = s.motion.worn ∧ s.wakeUp.motion.wearRun = s.motion.wearRun := by
  unfold State.wakeUp
  split <;> simp [Motion.toSampling]

/-- The motion counts at a boundary, and the changes of state their ends bring, leave the debounced wear state and its run
(R123). -/
theorem State.motionBoundary_wear (s : State) :
    s.motionBoundary.motion.worn = s.motion.worn ∧ s.motionBoundary.motion.wearRun = s.motion.wearRun := by
  unfold State.motionBoundary
  cases s.motion.state with
  | sampling =>
    dsimp only
    generalize (if s.motion.worn then 0 else s.motion.notWorn + 1) = n
    split <;> simp [State.fallAsleep_wear]
  | waking => dsimp only; split <;> simp [State.wakeUp_wear]
  | off => exact ⟨rfl, rfl⟩
  | doze => exact ⟨rfl, rfl⟩

/-! ### The sample of the proximity line (R122) -/

/-- A change of the wear state sets the level sampled and clears the run, whatever the motion state. -/
theorem State.wearTo_wear (s : State) (w : Bool) : (s.wearTo w).motion.worn = w ∧ (s.wearTo w).motion.wearRun = 0 := by
  unfold State.wearTo
  dsimp only
  split <;> simp [Motion.toWaking]

/-- A sample that agrees with the wear state clears the run. -/
theorem State.sampleWear_of_agrees {s : State} {w : Bool} (agrees : w = s.motion.worn) :
    s.sampleWear w = { s with motion := { s.motion with wearRun := 0 } } := if_pos agrees

/-- A sample that differs, the first to the third in a row, counts on. -/
theorem State.sampleWear_of_early {s : State} {w : Bool} (differs : w ≠ s.motion.worn) (early : s.motion.wearRun < 3) :
    s.sampleWear w = { s with motion := { s.motion with wearRun := s.motion.wearRun + 1 } } := by
  have short : ¬4 ≤ s.motion.wearRun + 1 := by omega
  rw [State.sampleWear, if_neg differs, if_neg short]

/-- The fourth sample in a row that differs changes the wear state. -/
theorem State.sampleWear_of_fourth {s : State} {w : Bool} (differs : w ≠ s.motion.worn) (fourth : 3 ≤ s.motion.wearRun) :
    s.sampleWear w = s.wearTo w := by
  have full : 4 ≤ s.motion.wearRun + 1 := by omega
  rw [State.sampleWear, if_neg differs, if_pos full]

/-! ### The boundary at HEADSET -/

/-- The state in which a boundary at HEADSET samples the proximity line: the conversion begun, the DELAY wait and the motion
counts stepped, and the calls made that their changes bring (R149, R118, R123). -/
def State.atWearSample (s : State) : State :=
  { s with power := { s.power with converting := true } }.delayBoundary.calling State.motionBoundary

/-- LOCAL_SUPERFRAME_BOUNDARY at HEADSET samples the proximity line last (R122). -/
theorem exec_localSuperframeBoundary_of_headset {s : State} (w : Bool) (hlive : s.live) (hs : s.station = .headset) :
    exec (.localSuperframeBoundary w) s = .next (s.atWearSample.calling fun t => t.sampleWear w) := by
  have arm : exec (.localSuperframeBoundary w) s = execLocalSuperframeBoundary w s := rfl
  simp only [arm, execLocalSuperframeBoundary, if_pos hlive, hs, State.atWearSample]

/-- What a boundary does before the proximity line is sampled leaves the debounced wear state and its run. -/
theorem State.atWearSample_wear (s : State) :
    s.atWearSample.motion.worn = s.motion.worn ∧ s.atWearSample.motion.wearRun = s.motion.wearRun := by
  simp [State.atWearSample, State.motionBoundary_wear]

/-- Settles O32: the wear state and its run reach the sample as they were, and the sample agrees, differs, or is the fourth in a
row that differs. -/
theorem wearIsDebouncedOverFourBoundaries : Obligations.WearIsDebouncedOverFourBoundaries := by
  unfold Obligations.WearIsDebouncedOverFourBoundaries
  refine ⟨rfl, fun w s hlive hs => ⟨_, exec_localSuperframeBoundary_of_headset w hlive hs, ?_⟩⟩
  obtain ⟨worn, run⟩ := s.atWearSample_wear
  rw [← worn, ← run]
  simp only [State.calling_keeps]
  refine ⟨fun agrees => ?_, fun differs early => ?_, fun differs fourth => ?_⟩
  · rw [State.sampleWear_of_agrees agrees]
    exact ⟨rfl, rfl⟩
  · rw [State.sampleWear_of_early differs early]
    exact ⟨rfl, rfl⟩
  · rw [State.sampleWear_of_fourth differs fourth]
    exact State.wearTo_wear _ w

end Sys2Proof.Machine

/-! The mixer (section 7.4): its rounding, its saturation, and the output frame for each kind of play register, said once, and
the statement O40 put together from them. -/

namespace Sys2Proof.Machine

/-! ### Scaling (R141) -/

/-- A sample that is not negative is scaled by adding a half and rounding down. -/
theorem scaled_natCast (n g : Nat) : scaled n g = ((n * g * 2 + 32768) / 65536 : Nat) := by
  simp [scaled]

/-- Scaling treats the two signs alike, so a tie, which goes up on the positive side, goes away from zero. -/
theorem scaled_neg (x : Int) (g : Nat) : scaled (-x) g = -scaled x g := by
  simp only [scaled, Int.natAbs_neg]
  obtain neg | rfl | pos := Int.lt_trichotomy x 0
  · rw [if_neg (by omega), if_pos neg, neg_neg]
  · simp
  · rw [if_pos (by omega), if_neg (by omega)]

/-- The scaled sample is within a half of the exact quotient, and at a half it is the further one from zero (R141). -/
theorem scaled_nearest (x : Int) (g : Nat) :
    2 * (scaled x g * 32768 - x * g).natAbs ≤ 32768 ∧
      (2 * (scaled x g * 32768 - x * g).natAbs = 32768 → (x * g).natAbs < (scaled x g * 32768).natAbs) := by
  have nonneg (n : Nat) :
      2 * (scaled n g * 32768 - n * g).natAbs ≤ 32768 ∧
        (2 * (scaled n g * 32768 - n * g).natAbs = 32768 → ((n : Int) * g).natAbs < (scaled n g * 32768).natAbs) := by
    rw [scaled_natCast, ← Int.natCast_mul]
    omega
  obtain ⟨n, rfl | rfl⟩ := x.eq_nat_or_neg
  · exact nonneg n
  · have mirrored : -scaled n g * 32768 - -(n : Int) * g = -(scaled n g * 32768 - n * g) := by ring
    rw [scaled_neg, mirrored, neg_mul, neg_mul]
    simpa only [Int.natAbs_neg] using nonneg n

/-! ### The two parts and their sum (R141, R142) -/

/-- A saturated value is a signed 24-bit one. -/
theorem sat24_range (x : Int) : -8388608 ≤ sat24 x ∧ sat24 x ≤ 8388607 := by
  unfold sat24
  omega

/-- Away from CONSOLE the sink plays AUDIO-OUT, with that flow's channel count. -/
theorem State.sinkTwo_of_ne_console {s : State} (h : s.station ≠ .console) : s.sinkTwo = s.cfg.twoOut := if_neg h

/-- Away from CONSOLE the sink's idle frame is AUDIO-OUT's pattern. -/
theorem State.sinkIdle_of_ne_console {s : State} (h : s.station ≠ .console) :
    s.sinkIdle = idleFrame s.cfg.idleOut s.cfg.twoOut := by
  rw [State.sinkIdle, if_neg h, State.sinkTwo_of_ne_console h]

/-- Away from CONSOLE every output frame is a mixed one, its values saturated. -/
theorem State.outputFrame_range {s : State} (h : s.station ≠ .console) (mic : Int) :
    (-8388608 ≤ (s.outputFrame mic).ch1 ∧ (s.outputFrame mic).ch1 ≤ 8388607) ∧
      -8388608 ≤ (s.outputFrame mic).ch2 ∧ (s.outputFrame mic).ch2 ≤ 8388607 := by
  simp only [State.outputFrame, if_neg h, mixed]
  exact ⟨sat24_range _, sat24_range _⟩

/-- A frame of a received block is scaled by the volume's gain; a one-channel flow is heard on both channels. -/
theorem State.outputFrame_of_received {s : State} (h : s.station ≠ .console) (mic : Int) {frames : List Frame} {f : Frame}
    (play : s.audio.sink.play = .received frames) (current : frames[s.audio.sink.position]? = some f) :
    s.outputFrame mic =
      { ch1 := mixed (scaled f.ch1 (gain s.audio.volume)) (s.sidetonePart mic),
        ch2 := mixed (scaled (if s.cfg.twoOut then f.ch2 else f.ch1) (gain s.audio.volume)) (s.sidetonePart mic) } := by
  have frame : s.playFrame = (f, true) := by
    simp [State.playFrame, play, List.getD_eq_getElem?_getD, current]
  simp only [State.outputFrame, if_neg h, frame, if_true, State.sinkTwo_of_ne_console h]

/-- An idle block's pattern is not scaled. -/
theorem State.outputFrame_of_idle {s : State} (h : s.station ≠ .console) (mic : Int) (play : s.audio.sink.play = .idle) :
    s.outputFrame mic =
      { ch1 := mixed s.cfg.idleOut.ch1 (s.sidetonePart mic),
        ch2 := mixed (if s.cfg.twoOut then s.cfg.idleOut.ch2 else s.cfg.idleOut.ch1) (s.sidetonePart mic) } := by
  have frame : s.playFrame = (idleFrame s.cfg.idleOut s.cfg.twoOut, false) := by
    simp [State.playFrame, play, State.sinkIdle_of_ne_console h]
  simp only [State.outputFrame, if_neg h, frame, State.sinkTwo_of_ne_console h, idleFrame]
  cases s.cfg.twoOut <;> rfl

/-- Settles O40: the rounding is that of `scaled_nearest`, every frame is saturated, and a frame is received or idle. -/
theorem mixerScalesAddsAndSaturates : Obligations.MixerScalesAddsAndSaturates := by
  unfold Obligations.MixerScalesAddsAndSaturates
  refine ⟨scaled_nearest, rfl, fun mic s h => ⟨?range, fun frames f play current => ?received, fun play => ?idle⟩⟩
  case range => exact and_assoc.mp (s.outputFrame_range h mic)
  case received =>
    rw [State.outputFrame_of_received h mic play current]
    exact ⟨rfl, rfl⟩
  case idle =>
    rw [State.outputFrame_of_idle h mic play]
    exact ⟨rfl, rfl⟩

end Sys2Proof.Machine

/-! What a step can do, said once: every command completes, and `Effect` lists what each makes of the state, with the conditions
under which it does so. The statements O1 to O4 about the machine and its resets follow, and the invariants O56 to O60 later. -/

namespace Sys2Proof.Machine

/-! ### What a command can make of a state -/

/-- The resets and the start states (chapter 11). -/
inductive State.StartEffect (s : State) : State → Prop where
  | reset (c : Cause) : s.StartEffect (s.resetNode c)
  | endOfReset (stn : Station) (sup : BitVec 2) (srec : Bool) (h : s.start = .reset) :
      s.StartEffect ({ s with start := .loading, station := stn, sup := sup, srec := srec }.modTx .up fun t =>
        { t with role := if stn = Station.console then TxRole.terminal else TxRole.silent })
  | endOfLoading (memory : List Byte) (h : s.start = .loading) :
      s.StartEffect ((((s.applyRecord memory).makeRecords.powerUp).startTx.startRx .down).startRx .up)
  | settle (h : s.start = .linking) : s.StartEffect s.settleRoles
  | settleLinked (h : s.start = .linking) : s.StartEffect s.settleRoles.enterRunning
  | enterRunning (h : s.start = .linking) : s.StartEffect s.enterRunning

/-- What a receiver finds on its port (sections 1.3 to 1.6). -/
inductive State.LaneEffect (s : State) : State → Prop where
  | signal (p : PerLane Bool) : s.LaneEffect { s with pins := { s.pins with signal := p } }
  | findSignal (l : Lane) (p : PerLane Bool) : s.LaneEffect ({ s with pins := { s.pins with signal := p } }.findSignal l)
  | lateNeighbour (l : Lane) (p : PerLane Bool) : s.LaneEffect ({ s with pins := { s.pins with signal := p } }.lateNeighbour l)
  | loseSignal (l : Lane) (p : PerLane Bool) (h : s.live) :
      s.LaneEffect ({ s with pins := { s.pins with signal := p } }.leaveLocked l .dark none)
  | goDark (l : Lane) (p : PerLane Bool) :
      s.LaneEffect ({ s with pins := { s.pins with signal := p } }.modRx l fun r => r.clear .dark)
  | candidate (l : Lane) (i : AlignInfo) :
      s.LaneEffect (s.modRx l fun r => { r.clear .confirm with confirm := 1, frame := i.frame }.accept i)
  | confirmCell (l : Lane) (found : Option Cell) (h : s.live) : s.LaneEffect (s.confirmCell l found)
  | alignCorrect (l : Lane) (i : AlignInfo) (h : s.live) : s.LaneEffect (s.alignCorrect l i)
  | alignError (l : Lane) (h : s.live) : s.LaneEffect (s.alignError l)
  | tableTimeout (l : Lane) (h : s.live) : s.LaneEffect (s.calling fun t => t.timeoutLane l)

/-- What a transmitter sends, and the payload slots that a receiver passes on (chapters 1, 2 and 9). -/
inductive State.SendEffect (s : State) : State → Prop where
  | originAlign (l : Lane) (q : Quiet) (h : s.live) : s.SendEffect (s.originAlign l q)
  | ownAlign (l : Lane) (fault : Bool) (h : s.live) : s.SendEffect (s.ownAlign l fault)
  | repeatAlign (l : Lane) (d : Bool) (i : AlignInfo) (h : s.live) : s.SendEffect (s.repeatAlign l d i)
  | arrive (l : Lane) (c : Cell) : s.SendEffect (s.modRx l fun r => r.arrive c)
  | decideCell (l : Lane) (c : Cell) : s.SendEffect ((s.modRx l fun r => r.arrive c).decideCell l c)
  | payGap (l : Lane) : s.SendEffect ((s.modTx l fun t => { t with gapOwed := false }).sendIdle l)
  | insert (l : Lane) (h : s.running) : s.SendEffect (s.insert l (s.winner l))
  | sendIdle (l : Lane) : s.SendEffect (s.sendIdle l)
  | frameStart (hs : s.station = .console) :
      s.SendEffect (s.modTx .down fun t => { t with frame := t.frame + 1, offset := 0, sentPrev := some .deep }).syncClock.accrueAll

/-- What a block makes of a cell that it takes. -/
inductive State.CellEffect (s : State) : State → Prop where
  | taken (l : Lane) (c : Cell) : s.CellEffect (s.taken l c)
  | takeData (l : Lane) (c : Cell) (h : s.live) : s.CellEffect ((s.taken l c).takeData l c)
  | answerProbe (l : Lane) (c : Cell) (e : Eye) (d : DstState) (r : RateCell) (h : s.live) :
      s.CellEffect ((s.taken l c).answerProbe e d r)
  | takeReply (l : Lane) (c : Cell) (e : Eye) (r : RateCell) (h : s.live) (hs : s.station = .console) :
      s.CellEffect ((s.taken l c).takeReply e r)
  | hear (l : Lane) (c : Cell) (r : Report) (h : s.live) (hr : readReport c = some r) :
      s.CellEffect ((s.taken l c).calling fun x => x.hear c.src r)
  | echo (l : Lane) (c : Cell) (k : Num8) :
      s.CellEffect ({ s.taken l c with surveyed := { s.surveyed with awaited := some k, wait := 8 } }.offerTo .console
        (.echoBack k s.localSlot))
  | delay (l : Lane) (c : Cell) (d : Count32) :
      s.CellEffect ({ s.taken l c with
        surveyed := { offset := d, known := true, awaited := none, wait := 0 } }.syncClock.post .delaySet
          (.station s.station) d.toNat)
  | echoAnswered (l : Lane) (c : Cell) (n : Nat) : s.CellEffect ((s.taken l c).echoAnswered c.src n)
  | resurvey (l : Lane) (c : Cell) : s.CellEffect ((s.taken l c).startSurvey c.src)
  | moveVolume (l : Lane) (c : Cell) (q : Bool) : s.CellEffect ((s.taken l c).moveVolume q)
  | toggleMute (l : Lane) (c : Cell) : s.CellEffect ((s.taken l c).toggleMute)
  | postButton (l : Lane) (c : Cell) (n : Nat) : s.CellEffect ((s.taken l c).postButton n)
  | answerRelay (l : Lane) (c : Cell) (r : RelayCell) (h : s.running) :
      s.CellEffect ((s.taken l c).answerRelay c.src r.tag r.bytes)
  | storeAnswer (l : Lane) (c : Cell) (r : RelayCell) : s.CellEffect ((s.taken l c).storeAnswer r)

/-- The slice input port and the display port (chapter 5). -/
inductive State.PictureEffect (s : State) : State → Prop where
  | answerSlice (e : Eye) (a : SliceAnswer) : s.PictureEffect (s.answerSlice e a)
  | refuseSlice (e : Eye) (a : SliceAnswer) :
      s.PictureEffect ((s.count (Eye.flow e) fun c => { c with roomRefusals := satInc c.roomRefusals }).answerSlice e a)
  | enterSlice (e : Eye) (p : Num8) (i : BitVec 6) (k : Layer) (n : Nat) (d : List Byte) (hs : s.station = .console)
      (h : s.running) (hn : n ≤ 4096) : s.PictureEffect ((s.idleReset e).entryPolicy e (newSlice p i k n d))
  | drainHeld (e : Eye) (hs : s.station = .console) (h : s.running) :
      s.PictureEffect ((s.modPaced e Paced.dropHeld).enterPaced e .draining)
  | drain (e : Eye) (hs : s.station = .console) (h : s.running) : s.PictureEffect (s.enterPaced e .draining)
  | displayReady (e : Eye) (p : PerEye Bool) : s.PictureEffect { s with pins := { s.pins with displayReady := p } }
  | displayReadyRise (e : Eye) (p : PerEye Bool) :
      s.PictureEffect ({ s with pins := { s.pins with displayReady := p } }.considerRelease e)
  | pictureTaken (e : Eye) (n : Num8) :
      s.PictureEffect ((s.modEye e fun y => { y with lastTaken := some n, buffer := purgeTaken n y.buffer }).considerRelease e)
  | pictureTakenBreaking (e : Eye) (n : Num8) :
      s.PictureEffect (((s.breakEye e).modEye e fun y =>
        { y with lastTaken := some n, buffer := purgeTaken n y.buffer }).considerRelease e)

/-- The sensor port, the motion output, the surveys and the local superframe boundary (chapter 6). -/
inductive State.MotionEffect (s : State) : State → Prop where
  | overrun (k : Nat) :
      s.MotionEffect ({ s with motion := { s.motion with silence := k } }.count .motion fun c =>
        { c with overruns := satInc c.overruns })
  | edge (k d : Nat) (r : Option Reading) :
      s.MotionEffect { s with motion := { s.motion with silence := k, decimation := d, reading := r } }
  | readCompletion (r : Reading) (axes : Axes) :
      s.MotionEffect { s with motion := { s.motion.form r.time r.unsettled r.doze false axes with reading := none } }
  | motionReady (b : Bool) : s.MotionEffect { s with pins := { s.pins with motionReady := b } }
  | deliver : s.MotionEffect { s with pins := { s.pins with motionReady := true } }.deliver
  | consoleBoundary (h : s.live) : s.MotionEffect { s with power := { s.power with converting := true } }.surveyBoundaries
  | headsetBoundary (w : Bool) (h : s.live) :
      s.MotionEffect (({ s with power := { s.power with converting := true } }.delayBoundary.calling State.motionBoundary).calling
        fun t => t.sampleWear w)
  | otherBoundary (h : s.live) : s.MotionEffect { s with power := { s.power with converting := true } }.delayBoundary
  | wearTo (w : Bool) (h : s.live) : s.MotionEffect (s.calling fun t => t.wearTo w)
  | fallAsleep (h : s.live) : s.MotionEffect (s.calling State.fallAsleep)
  | wakeUp : s.MotionEffect s.wakeUp
  | sensorSilent : s.MotionEffect s.sensorSilent
  | surveyTimeout (t : Station) : s.MotionEffect (s.surveyTimeout t)
  | echoDiscarded (t : Station) : s.MotionEffect (s.echoDiscarded t)
  | delayWaitExpiry : s.MotionEffect s.delayWaitExpiry

/-- The audio port and the buttons (chapter 7). -/
inductive State.AudioEffect (s : State) : State → Prop where
  | clockEdge (x : Frame) (mic : Int) (h : s.live) :
      s.AudioEffect (({ s with audio := { s.audio with clock := true } }.followSource.buildStep x).sinkStep mic)
  | clockEdgeNoSource (mic : Int) (h : s.live) :
      s.AudioEffect ({ s with audio := { s.audio with clock := true } }.followSource.sinkStep mic)
  | clockAbsent : s.AudioEffect { s with audio := { s.audio with clock := false } }.followSource
  | sampleLines (a b c : Bool) : s.AudioEffect (((s.sampleLine .volUp a).sampleLine .volDown b).sampleLine .mute c)
  | lineTo (b : Button) (p : Bool) : s.AudioEffect (s.lineTo b p)

/-- The monitors, the supply and the power RI boundary (chapters 8 and 9). -/
inductive State.PowerEffect (s : State) : State → Prop where
  | sampleEvent (r l a : BitVec 10) (h : s.live) : s.PowerEffect (s.takeValues r l a).judgeSample.judgeBrownout
  | trip (h : s.live) : s.PowerEffect (s.calling State.trip)
  | reclose (h : s.live) : s.PowerEffect (s.calling State.reclose)
  | powerBoundary (h : s.live) : s.PowerEffect s.powerSteps
  | powerBoundaryRunning (h : s.running) : s.PowerEffect s.powerSteps.balanceStep.reportTest
  | silence (t : Station) (h : s.live) : s.PowerEffect (s.calling fun x => x.silence t)
  | keepAlive (h : s.running) : s.PowerEffect s.balanceStep

/-- The service line, the relay wait and the status pulses (chapter 10). -/
inductive State.LineEffect (s : State) : State → Prop where
  | relayTimeout : s.LineEffect s.relayTimeout
  | pulses (p : Pulses) : s.LineEffect { s with pulses := p }
  | request (r : Request) : s.LineEffect (s.request r)
  | feedByte (b : Byte) : s.LineEffect (s.feedByte b)
  | setParser (p : Parser) : s.LineEffect (s.setParser p)
  | answerSent (b : Byte) (rest : List Byte) (h : s.service.answers = b :: rest) :
      s.LineEffect (s.modService fun v => { v with answers := rest, sent := some b })

/-- What a command can make of a state: nothing, or what one of the branches of its meaning does. Each family has one constructor
for each such branch, under the conditions of the branch that the invariants need. -/
inductive State.Effect (s : State) : State → Prop where
  | same : s.Effect s
  | start (t : State) (h : s.StartEffect t) : s.Effect t
  | lane (t : State) (h : s.LaneEffect t) : s.Effect t
  | send (t : State) (h : s.SendEffect t) : s.Effect t
  | cell (t : State) (h : s.CellEffect t) : s.Effect t
  | picture (t : State) (h : s.PictureEffect t) : s.Effect t
  | motion (t : State) (h : s.MotionEffect t) : s.Effect t
  | audio (t : State) (h : s.AudioEffect t) : s.Effect t
  | power (t : State) (h : s.PowerEffect t) : s.Effect t
  | line (t : State) (h : s.LineEffect t) : s.Effect t

/-- An outcome is a next state, and the state is an effect on the one before. -/
def Effects (s : State) (o : Host.Outcome State Fault Refusal) : Prop := ∃ t, o = .next t ∧ s.Effect t

/-- A next state is an effect where the state is. -/
theorem Effects.next {s t : State} (h : s.Effect t) : Effects s (.next t) := ⟨t, rfl, h⟩

/-- A command that takes a cell: the cell stays, or it leaves and the judgement follows (R34). -/
theorem Effects.take {s : State} {l : Lane} {c : Cell} {f : State → State} (h : s.Effect (f (s.taken l c))) :
    Effects s (.next (s.take l c f)) := by
  refine .next ?_
  unfold State.take
  split
  · exact h
  · exact .same

/-! ### Command by command -/

theorem execBrownout_effects (s : State) : Effects s (execBrownout s) := by
  unfold execBrownout
  split
  · exact .next (.start _ (.reset _))
  · exact .next .same

theorem execEndOfReset_effects (stn : Station) (sup : BitVec 2) (srec : Bool) (s : State) :
    Effects s (execEndOfReset stn sup srec s) := by
  unfold execEndOfReset
  split
  · exact .next (.start _ (.endOfReset _ _ _ ‹_›))
  · exact .next .same

theorem execEndOfLoading_effects (memory : List Byte) (s : State) : Effects s (execEndOfLoading memory s) := by
  unfold execEndOfLoading
  split
  · exact .next (.start _ (.endOfLoading _ ‹_›))
  · exact .next .same

theorem execRolesSettle_effects (s : State) : Effects s (execRolesSettle s) := by
  unfold execRolesSettle
  split
  · rename_i h
    split
    · exact .next (.start _ (.settleLinked h.1))
    · exact .next (.start _ (.settle h.1))
  · exact .next .same

theorem execEndOfLinking_effects (s : State) : Effects s (execEndOfLinking s) := by
  unfold execEndOfLinking
  split
  · rename_i h
    exact .next (.start _ (.enterRunning h.1))
  · exact .next .same

theorem execLinkingTimeout_effects (s : State) : Effects s (execLinkingTimeout s) := by
  unfold execLinkingTimeout
  split
  · rename_i h
    exact .next (.start _ (.enterRunning h.1))
  · exact .next .same

theorem execSignalPresent_effects (l : Lane) (s : State) : Effects s (execSignalPresent l s) := by
  unfold execSignalPresent
  dsimp only
  split
  · split
    · exact .next (.lane _ (.findSignal _ _))
    · exact .next (.lane _ (.lateNeighbour _ _))
  · exact .next (.lane _ (.signal _))

theorem execSignalAbsent_effects (l : Lane) (s : State) : Effects s (execSignalAbsent l s) := by
  unfold execSignalAbsent
  dsimp only
  split
  · rename_i h
    exact .next (.lane _ (.loseSignal _ _ h.1))
  · split
    · exact .next (.lane _ (.goDark _ _))
    · exact .next (.lane _ (.signal _))

theorem execCandidateAlignmentCell_effects (l : Lane) (cell : Cell) (s : State) :
    Effects s (execCandidateAlignmentCell l cell s) := by
  unfold execCandidateAlignmentCell
  split
  · split
    · exact .next (.lane _ (.candidate _ _))
    · exact .next .same
  · exact .next .same

theorem execExpectedAlignmentCell_effects (l : Lane) (found : Option Cell) (s : State) :
    Effects s (execExpectedAlignmentCell l found s) := by
  unfold execExpectedAlignmentCell
  split
  · rename_i live
    split
    · exact .next (.lane _ (.confirmCell _ _ live))
    · split
      · exact .next (.lane _ (.alignCorrect _ _ live))
      · exact .next (.lane _ (.alignError _ live))
    · exact .next .same
    · exact .next .same
  · exact .next .same

theorem execStationTableTimeout_effects (l : Lane) (s : State) : Effects s (execStationTableTimeout l s) := by
  unfold execStationTableTimeout
  split
  · rename_i h
    exact .next (.lane _ (.tableTimeout _ h.1))
  · exact .next .same

theorem execAlignmentCellSent_effects (l : Lane) (s : State) : Effects s (execAlignmentCellSent l s) := by
  unfold execAlignmentCellSent
  dsimp only
  split
  · rename_i live
    split
    · exact .next (.send _ (.originAlign _ _ live))
    · exact .next (.send _ (.ownAlign _ _ live))
    · split
      · exact .next (.send _ (.repeatAlign _ _ _ live))
      · exact .next (.send _ (.ownAlign _ _ live))
    · split
      · exact .next (.send _ (.repeatAlign _ _ _ live))
      · exact .next .same
    · exact .next .same
    · exact .next .same
  · exact .next .same

theorem execPayloadSlotReceived_effects (l : Lane) (cell : Cell) (s : State) :
    Effects s (execPayloadSlotReceived l cell s) := by
  unfold execPayloadSlotReceived
  dsimp only
  split
  · split
    · exact .next (.send _ (.decideCell _ _))
    · exact .next (.send _ (.arrive _ _))
  · exact .next .same

theorem execIdleSlotArbitration_effects (l : Lane) (s : State) : Effects s (execIdleSlotArbitration l s) := by
  unfold execIdleSlotArbitration
  split
  · split
    · rename_i h
      split
      · exact .next (.send _ (.payGap _))
      · exact .next (.send _ (.insert _ h.1))
    · exact .next (.send _ (.sendIdle _))
  · exact .next .same

theorem execDataCellTaken_effects (lane : Lane) (cell : Cell) (s : State) : Effects s (execDataCellTaken lane cell s) := by
  refine .take ?_
  split
  · rename_i h
    exact .cell _ (.takeData _ _ h.1)
  · exact .cell _ (.taken _ _)

theorem execProbeTaken_effects (lane : Lane) (cell : Cell) (s : State) : Effects s (execProbeTaken lane cell s) := by
  refine .take ?_
  split
  · rename_i h
    split
    · split
      · exact .cell _ (.answerProbe _ _ _ _ _ h.1)
      · exact .cell _ (.taken _ _)
    · exact .cell _ (.taken _ _)
  · exact .cell _ (.taken _ _)

theorem execReplyTaken_effects (lane : Lane) (cell : Cell) (s : State) : Effects s (execReplyTaken lane cell s) := by
  refine .take ?_
  split
  · rename_i h
    split
    · exact .cell _ (.takeReply _ _ _ _ h.1 h.2.1)
    · exact .cell _ (.taken _ _)
  · exact .cell _ (.taken _ _)

theorem execPowerReportTaken_effects (lane : Lane) (cell : Cell) (s : State) :
    Effects s (execPowerReportTaken lane cell s) := by
  refine .take ?_
  split
  · rename_i h
    split
    · rename_i hr
      exact .cell _ (.hear _ _ _ h.1 hr)
    · exact .cell _ (.taken _ _)
  · exact .cell _ (.taken _ _)

theorem execEchoTaken_effects (lane : Lane) (cell : Cell) (s : State) : Effects s (execEchoTaken lane cell s) := by
  refine .take ?_
  split
  · exact .cell _ (.echo _ _ _)
  · exact .cell _ (.taken _ _)

theorem execDelayTaken_effects (lane : Lane) (cell : Cell) (s : State) : Effects s (execDelayTaken lane cell s) := by
  refine .take ?_
  split
  · exact .cell _ (.delay _ _ _)
  · exact .cell _ (.taken _ _)

theorem execEchoBackTaken_effects (lane : Lane) (cell : Cell) (s : State) : Effects s (execEchoBackTaken lane cell s) := by
  refine .take ?_
  dsimp only
  split
  · exact .cell _ (.echoAnswered _ _ _)
  · exact .cell _ (.taken _ _)

theorem execResurveyTaken_effects (lane : Lane) (cell : Cell) (s : State) : Effects s (execResurveyTaken lane cell s) := by
  refine .take ?_
  split
  · exact .cell _ (.resurvey _ _)
  · exact .cell _ (.taken _ _)

theorem execVolumeCellTaken_effects (lane : Lane) (cell : Cell) (s : State) : Effects s (execVolumeCellTaken lane cell s) := by
  refine .take ?_
  split
  · exact .cell _ (.moveVolume _ _ _)
  · exact .cell _ (.taken _ _)

theorem execMuteCellTaken_effects (lane : Lane) (cell : Cell) (s : State) : Effects s (execMuteCellTaken lane cell s) := by
  refine .take ?_
  split
  · exact .cell _ (.toggleMute _ _)
  · exact .cell _ (.taken _ _)

theorem execButtonCellTaken_effects (lane : Lane) (cell : Cell) (s : State) : Effects s (execButtonCellTaken lane cell s) := by
  refine .take ?_
  split
  · exact .cell _ (.postButton _ _ _)
  · exact .cell _ (.taken _ _)

theorem execRelayRequestTaken_effects (lane : Lane) (cell : Cell) (s : State) :
    Effects s (execRelayRequestTaken lane cell s) := by
  refine .take ?_
  split
  · rename_i h
    split
    · split
      · exact .cell _ (.answerRelay _ _ _ h.1)
      · exact .cell _ (.taken _ _)
    · exact .cell _ (.taken _ _)
  · exact .cell _ (.taken _ _)

theorem execRelayAnswerTaken_effects (lane : Lane) (cell : Cell) (s : State) :
    Effects s (execRelayAnswerTaken lane cell s) := by
  refine .take ?_
  split
  · split
    · split
      · exact .cell _ (.storeAnswer _ _ _)
      · exact .cell _ (.taken _ _)
    · exact .cell _ (.taken _ _)
  · exact .cell _ (.taken _ _)

theorem execSliceOffered_effects (e : Eye) (picture : Num8) (index : BitVec 6) (layer : BitVec 2) (length : Nat)
    (data : List Byte) (s : State) :
    Effects s (execSliceOffered e picture index layer length data s) := by
  unfold execSliceOffered
  dsimp only
  split
  · exact .next .same
  · rename_i station
    split
    · exact .next (.picture _ (.answerSlice _ _))
    · rename_i running
      split
      · exact .next (.picture _ (.refuseSlice _ _))
      · split
        · exact .next (.picture _ (.refuseSlice _ _))
        · split
          · exact .next (.picture _ (.refuseSlice _ _))
          · exact .next (.picture _ (.enterSlice _ _ _ _ _ _ (not_not.1 station) (not_not.1 running) (by omega)))

theorem execEndOfStream_effects (e : Eye) (s : State) : Effects s (execEndOfStream e s) := by
  unfold execEndOfStream
  split
  · exact .next .same
  · rename_i h
    rw [not_or, not_not, not_not] at h
    split
    · exact .next .same
    · exact .next (.picture _ (.drainHeld _ h.1 h.2))
    · exact .next (.picture _ (.drain _ h.1 h.2))
    · exact .next (.picture _ (.drain _ h.1 h.2))

theorem execPictureTaken_effects (e : Eye) (n : Num8) (s : State) : Effects s (execPictureTaken e n s) := by
  unfold execPictureTaken
  dsimp only
  split
  · split
    · exact .next (.picture _ (.pictureTakenBreaking _ _))
    · exact .next (.picture _ (.pictureTaken _ _))
  · exact .next .same

theorem execDataReadyEdge_effects (s : State) : Effects s (execDataReadyEdge s) := by
  unfold execDataReadyEdge
  dsimp only
  split
  · exact .next .same
  · by_cases sampling : s.motion.state = .sampling
    · simp only [if_pos sampling]
      split
      · exact .next (.motion _ (.overrun _))
      · exact .next (.motion _ (.edge _ _ _))
    · simp only [if_neg sampling]
      split
      · exact .next (.motion _ (.overrun s.motion.silence))
      · exact .next (.motion _ (.edge s.motion.silence _ _))

theorem execReadCompletion_effects (axes : Axes) (s : State) : Effects s (execReadCompletion axes s) := by
  unfold execReadCompletion
  split
  · exact .next (.motion _ (.readCompletion _ _))
  · exact .next .same

theorem execLocalSuperframeBoundary_effects (worn : Bool) (s : State) : Effects s (execLocalSuperframeBoundary worn s) := by
  unfold execLocalSuperframeBoundary
  dsimp only
  split
  · rename_i live
    split
    · exact .next (.motion _ (.consoleBoundary live))
    · exact .next (.motion _ (.headsetBoundary _ live))
    · exact .next (.motion _ (.otherBoundary live))
    · exact .next (.motion _ (.otherBoundary live))
  · exact .next .same

theorem execWearChange_effects (worn : Bool) (s : State) : Effects s (execWearChange worn s) := by
  unfold execWearChange
  split
  · rename_i h
    exact .next (.motion _ (.wearTo _ h.1))
  · exact .next .same

theorem execNotWornCountExpiry_effects (s : State) : Effects s (execNotWornCountExpiry s) := by
  unfold execNotWornCountExpiry
  split
  · rename_i h
    exact .next (.motion _ (.fallAsleep h.1))
  · exact .next .same

theorem execWakeHoldExpiry_effects (s : State) : Effects s (execWakeHoldExpiry s) := by
  unfold execWakeHoldExpiry
  split
  · exact .next (.motion _ .wakeUp)
  · exact .next .same

theorem execSensorSilent_effects (s : State) : Effects s (execSensorSilent s) := by
  unfold execSensorSilent
  split
  · exact .next (.motion _ .sensorSilent)
  · exact .next .same

theorem execSurveyTimeout_effects (t : Station) (s : State) : Effects s (execSurveyTimeout t s) := by
  unfold execSurveyTimeout
  split
  · exact .next (.motion _ (.surveyTimeout _))
  · exact .next .same

theorem execEchoDiscardFailure_effects (t : Station) (s : State) : Effects s (execEchoDiscardFailure t s) := by
  unfold execEchoDiscardFailure
  split
  · exact .next (.motion _ (.echoDiscarded _))
  · exact .next .same

theorem execFrameClockEdge_effects (ch1 ch2 : BitVec 24) (s : State) : Effects s (execFrameClockEdge ch1 ch2 s) := by
  unfold execFrameClockEdge
  dsimp only
  split
  · rename_i h
    split
    · exact .next (.audio _ (.clockEdge _ _ h.1))
    · exact .next (.audio _ (.clockEdgeNoSource _ h.1))
  · exact .next .same

theorem execFrameClockAbsent_effects (s : State) : Effects s (execFrameClockAbsent s) := by
  unfold execFrameClockAbsent
  split
  · exact .next (.audio _ .clockAbsent)
  · exact .next .same

theorem execButtonPress_effects (b : Button) (s : State) : Effects s (execButtonPress b s) := by
  unfold execButtonPress
  split
  · exact .next (.audio _ (.lineTo _ _))
  · exact .next .same

theorem execButtonRelease_effects (b : Button) (s : State) : Effects s (execButtonRelease b s) := by
  unfold execButtonRelease
  split
  · exact .next (.audio _ (.lineTo _ _))
  · exact .next .same

theorem execSampleEvent_effects (rail load aux : BitVec 10) (s : State) : Effects s (execSampleEvent rail load aux s) := by
  unfold execSampleEvent
  split
  · rename_i h
    exact .next (.power _ (.sampleEvent _ _ _ h.1))
  · exact .next .same

theorem execSupplyTrip_effects (s : State) : Effects s (execSupplyTrip s) := by
  unfold execSupplyTrip
  split
  · rename_i h
    exact .next (.power _ (.trip h.1))
  · exact .next .same

theorem execSupplyReclose_effects (s : State) : Effects s (execSupplyReclose s) := by
  unfold execSupplyReclose
  split
  · rename_i h
    exact .next (.power _ (.reclose h.1))
  · exact .next .same

theorem execPowerRiBoundary_effects (s : State) : Effects s (execPowerRiBoundary s) := by
  unfold execPowerRiBoundary
  split
  · rename_i live
    split
    · rename_i running
      exact .next (.power _ (.powerBoundaryRunning (s.powerSteps_keeps.1.symm.trans running)))
    · exact .next (.power _ (.powerBoundary live))
  · exact .next .same

theorem execViewEntrySilent_effects (t : Station) (s : State) : Effects s (execViewEntrySilent t s) := by
  unfold execViewEntrySilent
  split
  · rename_i h
    exact .next (.power _ (.silence _ h.1))
  · exact .next .same

theorem execKeepAliveCall_effects (s : State) : Effects s (execKeepAliveCall s) := by
  unfold execKeepAliveCall
  split
  · rename_i h
    exact .next (.power _ (.keepAlive h.1))
  · exact .next .same

theorem execStatusPulseEnd_effects (out : StatusPin) (s : State) : Effects s (execStatusPulseEnd out s) := by
  cases out <;> exact .next (.line _ (.pulses _))

theorem execFramingError_effects (s : State) : Effects s (execFramingError s) := by
  unfold execFramingError
  split
  · exact .next (.line _ (.setParser _))
  · exact .next .same

theorem execIdleGap_effects (s : State) : Effects s (execIdleGap s) := by
  unfold execIdleGap
  split
  · exact .next (.line _ (.setParser _))
  · exact .next .same
  · exact .next .same

theorem execDiscardEnd_effects (s : State) : Effects s (execDiscardEnd s) := by
  unfold execDiscardEnd
  split
  · exact .next (.line _ (.setParser _))
  · exact .next .same

theorem execLocalRiBoundary_effects (volUp volDown mute : Bool) (s : State) :
    Effects s (execLocalRiBoundary volUp volDown mute s) := by
  unfold execLocalRiBoundary
  split
  · exact .next (.audio _ (.sampleLines _ _ _))
  · exact .next .same

theorem execFrameStart_effects (s : State) : Effects s (execFrameStart s) := by
  unfold execFrameStart
  split
  · rename_i h
    exact .next (.send _ (.frameStart h.1))
  · exact .next .same

theorem execSuperframePulseStart_effects (s : State) : Effects s (execSuperframePulseStart s) := by
  unfold execSuperframePulseStart
  split
  · exact .next (.line _ (.pulses _))
  · exact .next .same

theorem execAnswerByteSent_effects (s : State) : Effects s (execAnswerByteSent s) := by
  unfold execAnswerByteSent
  split
  · rename_i h
    exact .next (.line _ (.answerSent _ _ h))
  · exact .next .same

/-- Every command completes, and what it makes of the state is one of its effects. -/
theorem exec_effects (c : Instr) (s : State) : Effects s (exec c s) := by
  cases c with
  | powerOn => exact .next (.start _ (.reset _))
  | pin => exact .next (.start _ (.reset _))
  | brownout => exact execBrownout_effects s
  | endOfReset stn sup srec => exact execEndOfReset_effects _ _ _ s
  | endOfLoading memory => exact execEndOfLoading_effects _ s
  | rolesSettle => exact execRolesSettle_effects s
  | endOfLinking => exact execEndOfLinking_effects s
  | linkingTimeout => exact execLinkingTimeout_effects s
  | signalPresent lane => exact execSignalPresent_effects _ s
  | signalAbsent lane => exact execSignalAbsent_effects _ s
  | candidateAlignmentCell lane cell => exact execCandidateAlignmentCell_effects _ _ s
  | expectedAlignmentCell lane found => exact execExpectedAlignmentCell_effects _ _ s
  | stationTableTimeout lane => exact execStationTableTimeout_effects _ s
  | alignmentCellSent lane => exact execAlignmentCellSent_effects _ s
  | payloadSlotReceived lane cell => exact execPayloadSlotReceived_effects _ _ s
  | idleSlotArbitration lane => exact execIdleSlotArbitration_effects _ s
  | dataCellTaken lane cell => exact execDataCellTaken_effects _ _ s
  | probeTaken lane cell => exact execProbeTaken_effects _ _ s
  | replyTaken lane cell => exact execReplyTaken_effects _ _ s
  | powerReportTaken lane cell => exact execPowerReportTaken_effects _ _ s
  | echoTaken lane cell => exact execEchoTaken_effects _ _ s
  | delayTaken lane cell => exact execDelayTaken_effects _ _ s
  | echoBackTaken lane cell => exact execEchoBackTaken_effects _ _ s
  | resurveyTaken lane cell => exact execResurveyTaken_effects _ _ s
  | volumeCellTaken lane cell => exact execVolumeCellTaken_effects _ _ s
  | muteCellTaken lane cell => exact execMuteCellTaken_effects _ _ s
  | buttonCellTaken lane cell => exact execButtonCellTaken_effects _ _ s
  | relayRequestTaken lane cell => exact execRelayRequestTaken_effects _ _ s
  | relayAnswerTaken lane cell => exact execRelayAnswerTaken_effects _ _ s
  | relayWaitExpiry => exact .next (.line _ .relayTimeout)
  | sliceOffered eye picture index layer length data => exact execSliceOffered_effects _ _ _ _ _ _ s
  | endOfStream eye => exact execEndOfStream_effects _ s
  | displayReadyRise eye => exact .next (.picture _ (.displayReadyRise _ _))
  | pictureTaken eye n => exact execPictureTaken_effects _ _ s
  | dataReadyEdge => exact execDataReadyEdge_effects s
  | readCompletion axes => exact execReadCompletion_effects _ s
  | motionReadyRise => exact .next (.motion _ .deliver)
  | localSuperframeBoundary worn => exact execLocalSuperframeBoundary_effects _ s
  | wearChange worn => exact execWearChange_effects _ s
  | notWornCountExpiry => exact execNotWornCountExpiry_effects s
  | wakeHoldExpiry => exact execWakeHoldExpiry_effects s
  | sensorSilent => exact execSensorSilent_effects s
  | surveyTimeout station => exact execSurveyTimeout_effects _ s
  | echoDiscardFailure station => exact execEchoDiscardFailure_effects _ s
  | delayWaitExpiry => exact .next (.motion _ .delayWaitExpiry)
  | frameClockEdge ch1 ch2 => exact execFrameClockEdge_effects _ _ s
  | frameClockAbsent => exact execFrameClockAbsent_effects s
  | buttonPress button => exact execButtonPress_effects _ s
  | buttonRelease button => exact execButtonRelease_effects _ s
  | sampleEvent rail load aux => exact execSampleEvent_effects _ _ _ s
  | supplyTrip => exact execSupplyTrip_effects s
  | supplyReclose => exact execSupplyReclose_effects s
  | powerRiBoundary => exact execPowerRiBoundary_effects s
  | viewEntrySilent station => exact execViewEntrySilent_effects _ s
  | keepAliveCall => exact execKeepAliveCall_effects s
  | statusPulseEnd out => exact execStatusPulseEnd_effects _ s
  | noticeTake => exact .next (.line _ (.request _))
  | countersTake group => exact .next (.line _ (.request _))
  | tableRead table index => exact .next (.line _ (.request _))
  | tableNext => exact .next (.line _ (.request _))
  | domainWant domain onOff => exact .next (.line _ (.request _))
  | volume step => exact .next (.line _ (.request _))
  | micMute onOff => exact .next (.line _ (.request _))
  | summary => exact .next (.line _ (.request _))
  | relay station inner => exact .next (.line _ (.request _))
  | relayTake => exact .next (.line _ (.request _))
  | unknownCode code => exact .next (.line _ (.feedByte _))
  | framingError => exact execFramingError_effects s
  | idleGap => exact execIdleGap_effects s
  | discardEnd => exact execDiscardEnd_effects s
  | localRiBoundary volUp volDown mute => exact execLocalRiBoundary_effects _ _ _ s
  | frameStart => exact execFrameStart_effects s
  | superframePulseStart => exact execSuperframePulseStart_effects s
  | answerByteSent => exact execAnswerByteSent_effects s
  | displayReadyFall eye => exact .next (.picture _ (.displayReady eye _))
  | motionReadyFall => exact .next (.motion _ (.motionReady _))

end Sys2Proof.Machine

namespace Sys2Proof.Machine

/-! ### What a request can make of a state (R189, R191) -/

/-- What acting on a request can make of a state, its answer apart. -/
inductive State.Served (s : State) : State → Prop where
  | same : s.Served s
  | noticeTake (n : Notice) (rest : List Notice) (h : s.notices = n :: rest) : s.Served { s with notices := rest }
  | clearLane (l : Lane) : s.Served (s.modRx l Rx.clearCounters)
  | clearFlow (f : FlowId) : s.Served { s with counters := s.counters.set f FlowCounters.reset }
  | cursor (c : Option (Nat × Nat)) : s.Served (s.modService fun v => { v with cursor := c })
  | want (n : Nat) (v : Bool) : s.Served (s.calling fun t => t.want n v)
  | volume (n : Nat) : s.Served { s with audio := { s.audio with volume := n } }
  | micMute (b : Bool) : s.Served { s with audio := { s.audio with muted := b } }
  | relay (t : Station) (inner : List Byte) : s.Served (s.startRelay t inner)
  | relayTake : s.Served (s.modHolder fun h => { h with state := .idle, answer := [] })

/-- Acting on a request makes one of these of the state. -/
theorem State.act_served (s : State) (most : Nat) (r : Request) : s.Served (s.act most r).1 := by
  cases r with
  | noticeTake =>
    show s.Served s.noticeTake.1
    unfold State.noticeTake
    split
    · exact .same
    · exact .noticeTake _ _ ‹_›
  | countersTake g =>
    show s.Served (s.countersTake g).1
    unfold State.countersTake State.clearGroup
    split
    · dsimp only
      split
      · exact .clearLane .down
      · exact .clearLane .up
      · split
        · exact .clearFlow _
        · exact .same
    · exact .same
  | tableRead t i =>
    show s.Served (s.tableRead most t i).1
    unfold State.tableRead
    split
    · split
      · exact .cursor _
      · exact .same
    · exact .same
  | tableNext =>
    show s.Served (s.tableNext most).1
    unfold State.tableNext
    split
    · exact .same
    · split
      · split
        · exact .cursor _
        · exact .same
      · exact .same
  | domainWant d v =>
    show s.Served (s.domainWant d v).1
    unfold State.domainWant
    split
    · exact .same
    · exact .want _ _
  | volume v =>
    show s.Served (s.volumeRequest v).1
    unfold State.volumeRequest
    split
    · exact .volume _
    · exact .same
  | micMute v =>
    show s.Served (s.muteRequest v).1
    unfold State.muteRequest
    split
    · exact .micMute _
    · exact .same
  | summary => exact .same
  | relay st inner =>
    show s.Served (s.relayRequest st inner).1
    unfold State.relayRequest
    split
    · exact .same
    · exact .relay _ _
  | relayTake =>
    show s.Served s.relayTake.1
    unfold State.relayTake
    dsimp only
    split
    · exact .relayTake
    · exact .same

/-- Acting on a request leaves the answer FIFO; its answer joins afterwards. -/
theorem State.Served.answers {s t : State} (h : s.Served t) : t.service.answers = s.service.answers := by
  cases h with
  | want n v => simp
  | relay t inner => simp [State.startRelay]
  | _ => rfl

/-- Acting on a request leaves the start state. -/
theorem State.Served.start {s t : State} (h : s.Served t) : t.start = s.start := by
  cases h with
  | want n v => simp
  | relay t inner => simp [State.startRelay]
  | _ => rfl

section Line

variable {P : State → Prop} (served : ∀ s t : State, s.live → P s → s.Served t → P t)
  (parser : ∀ (s : State) (p : Parser), P s → P (s.setParser p))
  (reply : ∀ (s : State) (bs : List Byte), bs.length ≤ s.freeSpace → P s → P (s.reply bs))

include reply

/-- What an answer with room keeps, a short reply keeps. -/
theorem State.shortReply_preserves (s : State) (c r : Byte) (h : P s) : P (s.shortReply c r) := by
  unfold State.shortReply
  split
  · exact reply s [c, r] (by simpa using ‹2 ≤ s.freeSpace›) h
  · exact h

include served

/-- What acting on requests and answers with room keep, a request that completes keeps (R189). -/
theorem State.serve_preserves (s : State) (r : Request) (live : s.live) (h : P s) : P (s.serve r) := by
  unfold State.serve
  dsimp only
  split
  · exact State.shortReply_preserves reply s _ _ h
  · rename_i room
    have acted := s.act_served 4 r
    refine reply _ _ ?_ (served s _ live h acted)
    unfold State.freeSpace at room ⊢
    rw [acted.answers]
    omega

include parser

/-- What a request keeps, a byte on the line keeps (R189, R190). -/
theorem State.feedByte_preserves (s : State) (b : Byte) (h : P s) : P (s.feedByte b) := by
  have collect (live : s.live) (bs : List Byte) : P (s.collect bs) := by
    unfold State.collect
    split
    · exact parser _ _ (State.shortReply_preserves reply s _ _ h)
    · split
      · exact State.serve_preserves served reply _ _ live (parser _ _ h)
      · exact parser _ _ h
  unfold State.feedByte
  split
  · split
    · exact collect ‹_› _
    · exact collect ‹_› _
    · exact h
  · exact h

/-- What the bytes on the line keep, a request command keeps (R189). -/
theorem State.request_preserves (s : State) (r : Request) (h : P s) : P (s.request r) := by
  unfold State.request
  split
  · rename_i waiting
    exact State.serve_preserves served reply s r waiting.1 h
  · exact List.foldlRecOn r.bytes State.feedByte h fun t ht b _ => State.feedByte_preserves served parser reply t b ht

end Line

/-- What acting on requests and offering RELAY cells keep, a relayed request keeps (R194). -/
theorem State.answerRelay_preserves {P : State → Prop} (served : ∀ s t : State, s.live → P s → s.Served t → P t)
    (offer : ∀ (s : State) (t : Station) (i : Nat) (k : Num8) (n : Nat) (bs : List Byte), P s →
      P (s.offerTo t (.relay t true i k n bs)))
    (s : State) (t : Station) (k : Num8) (bs : List Byte) (live : s.live) (h : P s) : P (s.answerRelay t k bs) := by
  have parts (n : Nat) (ps : List (List Byte)) : ∀ (s : State) (i : Nat), P s → P (s.offerParts t k n i ps) := by
    induction ps with
    | nil => exact fun s i h => h
    | cons p ps ih => exact fun s i h => ih _ _ (offer s t i k n p h)
  have acted : P (s.actRelayed bs).1 := by
    unfold State.actRelayed
    split
    · exact served s _ live h (s.act_served 1 _)
    · exact h
  exact parts _ _ _ _ acted
end Sys2Proof.Machine

namespace Sys2Proof.Machine

/-! ### The queue of commands -/

theorem State.Served.pending {s t : State} (h : s.Served t) : t.pending = s.pending := by
  cases h with
  | want n v => simp
  | relay t inner => simp [State.startRelay]
  | _ => rfl

theorem State.request_pending (s : State) (r : Request) : (s.request r).pending = s.pending :=
  State.request_preserves (P := fun t => t.pending = s.pending) (fun _ _ _ h k => k.pending.trans h) (fun _ _ h => h)
    (fun _ _ _ h => h) s r rfl

theorem State.feedByte_pending (s : State) (b : Byte) : (s.feedByte b).pending = s.pending :=
  State.feedByte_preserves (P := fun t => t.pending = s.pending) (fun _ _ _ h k => k.pending.trans h) (fun _ _ h => h)
    (fun _ _ _ h => h) s b rfl

/-- The brownout run resets the node or changes itself alone (R150). -/
theorem State.judgeBrownout_cases (s : State) :
    s.judgeBrownout = s.resetNode .brownout ∨ ∃ n, s.judgeBrownout = s.modPower fun p => { p with brownRun := n } := by
  unfold State.judgeBrownout
  dsimp only
  generalize (if s.power.rail < s.cfg.brownoutMv then s.power.brownRun + 1 else 0) = n
  split
  · exact .inl rfl
  · exact .inr ⟨n, rfl⟩

theorem State.relayTimeout_pending (s : State) : s.relayTimeout.pending = s.pending := by
  unfold State.relayTimeout
  split <;> simp

theorem State.StartEffect.pending {s t : State} (h : s.StartEffect t) : t.pending = s.pending := by
  cases h with
  | reset c => rfl
  | endOfLoading memory h =>
    have found (s : State) (l : Lane) : (s.startRx l).pending = s.pending := by unfold State.startRx; split <;> simp
    have started (s : State) : s.startTx.pending = s.pending := by unfold State.startTx; dsimp only; split <;> rfl
    have applied : (s.applyRecord memory).pending = s.pending := by unfold State.applyRecord; dsimp only; split <;> rfl
    simp [found, started, applied, State.powerUp, State.makeRecords]
  | _ => simp

theorem State.LaneEffect.pending {s t : State} (h : s.LaneEffect t) : t.pending = s.pending := by
  cases h with
  | alignCorrect l i h => unfold State.alignCorrect; dsimp only; split <;> simp
  | _ => simp

theorem State.SendEffect.pending {s t : State} (h : s.SendEffect t) : t.pending = s.pending := by
  cases h with
  | insert l h =>
    cases s.winner l with
    | picture e => simp only [State.insert, State.insertPicture]; split <;> simp
    | _ => simp [State.insert, State.sendIdle]
  | _ => simp [State.sendIdle]

theorem State.CellEffect.pending {s t : State} (h : s.CellEffect t) : t.pending = s.pending := by
  cases h with
  | answerRelay l c r h =>
    exact State.answerRelay_preserves (P := fun t => t.pending = s.pending) (fun _ _ _ h k => k.pending.trans h)
      (fun _ _ _ _ _ _ h => by simpa using h) (s.taken l c) _ _ _ (.inr h) rfl
  | echoAnswered l c n => unfold State.echoAnswered; dsimp only; split <;> simp
  | storeAnswer l c r => unfold State.storeAnswer; dsimp only; split <;> simp
  | _ => simp

theorem State.PictureEffect.pending {s t : State} (h : s.PictureEffect t) : t.pending = s.pending := by
  cases h <;> simp

theorem State.MotionEffect.pending {s t : State} (h : s.MotionEffect t) : t.pending = s.pending := by
  cases h <;> simp

theorem State.AudioEffect.pending {s t : State} (h : s.AudioEffect t) : t.pending = s.pending := by
  cases h <;> simp

theorem State.PowerEffect.pending {s t : State} (h : s.PowerEffect t) : t.pending = s.pending := by
  cases h with
  | sampleEvent r l a h =>
    obtain reset | ⟨n, keep⟩ := (s.takeValues r l a).judgeSample.judgeBrownout_cases
    · simp [reset, State.resetNode]
    · simp [keep]
  | _ => simp

theorem State.LineEffect.pending {s t : State} (h : s.LineEffect t) : t.pending = s.pending := by
  cases h with
  | relayTimeout => exact s.relayTimeout_pending
  | request r => exact s.request_pending r
  | feedByte b => exact s.feedByte_pending b
  | _ => rfl

/-- No effect touches the queue of commands. -/
theorem State.Effect.pending {s t : State} (h : s.Effect t) : t.pending = s.pending := by
  cases h with
  | same => rfl
  | start t h => exact h.pending
  | lane t h => exact h.pending
  | send t h => exact h.pending
  | cell t h => exact h.pending
  | picture t h => exact h.pending
  | motion t h => exact h.pending
  | audio t h => exact h.pending
  | power t h => exact h.pending
  | line t h => exact h.pending

/-- Settles O1: it is the definition of a step on a queue that is not empty. -/
theorem stepRunsTheFrontCommand : Obligations.StepRunsTheFrontCommand := by
  unfold Obligations.StepRunsTheFrontCommand
  intro c rest s front
  simp [step, front]

/-- Settles O2: each command has an effect, and no effect touches the queue. -/
theorem everyCommandCompletes : Obligations.EveryCommandCompletes := by
  unfold Obligations.EveryCommandCompletes
  intro c s
  obtain ⟨t, next, effect⟩ := exec_effects c s
  exact ⟨t, next, effect.pending⟩

/-- Settles O3, item by item. -/
theorem resetStateHoldsTheTables : Obligations.ResetStateHoldsTheTables := by
  unfold Obligations.ResetStateHoldsTheTables
  intro s
  have lanes (l : Lane) : s.rx.get l = Rx.reset := by cases l <;> rfl
  have stations (x : Station) : s.stations.get x = StationEntry.reset ∧ s.views.get x = View.reset ∧
      s.surveys.get x = Survey.reset := by cases x <;> exact ⟨rfl, rfl, rfl⟩
  have flows (f : FlowId) : s.dst.get f = none ∧ s.seqs.get f = 0 ∧ s.counters.get f = FlowCounters.reset := by
    cases f <;> exact ⟨rfl, rfl, rfl⟩
  have eyes (e : Eye) : s.paced.get e = Paced.reset ∧ s.eyes.get e = EyeDst.reset := by cases e <;> exact ⟨rfl, rfl⟩
  refine ⟨rfl, rfl, rfl, rfl, rfl, rfl, fun l => ?_, rfl, rfl, fun l => ?_, fun x => ?_, fun f => ?_, fun e => ?_,
    fun e => ?_, ?_⟩
  · rw [lanes]
    exact ⟨rfl, rfl, rfl, rfl, rfl, rfl, rfl, rfl, rfl, rfl, rfl⟩
  · cases l <;> exact ⟨rfl, rfl, rfl, rfl, rfl, rfl, rfl, rfl⟩
  · obtain ⟨entry, view, survey⟩ := stations x
    rw [entry, view, survey]
    exact ⟨rfl, rfl, rfl, rfl, rfl, rfl, rfl, rfl, rfl⟩
  · exact flows f
  · rw [(eyes e).1]
    exact ⟨rfl, rfl, rfl, rfl, rfl, rfl, rfl, rfl, rfl, rfl, rfl, rfl, rfl⟩
  · rw [(eyes e).2]
    exact ⟨rfl, rfl, rfl, rfl, rfl⟩
  · have outputs (p : StatusPin) : s.output p = false := by cases p <;> rfl
    repeat' constructor
    exacts [fun _ => rfl, outputs]

/-- Settles O4. -/
theorem resetsReturnToTheResetState : Obligations.ResetsReturnToTheResetState := by
  unfold Obligations.ResetsReturnToTheResetState
  refine ⟨fun s => ⟨rfl, ?pin, fun live => ?brownout⟩, fun stn sup srec s reset => ?straps⟩
  case pin => rfl
  case brownout =>
    show execBrownout s = _
    rw [execBrownout, if_pos live]
    rfl
  case straps =>
    show execEndOfReset stn sup srec s = _
    rw [execEndOfReset, if_pos reset]
    rfl
end Sys2Proof.Machine

namespace Sys2Proof.Machine

/-! ### Invariants of a step -/

/-- What the effects of the commands and a slot of the local reference keep, and what does not look at the queue of commands,
every step keeps. -/
theorem step_preserves {P : State → Prop} (queue : ∀ (s : State) (q : List Instr), P s → P { s with pending := q })
    (effect : ∀ s t : State, P s → s.Effect t → P t) (tick : ∀ s : State, P s → P s.tick) (s t : State) (h : P s)
    (next : step s = .next t) : P t := by
  unfold step at next
  split at next
  · cases next
    exact tick s h
  · rename_i c rest _
    obtain ⟨u, hu, made⟩ := exec_effects c { s with pending := rest }
    rw [hu] at next
    cases next
    exact effect _ _ (queue s rest h) made

section Reports

variable {P : State → Prop} (build : ∀ s : State, s.reportDue = true → P s → P s.buildReport)

include build

/-- What every build keeps, a test for a report keeps. -/
theorem State.reportTest_preserves {s : State} (h : P s) : P s.reportTest := State.reportTests_preserves build 100 1 s h

/-- What every build keeps, the test of an alignment cell keeps (R178). -/
theorem State.alignTest_preserves {s : State} (l : Lane) (h : P s) : P (s.alignTest l) := by
  unfold State.alignTest
  split
  · exact State.reportTest_preserves build h
  · exact h

variable (event : ∀ s : State, P s → P { s with balance := { s.balance with event := true } })

include event

/-- What builds and event pending keep, a call for an event report keeps. -/
theorem State.callEvent_preserves {s : State} (h : P s) : P s.callEvent := State.reportTest_preserves build (event s h)

/-- What builds and event pending keep, the calls after a change keep. -/
theorem State.calling_preserves {s : State} {f : State → State} (h : P (f s)) : P (s.calling f) :=
  State.callOnChange_preserves build event s _ h

end Reports

/-! ### What a correct cell hands on -/

/-- What the blocks make of a correct cell before its status byte is handed on (R17, R14, R126). -/
def State.beforeStatus (s : State) (l : Lane) (before : Rx) (i : AlignInfo) : State :=
  let s1 := if i.frame = 0 then s.returnToRepeating l else s
  if l = .up ∧ before.fault = false ∧ i.fault = true then s1.endRestartRun else s1

/-- What comes before the status byte changes transmitters, the motion output and notices alone. -/
@[simp] theorem State.beforeStatus_keeps (s : State) (l : Lane) (r : Rx) (i : AlignInfo) :
    (s.beforeStatus l r i).start = s.start ∧ (s.beforeStatus l r i).cause = s.cause ∧ (s.beforeStatus l r i).station = s.station ∧
    (s.beforeStatus l r i).sup = s.sup ∧ (s.beforeStatus l r i).srec = s.srec ∧ (s.beforeStatus l r i).cfg = s.cfg ∧
    (s.beforeStatus l r i).settledRoles = s.settledRoles ∧ (s.beforeStatus l r i).farNeighbour = s.farNeighbour ∧
    (s.beforeStatus l r i).lateSeen = s.lateSeen ∧ (s.beforeStatus l r i).localSlot = s.localSlot ∧
    (s.beforeStatus l r i).clock = s.clock ∧ (s.beforeStatus l r i).pins = s.pins ∧ (s.beforeStatus l r i).rx = s.rx ∧
    (s.beforeStatus l r i).stations = s.stations ∧ (s.beforeStatus l r i).dst = s.dst ∧
    (s.beforeStatus l r i).seqs = s.seqs ∧ (s.beforeStatus l r i).counters = s.counters ∧
    (s.beforeStatus l r i).paced = s.paced ∧ (s.beforeStatus l r i).eyes = s.eyes ∧
    (s.beforeStatus l r i).surveyed = s.surveyed ∧ (s.beforeStatus l r i).surveys = s.surveys ∧
    (s.beforeStatus l r i).tokens = s.tokens ∧ (s.beforeStatus l r i).motion = s.motion ∧
    (s.beforeStatus l r i).audio = s.audio ∧ (s.beforeStatus l r i).power = s.power ∧
    (s.beforeStatus l r i).views = s.views ∧ (s.beforeStatus l r i).balance = s.balance ∧
    (s.beforeStatus l r i).pulses = s.pulses ∧ (s.beforeStatus l r i).service = s.service ∧
    (s.beforeStatus l r i).pending = s.pending := by
  unfold State.beforeStatus
  dsimp only
  split <;> split <;> simp

/-- What a correct cell hands on: the return to REPEATING and fault-seen, the status byte with the calls of its changes, and
fresh-pending where the lane leaves DEEP. -/
theorem State.handAlign_eq (s : State) (l : Lane) (r : Rx) (i : AlignInfo) :
    s.handAlign l r i =
      if leavesDeep r.inEffect i.lane then
        ((s.beforeStatus l r i).calling fun t =>
          t.takeStatus l (statusOwner ((s.rx.get l).underDeep i) i.frame i.count) i.status).setFresh
      else
        (s.beforeStatus l r i).calling fun t =>
          t.takeStatus l (statusOwner ((s.rx.get l).underDeep i) i.frame i.count) i.status := rfl

/-! ### The report balance (O57) -/

namespace State.BalanceInRange

theorem of_balance {s t : State} (h : s.BalanceInRange) (same : t.balance = s.balance) : t.BalanceInRange :=
  ⟨same ▸ h.most, same ▸ h.least, same ▸ h.age⟩

end State.BalanceInRange

/-- A balance keeps its ranges. -/
structure Balance.InRange (b : Balance) : Prop where
  most : b.b ≤ 8
  least : -8 ≤ b.net
  age : b.age ≤ 8

theorem State.balanceInRange_iff (s : State) : s.BalanceInRange ↔ s.balance.InRange :=
  ⟨fun h => ⟨h.most, h.least, h.age⟩, fun h => ⟨h.most, h.least, h.age⟩⟩

/-- A copy that stops waiting keeps the ranges (R179). -/
theorem Balance.InRange.copyGone {b : Balance} (h : b.InRange) (l : Lane) (k : Nat) (i : Bool) : (b.copyGone l k i).InRange := by
  obtain ⟨most, least, age⟩ := h
  refine ⟨?_, least.trans (b.copyGone_net l k i), ?_⟩
  · have cases := b.copyGone_cases l k i
    dsimp only at cases
    omega
  · unfold Balance.copyGone
    dsimp only
    split
    · exact age
    · split
      · exact age
      · split
        · exact Nat.zero_le _
        · exact age

/-- The copies that a new report replaced keep the ranges (R179). -/
theorem Balance.InRange.replaced {b : Balance} (h : b.InRange) (l : Lane) (k : Option Nat) : (b.replaced l k).InRange := by
  cases k with
  | none => exact h
  | some k => exact h.copyGone l k false

/-- A report that joins takes one from the net balance, which is above −8 (R178). -/
theorem Balance.InRange.join {b : Balance} (h : b.InRange) (room : -8 < b.net) (d u : Bool) : (b.join d u).InRange := by
  unfold Balance.join
  split
  · refine ⟨h.most, ?_, h.age⟩
    simp only [Balance.net, List.length_append, List.length_singleton] at room ⊢
    omega
  · exact h

/-- A report is built on a net balance above −8 alone (R178). -/
theorem State.net_of_reportDue {s : State} (due : s.reportDue = true) : -8 < s.balance.net := by
  simp only [State.reportDue, Bool.and_eq_true, Bool.or_eq_true, decide_eq_true_eq] at due
  omega

theorem State.BalanceInRange.buildReport (s : State) (due : s.reportDue = true) (h : s.BalanceInRange) :
    s.buildReport.BalanceInRange := by
  rw [State.balanceInRange_iff] at h ⊢
  exact ((h.join (State.net_of_reportDue due) _ _).replaced _ _).replaced _ _

/-- After a reset the balance is in its ranges (R183). -/
theorem State.BalanceInRange.resetNode (s : State) (c : Cause) : (s.resetNode c).BalanceInRange := by
  refine ⟨?_, ?_, ?_⟩ <;> simp [State.resetNode, State.reset, Balance.reset, Balance.net]

theorem State.BalanceInRange.event (s : State) (h : s.BalanceInRange) :
    State.BalanceInRange { s with balance := { s.balance with event := true } } := ⟨h.most, h.least, h.age⟩

namespace State.BalanceInRange

variable {s : State} (h : s.BalanceInRange)

include h

theorem reportTest : s.reportTest.BalanceInRange := State.reportTest_preserves buildReport h

theorem callEvent : s.callEvent.BalanceInRange := State.callEvent_preserves buildReport event h

theorem setFresh : s.setFresh.BalanceInRange := callEvent ⟨h.most, h.least, h.age⟩

theorem alignTest (l : Lane) : (s.alignTest l).BalanceInRange := State.alignTest_preserves buildReport l h

theorem calling {f : State → State} (same : (f s).balance = s.balance) : (s.calling f).BalanceInRange :=
  State.calling_preserves buildReport event (h.of_balance same)

theorem copyInserted (l : Lane) (k : Nat) : (s.copyInserted l k).BalanceInRange := by
  have gone : State.BalanceInRange { s with balance := s.balance.copyGone l k true } :=
    (State.balanceInRange_iff _).2 (((State.balanceInRange_iff s).1 h).copyGone l k true)
  unfold State.copyInserted
  dsimp only
  split
  · exact gone.reportTest
  · exact gone

/-- The balance step raises b below 8 and the age below 8 alone (R177). -/
theorem balanceStep : s.balanceStep.BalanceInRange := by
  have stepped : State.BalanceInRange
      { s with
        balance :=
          { s.balance with
            b := if s.balance.b < 8 then s.balance.b + 1 else s.balance.b,
            forced := s.balance.forced || !decide (s.balance.b < 8), age := min (s.balance.age + 1) 8 } } := by
    obtain ⟨most, least, age⟩ := h
    refine ⟨?_, ?_, ?_⟩ <;> simp only [Balance.net] at * <;> [split; split; skip] <;> omega
  unfold State.balanceStep
  dsimp only
  split
  · exact stepped.callEvent
  · exact stepped

theorem powerSteps : s.powerSteps.BalanceInRange := by
  have stepped := ((h.calling (f := State.ageViews) (by simp)).calling (f := State.supplyStep) (by simp)).of_balance
    (t := ((s.calling State.ageViews).calling State.supplyStep).modPower fun p => { p with droop := false }) (by simp)
  unfold State.powerSteps
  dsimp only
  split
  · exact stepped.calling (by simp)
  · exact stepped

theorem judgeSample : s.judgeSample.BalanceInRange := by
  unfold State.judgeSample
  exact (((h.calling (by simp)).calling (by simp)).calling (by simp)).calling (by simp)

theorem handAlign (l : Lane) (r : Rx) (i : AlignInfo) : (s.handAlign l r i).BalanceInRange := by
  have before : (s.beforeStatus l r i).BalanceInRange := h.of_balance (by simp)
  have taken := before.calling
    (f := fun t => t.takeStatus l (statusOwner ((s.rx.get l).underDeep i) i.frame i.count) i.status) (by simp)
  rw [State.handAlign_eq]
  split
  · exact taken.setFresh
  · exact taken

theorem alignCorrect (l : Lane) (i : AlignInfo) : (s.alignCorrect l i).BalanceInRange := by
  unfold State.alignCorrect
  dsimp only
  split
  · exact h.of_balance (by simp)
  · exact handAlign (h.of_balance (by simp)) l _ i

theorem originAlign (l : Lane) (q : Quiet) : (s.originAlign l q).BalanceInRange := by
  unfold State.originAlign
  dsimp only
  refine alignTest ?_ l
  split
  · exact setFresh (h.of_balance (by simp))
  · exact h.of_balance (by simp)

theorem insert (l : Lane) (w : Winner) : (s.insert l w).BalanceInRange := by
  cases w with
  | control c =>
    have sent : (s.modTx l fun t => { t.send (ctlCell s.station s.localSlot c) false with fifo := t.fifo.tail }).BalanceInRange :=
      h.of_balance rfl
    unfold State.insert State.insertControl
    cases c with
    | power r k => exact sent.copyInserted l k
    | echo t k => unfold State.reportInserted; dsimp only; split <;> exact sent.of_balance rfl
    | probe e n a o p => exact sent.of_balance (by simp [State.reportInserted])
    | _ => exact sent
  | picture e => exact h.of_balance (by unfold State.insert State.insertPicture; dsimp only; split <;> simp)
  | _ => exact h.of_balance (by simp [State.insert, State.sendIdle])

theorem enterRunning : s.enterRunning.BalanceInRange := by
  have opened : ({ s with start := .running }.post .resetCause .reset s.cause.code).openRecords.BalanceInRange :=
    h.of_balance (by simp)
  unfold State.enterRunning
  exact opened.callEvent.of_balance (by simp)

theorem served {t : State} (made : s.Served t) : t.BalanceInRange := by
  cases made with
  | want n v => exact h.calling (by simp)
  | relay t inner => exact h.of_balance (by simp [State.startRelay])
  | _ => exact h.of_balance rfl

theorem startEffect {t : State} (made : s.StartEffect t) : t.BalanceInRange := by
  cases made with
  | reset c => exact resetNode s c
  | endOfReset stn sup srec start => exact h.of_balance rfl
  | endOfLoading memory start =>
    have applied : (s.applyRecord memory).balance = s.balance := by unfold State.applyRecord; dsimp only; split <;> rfl
    have powered : (s.applyRecord memory).makeRecords.powerUp.BalanceInRange := by
      unfold State.powerUp
      exact calling (h.of_balance (by simp [State.makeRecords, applied])) (by simp)
    have found (s : State) (l : Lane) : (s.startRx l).balance = s.balance := by unfold State.startRx; split <;> simp
    have started (s : State) : s.startTx.balance = s.balance := by unfold State.startTx; dsimp only; split <;> rfl
    exact powered.of_balance (by simp [found, started])
  | settle start => exact h.of_balance (by simp)
  | settleLinked start => exact enterRunning (h.of_balance (by simp))
  | enterRunning start => exact h.enterRunning

theorem laneEffect {t : State} (made : s.LaneEffect t) : t.BalanceInRange := by
  cases made with
  | alignCorrect l i live => exact h.alignCorrect l i
  | tableTimeout l live => exact h.calling (by simp)
  | _ => exact h.of_balance (by simp)

theorem sendEffect {t : State} (made : s.SendEffect t) : t.BalanceInRange := by
  cases made with
  | originAlign l q live => exact h.originAlign l q
  | ownAlign l f live => unfold State.ownAlign; exact alignTest (h.of_balance (by simp)) l
  | repeatAlign l d i live => unfold State.repeatAlign; exact alignTest (h.of_balance (by simp)) l
  | insert l running => exact h.insert l _
  | _ => exact h.of_balance (by simp [State.sendIdle])

theorem cellEffect {t : State} (made : s.CellEffect t) : t.BalanceInRange := by
  have judged (l : Lane) (c : Cell) : (s.taken l c).BalanceInRange := h.of_balance rfl
  cases made with
  | hear l c r live hr => exact (judged l c).calling (by simp)
  | answerRelay l c r running =>
    exact State.answerRelay_preserves (P := State.BalanceInRange) (fun _ _ _ h made => h.served made)
      (fun _ _ _ _ _ _ h => h.of_balance (by simp)) (s.taken l c) _ _ _ (.inr running) (judged l c)
  | echoAnswered l c n => exact h.of_balance (by unfold State.echoAnswered; dsimp only; split <;> simp)
  | storeAnswer l c r => exact h.of_balance (by unfold State.storeAnswer; dsimp only; split <;> simp)
  | _ => exact h.of_balance (by simp)

theorem pictureEffect {t : State} (made : s.PictureEffect t) : t.BalanceInRange := by
  cases made <;> exact h.of_balance (by simp)

theorem motionEffect {t : State} (made : s.MotionEffect t) : t.BalanceInRange := by
  cases made with
  | headsetBoundary w live =>
    have waited : ({ s with power := { s.power with converting := true } }.delayBoundary).BalanceInRange :=
      h.of_balance (by simp)
    have counted := waited.calling (f := State.motionBoundary) (by simp)
    exact counted.calling (by simp)
  | wearTo w live => exact h.calling (by simp)
  | fallAsleep live => exact h.calling (by simp)
  | _ => exact h.of_balance (by simp)

theorem audioEffect {t : State} (made : s.AudioEffect t) : t.BalanceInRange := by
  cases made <;> exact h.of_balance (by simp)

theorem powerEffect {t : State} (made : s.PowerEffect t) : t.BalanceInRange := by
  cases made with
  | sampleEvent r l a live =>
    have judged := (h.of_balance (t := s.takeValues r l a) (by simp)).judgeSample
    obtain reset | ⟨n, keep⟩ := (s.takeValues r l a).judgeSample.judgeBrownout_cases
    · rw [reset]; exact resetNode _ _
    · rw [keep]; exact judged.of_balance (by simp)
  | trip live => exact h.calling (by simp)
  | reclose live => exact h.calling (by simp)
  | powerBoundary live => exact h.powerSteps
  | powerBoundaryRunning running => exact h.powerSteps.balanceStep.reportTest
  | silence t live => exact h.calling (by simp)
  | keepAlive running => exact h.balanceStep

theorem lineEffect {t : State} (made : s.LineEffect t) : t.BalanceInRange := by
  have served (s t : State) (_ : s.live) (h : s.BalanceInRange) (m : s.Served t) : t.BalanceInRange := h.served m
  cases made with
  | request r =>
    exact State.request_preserves (P := State.BalanceInRange) served (fun _ _ h => h.of_balance rfl)
      (fun _ _ _ h => h.of_balance rfl) s r h
  | feedByte b =>
    exact State.feedByte_preserves (P := State.BalanceInRange) served (fun _ _ h => h.of_balance rfl)
      (fun _ _ _ h => h.of_balance rfl) s b h
  | relayTimeout => exact h.of_balance (by unfold State.relayTimeout; split <;> simp)
  | _ => exact h.of_balance rfl

theorem effect {t : State} (made : s.Effect t) : t.BalanceInRange := by
  cases made with
  | same => exact h
  | start t made => exact h.startEffect made
  | lane t made => exact h.laneEffect made
  | send t made => exact h.sendEffect made
  | cell t made => exact h.cellEffect made
  | picture t made => exact h.pictureEffect made
  | motion t made => exact h.motionEffect made
  | audio t made => exact h.audioEffect made
  | power t made => exact h.powerEffect made
  | line t made => exact h.lineEffect made

theorem tick : s.tick.BalanceInRange := by
  have table (s : State) (h : s.BalanceInRange) (r : Rx) (l : Lane) : (s.tickTable r l).BalanceInRange := by
    unfold State.tickTable
    split
    · exact h.calling (by simp)
    · exact h
  have clock (s : State) : s.tickClock.balance = s.balance := by unfold State.tickClock; split <;> simp
  have silence (s : State) : s.tickSilence.balance = s.balance := by
    unfold State.tickSilence
    split
    · split <;> simp
    · rfl
  have timeout (s : State) : s.relayTimeout.balance = s.balance := by unfold State.relayTimeout; split <;> simp
  have relay (s : State) : s.tickRelay.balance = s.balance := by
    unfold State.tickRelay
    split
    · dsimp only
      split <;> simp [timeout]
    · rfl
  unfold State.tick
  split
  · dsimp only
    refine of_balance (table _ (table _ (h.of_balance ?_) _ _) _ _) ((relay _).trans (silence _))
    rw [clock]
  · exact h

end State.BalanceInRange

/-- Settles O57. -/
theorem stepKeepsTheBalanceInRange : Obligations.StepKeepsTheBalanceInRange := by
  unfold Obligations.StepKeepsTheBalanceInRange
  refine ⟨step_preserves (fun _ _ h => h.of_balance rfl) (fun _ _ h made => h.effect made) fun _ h => h.tick, fun s h => ?_⟩
  have := h.least
  unfold Balance.net at this
  omega

end Sys2Proof.Machine

namespace Sys2Proof.Machine

/-! ### The end of LOADING (R200) -/

/-- The record put into effect changes the settings and what takes its value from them (R200). -/
@[simp] theorem State.applyRecord_keeps (s : State) (m : List Byte) :
    (s.applyRecord m).cause = s.cause ∧ (s.applyRecord m).station = s.station ∧ (s.applyRecord m).sup = s.sup ∧
    (s.applyRecord m).srec = s.srec ∧ (s.applyRecord m).settledRoles = s.settledRoles ∧
    (s.applyRecord m).farNeighbour = s.farNeighbour ∧ (s.applyRecord m).lateSeen = s.lateSeen ∧
    (s.applyRecord m).clock = s.clock ∧ (s.applyRecord m).pins = s.pins ∧ (s.applyRecord m).rx = s.rx ∧
    (s.applyRecord m).tx = s.tx ∧ (s.applyRecord m).dst = s.dst ∧ (s.applyRecord m).seqs = s.seqs ∧
    (s.applyRecord m).counters = s.counters ∧ (s.applyRecord m).eyes = s.eyes ∧ (s.applyRecord m).surveyed = s.surveyed ∧
    (s.applyRecord m).surveys = s.surveys ∧ (s.applyRecord m).tokens = s.tokens ∧ (s.applyRecord m).motion = s.motion ∧
    (s.applyRecord m).motionOut = s.motionOut ∧ (s.applyRecord m).power = s.power ∧ (s.applyRecord m).views = s.views ∧
    (s.applyRecord m).balance = s.balance ∧ (s.applyRecord m).notices = s.notices ∧ (s.applyRecord m).pulses = s.pulses ∧
    (s.applyRecord m).service = s.service ∧ (s.applyRecord m).pending = s.pending := by
  unfold State.applyRecord
  dsimp only
  split <;> simp [State.modStation]

@[simp] theorem State.applyRecord_start (s : State) (m : List Byte) : (s.applyRecord m).start = .linking := by
  unfold State.applyRecord
  dsimp only
  split <;> rfl

@[simp] theorem State.applyRecord_cfg (s : State) (m : List Byte) : (s.applyRecord m).cfg = loadRecord s.srec m := by
  unfold State.applyRecord
  dsimp only
  split <;> rfl

@[simp] theorem State.applyRecord_localSlot (s : State) (m : List Byte) : (s.applyRecord m).localSlot = 0 := by
  unfold State.applyRecord
  dsimp only
  split <;> rfl

@[simp] theorem State.applyRecord_audio (s : State) (m : List Byte) :
    (s.applyRecord m).audio = { s.audio with volume := (loadRecord s.srec m).volume } := by
  unfold State.applyRecord
  dsimp only
  split <;> rfl

@[simp] theorem State.applyRecord_stations (s : State) (m : List Byte) :
    (s.applyRecord m).stations = s.stations.set s.station { s.stations.get s.station with present := true } := by
  unfold State.applyRecord
  dsimp only
  split <;> rfl

/-- CONSOLE's paced records read their parameters (R89). -/
theorem State.applyRecord_paced_of_console {s : State} (m : List Byte) (h : s.station = .console) :
    (s.applyRecord m).paced =
      ⟨s.paced.left.load (loadRecord s.srec m).flowL, s.paced.right.load (loadRecord s.srec m).flowR⟩ := by
  unfold State.applyRecord
  rw [if_pos h]
  rfl

theorem State.applyRecord_paced_of_ne_console {s : State} (m : List Byte) (h : s.station ≠ .console) :
    (s.applyRecord m).paced = s.paced := by
  unfold State.applyRecord
  rw [if_neg h]
  rfl

/-- The records made are the destination records (R57). -/
@[simp] theorem State.makeRecords_keeps (s : State) :
    (s.makeRecords).start = s.start ∧ (s.makeRecords).cause = s.cause ∧ (s.makeRecords).station = s.station ∧
    (s.makeRecords).sup = s.sup ∧ (s.makeRecords).srec = s.srec ∧ (s.makeRecords).cfg = s.cfg ∧
    (s.makeRecords).settledRoles = s.settledRoles ∧ (s.makeRecords).farNeighbour = s.farNeighbour ∧
    (s.makeRecords).lateSeen = s.lateSeen ∧ (s.makeRecords).localSlot = s.localSlot ∧ (s.makeRecords).clock = s.clock ∧
    (s.makeRecords).pins = s.pins ∧ (s.makeRecords).rx = s.rx ∧ (s.makeRecords).tx = s.tx ∧
    (s.makeRecords).stations = s.stations ∧ (s.makeRecords).seqs = s.seqs ∧ (s.makeRecords).counters = s.counters ∧
    (s.makeRecords).paced = s.paced ∧ (s.makeRecords).eyes = s.eyes ∧ (s.makeRecords).surveyed = s.surveyed ∧
    (s.makeRecords).surveys = s.surveys ∧ (s.makeRecords).tokens = s.tokens ∧ (s.makeRecords).motion = s.motion ∧
    (s.makeRecords).motionOut = s.motionOut ∧ (s.makeRecords).audio = s.audio ∧ (s.makeRecords).power = s.power ∧
    (s.makeRecords).views = s.views ∧ (s.makeRecords).balance = s.balance ∧ (s.makeRecords).notices = s.notices ∧
    (s.makeRecords).pulses = s.pulses ∧ (s.makeRecords).service = s.service ∧ (s.makeRecords).pending = s.pending := by
  simp [State.makeRecords]

/-- The domains and the units that follow them change as power comes up, and what a report changes (R153, R178). -/
@[simp] theorem State.powerUp_keeps (s : State) :
    (s.powerUp).start = s.start ∧ (s.powerUp).cause = s.cause ∧ (s.powerUp).station = s.station ∧
    (s.powerUp).sup = s.sup ∧ (s.powerUp).srec = s.srec ∧ (s.powerUp).cfg = s.cfg ∧
    (s.powerUp).settledRoles = s.settledRoles ∧ (s.powerUp).farNeighbour = s.farNeighbour ∧
    (s.powerUp).lateSeen = s.lateSeen ∧ (s.powerUp).localSlot = s.localSlot ∧ (s.powerUp).clock = s.clock ∧
    (s.powerUp).pins = s.pins ∧ (s.powerUp).rx = s.rx ∧ (s.powerUp).stations = s.stations ∧ (s.powerUp).seqs = s.seqs ∧
    (s.powerUp).counters = s.counters ∧ (s.powerUp).paced = s.paced ∧ (s.powerUp).surveyed = s.surveyed ∧
    (s.powerUp).surveys = s.surveys ∧ (s.powerUp).tokens = s.tokens ∧ (s.powerUp).motionOut = s.motionOut ∧
    (s.powerUp).views = s.views ∧ (s.powerUp).pulses = s.pulses ∧ (s.powerUp).service = s.service ∧
    (s.powerUp).pending = s.pending := by
  simp [State.powerUp]

/-- The transmitters alone become provisional origins (R19). -/
@[simp] theorem State.startTx_keeps (s : State) :
    (s.startTx).start = s.start ∧ (s.startTx).cause = s.cause ∧ (s.startTx).station = s.station ∧
    (s.startTx).sup = s.sup ∧ (s.startTx).srec = s.srec ∧ (s.startTx).cfg = s.cfg ∧
    (s.startTx).settledRoles = s.settledRoles ∧ (s.startTx).farNeighbour = s.farNeighbour ∧
    (s.startTx).lateSeen = s.lateSeen ∧ (s.startTx).localSlot = s.localSlot ∧ (s.startTx).clock = s.clock ∧
    (s.startTx).pins = s.pins ∧ (s.startTx).rx = s.rx ∧ (s.startTx).stations = s.stations ∧ (s.startTx).dst = s.dst ∧
    (s.startTx).seqs = s.seqs ∧ (s.startTx).counters = s.counters ∧ (s.startTx).paced = s.paced ∧
    (s.startTx).eyes = s.eyes ∧ (s.startTx).surveyed = s.surveyed ∧ (s.startTx).surveys = s.surveys ∧
    (s.startTx).tokens = s.tokens ∧ (s.startTx).motion = s.motion ∧ (s.startTx).motionOut = s.motionOut ∧
    (s.startTx).audio = s.audio ∧ (s.startTx).power = s.power ∧ (s.startTx).views = s.views ∧
    (s.startTx).balance = s.balance ∧ (s.startTx).notices = s.notices ∧ (s.startTx).pulses = s.pulses ∧
    (s.startTx).service = s.service ∧ (s.startTx).pending = s.pending := by
  unfold State.startTx
  dsimp only
  split <;> simp

/-- A receiver that leaves DARK may find the far neighbour (R19). -/
@[simp] theorem State.startRx_keeps (s : State) (l : Lane) :
    (s.startRx l).start = s.start ∧ (s.startRx l).cause = s.cause ∧ (s.startRx l).station = s.station ∧
    (s.startRx l).sup = s.sup ∧ (s.startRx l).srec = s.srec ∧ (s.startRx l).cfg = s.cfg ∧
    (s.startRx l).settledRoles = s.settledRoles ∧ (s.startRx l).lateSeen = s.lateSeen ∧
    (s.startRx l).localSlot = s.localSlot ∧ (s.startRx l).clock = s.clock ∧ (s.startRx l).pins = s.pins ∧
    (s.startRx l).tx = s.tx ∧ (s.startRx l).stations = s.stations ∧ (s.startRx l).dst = s.dst ∧
    (s.startRx l).seqs = s.seqs ∧ (s.startRx l).counters = s.counters ∧ (s.startRx l).paced = s.paced ∧
    (s.startRx l).eyes = s.eyes ∧ (s.startRx l).surveyed = s.surveyed ∧ (s.startRx l).surveys = s.surveys ∧
    (s.startRx l).tokens = s.tokens ∧ (s.startRx l).motion = s.motion ∧ (s.startRx l).motionOut = s.motionOut ∧
    (s.startRx l).audio = s.audio ∧ (s.startRx l).power = s.power ∧ (s.startRx l).views = s.views ∧
    (s.startRx l).balance = s.balance ∧ (s.startRx l).notices = s.notices ∧ (s.startRx l).pulses = s.pulses ∧
    (s.startRx l).service = s.service ∧ (s.startRx l).pending = s.pending := by
  unfold State.startRx
  split <;> simp
@[simp] theorem State.enterRunning_start (s : State) : s.enterRunning.start = .running := by
  simp [State.enterRunning]

/-! ### Frames of the other operations -/

/-- The clock advances, and may start a pulse (R112, R187). -/
@[simp] theorem State.tickClock_keeps (s : State) :
    (s.tickClock).start = s.start ∧ (s.tickClock).cause = s.cause ∧ (s.tickClock).station = s.station ∧
    (s.tickClock).sup = s.sup ∧ (s.tickClock).srec = s.srec ∧ (s.tickClock).cfg = s.cfg ∧
    (s.tickClock).settledRoles = s.settledRoles ∧ (s.tickClock).farNeighbour = s.farNeighbour ∧
    (s.tickClock).lateSeen = s.lateSeen ∧ (s.tickClock).localSlot = s.localSlot ∧ (s.tickClock).pins = s.pins ∧
    (s.tickClock).rx = s.rx ∧ (s.tickClock).tx = s.tx ∧ (s.tickClock).stations = s.stations ∧ (s.tickClock).dst = s.dst ∧
    (s.tickClock).seqs = s.seqs ∧ (s.tickClock).counters = s.counters ∧ (s.tickClock).paced = s.paced ∧
    (s.tickClock).eyes = s.eyes ∧ (s.tickClock).surveyed = s.surveyed ∧ (s.tickClock).surveys = s.surveys ∧
    (s.tickClock).tokens = s.tokens ∧ (s.tickClock).motion = s.motion ∧ (s.tickClock).motionOut = s.motionOut ∧
    (s.tickClock).audio = s.audio ∧ (s.tickClock).power = s.power ∧ (s.tickClock).views = s.views ∧
    (s.tickClock).balance = s.balance ∧ (s.tickClock).notices = s.notices ∧ (s.tickClock).service = s.service ∧
    (s.tickClock).pending = s.pending := by
  unfold State.tickClock
  split <;> simp

/-- A long loss changes the station table and what depends on it (R23). -/
@[simp] theorem State.tickTable_keeps (s : State) (r : Rx) (l : Lane) :
    (s.tickTable r l).start = s.start ∧ (s.tickTable r l).cause = s.cause ∧ (s.tickTable r l).station = s.station ∧
    (s.tickTable r l).sup = s.sup ∧ (s.tickTable r l).srec = s.srec ∧ (s.tickTable r l).cfg = s.cfg ∧
    (s.tickTable r l).settledRoles = s.settledRoles ∧ (s.tickTable r l).farNeighbour = s.farNeighbour ∧
    (s.tickTable r l).lateSeen = s.lateSeen ∧ (s.tickTable r l).localSlot = s.localSlot ∧
    (s.tickTable r l).clock = s.clock ∧ (s.tickTable r l).pins = s.pins ∧ (s.tickTable r l).rx = s.rx ∧
    (s.tickTable r l).seqs = s.seqs ∧ (s.tickTable r l).counters = s.counters ∧ (s.tickTable r l).paced = s.paced ∧
    (s.tickTable r l).surveyed = s.surveyed ∧ (s.tickTable r l).tokens = s.tokens ∧
    (s.tickTable r l).motionOut = s.motionOut ∧ (s.tickTable r l).views = s.views ∧ (s.tickTable r l).pulses = s.pulses ∧
    (s.tickTable r l).service = s.service ∧ (s.tickTable r l).pending = s.pending := by
  unfold State.tickTable
  split <;> simp

/-- The silence count runs in the motion unit (R124). -/
@[simp] theorem State.tickSilence_keeps (s : State) :
    (s.tickSilence).start = s.start ∧ (s.tickSilence).cause = s.cause ∧ (s.tickSilence).station = s.station ∧
    (s.tickSilence).sup = s.sup ∧ (s.tickSilence).srec = s.srec ∧ (s.tickSilence).cfg = s.cfg ∧
    (s.tickSilence).settledRoles = s.settledRoles ∧ (s.tickSilence).farNeighbour = s.farNeighbour ∧
    (s.tickSilence).lateSeen = s.lateSeen ∧ (s.tickSilence).localSlot = s.localSlot ∧ (s.tickSilence).clock = s.clock ∧
    (s.tickSilence).pins = s.pins ∧ (s.tickSilence).rx = s.rx ∧ (s.tickSilence).tx = s.tx ∧
    (s.tickSilence).stations = s.stations ∧ (s.tickSilence).dst = s.dst ∧ (s.tickSilence).seqs = s.seqs ∧
    (s.tickSilence).counters = s.counters ∧ (s.tickSilence).paced = s.paced ∧ (s.tickSilence).eyes = s.eyes ∧
    (s.tickSilence).surveyed = s.surveyed ∧ (s.tickSilence).surveys = s.surveys ∧ (s.tickSilence).tokens = s.tokens ∧
    (s.tickSilence).motionOut = s.motionOut ∧ (s.tickSilence).audio = s.audio ∧ (s.tickSilence).power = s.power ∧
    (s.tickSilence).views = s.views ∧ (s.tickSilence).balance = s.balance ∧ (s.tickSilence).pulses = s.pulses ∧
    (s.tickSilence).service = s.service ∧ (s.tickSilence).pending = s.pending := by
  unfold State.tickSilence
  split
  · split <;> simp
  · simp

/-- A relay that times out changes its holder, and posts RELAY_TIMEOUT (R195). -/
@[simp] theorem State.relayTimeout_keeps (s : State) :
    (s.relayTimeout).start = s.start ∧ (s.relayTimeout).cause = s.cause ∧ (s.relayTimeout).station = s.station ∧
    (s.relayTimeout).sup = s.sup ∧ (s.relayTimeout).srec = s.srec ∧ (s.relayTimeout).cfg = s.cfg ∧
    (s.relayTimeout).settledRoles = s.settledRoles ∧ (s.relayTimeout).farNeighbour = s.farNeighbour ∧
    (s.relayTimeout).lateSeen = s.lateSeen ∧ (s.relayTimeout).localSlot = s.localSlot ∧ (s.relayTimeout).clock = s.clock ∧
    (s.relayTimeout).pins = s.pins ∧ (s.relayTimeout).rx = s.rx ∧ (s.relayTimeout).tx = s.tx ∧
    (s.relayTimeout).stations = s.stations ∧ (s.relayTimeout).dst = s.dst ∧ (s.relayTimeout).seqs = s.seqs ∧
    (s.relayTimeout).counters = s.counters ∧ (s.relayTimeout).paced = s.paced ∧ (s.relayTimeout).eyes = s.eyes ∧
    (s.relayTimeout).surveyed = s.surveyed ∧ (s.relayTimeout).surveys = s.surveys ∧ (s.relayTimeout).tokens = s.tokens ∧
    (s.relayTimeout).motion = s.motion ∧ (s.relayTimeout).motionOut = s.motionOut ∧ (s.relayTimeout).audio = s.audio ∧
    (s.relayTimeout).power = s.power ∧ (s.relayTimeout).views = s.views ∧ (s.relayTimeout).balance = s.balance ∧
    (s.relayTimeout).pulses = s.pulses ∧ (s.relayTimeout).pending = s.pending := by
  unfold State.relayTimeout
  split <;> simp

/-- The relay wait runs in the holder (R195). -/
@[simp] theorem State.tickRelay_keeps (s : State) :
    (s.tickRelay).start = s.start ∧ (s.tickRelay).cause = s.cause ∧ (s.tickRelay).station = s.station ∧
    (s.tickRelay).sup = s.sup ∧ (s.tickRelay).srec = s.srec ∧ (s.tickRelay).cfg = s.cfg ∧
    (s.tickRelay).settledRoles = s.settledRoles ∧ (s.tickRelay).farNeighbour = s.farNeighbour ∧
    (s.tickRelay).lateSeen = s.lateSeen ∧ (s.tickRelay).localSlot = s.localSlot ∧ (s.tickRelay).clock = s.clock ∧
    (s.tickRelay).pins = s.pins ∧ (s.tickRelay).rx = s.rx ∧ (s.tickRelay).tx = s.tx ∧
    (s.tickRelay).stations = s.stations ∧ (s.tickRelay).dst = s.dst ∧ (s.tickRelay).seqs = s.seqs ∧
    (s.tickRelay).counters = s.counters ∧ (s.tickRelay).paced = s.paced ∧ (s.tickRelay).eyes = s.eyes ∧
    (s.tickRelay).surveyed = s.surveyed ∧ (s.tickRelay).surveys = s.surveys ∧ (s.tickRelay).tokens = s.tokens ∧
    (s.tickRelay).motion = s.motion ∧ (s.tickRelay).motionOut = s.motionOut ∧ (s.tickRelay).audio = s.audio ∧
    (s.tickRelay).power = s.power ∧ (s.tickRelay).views = s.views ∧ (s.tickRelay).balance = s.balance ∧
    (s.tickRelay).pulses = s.pulses ∧ (s.tickRelay).pending = s.pending := by
  unfold State.tickRelay
  split
  · dsimp only
    split <;> simp
  · simp

/-- A slot of the local reference leaves settings, flows, samples out and the views. -/
@[simp] theorem State.tick_keeps (s : State) :
    (s.tick).start = s.start ∧ (s.tick).cause = s.cause ∧ (s.tick).station = s.station ∧ (s.tick).sup = s.sup ∧
    (s.tick).srec = s.srec ∧ (s.tick).cfg = s.cfg ∧ (s.tick).settledRoles = s.settledRoles ∧
    (s.tick).farNeighbour = s.farNeighbour ∧ (s.tick).lateSeen = s.lateSeen ∧ (s.tick).pins = s.pins ∧
    (s.tick).seqs = s.seqs ∧ (s.tick).counters = s.counters ∧ (s.tick).paced = s.paced ∧ (s.tick).surveyed = s.surveyed ∧
    (s.tick).tokens = s.tokens ∧ (s.tick).motionOut = s.motionOut ∧ (s.tick).views = s.views ∧
    (s.tick).pending = s.pending := by
  unfold State.tick
  split <;> simp

/-- An answered ECHO sets the delay, or fails the attempt (R117). -/
@[simp] theorem State.echoAnswered_keeps (s : State) (t : Station) (n : Nat) :
    (s.echoAnswered t n).start = s.start ∧ (s.echoAnswered t n).cause = s.cause ∧
    (s.echoAnswered t n).station = s.station ∧ (s.echoAnswered t n).sup = s.sup ∧ (s.echoAnswered t n).srec = s.srec ∧
    (s.echoAnswered t n).cfg = s.cfg ∧ (s.echoAnswered t n).settledRoles = s.settledRoles ∧
    (s.echoAnswered t n).farNeighbour = s.farNeighbour ∧ (s.echoAnswered t n).lateSeen = s.lateSeen ∧
    (s.echoAnswered t n).localSlot = s.localSlot ∧ (s.echoAnswered t n).clock = s.clock ∧
    (s.echoAnswered t n).pins = s.pins ∧ (s.echoAnswered t n).rx = s.rx ∧ (s.echoAnswered t n).dst = s.dst ∧
    (s.echoAnswered t n).seqs = s.seqs ∧ (s.echoAnswered t n).counters = s.counters ∧
    (s.echoAnswered t n).paced = s.paced ∧ (s.echoAnswered t n).eyes = s.eyes ∧
    (s.echoAnswered t n).surveyed = s.surveyed ∧ (s.echoAnswered t n).motion = s.motion ∧
    (s.echoAnswered t n).motionOut = s.motionOut ∧ (s.echoAnswered t n).audio = s.audio ∧
    (s.echoAnswered t n).power = s.power ∧ (s.echoAnswered t n).views = s.views ∧
    (s.echoAnswered t n).balance = s.balance ∧ (s.echoAnswered t n).pulses = s.pulses ∧
    (s.echoAnswered t n).service = s.service ∧ (s.echoAnswered t n).pending = s.pending := by
  unfold State.echoAnswered
  dsimp only
  split <;> simp

/-- A part of an answer is stored in the holder (R195). -/
@[simp] theorem State.storeAnswer_keeps (s : State) (r : RelayCell) :
    (s.storeAnswer r).start = s.start ∧ (s.storeAnswer r).cause = s.cause ∧ (s.storeAnswer r).station = s.station ∧
    (s.storeAnswer r).sup = s.sup ∧ (s.storeAnswer r).srec = s.srec ∧ (s.storeAnswer r).cfg = s.cfg ∧
    (s.storeAnswer r).settledRoles = s.settledRoles ∧ (s.storeAnswer r).farNeighbour = s.farNeighbour ∧
    (s.storeAnswer r).lateSeen = s.lateSeen ∧ (s.storeAnswer r).localSlot = s.localSlot ∧
    (s.storeAnswer r).clock = s.clock ∧ (s.storeAnswer r).pins = s.pins ∧ (s.storeAnswer r).rx = s.rx ∧
    (s.storeAnswer r).tx = s.tx ∧ (s.storeAnswer r).stations = s.stations ∧ (s.storeAnswer r).dst = s.dst ∧
    (s.storeAnswer r).seqs = s.seqs ∧ (s.storeAnswer r).counters = s.counters ∧ (s.storeAnswer r).paced = s.paced ∧
    (s.storeAnswer r).eyes = s.eyes ∧ (s.storeAnswer r).surveyed = s.surveyed ∧ (s.storeAnswer r).surveys = s.surveys ∧
    (s.storeAnswer r).tokens = s.tokens ∧ (s.storeAnswer r).motion = s.motion ∧
    (s.storeAnswer r).motionOut = s.motionOut ∧ (s.storeAnswer r).audio = s.audio ∧ (s.storeAnswer r).power = s.power ∧
    (s.storeAnswer r).views = s.views ∧ (s.storeAnswer r).balance = s.balance ∧ (s.storeAnswer r).pulses = s.pulses ∧
    (s.storeAnswer r).pending = s.pending := by
  unfold State.storeAnswer
  dsimp only
  split <;> simp

/-- A correct cell while LOCKED leaves settings, sources and the service line (R9 to R14). -/
@[simp] theorem State.alignCorrect_keeps (s : State) (l : Lane) (i : AlignInfo) :
    (s.alignCorrect l i).start = s.start ∧ (s.alignCorrect l i).cause = s.cause ∧
    (s.alignCorrect l i).station = s.station ∧ (s.alignCorrect l i).sup = s.sup ∧ (s.alignCorrect l i).srec = s.srec ∧
    (s.alignCorrect l i).cfg = s.cfg ∧ (s.alignCorrect l i).settledRoles = s.settledRoles ∧
    (s.alignCorrect l i).farNeighbour = s.farNeighbour ∧ (s.alignCorrect l i).lateSeen = s.lateSeen ∧
    (s.alignCorrect l i).localSlot = s.localSlot ∧ (s.alignCorrect l i).pins = s.pins ∧
    (s.alignCorrect l i).seqs = s.seqs ∧ (s.alignCorrect l i).paced = s.paced ∧
    (s.alignCorrect l i).surveyed = s.surveyed ∧ (s.alignCorrect l i).views = s.views ∧
    (s.alignCorrect l i).service = s.service ∧ (s.alignCorrect l i).pending = s.pending := by
  unfold State.alignCorrect
  dsimp only
  split <;> simp

/-- An IDLE cell sent changes its transmitter alone (R29). -/
@[simp] theorem State.sendIdle_keeps (s : State) (l : Lane) :
    (s.sendIdle l).start = s.start ∧ (s.sendIdle l).cause = s.cause ∧ (s.sendIdle l).station = s.station ∧
    (s.sendIdle l).sup = s.sup ∧ (s.sendIdle l).srec = s.srec ∧ (s.sendIdle l).cfg = s.cfg ∧
    (s.sendIdle l).settledRoles = s.settledRoles ∧ (s.sendIdle l).farNeighbour = s.farNeighbour ∧
    (s.sendIdle l).lateSeen = s.lateSeen ∧ (s.sendIdle l).localSlot = s.localSlot ∧ (s.sendIdle l).clock = s.clock ∧
    (s.sendIdle l).pins = s.pins ∧ (s.sendIdle l).rx = s.rx ∧ (s.sendIdle l).stations = s.stations ∧
    (s.sendIdle l).dst = s.dst ∧ (s.sendIdle l).seqs = s.seqs ∧ (s.sendIdle l).counters = s.counters ∧
    (s.sendIdle l).paced = s.paced ∧ (s.sendIdle l).eyes = s.eyes ∧ (s.sendIdle l).surveyed = s.surveyed ∧
    (s.sendIdle l).surveys = s.surveys ∧ (s.sendIdle l).tokens = s.tokens ∧ (s.sendIdle l).motion = s.motion ∧
    (s.sendIdle l).motionOut = s.motionOut ∧ (s.sendIdle l).audio = s.audio ∧ (s.sendIdle l).power = s.power ∧
    (s.sendIdle l).views = s.views ∧ (s.sendIdle l).balance = s.balance ∧ (s.sendIdle l).notices = s.notices ∧
    (s.sendIdle l).pulses = s.pulses ∧ (s.sendIdle l).service = s.service ∧ (s.sendIdle l).pending = s.pending := by
  simp [State.sendIdle]

/-- A picture insertion changes the record, the number and the transmitter (R98). -/
@[simp] theorem State.insertPicture_keeps (s : State) (l : Lane) (e : Eye) :
    (s.insertPicture l e).start = s.start ∧ (s.insertPicture l e).cause = s.cause ∧
    (s.insertPicture l e).station = s.station ∧ (s.insertPicture l e).sup = s.sup ∧ (s.insertPicture l e).srec = s.srec ∧
    (s.insertPicture l e).cfg = s.cfg ∧ (s.insertPicture l e).settledRoles = s.settledRoles ∧
    (s.insertPicture l e).farNeighbour = s.farNeighbour ∧ (s.insertPicture l e).lateSeen = s.lateSeen ∧
    (s.insertPicture l e).localSlot = s.localSlot ∧ (s.insertPicture l e).clock = s.clock ∧
    (s.insertPicture l e).pins = s.pins ∧ (s.insertPicture l e).rx = s.rx ∧ (s.insertPicture l e).stations = s.stations ∧
    (s.insertPicture l e).dst = s.dst ∧ (s.insertPicture l e).counters = s.counters ∧
    (s.insertPicture l e).eyes = s.eyes ∧ (s.insertPicture l e).surveyed = s.surveyed ∧
    (s.insertPicture l e).surveys = s.surveys ∧ (s.insertPicture l e).tokens = s.tokens ∧
    (s.insertPicture l e).motion = s.motion ∧ (s.insertPicture l e).motionOut = s.motionOut ∧
    (s.insertPicture l e).audio = s.audio ∧ (s.insertPicture l e).power = s.power ∧
    (s.insertPicture l e).views = s.views ∧ (s.insertPicture l e).balance = s.balance ∧
    (s.insertPicture l e).pulses = s.pulses ∧ (s.insertPicture l e).service = s.service ∧
    (s.insertPicture l e).pending = s.pending := by
  unfold State.insertPicture
  dsimp only
  split <;> simp

/-- An accepted relay changes the holder and offers a cell (R193). -/
@[simp] theorem State.startRelay_keeps (s : State) (t : Station) (bs : List Byte) :
    (s.startRelay t bs).start = s.start ∧ (s.startRelay t bs).cause = s.cause ∧ (s.startRelay t bs).station = s.station ∧
    (s.startRelay t bs).sup = s.sup ∧ (s.startRelay t bs).srec = s.srec ∧ (s.startRelay t bs).cfg = s.cfg ∧
    (s.startRelay t bs).settledRoles = s.settledRoles ∧ (s.startRelay t bs).farNeighbour = s.farNeighbour ∧
    (s.startRelay t bs).lateSeen = s.lateSeen ∧ (s.startRelay t bs).localSlot = s.localSlot ∧
    (s.startRelay t bs).clock = s.clock ∧ (s.startRelay t bs).pins = s.pins ∧ (s.startRelay t bs).rx = s.rx ∧
    (s.startRelay t bs).stations = s.stations ∧ (s.startRelay t bs).dst = s.dst ∧ (s.startRelay t bs).seqs = s.seqs ∧
    (s.startRelay t bs).counters = s.counters ∧ (s.startRelay t bs).paced = s.paced ∧ (s.startRelay t bs).eyes = s.eyes ∧
    (s.startRelay t bs).surveyed = s.surveyed ∧ (s.startRelay t bs).surveys = s.surveys ∧
    (s.startRelay t bs).tokens = s.tokens ∧ (s.startRelay t bs).motion = s.motion ∧
    (s.startRelay t bs).motionOut = s.motionOut ∧ (s.startRelay t bs).audio = s.audio ∧
    (s.startRelay t bs).power = s.power ∧ (s.startRelay t bs).views = s.views ∧ (s.startRelay t bs).balance = s.balance ∧
    (s.startRelay t bs).notices = s.notices ∧ (s.startRelay t bs).pulses = s.pulses ∧
    (s.startRelay t bs).pending = s.pending := by
  simp [State.startRelay]

/-- The parser is part of the service port (R189). -/
@[simp] theorem State.setParser_keeps (s : State) (p : Parser) :
    (s.setParser p).start = s.start ∧ (s.setParser p).cause = s.cause ∧ (s.setParser p).station = s.station ∧
    (s.setParser p).sup = s.sup ∧ (s.setParser p).srec = s.srec ∧ (s.setParser p).cfg = s.cfg ∧
    (s.setParser p).settledRoles = s.settledRoles ∧ (s.setParser p).farNeighbour = s.farNeighbour ∧
    (s.setParser p).lateSeen = s.lateSeen ∧ (s.setParser p).localSlot = s.localSlot ∧ (s.setParser p).clock = s.clock ∧
    (s.setParser p).pins = s.pins ∧ (s.setParser p).rx = s.rx ∧ (s.setParser p).tx = s.tx ∧
    (s.setParser p).stations = s.stations ∧ (s.setParser p).dst = s.dst ∧ (s.setParser p).seqs = s.seqs ∧
    (s.setParser p).counters = s.counters ∧ (s.setParser p).paced = s.paced ∧ (s.setParser p).eyes = s.eyes ∧
    (s.setParser p).surveyed = s.surveyed ∧ (s.setParser p).surveys = s.surveys ∧ (s.setParser p).tokens = s.tokens ∧
    (s.setParser p).motion = s.motion ∧ (s.setParser p).motionOut = s.motionOut ∧ (s.setParser p).audio = s.audio ∧
    (s.setParser p).power = s.power ∧ (s.setParser p).views = s.views ∧ (s.setParser p).balance = s.balance ∧
    (s.setParser p).notices = s.notices ∧ (s.setParser p).pulses = s.pulses ∧ (s.setParser p).pending = s.pending := by
  simp [State.setParser]

end Sys2Proof.Machine

namespace Sys2Proof.Machine

/-! ### Rates, credit and probe counts (O58) -/

theorem State.params_congr {s t : State} (h : t.cfg = s.cfg) (e : Eye) : t.params e = s.params e := by
  cases e <;> simp only [State.params, h]

/-- The fade keeps the rate from floor to peak (R70). -/
theorem fadedRate_range {p : FlowParams} {ar : Nat} (ordered : ratesOrdered p) (h : ar ≤ p.peak) :
    p.floor ≤ fadedRate p ar ∧ fadedRate p ar ≤ p.peak := by
  unfold fadedRate
  omega

/-- The rate that a reply leaves is from floor to peak (R81). -/
theorem rateAfterReply_range {p : FlowParams} (ordered : ratesOrdered p) (ar : Nat) (r : RateCell) :
    p.floor ≤ rateAfterReply p ar r ∧ rateAfterReply p ar r ≤ p.peak := by
  unfold rateAfterReply
  dsimp only
  omega

/-- Validation orders floor, start and peak (R199). -/
theorem ratesOrdered_flowRelated (m : List Byte) (o : Nat) : ratesOrdered (flowRelated (flowClamped m o)) := by
  have peak : (flowClamped m o).peak ≤ 1008 := by simp [flowClamped, clamp]
  unfold flowRelated ratesOrdered
  dsimp only
  split <;> simp only [clamp] <;> omega

/-- Every validated record orders floor, start and peak of both eyes (R199). -/
theorem ratesOrdered_loadRecord (b : Bool) (m : List Byte) :
    ratesOrdered (loadRecord b m).flowL ∧ ratesOrdered (loadRecord b m).flowR := by
  unfold loadRecord
  split
  · unfold railRelated
    split <;> exact ⟨ratesOrdered_flowRelated m 2, ratesOrdered_flowRelated m 24⟩
  · decide

namespace State.RatesInRange

theorem of_same {s t : State} (h : s.RatesInRange) (cfg : t.cfg = s.cfg) (station : t.station = s.station)
    (live : t.live ↔ s.live) (paced : t.paced = s.paced) : t.RatesInRange := by
  have params (e : Eye) := State.params_congr cfg e
  obtain ⟨ordered, rate, credit, noCredit, unanswered, cells⟩ := h
  refine ⟨?_, ?_, ?_, ?_, ?_, ?_⟩ <;> simpa only [params, station, live, paced]

/-- What does not look at settings, station, start state and paced records keeps the rates. -/
theorem of_kept {s t : State} (h : s.RatesInRange)
    (kept : t.cfg = s.cfg ∧ t.station = s.station ∧ t.start = s.start ∧ t.paced = s.paced) : t.RatesInRange := by
  obtain ⟨cfg, station, start, paced⟩ := kept
  exact h.of_same cfg station (by simp only [State.live, start]) paced

variable {s : State} (h : s.RatesInRange)

include h

/-- A change of one paced record that keeps its rate and its credit in range, and the two counts. -/
theorem modPaced (e : Eye) (f : Paced → Paced)
    (ar : s.station = .console → s.live → (s.params e).floor ≤ (f (s.paced.get e)).ar ∧
      (f (s.paced.get e)).ar ≤ (s.params e).peak)
    (credit : s.live → (f (s.paced.get e)).credit ≤ creditCap (s.params e)) (noCredit : ¬s.live → (f (s.paced.get e)).credit = 0)
    (unanswered : (f (s.paced.get e)).unanswered ≤ 255) (cells : (f (s.paced.get e)).cellsSince ≤ 255) :
    (s.modPaced e f).RatesInRange := by
  have params (k : Eye) : (s.modPaced e f).params k = s.params k := State.params_congr rfl k
  refine ⟨fun k => ?_, fun console live k => ?_, fun live k => ?_, fun live k => ?_, fun k => ?_, fun k => ?_⟩
  · rw [params]; exact h.ordered k
  all_goals
    simp only [params, State.modPaced_paced, PerEye.get_set]
    split
    rename_i same
    subst same
  · exact ar console live
  · exact h.rate console live k
  · exact credit live
  · exact h.credit live k
  · exact noCredit live
  · exact h.noCredit live k
  · exact unanswered
  · exact h.unanswered k
  · exact cells
  · exact h.cells k

/-- A change of one paced record that leaves its rate, its credit and the two counts. -/
theorem modPaced_same (e : Eye) (f : Paced → Paced)
    (same : (f (s.paced.get e)).ar = (s.paced.get e).ar ∧ (f (s.paced.get e)).credit = (s.paced.get e).credit ∧
      (f (s.paced.get e)).unanswered = (s.paced.get e).unanswered ∧ (f (s.paced.get e)).cellsSince = (s.paced.get e).cellsSince) :
    (s.modPaced e f).RatesInRange := by
  obtain ⟨ar, credit, unanswered, cells⟩ := same
  refine h.modPaced e f ?_ ?_ ?_ ?_ ?_
  · rw [ar]; exact fun console live => h.rate console live e
  · rw [credit]; exact fun live => h.credit live e
  · rw [credit]; exact fun live => h.noCredit live e
  · rw [unanswered]; exact h.unanswered e
  · rw [cells]; exact h.cells e

theorem setRate (e : Eye) (a : Nat)
    (range : s.station = .console → s.live → (s.params e).floor ≤ a ∧ a ≤ (s.params e).peak) : (s.setRate e a).RatesInRange := by
  have set : (s.modPaced e fun p => { p with ar := a, band := bandAfter (s.params e) (s.paced.get e).band a }).RatesInRange :=
    h.modPaced e _ range (fun live => h.credit live e) (fun live => h.noCredit live e) (h.unanswered e) (h.cells e)
  unfold State.setRate
  dsimp only
  split
  · exact set
  · exact set.of_kept (by simp)

theorem queueProbe (e : Eye) : (s.queueProbe e).RatesInRange := by
  have queued (s1 : State) (h1 : s1.RatesInRange) (c : Ctl) (n : Num8) (k : Nat) (x : Option Count32) (w : Bool) :
      ((s1.offerTo .headset c).modPaced e fun q =>
        { q with
          lastProbe := n, unanswered := min (k + 1) 255, cellsSince := 0, probeAt := x, probeWaiting := w }).RatesInRange := by
    have offered : (s1.offerTo .headset c).RatesInRange := h1.of_kept (by simp)
    exact offered.modPaced e _ (fun console live => offered.rate console live e) (fun live => offered.credit live e)
      (fun live => offered.noCredit live e) (Nat.min_le_right _ _) (Nat.zero_le _)
  unfold State.queueProbe
  dsimp only
  split
  · refine queued _ (h.setRate e _ fun console live => ?_) _ _ _ _ _
    exact fadedRate_range (h.ordered e) (h.rate console live e).2
  · exact queued s h _ _ _ _ _

theorem probeCheck (e : Eye) : (s.probeCheck e).RatesInRange := by
  unfold State.probeCheck
  split
  · exact h.queueProbe e
  · exact h

theorem toIdle (e : Eye) : (s.toIdle e).RatesInRange := h.modPaced_same e _ ⟨rfl, rfl, rfl, rfl⟩

theorem idleIfEmpty (e : Eye) : (s.idleIfEmpty e).RatesInRange := by
  unfold State.idleIfEmpty
  split
  · exact h.toIdle e
  · exact h

theorem enterPaced (e : Eye) (st : PacedState) : (s.enterPaced e st).RatesInRange :=
  (h.modPaced_same e _ ⟨rfl, rfl, rfl, rfl⟩).probeCheck e

theorem accrue (e : Eye) (live : s.live) : (s.accrue e).RatesInRange :=
  h.modPaced e _ (fun console live => h.rate console live e) (fun _ => Nat.min_le_right _ _) (fun no => absurd live no)
    (h.unanswered e) (h.cells e)

theorem accrueAll : s.accrueAll.RatesInRange := by
  unfold State.accrueAll
  split
  · rename_i c
    exact (h.accrue .left (.inr c.2)).accrue .right (.inr c.2)
  · exact h

theorem replyState (e : Eye) (hold : Bool) : (s.replyState e hold).RatesInRange := by
  unfold State.replyState
  dsimp only
  split
  · split <;> exact h.modPaced_same e _ ⟨rfl, rfl, rfl, rfl⟩
  · split
    · split
      · exact h.modPaced_same e _ ⟨rfl, rfl, rfl, rfl⟩
      · exact h.toIdle e
    · exact h

theorem takeReply (e : Eye) (r : RateCell) : (s.takeReply e r).RatesInRange := by
  unfold State.takeReply
  dsimp only
  split
  · rename_i inside
    have moved : (s.modPaced e fun q => { q with unanswered := ((s.paced.get e).lastProbe - r.number).toNat }).RatesInRange :=
      h.modPaced e _ (fun console live => h.rate console live e) (fun live => h.credit live e)
        (fun live => h.noCredit live e) (inside.le.trans (h.unanswered e)) (h.cells e)
    have rated := (moved.replyState e r.hold).setRate e (rateAfterReply (s.params e) (s.paced.get e).ar r) fun _ _ => by
      rw [State.params_congr (s := s) (by simp)]
      exact rateAfterReply_range (h.ordered e) _ r
    split
    · exact rated
    · exact rated.probeCheck e
  · exact h.of_kept (by simp)

theorem leaveQueue (e : Eye) (q : List SliceRec) : (s.leaveQueue e q).RatesInRange :=
  ((h.modPaced_same e (fun p => { p with queue := q }) ⟨rfl, rfl, rfl, rfl⟩).of_kept (by simp)).idleIfEmpty e

theorem answerSlice (e : Eye) (a : SliceAnswer) : (s.answerSlice e a).RatesInRange := h.modPaced_same e _ ⟨rfl, rfl, rfl, rfl⟩

theorem refused (e : Eye) (g : FlowCounters → FlowCounters) (a : SliceAnswer) :
    ((s.count (Eye.flow e) g).answerSlice e a).RatesInRange := (h.of_kept (by simp)).answerSlice e a

theorem idleReset (e : Eye) : (s.idleReset e).RatesInRange := by
  unfold State.idleReset
  dsimp only
  split
  · refine h.setRate e _ fun console live => ?_
    have rate := h.rate console live e
    have ordered := h.ordered e
    unfold ratesOrdered at ordered
    omega
  · exact h

theorem acceptSlice (e : Eye) (r : SliceRec) : (s.acceptSlice e r).RatesInRange := by
  have joined : (s.modPaced e fun p => p.accept r).RatesInRange := h.modPaced_same e _ ⟨rfl, rfl, rfl, rfl⟩
  unfold State.acceptSlice
  dsimp only
  split
  · exact joined.enterPaced e _
  · exact joined

theorem entryPolicy (e : Eye) (r : SliceRec) : (s.entryPolicy e r).RatesInRange := by
  have purged : (s.supersede e r.picture).RatesInRange := by
    unfold State.supersede
    dsimp only
    split
    · exact h.leaveQueue e _
    · exact h
  unfold State.entryPolicy
  dsimp only
  split
  · exact h.refused e _ _
  · split
    · exact h.refused e _ _
    · split
      · exact (purged.leaveQueue e _).acceptSlice e r
      · exact purged.refused e _ _

theorem insertPicture (l : Lane) (e : Eye) : (s.insertPicture l e).RatesInRange := by
  have sent : (((s.modTx l fun t => (t.send (s.pictureCell e) true).countPicture e (s.paced.get e).band).nextSeq
      (Eye.flow e)).modPaced e fun p => p.spend s.superframe).RatesInRange := by
    have kept : ((s.modTx l fun t => (t.send (s.pictureCell e) true).countPicture e (s.paced.get e).band).nextSeq
      (Eye.flow e)).RatesInRange := h.of_kept (by simp)
    refine kept.modPaced e _ (fun console live => h.rate console live e) (fun live => ?_) (fun live => ?_) (h.unanswered e)
      (Nat.min_le_right _ _)
    · exact (Nat.sub_le _ _).trans (h.credit live e)
    · exact Nat.eq_zero_of_le_zero ((Nat.sub_le _ 16).trans (h.noCredit live e).le)
  unfold State.insertPicture
  dsimp only
  refine probeCheck ?_ e
  split
  · unfold State.endInserted
    exact ((sent.modPaced_same e (fun p => { p with discarded := 0 }) ⟨rfl, rfl, rfl, rfl⟩).toIdle e).of_kept (by simp)
  · exact sent.idleIfEmpty e

theorem insert (l : Lane) (w : Winner) : (s.insert l w).RatesInRange := by
  cases w with
  | control c =>
    have sent : (s.modTx l fun t => { t.send (ctlCell s.station s.localSlot c) false with fifo := t.fifo.tail }).RatesInRange :=
      h.of_kept (by simp)
    unfold State.insert State.insertControl
    cases c with
    | probe e n a o p => exact (sent.modPaced_same e _ ⟨rfl, rfl, rfl, rfl⟩).probeCheck e
    | echo t k => unfold State.reportInserted; dsimp only; split <;> exact sent.of_kept (by simp)
    | _ => exact sent.of_kept (by simp [State.reportInserted])
  | picture e => exact h.insertPicture l e
  | _ => exact h.of_kept (by simp [State.insert])

theorem originAlign (l : Lane) (q : Quiet) : (s.originAlign l q).RatesInRange := by
  have framed (t : State) (ht : t.RatesInRange) (f : BitVec 4) : (t.consoleFrame l f).RatesInRange := by
    unfold State.consoleFrame
    split
    · dsimp only
      split
      · exact (ht.accrueAll.probeCheck .left).probeCheck .right
      · exact ht.accrueAll
    · exact ht
  have begun : ((s.modTx l fun t => t.begin (s.tx.get l).nextFrame.1 (s.tx.get l).nextFrame.2).syncClock).RatesInRange :=
    h.of_kept (by simp)
  have started := framed _ begun (s.tx.get l).nextFrame.1
  unfold State.originAlign
  dsimp only
  refine of_kept started ?_
  split <;> simp

theorem served {t : State} (made : s.Served t) : t.RatesInRange := by
  cases made with
  | want n v => exact h.of_kept (by simp)
    | _ => exact h.of_kept (by simp)

omit h in
/-- After a reset no record holds credit, and the default record is in effect (R65, R202). -/
theorem resetNode (s : State) (c : Cause) : (s.resetNode c).RatesInRange := by
  have dead : ¬(s.resetNode c).live := by simp [State.resetNode, State.reset]
  have records (e : Eye) : (s.resetNode c).paced.get e = Paced.reset := by cases e <;> rfl
  refine ⟨fun e => ?_, fun _ live => absurd live dead, fun live => absurd live dead, fun _ e => ?_, fun e => ?_, fun e => ?_⟩
  · cases e <;> exact (by decide : ratesOrdered {})
  all_goals simp [records, Paced.reset]

/-- The record that END_OF_LOADING puts into effect orders the rates, and CONSOLE's records take start (R89, R199). -/
theorem applyRecord (m : List Byte) (start : s.start = .loading) : (s.applyRecord m).RatesInRange := by
  have dead : ¬s.live := by simp [start]
  have live : (s.applyRecord m).live := .inl (s.applyRecord_start m)
  have zero (e : Eye) (k : Nat) : (s.paced.get e).credit ≤ k := (h.noCredit dead e).le.trans (Nat.zero_le k)
  have ordered (e : Eye) : ratesOrdered ((s.applyRecord m).params e) := by
    obtain ⟨left, right⟩ := ratesOrdered_loadRecord s.srec m
    rw [State.params_congr (t := s.applyRecord m) (s := { s with cfg := loadRecord s.srec m }) (by simp)]
    cases e <;> assumption
  by_cases console : s.station = .console
  · have record (e : Eye) : (s.applyRecord m).paced.get e = (s.paced.get e).load ((s.applyRecord m).params e) := by
      cases e <;> simp [State.applyRecord_paced_of_console m console, State.params, State.applyRecord_cfg, PerEye.get]
    refine ⟨ordered, fun _ _ e => ?_, fun _ e => ?_, fun no => absurd live no, fun e => ?_, fun e => ?_⟩ <;> rw [record]
    · exact ⟨(ordered e).1, (ordered e).2.1⟩
    · exact zero e _
    · exact h.unanswered e
    · exact h.cells e
  · have kept := State.applyRecord_paced_of_ne_console m console
    refine ⟨ordered, fun c => ?_, fun _ e => ?_, fun no => absurd live no, fun e => ?_, fun e => ?_⟩
    · exact absurd ((State.applyRecord_keeps s m).2.1.symm.trans c) console
    all_goals rw [kept]
    · exact zero e _
    · exact h.unanswered e
    · exact h.cells e

theorem startEffect {t : State} (made : s.StartEffect t) : t.RatesInRange := by
  cases made with
  | reset c => exact resetNode s c
  | endOfReset stn sup srec start =>
    have dead : ¬s.live := by simp [start]
    refine ⟨h.ordered, fun _ live => ?_, fun live => ?_, fun _ => h.noCredit dead, h.unanswered, h.cells⟩ <;>
      simp [State.live] at live
  | endOfLoading memory start =>
    exact (h.applyRecord memory start).of_kept (by simp)
  | settle start => exact h.of_kept (by simp)
  | settleLinked start =>
    exact (h.of_kept (t := s.settleRoles) (by simp)).of_same (by simp) (by simp) (by simp [State.live, start]) (by simp)
  | enterRunning start => exact h.of_same (by simp) (by simp) (by simp [State.live, start]) (by simp)

theorem laneEffect {t : State} (made : s.LaneEffect t) : t.RatesInRange := by
  cases made <;> exact h.of_kept (by simp)

theorem sendEffect {t : State} (made : s.SendEffect t) : t.RatesInRange := by
  cases made with
  | originAlign l q live => exact h.originAlign l q
  | insert l running => exact h.insert l _
  | frameStart hs => exact accrueAll (h.of_kept (by simp))
  | _ => exact h.of_kept (by simp)

theorem cellEffect {t : State} (made : s.CellEffect t) : t.RatesInRange := by
  have judged (l : Lane) (c : Cell) : (s.taken l c).RatesInRange := h.of_kept ⟨rfl, rfl, rfl, rfl⟩
  cases made with
  | takeReply l c e r live hs => exact (judged l c).takeReply e r
  | answerRelay l c r running =>
    exact State.answerRelay_preserves (P := State.RatesInRange) (fun _ _ _ h made => h.served made)
      (fun _ _ _ _ _ _ h => h.of_kept (by simp)) (s.taken l c) _ _ _ (.inr running) (judged l c)
  | _ => exact h.of_kept (by simp)

theorem pictureEffect {t : State} (made : s.PictureEffect t) : t.RatesInRange := by
  cases made with
  | answerSlice e a => exact h.answerSlice e a
  | refuseSlice e a => exact h.refused e _ a
  | enterSlice e p i k n d hs running hn => exact (h.idleReset e).entryPolicy e _
  | drainHeld e hs running => exact (h.modPaced_same e _ ⟨rfl, rfl, rfl, rfl⟩).enterPaced e _
  | drain e hs running => exact h.enterPaced e _
  | _ => exact h.of_kept (by simp)

theorem motionEffect {t : State} (made : s.MotionEffect t) : t.RatesInRange := by
  cases made <;> exact h.of_kept (by simp)

theorem audioEffect {t : State} (made : s.AudioEffect t) : t.RatesInRange := by
  cases made <;> exact h.of_kept (by simp)

theorem powerEffect {t : State} (made : s.PowerEffect t) : t.RatesInRange := by
  cases made with
  | sampleEvent r l a live =>
    obtain reset | ⟨n, keep⟩ := (s.takeValues r l a).judgeSample.judgeBrownout_cases
    · rw [reset]; exact resetNode _ _
    · rw [keep]; exact h.of_kept (by simp)
  | _ => exact h.of_kept (by simp)

theorem lineEffect {t : State} (made : s.LineEffect t) : t.RatesInRange := by
  have served (s t : State) (_ : s.live) (h : s.RatesInRange) (m : s.Served t) : t.RatesInRange := h.served m
  cases made with
  | request r =>
    exact State.request_preserves (P := State.RatesInRange) served (fun _ _ h => h.of_kept ⟨rfl, rfl, rfl, rfl⟩)
      (fun _ _ _ h => h.of_kept ⟨rfl, rfl, rfl, rfl⟩) s r h
  | feedByte b =>
    exact State.feedByte_preserves (P := State.RatesInRange) served (fun _ _ h => h.of_kept ⟨rfl, rfl, rfl, rfl⟩)
      (fun _ _ _ h => h.of_kept ⟨rfl, rfl, rfl, rfl⟩) s b h
  | _ => exact h.of_kept (by simp)

theorem effect {t : State} (made : s.Effect t) : t.RatesInRange := by
  cases made with
  | same => exact h
  | start t made => exact h.startEffect made
  | lane t made => exact h.laneEffect made
  | send t made => exact h.sendEffect made
  | cell t made => exact h.cellEffect made
  | picture t made => exact h.pictureEffect made
  | motion t made => exact h.motionEffect made
  | audio t made => exact h.audioEffect made
  | power t made => exact h.powerEffect made
  | line t made => exact h.lineEffect made

theorem tick : s.tick.RatesInRange := h.of_kept (by simp)

end State.RatesInRange

/-- Settles O58. -/
theorem stepKeepsTheRatesInRange : Obligations.StepKeepsTheRatesInRange := by
  unfold Obligations.StepKeepsTheRatesInRange
  exact step_preserves (fun _ _ h => h.of_kept ⟨rfl, rfl, rfl, rfl⟩) (fun _ _ h made => h.effect made) fun _ h => h.tick

end Sys2Proof.Machine

namespace Sys2Proof.Machine

/-! ### The applied shed level (O59) -/

/-- A report built changes the next report's number alone in the power unit (R167). -/
theorem State.buildReport_power (s : State) : s.buildReport.power = { s.power with nextReport := s.power.nextReport + 1 } := by
  simp [State.buildReport]

/-- A domain after a shed of the ON domains that satisfy a test (R153). -/
def shedIf (p : Domain → Bool) (d : Domain) : Domain := if d.state = .on ∧ p d = true then { d with state := .shed } else d

@[simp] theorem shedIf_number (p : Domain → Bool) (d : Domain) : (shedIf p d).number = d.number := by
  unfold shedIf
  split <;> rfl

@[simp] theorem shedIf_priority (p : Domain → Bool) (d : Domain) : (shedIf p d).priority = d.priority := by
  unfold shedIf
  split <;> rfl

/-- The domains ON after a shed are those ON before that the test spares. -/
theorem shedIf_on (p : Domain → Bool) (d : Domain) : (shedIf p d).state = .on ↔ d.state = .on ∧ ¬p d = true := by
  unfold shedIf
  split <;> simp_all

theorem State.shedWhere_eq (s : State) (p : Domain → Bool) : s.shedWhere p = (s.changeDomains (shedIf p)).follow := rfl

/-- The applied level takes its value, sheds what it does not allow and posts SUPPLY_LEVEL, where it changes (R154). -/
theorem State.relevel_eq (s : State) :
    s.relevel =
      if s.appliedLevel = s.power.applied then s
      else
        ((s.modPower fun q => { q with applied := s.appliedLevel }).shedWhere fun d =>
          decide (8 - s.appliedLevel ≤ d.priority)).post .supplyLevel .supply s.appliedLevel := rfl

/-- What fixes the applied level, the domains apart, is the same in two states: the station, what it has of the others, and
whether it is live (R154). -/
structure State.SameSupply (s t : State) : Prop where
  station : t.station = s.station
  live : t.live ↔ s.live
  present : ∀ x, (t.stations.get x).present = (s.stations.get x).present
  views : t.views = s.views

/-- The power rules but for the value of the applied level: they hold between a change of its inputs and its own change. -/
structure State.LevelStands (s : State) : Prop where
  own : s.power.supplyLevel ≤ 7
  heard : ∀ t, (s.views.get t).report.level ≤ 7
  allowed : ∀ d ∈ s.power.domains, d.state = .on → d.priority < 8 - s.power.applied
  core : ∀ d ∈ s.power.domains, d.priority = 0 → d.state = .on
  numbers : (s.power.domains.map (·.number)).Nodup

theorem State.LevelStands.holds {s : State} (h : s.LevelStands) (live : s.live) (applied : s.power.applied = s.appliedLevel) :
    s.ShedLevelHolds :=
  ⟨applied, h.own, h.heard, h.allowed, h.core, h.numbers, fun dead => absurd live dead⟩

theorem State.ShedLevelHolds.stands {s : State} (h : s.ShedLevelHolds) : s.LevelStands :=
  ⟨h.own, h.heard, h.allowed, h.core, h.numbers⟩

/-- The applied level depends on the supply level and on what `SameSupply` names (R154). -/
theorem State.SameSupply.appliedLevel {s t : State} (h : s.SameSupply t) (level : t.power.supplyLevel = s.power.supplyLevel) :
    t.appliedLevel = s.appliedLevel := by
  simp only [State.appliedLevel, State.levelOf, h.station, h.present, h.views, level]

/-- No level is above 7 (R154). -/
theorem State.appliedLevel_le {s : State} (own : s.power.supplyLevel ≤ 7) (heard : ∀ t, (s.views.get t).report.level ≤ 7) :
    s.appliedLevel ≤ 7 := by
  have level (t : Station) : s.levelOf t ≤ 7 := by
    unfold State.levelOf
    split
    · exact own
    · split
      · exact heard t
      · exact Nat.zero_le _
  exact max_le (level _) (level _)

namespace State.ShedLevelHolds

/-- What leaves the levels, the domains and what they depend on keeps the power rules. -/
theorem of_same {s t : State} (h : s.ShedLevelHolds) (same : s.SameSupply t) (domains : t.power.domains = s.power.domains)
    (applied : t.power.applied = s.power.applied) (level : t.power.supplyLevel = s.power.supplyLevel) : t.ShedLevelHolds := by
  have value := same.appliedLevel level
  obtain ⟨eq, own, heard, allowed, core, numbers, before⟩ := h
  refine ⟨?_, ?_, ?_, ?_, ?_, ?_, ?_⟩ <;> simpa only [applied, value, level, domains, same.views, same.live]

/-- What leaves station, start state, station table, views and power unit keeps the power rules. -/
theorem of_kept {s t : State} (h : s.ShedLevelHolds)
    (kept : t.station = s.station ∧ t.start = s.start ∧ t.stations = s.stations ∧ t.views = s.views ∧ t.power = s.power) :
    t.ShedLevelHolds := by
  obtain ⟨station, start, stations, views, power⟩ := kept
  exact h.of_same ⟨station, by simp only [State.live, start], by simp only [stations, implies_true], views⟩ (by rw [power])
    (by rw [power]) (by rw [power])

theorem buildReport (s : State) (_ : s.reportDue = true) (h : s.ShedLevelHolds) : s.buildReport.ShedLevelHolds :=
  h.of_same ⟨by simp, by simp [State.live], by simp, by simp⟩ (by simp [State.buildReport_power])
    (by simp [State.buildReport_power]) (by simp [State.buildReport_power])

theorem event (s : State) (h : s.ShedLevelHolds) :
    State.ShedLevelHolds { s with balance := { s.balance with event := true } } := h.of_kept ⟨rfl, rfl, rfl, rfl, rfl⟩

variable {s : State} (h : s.ShedLevelHolds)

include h

theorem reportTest : s.reportTest.ShedLevelHolds := State.reportTest_preserves buildReport h

theorem callEvent : s.callEvent.ShedLevelHolds := State.callEvent_preserves buildReport event h

theorem setFresh : s.setFresh.ShedLevelHolds := callEvent (h.of_kept ⟨rfl, rfl, rfl, rfl, rfl⟩)

theorem alignTest (l : Lane) : (s.alignTest l).ShedLevelHolds := State.alignTest_preserves buildReport l h

omit h in
theorem calling {f : State → State} (h : (f s).ShedLevelHolds) : (s.calling f).ShedLevelHolds :=
  State.calling_preserves buildReport event h

theorem modPower (f : Power → Power)
    (same : (f s.power).domains = s.power.domains ∧ (f s.power).applied = s.power.applied ∧
      (f s.power).supplyLevel = s.power.supplyLevel) : (s.modPower f).ShedLevelHolds :=
  h.of_same ⟨rfl, Iff.rfl, fun _ => rfl, rfl⟩ same.1 same.2.1 same.2.2

/-! #### Domains -/

/-- A change of domains that turns none ON but an allowed one, and leaves every priority-0 domain ON (R153). -/
theorem changeDomains (f : Domain → Domain) (number : ∀ d ∈ s.power.domains, (f d).number = d.number)
    (priority : ∀ d ∈ s.power.domains, (f d).priority = d.priority)
    (allowed : ∀ d ∈ s.power.domains, (f d).state = .on → d.state = .on ∨ d.priority < 8 - s.power.applied)
    (core : ∀ d ∈ s.power.domains, d.priority = 0 → d.state = .on → (f d).state = .on) : (s.changeDomains f).ShedLevelHolds := by
  have same : s.SameSupply (s.changeDomains f) := ⟨by simp, by simp [State.live], by simp, by simp⟩
  have value := same.appliedLevel (by simp)
  have names : (s.power.domains.map f).map (·.number) = s.power.domains.map (·.number) := by
    rw [List.map_map]
    exact List.map_congr_left number
  refine ⟨?_, ?_, ?_, ?_, ?_, ?_, ?_⟩ <;> simp only [State.changeDomains_power, value, same.views, same.live, List.forall_mem_map]
  · exact h.applied
  · exact h.own
  · exact h.heard
  · intro d hd on
    rw [priority d hd]
    exact (allowed d hd on).elim (h.allowed d hd) id
  · intro d hd zero
    rw [priority d hd] at zero
    exact core d hd zero (h.core d hd zero)
  · rw [names]
    exact h.numbers
  · intro dead
    obtain ⟨none, level, views⟩ := h.before dead
    exact ⟨by rw [none, List.map_nil], level, views⟩

omit h in
/-- A write of a wanted flag keeps number and priority, turns no domain ON, and leaves a priority-0 domain ON (R152). -/
theorem wantOf_keeps (n : Nat) (v : Bool) (d : Domain) :
    (wantOf n v d).number = d.number ∧ (wantOf n v d).priority = d.priority ∧ ((wantOf n v d).state = .on → d.state = .on) ∧
      (d.priority = 0 → d.state = .on → (wantOf n v d).state = .on) := by
  unfold wantOf Domain.want
  split
  · split
    · simp
    · rename_i set
      cases v
      · simp_all
      · refine ⟨rfl, rfl, ?_, fun _ on => by simp [on]⟩
        simp only [if_true]
        split <;> simp
  · simp

theorem want_domains (n : Nat) (v : Bool) : (s.changeDomains (wantOf n v)).ShedLevelHolds := by
  have keeps := wantOf_keeps n v
  refine h.changeDomains _ (fun d _ => (keeps d).1) (fun d _ => (keeps d).2.1) (fun d _ on => .inl ((keeps d).2.2.1 on))
    fun d _ => (keeps d).2.2.2

theorem wearLink (v : Bool) : (s.wearLink v).ShedLevelHolds := by
  unfold State.wearLink
  split
  · exact (h.want_domains 1 v).of_kept (by simp)
  · exact h

theorem motionTo (f : Motion → Motion) : (s.motionTo f).ShedLevelHolds := h.of_kept (by simp)

theorem followSensors : s.followSensors.ShedLevelHolds := by
  unfold State.followSensors
  split
  · exact h
  · split
    · split
      · exact h
      · split
        · exact (h.motionTo _).wearLink true
        · exact (h.motionTo _).wearLink false
    · split
      · exact h
      · exact h.motionTo _

/-- A supply level that falls to 0 lowers the applied level, which forbids no domain more (R154, R166). -/
theorem followOffer : s.followOffer.ShedLevelHolds := by
  unfold State.followOffer
  split
  · have zeroed : State.LevelStands { s with power := { s.power with supplyLevel := 0 } } :=
      ⟨Nat.zero_le _, h.heard, h.allowed, h.core, h.numbers⟩
    have lower : State.appliedLevel { s with power := { s.power with supplyLevel := 0 } } ≤ s.power.applied := by
      rw [h.applied]
      simp only [State.appliedLevel, State.levelOf]
      refine max_le_max ?_ ?_ <;> split <;> omega
    have level (n : Nat) (fits : n ≤ s.power.applied)
        (value : n = State.appliedLevel { s with power := { s.power with supplyLevel := 0 } }) :
        State.ShedLevelHolds { s with power := { s.power with supplyLevel := 0, applied := n } } :=
      ⟨value, zeroed.own, zeroed.heard, fun d hd on => by have := zeroed.allowed d hd on; dsimp only at this ⊢; omega,
        zeroed.core, zeroed.numbers, fun dead => by
        obtain ⟨none, _, views⟩ := h.before dead
        exact ⟨none, rfl, views⟩⟩
    unfold State.lowerLevel
    split
    · rename_i same
      exact level _ le_rfl same.symm
    · exact (level _ lower rfl).of_kept (by simp)
  · exact h

theorem follow : s.follow.ShedLevelHolds := by
  unfold State.follow
  exact followOffer (h.followSensors.of_kept (by simp))

/-- Shedding domains above priority 0 (R153). -/
theorem shedWhere (p : Domain → Bool) (above : ∀ d ∈ s.power.domains, p d = true → d.priority ≠ 0) :
    (s.shedWhere p).ShedLevelHolds := by
  rw [State.shedWhere_eq]
  refine (h.changeDomains _ (fun d _ => shedIf_number p d) (fun d _ => shedIf_priority p d)
    (fun d _ on => .inl ((shedIf_on p d).1 on).1) fun d hd zero on => (shedIf_on p d).2 ⟨on, fun shed => ?_⟩).follow
  exact above d hd shed zero

theorem wantWrite (n : Nat) (v : Bool) : (s.want n v).ShedLevelHolds := (h.want_domains n v).follow

end State.ShedLevelHolds

/-- The applied level worked out afresh holds the power rules again: what the new level does not allow is SHED (R154). -/
theorem State.LevelStands.relevel {s : State} (h : s.LevelStands) (live : s.live) : s.relevel.ShedLevelHolds := by
  have fits : s.appliedLevel ≤ 7 := State.appliedLevel_le h.own h.heard
  rw [State.relevel_eq]
  split
  · rename_i same
    exact h.holds live same.symm
  · generalize hp : (fun d : Domain => decide (8 - s.appliedLevel ≤ d.priority)) = p
    have forbids (d : Domain) : p d = true ↔ 8 - s.appliedLevel ≤ d.priority := by rw [← hp]; exact decide_eq_true_iff
    have shed : ((s.modPower fun q => { q with applied := s.appliedLevel }).changeDomains (shedIf p)).ShedLevelHolds := by
      have same : s.SameSupply ((s.modPower fun q => { q with applied := s.appliedLevel }).changeDomains (shedIf p)) :=
        ⟨by simp, by simp [State.live], by simp, by simp⟩
      have names : (s.power.domains.map (shedIf p)).map (·.number) = s.power.domains.map (·.number) := by
        rw [List.map_map]
        exact List.map_congr_left fun d _ => shedIf_number p d
      refine State.LevelStands.holds ⟨?_, ?_, ?_, ?_, ?_⟩ (same.live.2 live) ?_
      · simpa using h.own
      · simpa using h.heard
      · simp only [State.changeDomains_power, State.modPower_power, List.forall_mem_map, shedIf_priority, shedIf_on, forbids]
        intro d hd on
        omega
      · simp only [State.changeDomains_power, State.modPower_power, List.forall_mem_map, shedIf_priority, shedIf_on, forbids]
        intro d hd zero
        exact ⟨h.core d hd zero, by omega⟩
      · rw [State.changeDomains_power, State.modPower_power, names]
        exact h.numbers
      · rw [same.appliedLevel (by simp)]
        simp
    exact shed.follow.of_kept (by simp [State.shedWhere_eq])

/-- The level's own rules do not look past the power unit and the views. -/
theorem State.LevelStands.of_kept {s t : State} (h : s.LevelStands) (kept : t.views = s.views ∧ t.power = s.power) :
    t.LevelStands := by
  obtain ⟨views, power⟩ := kept
  obtain ⟨own, heard, allowed, core, numbers⟩ := h
  refine ⟨?_, ?_, ?_, ?_, ?_⟩ <;> simpa only [views, power]

/-! #### What picks a domain -/

/-- A fold that keeps a best entry of a list or takes a new one ends in an entry of the list that was once taken. -/
theorem foldl_pick {α : Type} {step : Option α → α → Option α} {p : α → Prop}
    (pick : ∀ best x y, step best x = some y → best = some y ∨ x = y ∧ p y) (l : List α) (best : Option α) (y : α)
    (h : l.foldl step best = some y) : best = some y ∨ y ∈ l ∧ p y := by
  induction l generalizing best with
  | nil => exact .inl h
  | cons x l ih =>
    obtain first | ⟨mem, taken⟩ := ih _ h
    · obtain old | ⟨rfl, taken⟩ := pick _ _ _ first
      · exact .inl old
      · exact .inr ⟨List.mem_cons_self, taken⟩
    · exact .inr ⟨List.mem_cons_of_mem _ mem, taken⟩

/-- Droop shedding takes an ON domain of the table above priority 0 (R155). -/
theorem droopPick_mem {ds : List Domain} {d : Domain} (h : droopPick ds = some d) :
    d ∈ ds ∧ d.state = .on ∧ 0 < d.priority := by
  refine (foldl_pick (p := fun d : Domain => d.state = .on ∧ 0 < d.priority) (fun best x y hy => ?_) ds none d h).resolve_left nofun
  split at hy
  · rename_i fits
    split at hy
    · split at hy <;> cases hy
      · exact .inr ⟨rfl, fits⟩
      · exact .inl rfl
    · cases hy
      exact .inr ⟨rfl, fits⟩
  · exact .inl hy

/-- The candidate is a WAITING domain of the table (R159). -/
theorem candidate_mem {ds : List Domain} {d : Domain} (h : candidate ds = some d) : d ∈ ds ∧ d.state = .waiting := by
  refine (foldl_pick (p := fun d : Domain => d.state = .waiting) (fun best x y hy => ?_) ds none d h).resolve_left nofun
  split at hy
  · rename_i waits
    split at hy
    · split at hy <;> cases hy
      · exact .inr ⟨rfl, waits⟩
      · exact .inl rfl
    · cases hy
      exact .inr ⟨rfl, waits⟩
  · exact .inl hy

/-- A domain number has one entry (R151). -/
theorem State.ShedLevelHolds.eq_of_number {s : State} (h : s.ShedLevelHolds) {c d : Domain} (hc : c ∈ s.power.domains)
    (hd : d ∈ s.power.domains) (same : c.number = d.number) : c = d :=
  List.inj_on_of_nodup_map h.numbers hc hd same

namespace State.ShedLevelHolds

variable {s : State} (h : s.ShedLevelHolds)

include h

/-! #### Supply -/

/-- The own supply level takes a value up to 7, with whatever else of the power unit that the rules do not look at. -/
theorem newLevel (live : s.live) (f : Power → Power)
    (same : (f s.power).domains = s.power.domains ∧ (f s.power).applied = s.power.applied) (fits : (f s.power).supplyLevel ≤ 7) :
    (s.modPower f).relevel.ShedLevelHolds := by
  obtain ⟨domains, applied⟩ := same
  obtain ⟨own, heard, allowed, core, numbers⟩ := h.stands
  refine State.LevelStands.relevel ⟨fits, heard, ?_, ?_, ?_⟩ live <;>
    simpa only [State.modPower_power, domains, applied]

theorem trip (live : s.live) : s.trip.ShedLevelHolds := by
  have level := h.newLevel live
    (fun p => { p with switchClosed := false, supplyLevel := 7, tripped := true, tripWait := 256, overRun := 0 }) ⟨rfl, rfl⟩ le_rfl
  exact level.of_kept (by simp [State.trip])

theorem reclose : s.reclose.ShedLevelHolds := by
  have closed := h.modPower (fun p => { p with switchClosed := true, tripped := false, tripWait := 0 }) ⟨rfl, rfl, rfl⟩
  exact closed.of_kept (by simp [State.reclose])

theorem setLevel (live : s.live) (n : Nat) (fits : n ≤ 7) : (s.setLevel n).ShedLevelHolds := h.newLevel live _ ⟨rfl, rfl⟩ fits

theorem supplyStep (live : s.live) : s.supplyStep.ShedLevelHolds := by
  have stepped (limit : Nat) : levelStep s.power.supplyLevel s.power.p limit ≤ 7 := by
    have := h.own
    unfold levelStep
    split
    · omega
    · split <;> omega
  unfold State.supplyStep
  split
  · split
    · unfold State.countTrip
      dsimp only
      have counted := h.modPower (fun p => { p with tripWait := s.power.tripWait - 1 }) ⟨rfl, rfl, rfl⟩
      split
      · exact counted.reclose
      · exact counted
    · split
      · exact h.setLevel live _ (stepped _)
      · exact h
  · split
    · exact h.setLevel live _ (Nat.zero_le _)
    · exact h.setLevel live _ (stepped _)
  · exact h
  · exact h

/-! #### The sample event -/

theorem takeValues (r l a : BitVec 10) : (s.takeValues r l a).ShedLevelHolds := by
  unfold State.takeValues
  exact h.modPower _ ⟨rfl, rfl, rfl⟩

theorem droop : s.droop.ShedLevelHolds := by
  unfold State.droop
  split
  · exact h
  · rename_i d pick
    obtain ⟨mem, on, above⟩ := droopPick_mem pick
    split
    · exact (h.shedWhere _ fun d _ shed => (of_decide_eq_true shed).ne').modPower _ ⟨rfl, rfl, rfl⟩
    · split
      · refine (h.shedWhere _ fun c hc shed => ?_).modPower _ ⟨rfl, rfl, rfl⟩
        rw [h.eq_of_number hc mem (of_decide_eq_true shed)]
        exact above.ne'
      · exact h

theorem shedReturn : s.shedReturn.ShedLevelHolds := by
  unfold State.shedReturn
  split
  · refine h.changeDomains _ (fun d _ => ?_) (fun d _ => ?_) (fun d _ => ?_) fun d hd zero on => ?_ <;> split
    · rfl
    · rfl
    · rfl
    · rfl
    · simp
    · exact .inl
    · rename_i back
      exact absurd back.1 (by simp [on])
    · exact on
  · exact h

theorem judgeOverload (live : s.live) : s.judgeOverload.ShedLevelHolds := by
  unfold State.judgeOverload
  split
  · split
    · split
      · exact h.trip live
      · exact h.modPower _ ⟨rfl, rfl, rfl⟩
    · exact h.modPower _ ⟨rfl, rfl, rfl⟩
  · exact h

theorem judgeBattery : s.judgeBattery.ShedLevelHolds := by
  unfold State.judgeBattery
  split
  · exact (h.modPower _ ⟨rfl, rfl, rfl⟩).followOffer
  · exact h

theorem judgeSample (live : s.live) : s.judgeSample.ShedLevelHolds := by
  have drooped := calling (f := State.droop) h.droop
  have returned := calling (f := State.shedReturn) drooped.shedReturn
  have judged := calling (f := State.judgeOverload) (returned.judgeOverload (by simpa [State.live] using live))
  unfold State.judgeSample
  exact calling judged.judgeBattery

/-! #### The views -/

/-- A view entry takes a report in range, or keeps its own. -/
theorem newView (live : s.live) (t : Station) (v : View) (fits : v.report.level ≤ 7) :
    State.ShedLevelHolds (State.relevel { s with views := s.views.set t v }) := by
  obtain ⟨own, heard, allowed, core, numbers⟩ := h.stands
  refine State.LevelStands.relevel ⟨own, fun k => ?_, allowed, core, numbers⟩ live
  dsimp only
  rw [PerStation.get_set]
  split
  · exact fits
  · exact heard k

theorem silence (live : s.live) (t : Station) : (s.silence t).ShedLevelHolds := h.newView live t _ (h.heard t)

theorem hear (live : s.live) (t : Station) (c : Cell) (r : Report) (hr : readReport c = some r) :
    (s.hear t r).ShedLevelHolds := by
  refine h.newView live t _ ?_
  unfold readReport at hr
  dsimp only at hr
  split at hr
  · rename_i range
    cases hr
    exact range.2
  · cases hr

theorem ageEntry (live : s.live) (t : Station) : (s.ageEntry t).ShedLevelHolds := by
  unfold State.ageEntry
  dsimp only
  split
  · exact h
  · have aged : State.ShedLevelHolds
        { s with views := s.views.set t { s.views.get t with age := min ((s.views.get t).age + 1) 255 } } := by
      have same (k : Station) : ((s.views.set t { s.views.get t with age := min ((s.views.get t).age + 1) 255 }).get k).state =
          (s.views.get k).state ∧ ((s.views.set t { s.views.get t with age := min ((s.views.get t).age + 1) 255 }).get k).report =
          (s.views.get k).report := by
        rw [PerStation.get_set]
        split
        · rename_i eq
          exact ⟨by rw [eq], by rw [eq]⟩
        · exact ⟨rfl, rfl⟩
      obtain ⟨eq, own, heard, allowed, core, numbers, before⟩ := h
      refine ⟨?_, own, fun k => ?_, allowed, core, numbers, fun dead => ?_⟩
      · rw [eq]
        simp only [State.appliedLevel, State.levelOf, (same _).1, (same _).2]
      · dsimp only
        rw [(same k).2]
        exact heard k
      · obtain ⟨none, level, views⟩ := before dead
        exact ⟨none, level, fun k => (same k).1.trans (views k)⟩
    split
    · exact aged.silence live t
    · exact aged

theorem ageViews (live : s.live) : s.ageViews.ShedLevelHolds := by
  have step (t : State) (ht : t.live ∧ t.ShedLevelHolds) (k : Station) : (t.ageEntry k).live ∧ (t.ageEntry k).ShedLevelHolds :=
    ⟨by simpa [State.live] using ht.1, ht.2.ageEntry ht.1 k⟩
  have all := step _ (step _ (step _ (step s ⟨live, h⟩ .console) .pod) .headset) .strap
  exact all.2

/-! #### Admission -/

theorem admission : s.admission.ShedLevelHolds := by
  unfold State.admission
  split
  · exact h
  · rename_i d pick
    obtain ⟨mem, waits⟩ := candidate_mem pick
    split
    · rename_i fits
      have low : d.priority < 8 - s.power.applied := by
        simp only [State.admissible, Bool.and_eq_true, decide_eq_true_eq] at fits
        exact fits.1.1
      refine (h.changeDomains _ (fun c _ => ?_) (fun c _ => ?_) (fun c hc on => ?_) fun c _ _ on => ?_).follow
      · split <;> rfl
      · split <;> rfl
      · split at on
        · rename_i same
          exact .inr (h.eq_of_number hc mem same ▸ low)
        · exact .inl on
      · split
        · rfl
        · exact on
    · exact h

/-! #### Motion, surveys and cells -/

theorem wearTo (w : Bool) : (s.wearTo w).ShedLevelHolds := by
  have set : State.ShedLevelHolds { s with motion := { s.motion with worn := w, wearRun := 0 } } :=
    h.of_kept ⟨rfl, rfl, rfl, rfl, rfl⟩
  unfold State.wearTo
  dsimp only
  split
  · exact (set.motionTo _).wearLink true
  · exact (set.motionTo _).wearLink false
  · exact h.of_kept ⟨rfl, rfl, rfl, rfl, rfl⟩
  · exact set

theorem fallAsleep : s.fallAsleep.ShedLevelHolds := by
  unfold State.fallAsleep
  split
  · exact (h.motionTo _).wearLink false
  · exact h

theorem motionBoundary : s.motionBoundary.ShedLevelHolds := by
  unfold State.motionBoundary
  split
  · dsimp only
    generalize (if s.motion.worn then 0 else s.motion.notWorn + 1) = n
    have counted : State.ShedLevelHolds { s with motion := { s.motion with notWorn := n } } := h.of_kept ⟨rfl, rfl, rfl, rfl, rfl⟩
    split
    · exact counted.fallAsleep
    · exact counted
  · dsimp only
    split
    · exact h.of_kept (by simp)
    · exact h.of_kept ⟨rfl, rfl, rfl, rfl, rfl⟩
  · exact h
  · exact h

theorem sampleWear (w : Bool) : (s.sampleWear w).ShedLevelHolds := by
  unfold State.sampleWear
  split
  · exact h.of_kept ⟨rfl, rfl, rfl, rfl, rfl⟩
  · split
    · exact h.wearTo w
    · exact h.of_kept ⟨rfl, rfl, rfl, rfl, rfl⟩

theorem insert (l : Lane) (w : Winner) : (s.insert l w).ShedLevelHolds := by
  cases w with
  | control c =>
    have sent : (s.modTx l fun t => { t.send (ctlCell s.station s.localSlot c) false with fifo := t.fifo.tail }).ShedLevelHolds :=
      h.of_kept ⟨rfl, rfl, rfl, rfl, rfl⟩
    unfold State.insert State.insertControl
    cases c with
    | power r k =>
      have gone (b : Balance) : State.ShedLevelHolds
          { s.modTx l fun t => { t.send (ctlCell s.station s.localSlot (.power r k)) false with fifo := t.fifo.tail } with
            balance := b } := sent.of_kept ⟨rfl, rfl, rfl, rfl, rfl⟩
      unfold State.reportInserted State.copyInserted
      dsimp only
      split
      · exact (gone _).reportTest
      · exact gone _
    | echo t k => unfold State.reportInserted; dsimp only; split <;> exact sent.of_kept ⟨rfl, rfl, rfl, rfl, rfl⟩
    | _ => exact sent.of_kept (by simp [State.reportInserted])
  | _ => exact h.of_kept (by simp [State.insert])

theorem balanceStep : s.balanceStep.ShedLevelHolds := by
  unfold State.balanceStep
  dsimp only
  split
  · exact callEvent (h.of_kept ⟨rfl, rfl, rfl, rfl, rfl⟩)
  · exact h.of_kept ⟨rfl, rfl, rfl, rfl, rfl⟩

theorem powerSteps (live : s.live) : s.powerSteps.ShedLevelHolds := by
  have aged := calling (f := State.ageViews) (h.ageViews live)
  have supplied := calling (f := State.supplyStep) (aged.supplyStep (by simpa [State.live] using live))
  have stepped := supplied.modPower (fun p => { p with droop := false }) (by simp)
  unfold State.powerSteps
  dsimp only
  split
  · exact calling (f := State.admission) stepped.admission
  · exact stepped

/-! #### The station table -/

/-- A change of one entry, with the applied level worked out afresh. -/
theorem newEntry (live : s.live) {t : State} (start : t.start = s.start) (kept : t.views = s.views ∧ t.power = s.power) :
    t.relevel.ShedLevelHolds :=
  (h.stands.of_kept kept).relevel (by simpa only [State.live, start] using live)

theorem becomePresent (live : s.live) (t : Station) : (s.becomePresent t).ShedLevelHolds := by
  have level := h.newEntry live
    (t := (s.modStation t fun v => { v with present := true }).post .stationPresent (.station t) 0) (by simp [State.modStation])
    (by simp [State.modStation])
  exact level.of_kept (by simp [State.becomePresent])

theorem becomeAbsent (live : s.live) (t : Station) : (s.becomeAbsent t).ShedLevelHolds := by
  have level := h.newEntry live
    (t := ((s.modStation t fun v => { v with present := false, delay := none }).modSurvey t Survey.abandon).post .stationAbsent
      (.station t) 0) (by simp [State.modStation, State.modSurvey]) (by simp [State.modStation, State.modSurvey])
  exact level.of_kept (by simp [State.becomeAbsent])

/-- A change of an entry that leaves its presence. -/
theorem modStation (t : Station) (f : StationEntry → StationEntry) (same : (f (s.stations.get t)).present = (s.stations.get t).present) :
    (s.modStation t f).ShedLevelHolds := by
  refine h.of_same ⟨rfl, Iff.rfl, fun k => ?_, rfl⟩ rfl rfl rfl
  simp only [State.modStation, PerStation.get_set]
  split
  · rename_i eq
    rw [same, eq]
  · rfl

theorem echoAnswered (t : Station) (n : Nat) : (s.echoAnswered t n).ShedLevelHolds := by
  unfold State.echoAnswered
  dsimp only
  split
  · exact h.of_kept (by simp)
  · refine of_kept (s := s.modStation t fun v => { v with
      delay := some (BitVec.ofNat 32 ((s.localSlot - (s.surveys.get t).insertedAt - n) / 2)) }) (h.modStation t _ rfl) ?_
    simp [State.modStation]

/-- Entry to RUNNING keeps the node live (R201). -/
theorem running (start : s.start = .linking) : s.enterRunning.ShedLevelHolds := by
  have entered : State.ShedLevelHolds { s with start := .running } :=
    h.of_same ⟨rfl, by simp [State.live, start], fun _ => rfl, rfl⟩ rfl rfl rfl
  have opened : ({ s with start := .running }.post .resetCause .reset s.cause.code).openRecords.ShedLevelHolds :=
    entered.of_kept (by simp)
  unfold State.enterRunning
  exact opened.callEvent.of_kept (by simp)

theorem takeStatus (live : s.live) (l : Lane) (t : Station) (b : Byte) : (s.takeStatus l t b).ShedLevelHolds := by
  unfold State.takeStatus
  dsimp only
  split
  · exact h
  · split
    · have noted := h.modStation t (fun v => { v with status := b, absentRun := 0 }) rfl
      split
      · exact noted
      · exact noted.becomePresent live t
    · have noted := h.modStation t
        (fun v => { v with status := b, absentRun := min ((s.stations.get t).absentRun + 1) 4 }) rfl
      split
      · exact noted.becomeAbsent live t
      · exact noted

theorem timeoutEntry (live : s.live) (l : Lane) (t : Station) : (s.timeoutEntry l t).ShedLevelHolds := by
  unfold State.timeoutEntry
  dsimp only
  split
  · exact h
  · have noted := h.modStation t (fun v => { v with status := 0 }) rfl
    split
    · exact noted.becomeAbsent live t
    · exact noted

theorem timeoutLane (live : s.live) (l : Lane) : (s.timeoutLane l).ShedLevelHolds := by
  have step (t : State) (ht : t.live ∧ t.ShedLevelHolds) (k : Station) :
      (t.timeoutEntry l k).live ∧ (t.timeoutEntry l k).ShedLevelHolds :=
    ⟨by simpa [State.live] using ht.1, ht.2.timeoutEntry ht.1 l k⟩
  have all := step _ (step _ (step _ (step s ⟨live, h⟩ .console) .pod) .headset) .strap
  exact all.2

theorem handAlign (live : s.live) (l : Lane) (r : Rx) (i : AlignInfo) : (s.handAlign l r i).ShedLevelHolds := by
  have before : (s.beforeStatus l r i).ShedLevelHolds := h.of_kept (by simp)
  have taken := calling
    (f := fun t => t.takeStatus l (statusOwner ((s.rx.get l).underDeep i) i.frame i.count) i.status)
    (before.takeStatus (by simpa [State.live] using live) l _ i.status)
  rw [State.handAlign_eq]
  split
  · exact taken.setFresh
  · exact taken

theorem alignCorrect (live : s.live) (l : Lane) (i : AlignInfo) : (s.alignCorrect l i).ShedLevelHolds := by
  unfold State.alignCorrect
  dsimp only
  split
  · exact h.of_kept (by simp)
  · exact handAlign (h.of_kept (by simp)) (by simpa [State.live] using live) l _ i

theorem putAlign (l : Lane) (d : Bool) (i : AlignInfo) : (s.putAlign l d i).ShedLevelHolds := by
  have sent (f : Tx → Tx) (j : AlignInfo) : ((s.modTx l f).noteStatus d j).ShedLevelHolds := by
    have kept : (s.modTx l f).ShedLevelHolds := h.of_kept ⟨rfl, rfl, rfl, rfl, rfl⟩
    unfold State.noteStatus
    split
    · exact kept.modStation _ _ rfl
    · exact kept
  have synced (t : State) (ht : t.ShedLevelHolds) : t.syncClock.ShedLevelHolds := ht.of_kept (by simp)
  exact synced _ (sent _ _)

theorem originAlign (l : Lane) (q : Quiet) : (s.originAlign l q).ShedLevelHolds := by
  have framed (t : State) (ht : t.ShedLevelHolds) (f : Tx → Tx) (i : AlignInfo) (d : Bool) :
      ((t.modTx l f).putAlign l d i).ShedLevelHolds :=
    putAlign (s := t.modTx l f) (ht.of_kept ⟨rfl, rfl, rfl, rfl, rfl⟩) l d i
  unfold State.originAlign
  dsimp only
  refine alignTest ?_ l
  split
  · exact setFresh (framed _ (h.of_kept (by simp)) _ _ _)
  · exact framed _ (h.of_kept (by simp)) _ _ _

end State.ShedLevelHolds

/-! #### The domain table at the end of LOADING (R151, R153) -/

/-- The entry of a domain number carries that number (R151). -/
theorem domainEntry_number {t : Station} {w : DomainWord} {n : Nat} {d : Domain} (h : domainEntry t w n = some d) : d.number = n := by
  unfold domainEntry at h
  split at h
  · cases h
    rfl
  · obtain ⟨_, _, rfl⟩ := Option.map_eq_some_iff.1 h
    rfl

/-- The table's numbers are among 0 to 5, in order, each once (R151). -/
theorem domainTable_numbers (t : Station) (p : Params) : ((domainTable t p).map (·.number)).Sublist (List.range 6) := by
  have sub (l : List Nat) :
      ((l.filterMap fun n => domainEntry t (p.domains.getD n {}) n).map (·.number)).Sublist l := by
    induction l with
    | nil => exact .slnil
    | cons n l ih =>
      rw [List.filterMap_cons]
      split
      · exact ih.cons n
      · rename_i d hd
        rw [List.map_cons, domainEntry_number hd]
        exact ih.cons_cons n
  exact sub _

/-- At the end of LOADING the priority-0 domains alone are ON (R153). -/
theorem Domain.begin_on (d : Domain) : d.begin.state = .on ↔ d.priority = 0 := by
  unfold Domain.begin
  dsimp only
  split
  · simpa
  · split <;> simpa

namespace State.ShedLevelHolds

/-- Power comes up from a state without levels (R153, R164). -/
theorem powerUp {s : State} (h : s.ShedLevelHolds) (live : s.live) (zero : s.power.applied = 0) : s.powerUp.ShedLevelHolds := by
  unfold State.powerUp
  dsimp only
  refine calling (f := fun t => (t.changeDomains Domain.begin).follow) (follow ?_)
  generalize hp : (fun p : Power => { p with
    domains := domainTable s.station s.cfg, switchClosed := if s.station = Station.console then true else p.switchClosed }) = f
  have same : s.SameSupply ((s.modPower f).changeDomains Domain.begin) := ⟨by simp, by simp [State.live], by simp, by simp⟩
  have power : ((s.modPower f).changeDomains Domain.begin).power =
      { f s.power with domains := (domainTable s.station s.cfg).map Domain.begin } := by simp [← hp]
  have level : ((s.modPower f).changeDomains Domain.begin).power.supplyLevel = s.power.supplyLevel := by rw [power, ← hp]
  have applied : ((s.modPower f).changeDomains Domain.begin).power.applied = s.power.applied := by rw [power, ← hp]
  have names : ((domainTable s.station s.cfg).map Domain.begin).map (·.number) = (domainTable s.station s.cfg).map (·.number) := by
    rw [List.map_map]
    rfl
  refine State.LevelStands.holds ⟨?_, ?_, ?_, ?_, ?_⟩ (same.live.2 live) ?_
  · rw [level]; exact h.own
  · rw [same.views]; exact h.heard
  · rw [applied, zero, power]
    simp only [List.forall_mem_map, Domain.begin_on]
    intro d _ core
    have : d.begin.priority = d.priority := rfl
    omega
  · rw [power]
    simp only [List.forall_mem_map, Domain.begin_on]
    exact fun d _ core => core
  · rw [power, names]
    exact (domainTable_numbers s.station s.cfg).nodup List.nodup_range
  · rw [applied, same.appliedLevel level]
    exact h.applied

/-- After a reset there is no domain, no level and no report heard (R170, R202). -/
theorem resetNode (s : State) (c : Cause) : (s.resetNode c).ShedLevelHolds := by
  have views (t : Station) : (s.resetNode c).views.get t = View.reset := by cases t <;> rfl
  refine ⟨rfl, Nat.zero_le _, fun t => ?_, nofun, nofun, List.nodup_nil, fun _ => ⟨rfl, rfl, fun t => ?_⟩⟩ <;> rw [views]
  · exact Nat.zero_le _
  · rfl

variable {s : State} (h : s.ShedLevelHolds)

include h

/-- Before the end of LOADING the applied level is 0. -/
theorem applied_zero (dead : ¬s.live) : s.power.applied = 0 := by
  obtain ⟨_, level, views⟩ := h.before dead
  rw [h.applied]
  simp [State.appliedLevel, State.levelOf, level, views]

/-- The record put into effect brings no level (R200). -/
theorem applyRecord (m : List Byte) (start : s.start = .loading) :
    (s.applyRecord m).ShedLevelHolds ∧ (s.applyRecord m).power.applied = 0 := by
  have dead : ¬s.live := by simp [start]
  obtain ⟨none, level, views⟩ := h.before dead
  have zero := h.applied_zero dead
  refine ⟨State.LevelStands.holds ?_ (.inl (by simp)) ?_, by simpa using zero⟩
  · exact h.stands.of_kept (by simp)
  · simp [State.appliedLevel, State.levelOf, level, views, zero]

theorem endOfLoading (m : List Byte) (start : s.start = .loading) :
    ((((s.applyRecord m).makeRecords.powerUp).startTx.startRx .down).startRx .up).ShedLevelHolds := by
  obtain ⟨applied, zero⟩ := h.applyRecord m start
  have made : (s.applyRecord m).makeRecords.ShedLevelHolds := applied.of_kept (by simp)
  exact (made.powerUp (by simp [State.live]) (by simpa using zero)).of_kept (by simp)

/-! #### Effects -/

theorem startEffect {t : State} (made : s.StartEffect t) : t.ShedLevelHolds := by
  cases made with
  | reset c => exact resetNode s c
  | endOfReset stn sup srec start =>
    have dead : ¬s.live := by simp [start]
    have zero := h.applied_zero dead
    obtain ⟨none, level, views⟩ := h.before dead
    refine ⟨?_, h.own, h.heard, h.allowed, h.core, h.numbers, fun _ => h.before dead⟩
    simp [State.appliedLevel, State.levelOf, level, views, zero]
  | endOfLoading memory start => exact h.endOfLoading memory start
  | settle start => exact h.of_kept (by simp)
  | settleLinked start =>
    have settled : s.settleRoles.ShedLevelHolds := h.of_kept (by simp)
    exact settled.running (by simpa using start)
  | enterRunning start => exact h.running start

theorem laneEffect {t : State} (made : s.LaneEffect t) : t.ShedLevelHolds := by
  cases made with
  | alignCorrect l i live => exact h.alignCorrect live l i
  | tableTimeout l live => exact calling (f := fun t => t.timeoutLane l) (h.timeoutLane live l)
  | _ => exact h.of_kept (by simp)

theorem sendEffect {t : State} (made : s.SendEffect t) : t.ShedLevelHolds := by
  cases made with
  | originAlign l q live => exact h.originAlign l q
  | ownAlign l f live =>
    have begun (g : Tx → Tx) : (s.modTx l g).ShedLevelHolds := h.of_kept ⟨rfl, rfl, rfl, rfl, rfl⟩
    exact alignTest (putAlign (begun _) l _ _) l
  | repeatAlign l d i live => exact (h.putAlign l d i).alignTest l
  | insert l running => exact h.insert l _
  | _ => exact h.of_kept (by simp)

theorem served {t : State} (made : s.Served t) : t.ShedLevelHolds := by
  cases made with
  | want n v => exact calling (f := fun t => t.want n v) (h.wantWrite n v)
  | _ => exact h.of_kept (by simp)

theorem cellEffect {t : State} (made : s.CellEffect t) : t.ShedLevelHolds := by
  have judged (l : Lane) (c : Cell) : (s.taken l c).ShedLevelHolds := h.of_kept ⟨rfl, rfl, rfl, rfl, rfl⟩
  cases made with
  | hear l c r live hr => exact calling (f := fun x => x.hear c.src r) ((judged l c).hear live c.src c r hr)
  | answerRelay l c r running =>
    exact State.answerRelay_preserves (P := State.ShedLevelHolds) (fun _ _ _ h made => h.served made)
      (fun _ _ _ _ _ _ h => h.of_kept (by simp)) (s.taken l c) _ _ _ (.inr running) (judged l c)
  | echoAnswered l c n => exact (judged l c).echoAnswered c.src n
  | _ => exact h.of_kept (by simp)

theorem pictureEffect {t : State} (made : s.PictureEffect t) : t.ShedLevelHolds := by
  cases made <;> exact h.of_kept (by simp)

theorem converting : State.ShedLevelHolds { s with power := { s.power with converting := true } } :=
  h.modPower (fun p => { p with converting := true }) ⟨rfl, rfl, rfl⟩

theorem motionEffect {t : State} (made : s.MotionEffect t) : t.ShedLevelHolds := by
  cases made with
  | consoleBoundary live => exact h.converting.of_kept (by simp)
  | headsetBoundary w live =>
    have waited : ({ s with power := { s.power with converting := true } }.delayBoundary).ShedLevelHolds :=
      h.converting.of_kept (by simp)
    have counted := calling (f := State.motionBoundary) waited.motionBoundary
    exact calling (f := fun t => t.sampleWear w) (counted.sampleWear w)
  | otherBoundary live => exact h.converting.of_kept (by simp)
  | wearTo w live => exact calling (f := fun t => t.wearTo w) (h.wearTo w)
  | fallAsleep live => exact calling (f := State.fallAsleep) h.fallAsleep
  | _ => exact h.of_kept (by simp)

theorem audioEffect {t : State} (made : s.AudioEffect t) : t.ShedLevelHolds := by
  cases made <;> exact h.of_kept (by simp)

theorem powerEffect {t : State} (made : s.PowerEffect t) : t.ShedLevelHolds := by
  cases made with
  | sampleEvent r l a live =>
    have judged := (h.takeValues r l a).judgeSample (by simpa [State.live] using live)
    obtain reset | ⟨n, keep⟩ := (s.takeValues r l a).judgeSample.judgeBrownout_cases
    · rw [reset]; exact resetNode _ _
    · rw [keep]; exact judged.modPower _ (by simp)
  | trip live => exact calling (f := State.trip) (h.trip live)
  | reclose live => exact calling (f := State.reclose) h.reclose
  | powerBoundary live => exact h.powerSteps live
  | powerBoundaryRunning running => exact (h.powerSteps (.inr running)).balanceStep.reportTest
  | silence t live => exact calling (f := fun x => x.silence t) (h.silence live t)
  | keepAlive running => exact h.balanceStep

theorem lineEffect {t : State} (made : s.LineEffect t) : t.ShedLevelHolds := by
  have served (s t : State) (_ : s.live) (h : s.ShedLevelHolds) (m : s.Served t) : t.ShedLevelHolds := h.served m
  cases made with
  | request r =>
    exact State.request_preserves (P := State.ShedLevelHolds) served (fun _ _ h => h.of_kept (by simp))
      (fun _ _ _ h => h.of_kept ⟨rfl, rfl, rfl, rfl, rfl⟩) s r h
  | feedByte b =>
    exact State.feedByte_preserves (P := State.ShedLevelHolds) served (fun _ _ h => h.of_kept (by simp))
      (fun _ _ _ h => h.of_kept ⟨rfl, rfl, rfl, rfl, rfl⟩) s b h
  | _ => exact h.of_kept (by simp)

theorem effect {t : State} (made : s.Effect t) : t.ShedLevelHolds := by
  cases made with
  | same => exact h
  | start t made => exact h.startEffect made
  | lane t made => exact h.laneEffect made
  | send t made => exact h.sendEffect made
  | cell t made => exact h.cellEffect made
  | picture t made => exact h.pictureEffect made
  | motion t made => exact h.motionEffect made
  | audio t made => exact h.audioEffect made
  | power t made => exact h.powerEffect made
  | line t made => exact h.lineEffect made

theorem tickTable (live : s.live) (r : Rx) (l : Lane) : (s.tickTable r l).ShedLevelHolds := by
  unfold State.tickTable
  split
  · exact calling (f := fun t => t.timeoutLane l) (h.timeoutLane live l)
  · exact h

/-- What a slot does once the timing has stepped (R23, R112, R124, R195). -/
theorem settleSlot (live : s.live) (d u : Rx) :
    ((((s.tickClock.tickTable d .down).tickTable u .up).tickSilence).tickRelay).ShedLevelHolds := by
  have clock : s.tickClock.ShedLevelHolds := h.of_kept (by simp)
  have down := clock.tickTable (by simpa [State.live] using live) d .down
  have up := down.tickTable (by simpa [State.live] using live) u .up
  exact up.of_kept (by simp)

theorem tick : s.tick.ShedLevelHolds := by
  unfold State.tick
  split
  · rename_i live
    dsimp only
    refine settleSlot ?_ ?_ s.rx.down s.rx.up
    · exact h.of_kept ⟨rfl, rfl, rfl, rfl, rfl⟩
    · exact live
  · exact h

end State.ShedLevelHolds

/-- Settles O59. -/
theorem stepKeepsTheShedLevel : Obligations.StepKeepsTheShedLevel := by
  unfold Obligations.StepKeepsTheShedLevel
  exact step_preserves (fun _ _ h => h.of_kept ⟨rfl, rfl, rfl, rfl, rfl⟩) (fun _ _ h made => h.effect made) fun _ h => h.tick

end Sys2Proof.Machine

namespace Sys2Proof.Machine

/-! ### The room of the queues and buffers (R92, R97, R99, R100, R105, R137) -/

/-! #### Send queues -/

theorem hasRoom_iff (c cells n : Nat) : hasRoom c cells n = true ↔ cells + c ≤ 1024 ∧ n ≤ 63 := by simp [hasRoom]

theorem cellsLeft_cons (r : SliceRec) (q : List SliceRec) : cellsLeft (r :: q) = r.total - r.sent + cellsLeft q := by
  simp [cellsLeft]

theorem cellsLeft_append (p q : List SliceRec) : cellsLeft (p ++ q) = cellsLeft p + cellsLeft q := by simp [cellsLeft]

theorem cellsLeft_reverse (q : List SliceRec) : cellsLeft q.reverse = cellsLeft q :=
  ((List.reverse_perm q).map fun r : SliceRec => r.total - r.sent).sum_eq

theorem cellsLeft_sublist {p q : List SliceRec} (h : p.Sublist q) : cellsLeft p ≤ cellsLeft q :=
  (h.map fun r : SliceRec => r.total - r.sent).sum_le_sum fun _ _ => Nat.zero_le _

/-- A queue without its head's next cell holds no more records and no more cells (R98). -/
theorem advanceQueue_le (q : List SliceRec) :
    (advanceQueue q).length ≤ q.length ∧ cellsLeft (advanceQueue q) ≤ cellsLeft q := by
  cases q with
  | nil => simp [advanceQueue]
  | cons r q =>
    simp only [advanceQueue]
    split
    · simp [cellsLeft_cons]
    · simp only [List.length_cons, cellsLeft_cons]
      omega

/-- Room making takes records out (R97). -/
theorem makeRoom_sublist (c cells n : Nat) (q : List SliceRec) : (makeRoom c cells n q).Sublist q := by
  induction q generalizing cells n with
  | nil => exact .slnil
  | cons r q ih =>
    unfold makeRoom
    split
    · exact .refl _
    · split
      · exact (ih _ _).cons r
      · exact (ih _ _).cons_cons r

/-- Room making leaves room where the records that may not give way leave it (R97); `k` cells in `m` records stand already. -/
theorem makeRoom_hasRoom (c k m : Nat) (q : List SliceRec)
    (base : hasRoom c (cellsLeft (q.filter fun r => !mayGiveWay r) + k) ((q.filter fun r => !mayGiveWay r).length + m) = true) :
    hasRoom c (cellsLeft (makeRoom c (cellsLeft q + k) (q.length + m) q) + k)
      ((makeRoom c (cellsLeft q + k) (q.length + m) q).length + m) = true := by
  induction q generalizing k m with
  | nil => exact base
  | cons r q ih =>
    unfold makeRoom
    split
    · rename_i room
      exact room
    · split
      · rename_i gives
        have unsent : r.sent = 0 := by
          simp only [mayGiveWay, Bool.and_eq_true, beq_iff_eq] at gives
          exact gives.1
        have cells : cellsLeft (r :: q) + k - r.total = cellsLeft q + k := by
          rw [cellsLeft_cons, unsent]
          omega
        have records : (r :: q).length + m - 1 = q.length + m := by
          rw [List.length_cons]
          omega
        rw [cells, records]
        refine ih k m ?_
        rw [List.filter_cons_of_neg (by simp [gives])] at base
        exact base
      · rename_i stays
        have cells : cellsLeft (r :: q) + k = cellsLeft q + (r.total - r.sent + k) := by
          rw [cellsLeft_cons]
          omega
        have records : (r :: q).length + m = q.length + (m + 1) := by
          rw [List.length_cons]
          omega
        have rest := ih (r.total - r.sent + k) (m + 1)
        rw [List.filter_cons_of_pos (by simpa using stays)] at base
        rw [cells, records]
        simp only [hasRoom_iff, cellsLeft_cons, List.length_cons] at base rest ⊢
        have := rest (by omega)
        omega

/-- The queue that room making leaves has room for the slice, and holds no record that was not there (R97). -/
theorem roomFor_some {q p : List SliceRec} {k : Layer} {c : Nat} (h : roomFor q k c = some p) :
    hasRoom c (cellsLeft p) p.length = true ∧ p.Sublist q := by
  unfold roomFor at h
  split at h
  · cases h
    exact ⟨‹_›, .refl _⟩
  · dsimp only at h
    split at h
    · rename_i base
      cases h
      have perm : (q.reverse.filter fun r => !mayGiveWay r).Perm (q.filter fun r => !mayGiveWay r) := (List.reverse_perm q).filter _
      have cells : cellsLeft (q.reverse.filter fun r => !mayGiveWay r) = cellsLeft (q.filter fun r => !mayGiveWay r) :=
        (perm.map _).sum_eq
      have made := makeRoom_hasRoom c 0 0 q.reverse (by rw [Nat.add_zero, Nat.add_zero, cells, perm.length_eq]; exact base.2)
      simp only [Nat.add_zero, cellsLeft_reverse, List.length_reverse] at made ⊢
      refine ⟨made, ?_⟩
      rw [← List.reverse_reverse q, List.reverse_sublist]
      simpa using makeRoom_sublist c (cellsLeft q) q.length q.reverse
    · cases h

/-! #### Slice buffers and layer maps -/

theorem reserved_append (p q : List BufRec) : reserved (p ++ q) = reserved p + reserved q := by simp [reserved]

theorem reserved_sublist {p q : List BufRec} (h : p.Sublist q) : reserved p ≤ reserved q :=
  (h.map fun r : BufRec => r.expected).sum_le_sum fun _ _ => Nat.zero_le _

/-- A cell stored changes no count of cells expected (R101). -/
theorem growRecord_expected (c : Cell) (r : BufRec) : (growRecord c r).expected = r.expected := by
  unfold growRecord
  split <;> rfl

theorem reserved_growRecord (c : Cell) (q : List BufRec) : reserved (q.map (growRecord c)) = reserved q := by
  simp only [reserved, List.map_map]
  exact congrArg _ (List.map_congr_left fun r _ => growRecord_expected c r)

/-- A release keeps the map at two entries (R105). -/
theorem judgeRelease_length {m : List LayerEntry} (r : BufRec) (h : m.length ≤ 2) : (judgeRelease m r).1.length ≤ 2 := by
  unfold judgeRelease
  split
  · exact h
  · rename_i found
    have := mapFor_length found h
    split
    · simpa [setLevel] using this
    · exact this

theorem releaseRun_map_length (m : List LayerEntry) (b : List BufRec) (h : m.length ≤ 2) : (releaseRun m b).map.length ≤ 2 := by
  induction b generalizing m with
  | nil => exact h
  | cons r b ih =>
    unfold releaseRun
    have rest := ih _ (judgeRelease_length r h)
    split
    · dsimp only
      split <;> exact rest
    · exact h

end Sys2Proof.Machine

namespace Sys2Proof.Machine

/-! ### Queues and buffers keep their room (O56) -/

namespace State.QueuesBounded

/-- What leaves every unit with a queue leaves the room. -/
theorem of_kept {s t : State} (h : s.QueuesBounded)
    (kept : t.tx = s.tx ∧ t.rx = s.rx ∧ t.motion = s.motion ∧ t.motionOut = s.motionOut ∧ t.audio = s.audio ∧
      t.paced = s.paced ∧ t.eyes = s.eyes ∧ t.service = s.service ∧ t.notices = s.notices ∧ t.power = s.power) :
    t.QueuesBounded := by
  obtain ⟨tx, rx, motion, motionOut, audio, paced, eyes, service, notices, power⟩ := kept
  obtain ⟨fifo, history, samples, outSamples, blocks, elastic, sendRecords, sendCells, bufferRecords, bufferCells, layerMap,
    answers, distinct, known, numbers⟩ := h
  constructor <;> simpa only [tx, rx, motion, motionOut, audio, paced, eyes, service, notices, power]

section Units

variable {s : State} (h : s.QueuesBounded)

include h

/-! #### One unit changed -/

theorem modTx (l : Lane) (f : Tx → Tx) (room : (f (s.tx.get l)).fifo.length ≤ 8) : (s.modTx l f).QueuesBounded := by
  refine { h with fifo := fun k => ?_ }
  rw [State.modTx, PerLane.get_set]
  split
  · exact room
  · exact h.fifo k

theorem modTx_same (l : Lane) (f : Tx → Tx) (same : (f (s.tx.get l)).fifo = (s.tx.get l).fifo) : (s.modTx l f).QueuesBounded :=
  h.modTx l f (same ▸ h.fifo l)

theorem offer (l : Lane) (c : Ctl) : (s.offer l c).QueuesBounded := h.modTx l _ (offerFifo_length _ _ _ (h.fifo l))

theorem offerTo (t : Station) (c : Ctl) : (s.offerTo t c).QueuesBounded := by
  unfold State.offerTo
  split
  · exact h.offer _ c
  · exact h

theorem modRx (l : Lane) (f : Rx → Rx) (room : (f (s.rx.get l)).history.length ≤ 16) : (s.modRx l f).QueuesBounded := by
  refine { h with history := fun k => ?_ }
  rw [State.modRx, PerLane.get_set]
  split
  · exact room
  · exact h.history k

theorem modRx_same (l : Lane) (f : Rx → Rx) (same : (f (s.rx.get l)).history = (s.rx.get l).history) :
    (s.modRx l f).QueuesBounded := h.modRx l f (same ▸ h.history l)

theorem withMotion (m : Motion) (room : m.queue.length ≤ 16) : State.QueuesBounded { s with motion := m } :=
  { h with samples := room }

theorem withMotionOut (m : MotionOut) (room : m.queue.length ≤ 16) : State.QueuesBounded { s with motionOut := m } :=
  { h with outSamples := room }

theorem withAudio (a : Audio) (source : a.source.queue.length ≤ 4) (sink : a.sink.buffer.length ≤ 16) :
    State.QueuesBounded { s with audio := a } := { h with blocks := source, elastic := sink }

theorem modSource (f : Source → Source) (room : (f s.audio.source).queue.length ≤ 4) : (s.modSource f).QueuesBounded :=
  h.withAudio _ room h.elastic

theorem modSink (f : Sink → Sink) (room : (f s.audio.sink).buffer.length ≤ 16) : (s.modSink f).QueuesBounded :=
  h.withAudio _ h.blocks room

theorem modPaced (e : Eye) (f : Paced → Paced) (records : (f (s.paced.get e)).queue.length ≤ 64)
    (cells : cellsLeft (f (s.paced.get e)).queue ≤ 1024) : (s.modPaced e f).QueuesBounded := by
  refine { h with sendRecords := fun k => ?_, sendCells := fun k => ?_ } <;> rw [State.modPaced, PerEye.get_set] <;> split
  · exact records
  · exact h.sendRecords k
  · exact cells
  · exact h.sendCells k

theorem modPaced_same (e : Eye) (f : Paced → Paced) (same : (f (s.paced.get e)).queue = (s.paced.get e).queue) :
    (s.modPaced e f).QueuesBounded := h.modPaced e f (same ▸ h.sendRecords e) (same ▸ h.sendCells e)

theorem modEye (e : Eye) (f : EyeDst → EyeDst) (records : (f (s.eyes.get e)).buffer.length ≤ 64)
    (cells : reserved (f (s.eyes.get e)).buffer ≤ 1024) (map : (f (s.eyes.get e)).map.length ≤ 2) :
    (s.modEye e f).QueuesBounded := by
  refine { h with bufferRecords := fun k => ?_, bufferCells := fun k => ?_, layerMap := fun k => ?_ } <;>
    rw [State.modEye, PerEye.get_set] <;> split
  · exact records
  · exact h.bufferRecords k
  · exact cells
  · exact h.bufferCells k
  · exact map
  · exact h.layerMap k

/-- An eye whose buffer only loses records, the map as it was. -/
theorem modEye_sublist (e : Eye) (f : EyeDst → EyeDst) (less : (f (s.eyes.get e)).buffer.Sublist (s.eyes.get e).buffer)
    (map : (f (s.eyes.get e)).map = (s.eyes.get e).map) : (s.modEye e f).QueuesBounded :=
  h.modEye e f (less.length_le.trans (h.bufferRecords e)) ((reserved_sublist less).trans (h.bufferCells e))
    (map ▸ h.layerMap e)

theorem modService (f : Service → Service) (room : (f s.service).answers.length ≤ 512) : (s.modService f).QueuesBounded :=
  { h with answers := room }

theorem post (kind : NoticeKind) (subject : Subject) (value : Nat) (known : subject.known = true) :
    (s.post kind subject value).QueuesBounded := by
  unfold State.post
  split
  · refine { h with distinct := putNotice_distinct _ _ h.distinct, known := fun n hn => ?_ }
    obtain rfl | old := mem_putNotice hn
    · exact known
    · exact h.known n old
  · exact h

theorem modPower (f : Power → Power) (same : (f s.power).domains = s.power.domains) : (s.modPower f).QueuesBounded :=
  { h with numbers := fun d hd => h.numbers d (same ▸ hd) }

/-! #### Reports (sections 9.3 and 9.4) -/

omit h in
theorem buildReport (s : State) (_ : s.reportDue = true) (h : s.QueuesBounded) : s.buildReport.QueuesBounded := by
  have numbered := ((h.offer .down (.power s.report s.balance.built)).offer .up (.power s.report s.balance.built)).modPower
    (fun p => { p with nextReport := s.power.nextReport + 1 }) rfl
  exact numbered.of_kept ⟨rfl, rfl, rfl, rfl, rfl, rfl, rfl, rfl, rfl, rfl⟩

theorem withBalance (b : Balance) : State.QueuesBounded { s with balance := b } := { h with }

omit h in
theorem event (s : State) (h : s.QueuesBounded) : State.QueuesBounded { s with balance := { s.balance with event := true } } :=
  h.withBalance _

theorem reportTest : s.reportTest.QueuesBounded := State.reportTest_preserves buildReport h

theorem callEvent : s.callEvent.QueuesBounded := State.callEvent_preserves buildReport event h

theorem setFresh : s.setFresh.QueuesBounded := (h.withBalance _).callEvent

theorem alignTest (l : Lane) : (s.alignTest l).QueuesBounded := State.alignTest_preserves buildReport l h

omit h in
theorem calling {f : State → State} (h : (f s).QueuesBounded) : (s.calling f).QueuesBounded :=
  State.calling_preserves buildReport event h

/-! #### Domains and the units that follow them (chapters 5 to 8) -/

/-- Notices of domains that the table numbers (R151, R153). -/
theorem postDomains (olds news : List Domain) (numbers : ∀ d ∈ news, d.number < 6) : (s.postDomains olds news).QueuesBounded := by
  induction olds generalizing s news with
  | nil => simpa [State.postDomains] using h
  | cons old olds ih =>
    cases news with
    | nil => simpa [State.postDomains] using h
    | cons new news =>
      rw [List.forall_mem_cons] at numbers
      unfold State.postDomains
      refine ih ?_ news numbers.2
      split
      · exact h
      · exact h.post _ _ _ (by simpa [Subject.known] using numbers.1)

theorem changeDomains (f : Domain → Domain) (same : ∀ d, (f d).number = d.number) : (s.changeDomains f).QueuesBounded := by
  have numbers : ∀ d ∈ s.power.domains.map f, d.number < 6 := by
    simpa only [List.forall_mem_map, same] using h.numbers
  exact postDomains (s := { s with power := { s.power with domains := s.power.domains.map f } }) { h with numbers := numbers } _ _
    numbers

omit h in
theorem wantOf_number (n : Nat) (v : Bool) (d : Domain) : (wantOf n v d).number = d.number :=
  (ShedLevelHolds.wantOf_keeps n v d).1

/-- A picture record that enters LISTENING or HOLDING has an empty buffer and map (R108). -/
theorem listenEye (e : Eye) : (s.listenEye e).QueuesBounded :=
  of_kept (s := s.modEye e EyeDst.listen) (h.modEye e _ (Nat.zero_le _) (Nat.zero_le _) (Nat.zero_le _))
    ⟨rfl, rfl, rfl, rfl, rfl, rfl, rfl, rfl, rfl, rfl⟩

theorem holdEye (e : Eye) : (s.holdEye e).QueuesBounded :=
  of_kept (s := s.modEye e EyeDst.hold) (h.modEye e _ (Nat.zero_le _) (Nat.zero_le _) (Nat.zero_le _))
    ⟨rfl, rfl, rfl, rfl, rfl, rfl, rfl, rfl, rfl, rfl⟩

theorem followEye (e : Eye) : (s.followEye e).QueuesBounded := by
  unfold State.followEye
  split
  · split
    · exact h
    · exact h.holdEye e
  · split
    · exact h.listenEye e
    · exact h
  · exact h

theorem followDisplay : s.followDisplay.QueuesBounded := by
  unfold State.followDisplay
  split
  · exact (h.followEye .left).followEye .right
  · exact h

theorem wearLink (v : Bool) : (s.wearLink v).QueuesBounded := by
  unfold State.wearLink
  split
  · exact (h.changeDomains _ (wantOf_number 1 v)).followDisplay
  · exact h

theorem motionTo (f : Motion → Motion) (room : (f s.motion).queue.length ≤ 16) : (s.motionTo f).QueuesBounded :=
  (h.withMotion _ room).post _ _ _ rfl

theorem followSensors : s.followSensors.QueuesBounded := by
  unfold State.followSensors
  split
  · exact h
  · split
    · split
      · exact h
      · split
        · exact (h.motionTo _ h.samples).wearLink true
        · exact (h.motionTo _ h.samples).wearLink false
    · split
      · exact h
      · exact h.motionTo _ (append16_length _ _ h.samples)

theorem followSource : s.followSource.QueuesBounded := by
  unfold State.followSource
  split
  · exact h
  · exact h.withAudio _ h.blocks h.elastic

theorem followSink : s.followSink.QueuesBounded := by
  unfold State.followSink
  split
  · split
    · exact h.withAudio _ h.blocks (Nat.zero_le _)
    · exact h
  · split
    · exact h
    · exact h.withAudio _ h.blocks (Nat.zero_le _)

theorem lowerLevel : s.lowerLevel.QueuesBounded := by
  unfold State.lowerLevel
  split
  · exact h
  · exact State.QueuesBounded.post (h.modPower (fun p => { p with applied := s.appliedLevel }) rfl) _ _ _ rfl

theorem followOffer : s.followOffer.QueuesBounded := by
  unfold State.followOffer
  split
  · exact lowerLevel (h.modPower (fun p => { p with supplyLevel := 0 }) rfl)
  · exact h

theorem follow : s.follow.QueuesBounded := h.followSensors.followDisplay.followSource.followSink.followOffer

theorem shedWhere (p : Domain → Bool) : (s.shedWhere p).QueuesBounded := by
  refine follow (h.changeDomains _ fun d => ?_)
  split <;> rfl

theorem relevel : s.relevel.QueuesBounded := by
  unfold State.relevel
  dsimp only
  split
  · exact h
  · have set : State.QueuesBounded { s with power := { s.power with applied := s.appliedLevel } } :=
      h.modPower (fun p => { p with applied := s.appliedLevel }) rfl
    exact (set.shedWhere _).post _ _ _ rfl

theorem want (n : Nat) (v : Bool) : (s.want n v).QueuesBounded := (h.changeDomains _ (wantOf_number n v)).follow

/-! #### Allowed rate (chapter 4) -/

theorem setRate (e : Eye) (n : Nat) : (s.setRate e n).QueuesBounded := by
  have rated : (s.modPaced e fun p => { p with ar := n, band := bandAfter (s.params e) (s.paced.get e).band n }).QueuesBounded :=
    h.modPaced_same e _ rfl
  unfold State.setRate
  dsimp only
  split
  · exact rated
  · refine (rated.modTx_same .down _ ?_).post _ _ _ rfl
    unfold Tx.bandChange
    split <;> rfl

theorem queueProbe (e : Eye) : (s.queueProbe e).QueuesBounded := by
  have faded (t : State) (ht : t.QueuesBounded) (c : Ctl) (f : Paced → Paced) (same : ∀ p, (f p).queue = p.queue) :
      ((t.offerTo .headset c).modPaced e f).QueuesBounded := (ht.offerTo _ c).modPaced_same e f (same _)
  unfold State.queueProbe
  dsimp only
  refine faded _ ?_ _ _ fun _ => rfl
  split
  · exact h.setRate e _
  · exact h

theorem probeCheck (e : Eye) : (s.probeCheck e).QueuesBounded := by
  unfold State.probeCheck
  split
  · exact h.queueProbe e
  · exact h

theorem toIdle (e : Eye) : (s.toIdle e).QueuesBounded := h.modPaced_same e _ rfl

theorem idleIfEmpty (e : Eye) : (s.idleIfEmpty e).QueuesBounded := by
  unfold State.idleIfEmpty
  split
  · exact h.toIdle e
  · exact h

theorem enterPaced (e : Eye) (st : PacedState) : (s.enterPaced e st).QueuesBounded := (h.modPaced_same e _ rfl).probeCheck e

theorem dropHeld (e : Eye) : (s.modPaced e Paced.dropHeld).QueuesBounded := h.modPaced e _ (Nat.zero_le _) (Nat.zero_le _)

theorem accrueAll : s.accrueAll.QueuesBounded := by
  unfold State.accrueAll
  split
  · have left : (s.accrue .left).QueuesBounded := h.modPaced_same .left _ rfl
    exact left.modPaced_same .right _ rfl
  · exact h

theorem answerProbe (e : Eye) (d : DstState) (r : RateCell) : (s.answerProbe e d r).QueuesBounded := by
  have seen (p : Option ProbeSeen) : (s.modEye e fun x => { x with probeSeen := p }).QueuesBounded :=
    h.modEye_sublist e _ (.refl _) rfl
  unfold State.answerProbe
  dsimp only
  split
  · exact seen _
  · exact (seen _).offerTo _ _

theorem replyState (e : Eye) (hold : Bool) : (s.replyState e hold).QueuesBounded := by
  unfold State.replyState
  dsimp only
  split
  · split
    · exact h.dropHeld e
    · exact h.modPaced_same e _ rfl
  · split
    · split
      · exact h.modPaced_same e _ rfl
      · exact h.toIdle e
    · exact h

theorem takeReply (e : Eye) (r : RateCell) : (s.takeReply e r).QueuesBounded := by
  unfold State.takeReply
  dsimp only
  split
  · have moved : (s.modPaced e fun q => { q with unanswered := ((s.paced.get e).lastProbe - r.number).toNat }).QueuesBounded :=
      h.modPaced_same e _ rfl
    have rated := (moved.replyState e r.hold).setRate e (rateAfterReply (s.params e) (s.paced.get e).ar r)
    split
    · exact rated
    · exact rated.probeCheck e
  · exact h.of_kept (by simp)

/-! #### Pictures (chapter 5) -/

theorem counted (f : FlowId) (g : FlowCounters → FlowCounters) : (s.count f g).QueuesBounded := h.of_kept (by simp)

theorem answerSlice (e : Eye) (a : SliceAnswer) : (s.answerSlice e a).QueuesBounded := h.modPaced_same e _ rfl

theorem idleReset (e : Eye) : (s.idleReset e).QueuesBounded := by
  unfold State.idleReset
  dsimp only
  split
  · exact h.setRate e _
  · exact h

theorem leaveQueue (e : Eye) (q : List SliceRec) (less : q.Sublist (s.paced.get e).queue) : (s.leaveQueue e q).QueuesBounded :=
  idleIfEmpty (counted (h.modPaced e (fun p => { p with queue := q }) (less.length_le.trans (h.sendRecords e))
    ((cellsLeft_sublist less).trans (h.sendCells e))) _ _) e

theorem acceptSlice (e : Eye) (r : SliceRec)
    (room : hasRoom r.total (cellsLeft (s.paced.get e).queue) (s.paced.get e).queue.length = true) :
    (s.acceptSlice e r).QueuesBounded := by
  rw [hasRoom_iff] at room
  have joined : (s.modPaced e fun p => p.accept r).QueuesBounded := by
    refine h.modPaced e _ ?_ ?_
    · simp only [Paced.accept, List.length_append, List.length_singleton]
      omega
    · simp only [Paced.accept, cellsLeft_append, cellsLeft_cons]
      have : cellsLeft [] = 0 := rfl
      omega
  unfold State.acceptSlice
  dsimp only
  split
  · exact joined.enterPaced e _
  · exact joined

omit h in
/-- The queue that leaving records leave (R96, R97). -/
theorem leaveQueue_queue (s : State) (e : Eye) (q : List SliceRec) : ((s.leaveQueue e q).paced.get e).queue = q := by
  unfold State.leaveQueue State.idleIfEmpty
  dsimp only
  split <;> simp [State.toIdle, State.modPaced]

theorem supersede (e : Eye) (n : Num8) : (s.supersede e n).QueuesBounded := by
  unfold State.supersede
  dsimp only
  split
  · exact h.leaveQueue e _ List.filter_sublist
  · exact h

theorem entryPolicy (e : Eye) (r : SliceRec) : (s.entryPolicy e r).QueuesBounded := by
  unfold State.entryPolicy
  dsimp only
  split
  · exact (h.counted _ _).answerSlice e _
  · split
    · exact (h.counted _ _).answerSlice e _
    · have purged := h.supersede e r.picture
      split
      · rename_i q found
        obtain ⟨room, less⟩ := roomFor_some found
        refine (purged.leaveQueue e q less).acceptSlice e r ?_
        rw [leaveQueue_queue]
        exact room
      · exact (purged.counted _ _).answerSlice e _

theorem considerRelease (e : Eye) : (s.considerRelease e).QueuesBounded := by
  unfold State.considerRelease
  split
  · have less := (releaseRun_buffer (s.eyes.get e).map (s.eyes.get e).buffer).sublist
    refine counted (h.modEye e _ ?_ ?_ ?_) _ _
    · exact less.length_le.trans (h.bufferRecords e)
    · exact (reserved_sublist less).trans (h.bufferCells e)
    · exact releaseRun_map_length _ _ (h.layerMap e)
  · exact h

theorem skipping (e : Eye) : (s.modEye e fun x => { x with reasm := .skipping }).QueuesBounded :=
  h.modEye_sublist e _ (.refl _) rfl

theorem breakEye (e : Eye) : (s.breakEye e).QueuesBounded := by
  unfold State.breakEye
  split
  · exact counted (h.modEye_sublist e _ List.filter_sublist rfl) _ _
  · exact h.skipping e

theorem judgeFirst (e : Eye) (d : SliceHead) (c : Cell) : (s.judgeFirst e d c).QueuesBounded := by
  unfold State.judgeFirst
  dsimp only
  split
  · exact (h.skipping e).counted _ _
  · rename_i takes
    rw [not_or, Bool.not_eq_false, hasRoom_iff] at takes
    obtain ⟨-, cells, records⟩ := takes
    refine considerRelease (h.modEye e _ ?_ ?_ (h.layerMap e)) e
    · simp only [List.length_append, List.length_singleton]
      omega
    · rw [reserved_append]
      exact cells

theorem nextCell (e : Eye) (c : Cell) : (s.nextCell e c).QueuesBounded := by
  refine considerRelease (h.modEye e _ ?_ ?_ (h.layerMap e)) e
  · simpa using h.bufferRecords e
  · rw [reserved_growRecord]
    exact h.bufferCells e

theorem breakFilling (e : Eye) : (if (s.eyes.get e).reasm = .filling then s.breakEye e else s).QueuesBounded := by
  split
  · exact h.breakEye e
  · exact h

theorem startCell (e : Eye) (c : Cell) : (s.startCell e c).QueuesBounded := by
  have broken := h.breakFilling e
  unfold State.startCell
  dsimp only
  split
  · exact broken.judgeFirst e _ c
  · exact (broken.skipping e).counted _ _

theorem endCell (e : Eye) : (s.endCell e).QueuesBounded := by
  have broken := h.breakFilling e
  unfold State.endCell
  exact broken.modEye_sublist e _ (.refl _) rfl

theorem takePictureCell (e : Eye) (gap : Bool) (c : Cell) : (s.takePictureCell e gap c).QueuesBounded := by
  have broken : (if gap = true then s.breakEye e else s).QueuesBounded := by
    split
    · exact h.breakEye e
    · exact h
  unfold State.takePictureCell
  dsimp only
  generalize (if gap = true then s.breakEye e else s) = t at broken ⊢
  split
  · split
    · exact broken.nextCell e c
    · exact broken
  · split
    · exact broken.endCell e
    · exact broken.startCell e c

theorem pictureTaken (e : Eye) (n : Num8) :
    ((s.modEye e fun y => { y with lastTaken := some n, buffer := purgeTaken n y.buffer }).considerRelease e).QueuesBounded :=
  considerRelease (h.modEye_sublist e _ List.filter_sublist rfl) e

/-! #### Motion (chapter 6) -/

theorem beginAttempt (t : Station) : (s.beginAttempt t).QueuesBounded :=
  of_kept (s := { s with tokens := s.tokens + 1 }.offerTo t (.echo t (s.tokens + 1)))
    (offerTo (s := { s with tokens := s.tokens + 1 }) { h with } t _) ⟨rfl, rfl, rfl, rfl, rfl, rfl, rfl, rfl, rfl, rfl⟩

theorem modSurvey (t : Station) (f : Survey → Survey) : (s.modSurvey t f).QueuesBounded := { h with }

theorem startSurvey (t : Station) : (s.startSurvey t).QueuesBounded := by
  unfold State.startSurvey
  split
  · exact (h.modSurvey t _).beginAttempt t
  · exact h

theorem failAttempt (t : Station) : (s.failAttempt t).QueuesBounded := by
  unfold State.failAttempt
  dsimp only
  split
  · exact (h.modSurvey t _).beginAttempt t
  · exact (h.modSurvey t _).post _ _ _ rfl

theorem surveyTimeout (t : Station) : (s.surveyTimeout t).QueuesBounded := by
  unfold State.surveyTimeout
  split
  · exact h.failAttempt t
  · exact h

theorem echoDiscarded (t : Station) : (s.echoDiscarded t).QueuesBounded := by
  unfold State.echoDiscarded
  split
  · exact h.failAttempt t
  · exact h

theorem surveyBoundary (t : Station) : (s.surveyBoundary t).QueuesBounded := by
  unfold State.surveyBoundary
  dsimp only
  split
  · exact h
  · exact h.echoDiscarded t
  · split
    · exact (h.modSurvey t _).surveyTimeout t
    · exact h.modSurvey t _

theorem surveyBoundaries : s.surveyBoundaries.QueuesBounded :=
  ((h.surveyBoundary .pod).surveyBoundary .headset).surveyBoundary .strap

theorem echoAnswered (t : Station) (n : Nat) : (s.echoAnswered t n).QueuesBounded := by
  unfold State.echoAnswered
  dsimp only
  split
  · exact h.failAttempt t
  · have delayed (k : PerStation StationEntry) (f : Survey → Survey) :
        (State.modSurvey { s with stations := k } t f).QueuesBounded := { h with }
    exact ((delayed _ _).post _ _ _ rfl).offerTo t _

theorem withSurveyed (v : Surveyed) : State.QueuesBounded { s with surveyed := v } := { h with }

theorem offerResurvey : s.offerResurvey.QueuesBounded := by
  unfold State.offerResurvey
  split
  · exact h
  · exact h.offerTo _ _

theorem delayWaitExpiry : s.delayWaitExpiry.QueuesBounded := by
  unfold State.delayWaitExpiry
  split
  · exact (h.withSurveyed _).offerResurvey
  · exact h

theorem delayBoundary : s.delayBoundary.QueuesBounded := by
  unfold State.delayBoundary
  dsimp only
  split
  · split
    · exact (h.withSurveyed _).delayWaitExpiry
    · exact h.withSurveyed _
  · exact h

theorem wearTo (w : Bool) : (s.wearTo w).QueuesBounded := by
  have written := h.withMotion { s.motion with worn := w, wearRun := 0 } h.samples
  unfold State.wearTo
  dsimp only
  split
  · exact (written.motionTo _ h.samples).wearLink true
  · exact (written.motionTo _ h.samples).wearLink false
  · exact h.withMotion _ h.samples
  · exact written

theorem fallAsleep : s.fallAsleep.QueuesBounded := by
  unfold State.fallAsleep
  split
  · exact (h.motionTo _ h.samples).wearLink false
  · exact h

theorem wakeUp : s.wakeUp.QueuesBounded := by
  unfold State.wakeUp
  split
  · exact h.motionTo _ h.samples
  · exact h

theorem motionBoundary : s.motionBoundary.QueuesBounded := by
  unfold State.motionBoundary
  dsimp only
  generalize (if s.motion.worn = true then 0 else s.motion.notWorn + 1) = n
  split
  · split
    · exact fallAsleep (h.withMotion _ h.samples)
    · exact h.withMotion _ h.samples
  · split
    · exact wakeUp (h.withMotion _ h.samples)
    · exact h.withMotion _ h.samples
  · exact h
  · exact h

theorem sampleWear (w : Bool) : (s.sampleWear w).QueuesBounded := by
  unfold State.sampleWear
  split
  · exact h.withMotion _ h.samples
  · split
    · exact h.wearTo w
    · exact h.withMotion _ h.samples

theorem sensorSilent : s.sensorSilent.QueuesBounded := by
  unfold State.sensorSilent
  split
  · exact State.QueuesBounded.post (h.withMotion { s.motion with silence := silenceThreshold s.cfg.motionRate } h.samples) _ _ _ rfl
  · exact h

theorem deliver : s.deliver.QueuesBounded := by
  unfold State.deliver
  split
  · exact h.withMotionOut _ (Nat.zero_le _)
  · exact h

theorem takeSample (x : Sample) : (s.takeSample x).QueuesBounded :=
  deliver (h.withMotionOut _ (appendOut_length _ _ h.outSamples))

theorem endRestartRun : s.endRestartRun.QueuesBounded := h.withMotionOut _ h.outSamples

/-! #### Audio (chapter 7) -/

theorem buildStep (x : Frame) : (s.buildStep x).QueuesBounded := by
  unfold State.buildStep
  dsimp only
  split
  · exact h.modSource _ h.blocks
  · refine h.modSource _ ?_
    dsimp only
    split
    · exact queueBlock_length _ _ h.blocks
    · exact h.blocks

theorem postSlip (n : Nat) : (s.postSlip n).QueuesBounded := h.post _ _ _ rfl

theorem startPulse (f : OutFn) : (s.startPulse f).QueuesBounded := { h with }

theorem appendBlock (b : PlayBlock) : (s.appendBlock b).QueuesBounded := by
  have primed (t : State) (ht : t.QueuesBounded) :
      (if t.audio.sink.state = .priming ∧ 8 ≤ t.audio.sink.buffer.length then t.modSink fun k => { k with state := .playing }
        else t).QueuesBounded := by
    split
    · exact ht.modSink _ ht.elastic
    · exact ht
  unfold State.appendBlock
  refine primed _ ?_
  have room := h.elastic
  split
  · refine h.modSink _ ?_
    simp only [List.length_append, List.length_singleton]
    omega
  · have slid : (s.modSink fun k => { k with buffer := k.buffer.drop 1 ++ [b] }).QueuesBounded := by
      refine h.modSink _ ?_
      simp only [List.length_append, List.length_drop, List.length_singleton]
      omega
    exact ((slid.counted _ _).postSlip 2).startPulse _

theorem appendIdle (n : Nat) : (State.appendIdle n s).QueuesBounded := by
  induction n generalizing s with
  | zero => exact h
  | succ n ih => exact ih (h.appendBlock _)

theorem judged (n : Num8) : (s.judged n).QueuesBounded := h.modSink _ h.elastic

theorem takeBlock (n : Num8) (frames : List Frame) : (s.takeBlock n frames).QueuesBounded := by
  unfold State.takeBlock
  dsimp only
  split
  · exact h
  · split
    · exact (h.appendBlock _).judged n
    · split
      · exact ((h.appendIdle _).appendBlock _).judged n
      · split
        · have flushed : (s.modSink fun k => { k with state := .priming, buffer := [] }).QueuesBounded :=
            h.modSink _ (Nat.zero_le _)
          exact ((flushed.postSlip 3).appendBlock _).judged n
        · exact h.counted _ _

theorem loadPlay : s.loadPlay.QueuesBounded := by
  have room := h.elastic
  unfold State.loadPlay
  split
  · exact h.modSink _ h.elastic
  · exact h.modSink _ h.elastic
  · rename_i b rest _ buffer
    rw [buffer, List.length_cons] at room
    exact h.modSink _ (by dsimp only; omega)
  · split
    · exact (h.modSink _ h.elastic).postSlip 1
    · exact (((h.modSink _ h.elastic).counted _ _).postSlip 0).startPulse _

theorem sinkStep (m : Int) : (s.sinkStep m).QueuesBounded := by
  have emitted (t : State) (ht : t.QueuesBounded) :
      (State.modSink { t with audio := { t.audio with out := some (t.outputFrame m) } } fun k =>
        { k with position := (k.position + 1) % 4 }).QueuesBounded := ht.withAudio _ ht.blocks ht.elastic
  unfold State.sinkStep
  refine emitted _ ?_
  split
  · exact h.loadPlay
  · exact h

theorem setButton (b : Button) (l : ButtonLine) : (s.setButton b l).QueuesBounded := by
  cases b <;> exact h.withAudio _ h.blocks h.elastic

theorem press (b : Button) : (s.press b).QueuesBounded := by
  unfold State.press
  refine offer ?_ _ _
  split
  · cases b <;> exact h.withAudio _ h.blocks h.elastic
  · exact h.offerTo _ _

theorem lineTo (b : Button) (p : Bool) : (s.lineTo b p).QueuesBounded := by
  unfold State.lineTo
  dsimp only
  split
  · exact (h.setButton b _).press b
  · exact h.setButton b _

theorem sampleLine (b : Button) (p : Bool) : (s.sampleLine b p).QueuesBounded := by
  unfold State.sampleLine
  dsimp only
  split
  · exact h.setButton b _
  · split
    · exact h.lineTo b p
    · exact h.setButton b _

/-! #### Destination records (chapter 3) -/

theorem withDst (d : PerFlow (Option DstRec)) : State.QueuesBounded { s with dst := d } := { h with }

theorem handOver (f : FlowId) (gap : Bool) (c : Cell) : (s.handOver f gap c).QueuesBounded := by
  unfold State.handOver
  split
  · exact h.takePictureCell _ _ _
  · exact h.takePictureCell _ _ _
  · split
    · exact h.takeSample _
    · exact h.counted _ _
  all_goals
    split
    · exact h.takeBlock _ _
    · exact h.counted _ _

theorem takeData (l : Lane) (c : Cell) : (s.takeData l c).QueuesBounded := by
  unfold State.takeData
  split
  · exact h.counted _ _
  · split
    · exact h.counted _ _
    · split
      · unfold State.sequenceCheck
        dsimp only
        refine handOver ?_ _ _ _
        split
        · exact (h.withDst _).counted _ _
        · exact h.withDst _
      · exact h

theorem forgetSeq (f : FlowId) : (s.forgetSeq f).QueuesBounded := h.of_kept (by simp)

theorem losePicture (e : Eye) : (s.losePicture e).QueuesBounded := by
  unfold State.losePicture
  split
  · exact (h.forgetSeq _).breakEye e
  · exact h

theorem loseLane (l : Lane) : (s.loseLane l).QueuesBounded := by
  cases l with
  | down => exact ((h.losePicture .left).losePicture .right).forgetSeq .audioOut
  | up => exact ((h.forgetSeq .motion).forgetSeq .audioIn).endRestartRun

end Units

end State.QueuesBounded

end Sys2Proof.Machine

namespace Sys2Proof.Machine

namespace State.QueuesBounded

section Units

variable {s : State} (h : s.QueuesBounded)

include h

/-! #### The station table and the receivers (chapter 1) -/

theorem modStation (t : Station) (f : StationEntry → StationEntry) : (s.modStation t f).QueuesBounded := { h with }

theorem becomeAudio : s.becomeAudio.QueuesBounded := (h.withDst _).followSource.followSink

theorem ceaseAudio : s.ceaseAudio.QueuesBounded :=
  (modSource (h.withDst (s.dst.set .audioOut none)) (fun k => { k with queue := [] }) (Nat.zero_le _)).followSource.followSink

theorem audioChange (before : State) : (State.audioChange before s).QueuesBounded := by
  unfold State.audioChange
  split
  · exact h
  · split
    · split
      · exact h.becomeAudio
      · exact h.ceaseAudio
    · exact h.forgetSeq _
    · exact h

theorem becomePresent (t : Station) : (s.becomePresent t).QueuesBounded :=
  audioChange ((((h.modStation t _).post _ _ _ rfl).relevel).startSurvey t) s

theorem becomeAbsent (t : Station) : (s.becomeAbsent t).QueuesBounded :=
  audioChange ((((h.modStation t _).modSurvey t _).post _ _ _ rfl).relevel) s

theorem takeStatus (l : Lane) (t : Station) (b : Byte) : (s.takeStatus l t b).QueuesBounded := by
  unfold State.takeStatus
  dsimp only
  split
  · exact h
  · split
    · split
      · exact h.modStation t _
      · exact (h.modStation t _).becomePresent t
    · split
      · exact (h.modStation t _).becomeAbsent t
      · exact h.modStation t _

theorem timeoutEntry (l : Lane) (t : Station) : (s.timeoutEntry l t).QueuesBounded := by
  unfold State.timeoutEntry
  dsimp only
  split
  · exact h
  · split
    · exact (h.modStation t _).becomeAbsent t
    · exact h.modStation t _

theorem timeoutLane (l : Lane) : (s.timeoutLane l).QueuesBounded :=
  (((h.timeoutEntry l .console).timeoutEntry l .pod).timeoutEntry l .headset).timeoutEntry l .strap

theorem postLane (l : Lane) : (s.postLane l).QueuesBounded := h.post _ _ _ rfl

theorem syncClock : s.syncClock.QueuesBounded := h.of_kept (by simp)

theorem clear (l : Lane) (st : RxState) : (s.modRx l fun r => r.clear st).QueuesBounded := h.modRx l _ (Nat.zero_le _)

theorem leaveLocked (l : Lane) (st : RxState) (c : Option AlignInfo) : (s.leaveLocked l st c).QueuesBounded := by
  have freed (n : Nat) : (s.modRx l fun r => { r.clear st with relocks := n, outOfLock := 0 }).QueuesBounded :=
    h.modRx l _ (Nat.zero_le _)
  have lost (n : Nat) : (((s.modRx l fun r => { r.clear st with relocks := n, outOfLock := 0 }).modTx l fun t =>
      t.loseLock c).loseLane l).QueuesBounded := by
    refine ((freed n).modTx_same l _ ?_).loseLane l
    unfold Tx.loseLock
    split
    · rfl
    · split <;> rfl
  unfold State.leaveLocked
  dsimp only
  split
  · exact (lost _).postLane l
  · exact lost _

theorem returnToRepeating (l : Lane) : (s.returnToRepeating l).QueuesBounded := by
  have back : (s.modTx l fun t =>
      { t with role := .repeating, follows := false, own := false, carry := none, whole := false }).QueuesBounded :=
    h.modTx_same l _ rfl
  unfold State.returnToRepeating
  dsimp only
  split
  · exact back.postLane l
  · split
    · exact back
    · exact h

theorem lateNeighbour (l : Lane) : (s.lateNeighbour l).QueuesBounded := by
  unfold State.lateNeighbour
  split
  · exact State.QueuesBounded.post (s := { s with lateSeen := true }) { h with } _ _ _ rfl
  · exact h

theorem findSignal (l : Lane) : (s.findSignal l).QueuesBounded := by
  have found := h.clear l .search
  unfold State.findSignal
  dsimp only
  split
  · split
    · exact { found with }
    · exact found
  · exact h

theorem enterLocked (l : Lane) (i : AlignInfo) : (s.enterLocked l i).QueuesBounded := by
  have locked : (s.modRx l fun r =>
      { r.advance.accept i with
        state := .locked, confirm := 0, errRun := 0, history := [], fault := i.fault, bytes := ⟨none, none, none, none⟩,
        outOfLock := 0 }).QueuesBounded := h.modRx l _ (Nat.zero_le _)
  have posted := locked.syncClock.postLane l
  unfold State.enterLocked
  dsimp only
  split <;> split
  · exact posted.endRestartRun.offerResurvey
  · exact posted.offerResurvey
  · exact posted.endRestartRun
  · exact posted

theorem confirmCell (l : Lane) (found : Option Cell) : (s.confirmCell l found).QueuesBounded := by
  unfold State.confirmCell
  dsimp only
  split
  · exact h.clear l .search
  · split
    · exact h.modRx_same l _ rfl
    · exact h.enterLocked l _

theorem alignError (l : Lane) : (s.alignError l).QueuesBounded := by
  have stepped (n : Nat) : (s.modRx l fun r => { r.advance with errRun := r.errRun + 1, alignErrors := n }).syncClock.QueuesBounded :=
    (h.modRx_same l _ rfl).syncClock
  unfold State.alignError
  dsimp only
  split
  · exact (stepped _).leaveLocked l _ _
  · exact stepped _

theorem beforeStatus (l : Lane) (r : Rx) (i : AlignInfo) : (s.beforeStatus l r i).QueuesBounded := by
  have returned : (if i.frame = 0 then s.returnToRepeating l else s).QueuesBounded := by
    split
    · exact h.returnToRepeating l
    · exact h
  unfold State.beforeStatus
  generalize (if i.frame = 0 then s.returnToRepeating l else s) = t at returned
  dsimp only
  split
  · exact returned.endRestartRun
  · exact returned

theorem handAlign (l : Lane) (r : Rx) (i : AlignInfo) : (s.handAlign l r i).QueuesBounded := by
  have taken := calling
    (f := fun t => t.takeStatus l (statusOwner ((s.rx.get l).underDeep i) i.frame i.count) i.status)
    ((h.beforeStatus l r i).takeStatus l _ i.status)
  rw [State.handAlign_eq]
  split
  · exact taken.setFresh
  · exact taken

omit h in
/-- A correct cell's hop check keeps the history at 16 (R11). -/
theorem lockedCorrect_history {r : Rx} (h : r.history.length ≤ 16) (i : AlignInfo) (n : Nat) :
    (r.lockedCorrect i n).history.length ≤ 16 := by
  unfold Rx.lockedCorrect Rx.hopHistory
  dsimp only
  split
  · exact Nat.zero_le _
  · split
    · exact List.length_take_le _ _
    · exact h

theorem alignCorrect (l : Lane) (i : AlignInfo) : (s.alignCorrect l i).QueuesBounded := by
  have taken (n : Nat) : (s.modRx l fun r => r.lockedCorrect i n).syncClock.QueuesBounded :=
    (h.modRx l _ (lockedCorrect_history (h.history l) i n)).syncClock
  unfold State.alignCorrect
  dsimp only
  split
  · exact (taken _).leaveLocked l _ _
  · exact (taken _).handAlign l _ i

theorem toRepeating (l : Lane) : (s.toRepeating l).QueuesBounded := by
  unfold State.toRepeating
  split
  · exact h.modTx_same l _ rfl
  · exact (h.modTx_same l _ rfl).postLane l

theorem settleRoles : s.settleRoles.QueuesBounded := by
  have settled : State.QueuesBounded { s with settledRoles := true } := { h with }
  unfold State.settleRoles
  dsimp only
  split
  · have origin : (State.modTx { s with settledRoles := true } .down Tx.toOrigin).QueuesBounded := settled.modTx_same .down _ rfl
    split
    · exact origin
    · exact origin.clear .up .dark
  · split
    · exact (settled.toRepeating .down).toRepeating .up
    · have terminal : (State.modTx { s with settledRoles := true } .down Tx.toTerminal).QueuesBounded :=
        settled.modTx .down _ (Nat.zero_le _)
      exact (terminal.modTx_same .up Tx.toOrigin rfl).clear .up .dark

/-! #### What a transmitter sends (chapters 1, 2 and 9) -/

theorem putAlign (l : Lane) (d : Bool) (i : AlignInfo) : (s.putAlign l d i).QueuesBounded := by
  have noted (t : State) (ht : t.QueuesBounded) (j : AlignInfo) : (t.noteStatus d j).syncClock.QueuesBounded := by
    refine State.QueuesBounded.syncClock ?_
    unfold State.noteStatus
    split
    · exact ht.modStation _ _
    · exact ht
  exact noted _ (h.modTx_same l _ rfl) _

theorem repeatAlign (l : Lane) (d : Bool) (i : AlignInfo) : (s.repeatAlign l d i).QueuesBounded := (h.putAlign l d i).alignTest l

theorem ownAlign (l : Lane) (fault : Bool) : (s.ownAlign l fault).QueuesBounded := by
  have begun (f : Tx → Tx) (same : ∀ t, (f t).fifo = t.fifo) (i : AlignInfo) : ((s.modTx l f).putAlign l false i).QueuesBounded :=
    (h.modTx_same l f (same _)).putAlign l false i
  exact (begun (fun t => t.begin (s.tx.get l).nextFrame.1 (s.tx.get l).nextFrame.2) (fun _ => rfl) _).alignTest l

theorem consoleFrame (l : Lane) (f : BitVec 4) : (s.consoleFrame l f).QueuesBounded := by
  unfold State.consoleFrame
  split
  · dsimp only
    split
    · exact (h.accrueAll.probeCheck .left).probeCheck .right
    · exact h.accrueAll
  · exact h

theorem originAlign (l : Lane) (q : Quiet) : (s.originAlign l q).QueuesBounded := by
  have begun (f : BitVec 4) (n : Count32) : ((s.modTx l fun t => t.begin f n).syncClock.consoleFrame l f).QueuesBounded :=
    ((h.modTx_same l (fun t => t.begin f n) rfl).syncClock).consoleFrame l f
  have sent (t : State) (ht : t.QueuesBounded) (p : Option Quiet) (d : Bool) (i : AlignInfo) :
      ((t.modTx l fun t => { t with quiet := p }).putAlign l d i).QueuesBounded := (ht.modTx_same l _ rfl).putAlign l d i
  unfold State.originAlign
  dsimp only
  refine alignTest ?_ l
  split
  · exact (sent _ (begun _ _) _ _ _).setFresh
  · exact sent _ (begun _ _) _ _ _

theorem send (l : Lane) (c : Cell) (p : Bool) : (s.modTx l fun t => t.send c p).QueuesBounded := h.modTx_same l _ rfl

theorem sendIdle (l : Lane) : (s.sendIdle l).QueuesBounded := h.send l _ _

theorem arrive (l : Lane) (c : Cell) : (s.modRx l fun r => r.arrive c).QueuesBounded := h.modRx_same l _ rfl

theorem hand (l : Lane) (c : Cell) : (s.modRx l fun r => r.hand c).QueuesBounded := by
  refine h.modRx_same l _ ?_
  unfold Rx.hand
  split <;> rfl

theorem repeatCell (l : Lane) (c : Cell) : (s.repeatCell l c).QueuesBounded := by
  unfold State.repeatCell
  split
  · exact h.send l c _
  · exact h

theorem decideCell (l : Lane) (c : Cell) : (s.decideCell l c).QueuesBounded := by
  unfold State.decideCell
  split
  · exact h.modRx_same l _ rfl
  · exact h
  · exact h.hand l c
  · exact (h.hand l c).repeatCell l c
  · exact h.repeatCell l _

theorem nextSeq (f : FlowId) : (s.nextSeq f).QueuesBounded := { h with }

theorem insertMotion (l : Lane) (x : Sample) : (s.insertMotion l x).QueuesBounded := by
  have sent (c : Cell) : ((s.modTx l fun t => t.send c false).nextSeq .motion).QueuesBounded := (h.send l c false).nextSeq _
  refine (sent _).withMotion _ ?_
  dsimp only
  rw [List.length_tail]
  exact (Nat.sub_le _ _).trans h.samples

theorem insertAudio (l : Lane) (b : Block) : (s.insertAudio l b).QueuesBounded := by
  have sent (c : Cell) : ((s.modTx l fun t => t.send c false).nextSeq (sourceFlow s.station)).QueuesBounded :=
    (h.send l c false).nextSeq _
  refine (sent _).modSource (fun k => { k with queue := k.queue.tail }) ?_
  dsimp only
  rw [List.length_tail]
  exact (Nat.sub_le _ _).trans h.blocks

theorem copyInserted (l : Lane) (n : Nat) : (s.copyInserted l n).QueuesBounded := by
  unfold State.copyInserted
  dsimp only
  split
  · exact (h.withBalance _).reportTest
  · exact h.withBalance _

theorem insertControl (l : Lane) (c : Ctl) : (s.insertControl l c).QueuesBounded := by
  have sent (k : Cell) : (s.modTx l fun t => { t.send k false with fifo := t.fifo.tail }).QueuesBounded := by
    refine h.modTx l _ ?_
    rw [List.length_tail]
    exact (Nat.sub_le _ _).trans (h.fifo l)
  unfold State.insertControl
  have start := sent (ctlCell s.station s.localSlot c)
  generalize (s.modTx l fun t => { t.send (ctlCell s.station s.localSlot c) false with fifo := t.fifo.tail }) = t at start ⊢
  unfold State.reportInserted
  split
  · exact (start.modPaced_same _ _ rfl).probeCheck _
  · exact start.copyInserted l _
  · split
    · exact start.modSurvey _ _
    · exact start
  · exact start

theorem insertPicture (l : Lane) (e : Eye) : (s.insertPicture l e).QueuesBounded := by
  have sent (c : Cell) (b : Band) : ((s.modTx l fun t => (t.send c true).countPicture e b).nextSeq (Eye.flow e)).QueuesBounded :=
    (h.modTx_same l (fun t => (t.send c true).countPicture e b) rfl).nextSeq _
  have spent (c : Cell) (b : Band) : (((s.modTx l fun t => (t.send c true).countPicture e b).nextSeq (Eye.flow e)).modPaced e
      fun p => p.spend s.superframe).QueuesBounded := by
    obtain ⟨records, cells⟩ := advanceQueue_le (s.paced.get e).queue
    exact (sent c b).modPaced e _ (records.trans (h.sendRecords e)) (cells.trans (h.sendCells e))
  unfold State.insertPicture
  dsimp only
  refine probeCheck ?_ e
  split
  · unfold State.endInserted
    exact (((spent _ _).modPaced_same e _ rfl).toIdle e).post _ _ _ rfl
  · exact (spent _ _).idleIfEmpty e

theorem insert (l : Lane) (w : Winner) : (s.insert l w).QueuesBounded := by
  cases w with
  | motion x => exact h.insertMotion l x
  | audio b => exact h.insertAudio l b
  | control c => exact h.insertControl l c
  | picture e => exact h.insertPicture l e
  | none => exact h.sendIdle l

/-! #### Power (chapters 8 and 9) -/

theorem takeValues (r l a : BitVec 10) : (s.takeValues r l a).QueuesBounded := by
  unfold State.takeValues
  exact h.modPower _ rfl

theorem countBrownout (n : Nat) : (s.modPower fun p => { p with brownRun := n }).QueuesBounded := h.modPower _ rfl

theorem trip : s.trip.QueuesBounded := (relevel (h.modPower _ rfl)).post _ _ _ rfl

theorem reclose : s.reclose.QueuesBounded := State.QueuesBounded.post (h.modPower _ rfl) _ _ _ rfl

theorem setLevel (n : Nat) : (s.setLevel n).QueuesBounded := relevel (h.modPower _ rfl)

theorem supplyStep : s.supplyStep.QueuesBounded := by
  unfold State.supplyStep State.countTrip
  dsimp only
  split
  · split
    · split
      · exact reclose (h.modPower _ rfl)
      · exact h.modPower _ rfl
    · split
      · exact h.setLevel _
      · exact h
  · split
    · exact h.setLevel _
    · exact h.setLevel _
  · exact h
  · exact h

theorem droop : s.droop.QueuesBounded := by
  unfold State.droop
  split
  · exact h
  · split
    · exact (h.shedWhere _).modPower _ rfl
    · split
      · exact (h.shedWhere _).modPower _ rfl
      · exact h

theorem shedReturn : s.shedReturn.QueuesBounded := by
  unfold State.shedReturn
  split
  · refine h.changeDomains _ fun d => ?_
    split <;> rfl
  · exact h

theorem judgeOverload : s.judgeOverload.QueuesBounded := by
  unfold State.judgeOverload
  split
  · split
    · split
      · exact h.trip
      · exact h.modPower _ rfl
    · exact h.modPower _ rfl
  · exact h

theorem judgeBattery : s.judgeBattery.QueuesBounded := by
  unfold State.judgeBattery
  split
  · exact followOffer (h.modPower _ rfl)
  · exact h

theorem judgeSample : s.judgeSample.QueuesBounded := by
  have drooped := calling (f := State.droop) h.droop
  have returned := calling (f := State.shedReturn) drooped.shedReturn
  have judged := calling (f := State.judgeOverload) returned.judgeOverload
  exact calling (f := State.judgeBattery) judged.judgeBattery

theorem withViews (v : PerStation View) : State.QueuesBounded { s with views := v } := { h with }

theorem silence (t : Station) : (s.silence t).QueuesBounded := (h.withViews _).relevel

theorem hear (t : Station) (r : Report) : (s.hear t r).QueuesBounded := (h.withViews _).relevel

theorem ageEntry (t : Station) : (s.ageEntry t).QueuesBounded := by
  unfold State.ageEntry
  dsimp only
  split
  · exact h
  · split
    · exact (h.withViews _).silence t
    · exact h.withViews _

theorem ageViews : s.ageViews.QueuesBounded := (((h.ageEntry .console).ageEntry .pod).ageEntry .headset).ageEntry .strap

theorem admission : s.admission.QueuesBounded := by
  unfold State.admission
  split
  · exact h
  · split
    · refine follow (h.changeDomains _ fun d => ?_)
      split <;> rfl
    · exact h

theorem clearDroop : (s.modPower fun p => { p with droop := false }).QueuesBounded := h.modPower _ rfl

theorem powerSteps : s.powerSteps.QueuesBounded := by
  have aged := calling (f := State.ageViews) h.ageViews
  have stepped := (calling (f := State.supplyStep) aged.supplyStep).clearDroop
  unfold State.powerSteps
  generalize (((s.calling State.ageViews).calling State.supplyStep).modPower fun p => { p with droop := false }) = t at stepped
  dsimp only
  split
  · exact calling (f := State.admission) stepped.admission
  · exact stepped

theorem balanceStep : s.balanceStep.QueuesBounded := by
  unfold State.balanceStep
  dsimp only
  split
  · exact (h.withBalance _).callEvent
  · exact h.withBalance _

/-! #### Start (chapter 11) -/

omit h in
theorem resetNode (s : State) (c : Cause) : (s.resetNode c).QueuesBounded := by
  constructor
  case fifo => intro l; cases l <;> exact Nat.zero_le _
  case history => intro l; cases l <;> exact Nat.zero_le _
  case distinct => exact List.nodup_nil
  case known => exact fun _ hn => absurd hn List.not_mem_nil
  case numbers => exact fun _ hd => absurd hd List.not_mem_nil
  case sendRecords => intro e; cases e <;> exact Nat.zero_le _
  case sendCells => intro e; cases e <;> exact Nat.zero_le _
  case bufferRecords => intro e; cases e <;> exact Nat.zero_le _
  case bufferCells => intro e; cases e <;> exact Nat.zero_le _
  case layerMap => intro e; cases e <;> exact Nat.zero_le _
  all_goals exact Nat.zero_le _

theorem applyRecord (m : List Byte) : (s.applyRecord m).QueuesBounded := by
  have read : State.QueuesBounded { s with
      start := .linking, cfg := loadRecord s.srec m, localSlot := 0,
      audio := { s.audio with volume := (loadRecord s.srec m).volume } } := { h with }
  have noted := read.modStation s.station fun v => { v with present := true }
  unfold State.applyRecord
  dsimp only
  split
  · have left := noted.modPaced_same .left (fun x => x.load (loadRecord s.srec m).flowL) rfl
    exact left.modPaced_same .right _ rfl
  · exact noted

omit h in
/-- The table numbers its domains 0 to 5 (R151). -/
theorem domainTable_lt (t : Station) (p : Params) : ∀ d ∈ domainTable t p, d.number < 6 := fun _ hd =>
  List.mem_range.1 ((domainTable_numbers t p).subset (List.mem_map_of_mem hd))

theorem powerUp : s.powerUp.QueuesBounded := by
  have table (p : Power) (domains : p.domains = domainTable s.station s.cfg) : State.QueuesBounded { s with power := p } :=
    { h with numbers := by rw [domains]; exact domainTable_lt _ _ }
  unfold State.powerUp
  dsimp only
  refine calling (f := fun t => (t.changeDomains Domain.begin).follow) (follow ?_)
  exact (table _ rfl).changeDomains _ fun _ => rfl

theorem startTx : s.startTx.QueuesBounded := by
  have down : (s.modTx .down Tx.toProvisional).QueuesBounded := h.modTx_same .down _ rfl
  unfold State.startTx
  dsimp only
  split
  · exact down
  · exact down.modTx_same .up _ rfl

theorem startRx (l : Lane) : (s.startRx l).QueuesBounded := by
  unfold State.startRx
  split
  · exact h.findSignal l
  · exact h

theorem openEye (e : Eye) : (s.openEye e).QueuesBounded := by
  unfold State.openEye
  split
  · split
    · exact h.listenEye e
    · exact h.holdEye e
  · exact h

theorem openRecord (f : FlowId) : (s.openRecord f).QueuesBounded := by
  unfold State.openRecord
  split
  · exact h.withDst _
  · exact h

theorem openRecords : s.openRecords.QueuesBounded :=
  followSink (((((h.openEye .left).openEye .right).openRecord .motion).openRecord .audioOut).openRecord .audioIn)

theorem surveyPresent (t : Station) : (s.surveyPresent t).QueuesBounded := by
  unfold State.surveyPresent
  split
  · exact h.startSurvey t
  · exact h

theorem enterRunning : s.enterRunning.QueuesBounded := by
  have running : State.QueuesBounded { s with start := .running } := { h with }
  have called := (running.post .resetCause .reset s.cause.code rfl).openRecords.callEvent
  unfold State.enterRunning State.startSurveys
  split
  · exact ((called.surveyPresent .pod).surveyPresent .headset).surveyPresent .strap
  · exact called.offerResurvey

/-! #### The service line (chapter 10) -/

theorem relayTimeout : s.relayTimeout.QueuesBounded := by
  unfold State.relayTimeout
  split
  · exact State.QueuesBounded.post (h.modService _ h.answers) _ _ _ rfl
  · exact h

theorem setParser (p : Parser) : (s.setParser p).QueuesBounded := h.modService _ h.answers

theorem storeAnswer (r : RelayCell) : (s.storeAnswer r).QueuesBounded := by
  unfold State.storeAnswer
  dsimp only
  split
  · exact State.QueuesBounded.post (h.modService _ h.answers) _ _ _ rfl
  · exact h.modService _ h.answers

theorem reply (bs : List Byte) (room : bs.length ≤ s.freeSpace) : (s.reply bs).QueuesBounded := by
  refine h.modService _ ?_
  unfold State.freeSpace at room
  have := h.answers
  simp only [List.length_append]
  omega

theorem startRelay (t : Station) (bs : List Byte) : (s.startRelay t bs).QueuesBounded := by
  have held (k : Holder) : (s.modHolder fun _ => k).QueuesBounded := h.modService _ h.answers
  exact (held _).offerTo t _

theorem served {t : State} (made : s.Served t) : t.QueuesBounded := by
  cases made with
  | same => exact h
  | noticeTake n rest eq =>
    have suffix : rest.Sublist s.notices := eq ▸ List.sublist_cons_self n rest
    exact { h with
      distinct := h.distinct.sublist (suffix.map _), known := fun m hm => h.known m (suffix.subset hm) }
  | clearLane l => exact h.modRx_same l _ rfl
  | clearFlow f => exact { h with }
  | cursor c => exact h.modService _ h.answers
  | want n v => exact calling (f := fun t => t.want n v) (h.want n v)
  | volume n => exact h.withAudio _ h.blocks h.elastic
  | micMute b => exact h.withAudio _ h.blocks h.elastic
  | relay t inner => exact h.startRelay t inner
  | relayTake => exact h.modService _ h.answers

/-! #### Effects -/

theorem taken (l : Lane) (c : Cell) : (s.taken l c).QueuesBounded := h.modRx_same l _ rfl

theorem startEffect {t : State} (made : s.StartEffect t) : t.QueuesBounded := by
  cases made with
  | reset c => exact resetNode s c
  | endOfReset stn sup srec start =>
    have sampled : State.QueuesBounded { s with start := .loading, station := stn, sup := sup, srec := srec } := { h with }
    exact sampled.modTx_same .up _ rfl
  | endOfLoading memory start =>
    have made : (s.applyRecord memory).makeRecords.QueuesBounded := (h.applyRecord memory).withDst _
    exact (made.powerUp.startTx.startRx .down).startRx .up
  | settle start => exact h.settleRoles
  | settleLinked start => exact h.settleRoles.enterRunning
  | enterRunning start => exact h.enterRunning

theorem withPins (p : Pins) : State.QueuesBounded { s with pins := p } := { h with }

theorem laneEffect {t : State} (made : s.LaneEffect t) : t.QueuesBounded := by
  cases made with
  | signal p => exact h.withPins _
  | findSignal l p => exact (h.withPins _).findSignal l
  | lateNeighbour l p => exact (h.withPins _).lateNeighbour l
  | loseSignal l p live => exact (h.withPins _).leaveLocked l _ _
  | goDark l p => exact (h.withPins _).clear l .dark
  | candidate l i => exact h.modRx l _ (Nat.zero_le _)
  | confirmCell l found live => exact h.confirmCell l found
  | alignCorrect l i live => exact h.alignCorrect l i
  | alignError l live => exact h.alignError l
  | tableTimeout l live => exact calling (f := fun t => t.timeoutLane l) (h.timeoutLane l)

theorem sendEffect {t : State} (made : s.SendEffect t) : t.QueuesBounded := by
  cases made with
  | originAlign l q live => exact h.originAlign l q
  | ownAlign l f live => exact h.ownAlign l f
  | repeatAlign l d i live => exact h.repeatAlign l d i
  | arrive l c => exact h.arrive l c
  | decideCell l c => exact (h.arrive l c).decideCell l c
  | payGap l => exact sendIdle (h.modTx_same l (fun t => { t with gapOwed := false }) rfl) l
  | insert l running => exact h.insert l _
  | sendIdle l => exact h.sendIdle l
  | frameStart hs => exact accrueAll (syncClock (h.modTx_same .down _ rfl))

theorem cellEffect {t : State} (made : s.CellEffect t) : t.QueuesBounded := by
  have judged (l : Lane) (c : Cell) : (s.taken l c).QueuesBounded := h.taken l c
  cases made with
  | taken l c => exact judged l c
  | takeData l c live => exact (judged l c).takeData l c
  | answerProbe l c e d r live => exact (judged l c).answerProbe e d r
  | takeReply l c e r live hs => exact (judged l c).takeReply e r
  | hear l c r live hr => exact calling (f := fun x => x.hear c.src r) ((judged l c).hear c.src r)
  | echo l c k => exact ((judged l c).withSurveyed _).offerTo _ _
  | delay l c d => exact ((judged l c).withSurveyed _).syncClock.post _ _ _ rfl
  | echoAnswered l c n => exact (judged l c).echoAnswered c.src n
  | resurvey l c => exact (judged l c).startSurvey c.src
  | moveVolume l c q => exact (judged l c).withAudio _ h.blocks h.elastic
  | toggleMute l c => exact (judged l c).withAudio _ h.blocks h.elastic
  | postButton l c n => exact (judged l c).post _ _ _ rfl
  | answerRelay l c r running =>
    exact State.answerRelay_preserves (P := State.QueuesBounded) (fun _ _ _ h made => h.served made)
      (fun _ _ _ _ _ _ h => h.offerTo _ _) (s.taken l c) _ _ _ (.inr running) (judged l c)
  | storeAnswer l c r => exact (judged l c).storeAnswer r

theorem pictureEffect {t : State} (made : s.PictureEffect t) : t.QueuesBounded := by
  cases made with
  | answerSlice e a => exact h.answerSlice e a
  | refuseSlice e a => exact (h.counted _ _).answerSlice e a
  | enterSlice e p i k n d hs running hn => exact (h.idleReset e).entryPolicy e _
  | drainHeld e hs running => exact (h.dropHeld e).enterPaced e _
  | drain e hs running => exact h.enterPaced e _
  | displayReady e p => exact h.withPins _
  | displayReadyRise e p => exact (h.withPins _).considerRelease e
  | pictureTaken e n => exact h.pictureTaken e n
  | pictureTakenBreaking e n => exact (h.breakEye e).pictureTaken e n

theorem converting : State.QueuesBounded { s with power := { s.power with converting := true } } :=
  h.modPower (fun p => { p with converting := true }) rfl

theorem motionEffect {t : State} (made : s.MotionEffect t) : t.QueuesBounded := by
  cases made with
  | overrun k => exact (h.withMotion { s.motion with silence := k } h.samples).counted _ _
  | edge k d r => exact h.withMotion _ h.samples
  | readCompletion r axes => exact h.withMotion _ (append16_length _ _ h.samples)
  | motionReady b => exact h.withPins _
  | deliver => exact (h.withPins _).deliver
  | consoleBoundary live => exact h.converting.surveyBoundaries
  | headsetBoundary w live =>
    have counted := calling (f := State.motionBoundary) h.converting.delayBoundary.motionBoundary
    exact calling (f := fun t => t.sampleWear w) (counted.sampleWear w)
  | otherBoundary live => exact h.converting.delayBoundary
  | wearTo w live => exact calling (f := fun t => t.wearTo w) (h.wearTo w)
  | fallAsleep live => exact calling (f := State.fallAsleep) h.fallAsleep
  | wakeUp => exact h.wakeUp
  | sensorSilent => exact h.sensorSilent
  | surveyTimeout t => exact h.surveyTimeout t
  | echoDiscarded t => exact h.echoDiscarded t
  | delayWaitExpiry => exact h.delayWaitExpiry

theorem audioEffect {t : State} (made : s.AudioEffect t) : t.QueuesBounded := by
  have clocked (b : Bool) : State.QueuesBounded { s with audio := { s.audio with clock := b } } :=
    h.withAudio _ h.blocks h.elastic
  cases made with
  | clockEdge x mic live => exact ((clocked true).followSource.buildStep x).sinkStep mic
  | clockEdgeNoSource mic live => exact (clocked true).followSource.sinkStep mic
  | clockAbsent => exact (clocked false).followSource
  | sampleLines a b c => exact ((h.sampleLine .volUp a).sampleLine .volDown b).sampleLine .mute c
  | lineTo b p => exact h.lineTo b p

theorem powerEffect {t : State} (made : s.PowerEffect t) : t.QueuesBounded := by
  cases made with
  | sampleEvent r l a live =>
    have valued := h.takeValues r l a
    obtain reset | ⟨n, keep⟩ := (s.takeValues r l a).judgeSample.judgeBrownout_cases
    · rw [reset]; exact resetNode _ _
    · rw [keep]; exact valued.judgeSample.countBrownout n
  | trip live => exact calling (f := State.trip) h.trip
  | reclose live => exact calling (f := State.reclose) h.reclose
  | powerBoundary live => exact h.powerSteps
  | powerBoundaryRunning running => exact h.powerSteps.balanceStep.reportTest
  | silence t live => exact calling (f := fun x => x.silence t) (h.silence t)
  | keepAlive running => exact h.balanceStep

theorem lineEffect {t : State} (made : s.LineEffect t) : t.QueuesBounded := by
  have served (s t : State) (_ : s.live) (h : s.QueuesBounded) (m : s.Served t) : t.QueuesBounded := h.served m
  cases made with
  | relayTimeout => exact h.relayTimeout
  | pulses p => exact { h with }
  | request r =>
    exact State.request_preserves (P := State.QueuesBounded) served (fun _ p h => h.setParser p)
      (fun _ bs room h => h.reply bs room) s r h
  | feedByte b =>
    exact State.feedByte_preserves (P := State.QueuesBounded) served (fun _ p h => h.setParser p)
      (fun _ bs room h => h.reply bs room) s b h
  | setParser p => exact h.setParser p
  | answerSent b rest eq =>
    have room := h.answers
    rw [eq, List.length_cons] at room
    exact h.modService _ (by dsimp only; omega)

theorem effect {t : State} (made : s.Effect t) : t.QueuesBounded := by
  cases made with
  | same => exact h
  | start t made => exact h.startEffect made
  | lane t made => exact h.laneEffect made
  | send t made => exact h.sendEffect made
  | cell t made => exact h.cellEffect made
  | picture t made => exact h.pictureEffect made
  | motion t made => exact h.motionEffect made
  | audio t made => exact h.audioEffect made
  | power t made => exact h.powerEffect made
  | line t made => exact h.lineEffect made

/-! #### A slot with no command waiting -/

theorem tickClock : s.tickClock.QueuesBounded := h.of_kept (by simp)

theorem tickTable (r : Rx) (l : Lane) : (s.tickTable r l).QueuesBounded := by
  unfold State.tickTable
  split
  · exact calling (f := fun t => t.timeoutLane l) (h.timeoutLane l)
  · exact h

theorem tickSilence : s.tickSilence.QueuesBounded := by
  unfold State.tickSilence
  split
  · split
    · exact h.sensorSilent
    · exact h.withMotion _ h.samples
  · exact h

theorem tickRelay : s.tickRelay.QueuesBounded := by
  unfold State.tickRelay
  dsimp only
  split
  · have waited : (s.modHolder fun v => { v with wait := s.service.holder.wait - 1 }).QueuesBounded := h.modService _ h.answers
    split
    · exact waited.relayTimeout
    · exact waited
  · exact h

theorem tick : s.tick.QueuesBounded := by
  have tx (l : Lane) : ((⟨s.tx.down.tick, s.tx.up.tick⟩ : PerLane Tx).get l).fifo.length ≤ 8 := by
    have same (t : Tx) : t.tick.fifo = t.fifo := by
      unfold Tx.tick
      split <;> rfl
    cases l with
    | down => exact same s.tx.down ▸ h.fifo .down
    | up => exact same s.tx.up ▸ h.fifo .up
  have rx (l : Lane) : ((⟨s.rx.down.tick, s.rx.up.tick⟩ : PerLane Rx).get l).history.length ≤ 16 := by
    cases l with
    | down => exact h.history .down
    | up => exact h.history .up
  unfold State.tick
  split
  · dsimp only
    refine tickRelay (tickSilence (tickTable (tickTable (tickClock ?_) _ _) _ _))
    exact { h with fifo := tx, history := rx }
  · exact h

end Units

end State.QueuesBounded

/-! ### The notice queue holds at most 21 (R185) -/

/-- The subjects of R184. -/
def knownSubjects : List Subject :=
  [.flow .pictureL, .flow .pictureR, .flow .motion, .flow .audioOut, .flow .audioIn, .lane .down, .lane .up, .domain 0,
   .domain 1, .domain 2, .domain 3, .domain 4, .domain 5, .station .console, .station .pod, .station .headset,
   .station .strap, .supply, .relay, .reset, .buttons]

theorem mem_knownSubjects {x : Subject} (h : x.known = true) : x ∈ knownSubjects := by
  cases x with
  | flow f => cases f <;> simp [knownSubjects]
  | lane l => cases l <;> simp [knownSubjects]
  | domain n =>
    have : n < 6 := by simpa [Subject.known] using h
    interval_cases n <;> simp [knownSubjects]
  | station t => cases t <;> simp [knownSubjects]
  | _ => simp [knownSubjects]

/-- One notice a subject is 21 notices at most (R185). -/
theorem State.QueuesBounded.notices_le {s : State} (h : s.QueuesBounded) : s.notices.length ≤ 21 := by
  have inside : s.notices.map (·.subject) ⊆ knownSubjects := fun x hx => by
    obtain ⟨n, hn, rfl⟩ := List.mem_map.1 hx
    exact mem_knownSubjects (h.known n hn)
  have := (h.distinct.subperm inside).length_le
  simpa [knownSubjects] using this

/-- Settles O56. -/
theorem stepKeepsQueuesBounded : Obligations.StepKeepsQueuesBounded := by
  unfold Obligations.StepKeepsQueuesBounded
  exact ⟨step_preserves (fun _ _ h => { h with }) (fun _ _ h made => h.effect made) fun _ h => h.tick, fun _ h => h.notices_le⟩

/-- Settles O60. -/
theorem resetMeetsTheInvariants : Obligations.ResetMeetsTheInvariants := by
  have reset : State.reset = State.reset.resetNode .powerOn := rfl
  unfold Obligations.ResetMeetsTheInvariants
  rw [reset]
  exact ⟨State.QueuesBounded.resetNode _ _, State.BalanceInRange.resetNode _ _, State.RatesInRange.resetNode _ _,
    State.ShedLevelHolds.resetNode _ _⟩

end Sys2Proof.Machine

namespace Sys2Proof.Machine

/-! ### The lane-quiet machine over a superframe (O13) -/

namespace Quiet

/-- What the machine holds of a superframe's observations before it decides (R172, R173). -/
def note (q : Quiet) (os : List Observed) : Quiet :=
  { q with sawNeed := os.any fun o => o.need, sawAny := os.any fun o => o.any }

theorem run_append (q : Quiet) (f : Nat) (xs ys : List Observed) : q.run f (xs ++ ys) = (q.run f xs).run (f + xs.length) ys := by
  induction xs generalizing q f with
  | nil => rfl
  | cons o xs ih =>
    rw [List.cons_append, run, ih, run, List.length_cons]
    congr 1
    omega

/-- Out of DEEP the frames 1 to 14 only gather what they observe. -/
theorem run_gathers (q : Quiet) (f : Nat) (xs : List Observed) (lane : q.lane ≠ .deep) (first : 1 ≤ f)
    (last : f + xs.length ≤ 15) :
    q.run f xs = { q with sawNeed := q.sawNeed || xs.any fun o => o.need, sawAny := q.sawAny || xs.any fun o => o.any } := by
  induction xs generalizing q f with
  | nil => simp [run]
  | cons o xs ih =>
    rw [List.length_cons] at last
    have zero : BitVec.ofNat 4 f ≠ 0 := by bv_omega
    have fifteen : BitVec.ofNat 4 f ≠ 15 := by bv_omega
    rw [run]
    simp only [step, lane, zero, fifteen, if_false]
    rw [ih _ _ (by exact lane) (by omega) (by omega)]
    simp [Bool.or_assoc]

/-- Out of DEEP the machine has gathered the observations of the frames so far. -/
theorem run_note (q : Quiet) (os : List Observed) (lane : q.lane ≠ .deep) (some : os ≠ []) (short : os.length ≤ 15) :
    q.run 0 os = q.note os := by
  cases os with
  | nil => exact absurd rfl some
  | cons o os =>
    rw [List.length_cons] at short
    have first : q.step (BitVec.ofNat 4 0) o = { q with sawNeed := o.need, sawAny := o.any } := by simp [step, lane]
    rw [run, first, run_gathers _ _ _ (by exact lane) (by omega) (by omega)]
    simp [note]

/-- Out of DEEP the sixteenth frame decides over all that was gathered (R171). -/
theorem run_superframe (q : Quiet) (os : List Observed) (lane : q.lane ≠ .deep) (all : os.length = 16) :
    q.run 0 os = (q.note os).endSuperframe := by
  obtain ⟨xs, o, rfl⟩ : ∃ xs o, os = xs ++ [o] := by
    obtain h | ⟨xs, o, h⟩ := os.eq_nil_or_concat
    · simp [h] at all
    · exact ⟨xs, o, by simpa using h⟩
  have fifteen : xs.length = 15 := by simpa using all
  rw [run_append, run_note q xs lane (by rintro rfl; simp at fifteen) fifteen.le, fifteen]
  have decides : (q.note xs).step (BitVec.ofNat 4 15) o = (q.note (xs ++ [o])).endSuperframe := by
    simp [step, note, lane, List.any_append]
  simp [run, decides]

theorem note_sawNeed (q : Quiet) (os : List Observed) : (q.note os).sawNeed = true ↔ ∃ o ∈ os, o.need = true := by simp [note]

theorem note_sawNeed_false {q : Quiet} {os : List Observed} (h : ∀ o ∈ os, o.need = false) : (q.note os).sawNeed = false := by
  simpa [note] using h

theorem note_sawAny (q : Quiet) (os : List Observed) : (q.note os).sawAny = true ↔ ∃ o ∈ os, o.any = true := by simp [note]

end Quiet

/-- Settles O13. -/
theorem laneQuietDecidesAtFrame15 : Obligations.LaneQuietDecidesAtFrame15 := by
  unfold Obligations.LaneQuietDecidesAtFrame15
  intro q os all
  have ends (lane : q.lane ≠ .deep) := q.run_superframe os lane all
  have same : (q.note os).lane = q.lane ∧ (q.note os).quietCount = q.quietCount ∧ (q.note os).wakeCount = q.wakeCount ∧
      (q.note os).wakeBegins = q.wakeBegins := ⟨rfl, rfl, rfl, rfl⟩
  obtain ⟨lane, quiet, wake, begins⟩ := same
  have silent (h : ∀ o ∈ os, o.need = false ∧ o.hold = false ∧ o.reports = false) :
      (q.note os).sawNeed = false ∧ (q.note os).sawAny = false := by
    refine ⟨Quiet.note_sawNeed_false fun o ho => (h o ho).1, ?_⟩
    simp only [Quiet.note, List.any_eq_false]
    intro o ho
    simp [Observed.any, h o ho]
  refine ⟨fun notDeep n hn => ?_, fun active need => ?_, fun active none => ?_, fun light need => ?_, fun light none more => ?_,
    fun light none count => ?_, fun light none count => ?_, fun waking first => ?_, fun waking later count => ?_,
    fun waking later count => ?_, fun deep o => ⟨fun h => ?_, fun need hold => ?_⟩⟩
  · by_cases zero : os.take n = []
    · rw [zero]; rfl
    · rw [q.run_note _ notDeep zero (by simp; omega)]; rfl
  · have saw := (q.note_sawNeed os).2 need
    simp [ends (by simp [active]), Quiet.endSuperframe, lane, active, Quiet.endActive, saw]
  · have saw := Quiet.note_sawNeed_false (q := q) none
    simp [ends (by simp [active]), Quiet.endSuperframe, lane, active, Quiet.endActive, saw]
  · have saw := (q.note_sawNeed os).2 need
    simp [ends (by simp [light]), Quiet.endSuperframe, lane, light, Quiet.endLight, saw]
  · have saw := Quiet.note_sawNeed_false (q := q) none
    have any : (q.note os).sawAny = true := by
      obtain ⟨o, ho, shows⟩ := more
      exact (q.note_sawAny os).2 ⟨o, ho, by cases shows <;> simp [Observed.any, *]⟩
    simp [ends (by simp [light]), Quiet.endSuperframe, lane, light, Quiet.endLight, saw, any]
  · obtain ⟨saw, any⟩ := silent none
    have below : q.quietCount < 3 := by omega
    simp [ends (by simp [light]), Quiet.endSuperframe, lane, light, Quiet.endLight, saw, any, quiet, below]
  · obtain ⟨saw, any⟩ := silent none
    simp [ends (by simp [light]), Quiet.endSuperframe, lane, light, Quiet.endLight, saw, any, quiet, count]
  · simp [ends (by simp [waking]), Quiet.endSuperframe, lane, waking, Quiet.endWaking, begins, wake, first]
  · have below : q.wakeCount < 3 := by omega
    simp [ends (by simp [waking]), Quiet.endSuperframe, lane, waking, Quiet.endWaking, begins, wake, later, below]
  · simp [ends (by simp [waking]), Quiet.endSuperframe, lane, waking, Quiet.endWaking, begins, wake, later, count]
  · simp [Quiet.step, deep, h]
  · simp [Quiet.step, deep, need, hold]

end Sys2Proof.Machine

namespace Sys2Proof.Machine

/-! ### Rules that many statements use -/

/-- Two states with the same fields are the same. -/
theorem State.eq_of_fields {s t : State} (h :
    s.start = t.start ∧ s.cause = t.cause ∧ s.station = t.station ∧ s.sup = t.sup ∧ s.srec = t.srec ∧ s.cfg = t.cfg ∧
    s.settledRoles = t.settledRoles ∧ s.farNeighbour = t.farNeighbour ∧ s.lateSeen = t.lateSeen ∧
    s.localSlot = t.localSlot ∧ s.clock = t.clock ∧ s.pins = t.pins ∧ s.rx = t.rx ∧ s.tx = t.tx ∧
    s.stations = t.stations ∧ s.dst = t.dst ∧ s.seqs = t.seqs ∧ s.counters = t.counters ∧ s.paced = t.paced ∧
    s.eyes = t.eyes ∧ s.surveyed = t.surveyed ∧ s.surveys = t.surveys ∧ s.tokens = t.tokens ∧ s.motion = t.motion ∧
    s.motionOut = t.motionOut ∧ s.audio = t.audio ∧ s.power = t.power ∧ s.views = t.views ∧ s.balance = t.balance ∧
    s.notices = t.notices ∧ s.pulses = t.pulses ∧ s.service = t.service ∧ s.pending = t.pending) : s = t := by
  cases s
  cases t
  simpa using h

/-- Posting from the end of LOADING (R184). -/
theorem State.post_of_live {s : State} (h : s.live) (k : NoticeKind) (x : Subject) (n : Nat) :
    s.post k x n =
      { s with
        notices :=
          putNotice { kind := k, subject := x, value := BitVec.ofNat 32 n, time := s.clock, settled := s.settled } s.notices } := by
  unfold State.post
  rw [if_pos h]

/-- A notice posted from the end of LOADING waits (R184, R185). -/
theorem State.exists_posted {s : State} (h : s.live) (k : NoticeKind) (x : Subject) (n : Nat) :
    ∃ m ∈ (s.post k x n).notices, m.kind = k ∧ m.subject = x ∧ m.value = BitVec.ofNat 32 n := by
  rw [State.post_of_live h]
  exact ⟨_, putNotice_mem_self _ _, rfl, rfl, rfl⟩

/-- A flow's counters after a count (R64). -/
theorem State.count_get (s : State) (f : FlowId) (g : FlowCounters → FlowCounters) :
    (s.count f g).counters.get f = if s.running then g (s.counters.get f) else s.counters.get f := by
  unfold State.count
  split <;> simp

/-- A count leaves every other flow's counters. -/
theorem State.count_get_of_ne (s : State) {f k : FlowId} (h : k ≠ f) (g : FlowCounters → FlowCounters) :
    (s.count f g).counters.get k = s.counters.get k := by
  unfold State.count
  split
  · rw [PerFlow.get_set, if_neg h]
  · rfl

theorem State.count_of_running {s : State} (h : s.running) (f : FlowId) (g : FlowCounters → FlowCounters) :
    s.count f g = { s with counters := s.counters.set f (g (s.counters.get f)) } := by
  unfold State.count
  rw [if_pos h]

theorem State.count_of_not_running {s : State} (h : ¬s.running) (f : FlowId) (g : FlowCounters → FlowCounters) :
    s.count f g = s := by
  unfold State.count
  rw [if_neg h]

@[simp] theorem PerEye.get_set_of_ne {α : Type} (p : PerEye α) {i j : Eye} (h : j ≠ i) (v : α) : (p.set i v).get j = p.get j := by
  rw [PerEye.get_set, if_neg h]

@[simp] theorem PerLane.get_set_of_ne {α : Type} (p : PerLane α) {i j : Lane} (h : j ≠ i) (v : α) :
    (p.set i v).get j = p.get j := by
  rw [PerLane.get_set, if_neg h]

theorem State.modPaced_congr {s : State} {e : Eye} {f g : Paced → Paced} (h : f (s.paced.get e) = g (s.paced.get e)) :
    s.modPaced e f = s.modPaced e g := by
  simp only [State.modPaced, h]

theorem State.modPaced_id {s : State} {e : Eye} {f : Paced → Paced} (h : f (s.paced.get e) = s.paced.get e) :
    s.modPaced e f = s := by
  simp only [State.modPaced, h, PerEye.set_get]

theorem State.modPaced_modPaced (s : State) (e : Eye) (f g : Paced → Paced) :
    (s.modPaced e f).modPaced e g = s.modPaced e fun p => g (f p) := by
  simp [State.modPaced]

end Sys2Proof.Machine

namespace Sys2Proof.Machine

/-! ### Allowed rate: replies, bands and probes (O27 to O29) -/

/-- A change of the allowed rate at its record: the rate and the band that follows it (R86). -/
theorem State.setRate_paced (s : State) (e : Eye) (a : Nat) :
    (s.setRate e a).paced =
      s.paced.set e { s.paced.get e with ar := a, band := bandAfter (s.params e) (s.paced.get e).band a } := by
  unfold State.setRate
  dsimp only
  split <;> simp

/-- A change of band may close the train, and leaves the transmitter otherwise (R40). -/
theorem Tx.bandChange_eq (t : Tx) (e : Eye) (old new : Band) :
    t.bandChange e old new =
      { t with train := (t.bandChange e old new).train, gapOwed := (t.bandChange e old new).gapOwed } := by
  unfold Tx.bandChange
  split <;> rfl

/-- A change of the allowed rate leaves the transmitters but for the down one's train (R40). -/
theorem State.setRate_tx (s : State) (e : Eye) (a : Nat) :
    (s.setRate e a).tx =
      { s.tx with
        down :=
          { s.tx.down with
            train := (s.setRate e a).tx.down.train, gapOwed := (s.setRate e a).tx.down.gapOwed } } := by
  unfold State.setRate
  dsimp only
  split
  · rfl
  · simp only [State.post_tx, State.modTx_tx, State.modPaced_tx, PerLane.get, PerLane.set]
    rw [← Tx.bandChange_eq]

/-- A change of band is noticed (R86, R184). -/
theorem State.setRate_posts {s : State} (live : s.live) (e : Eye) (a : Nat)
    (changed : bandAfter (s.params e) (s.paced.get e).band a ≠ (s.paced.get e).band) :
    ∃ n ∈ (s.setRate e a).notices, n.kind = .rateBand ∧ n.subject = .flow (Eye.flow e) ∧
      n.value = BitVec.ofNat 32 (Band.code (bandAfter (s.params e) (s.paced.get e).band a)) := by
  unfold State.setRate
  dsimp only
  rw [if_neg changed]
  exact State.exists_posted (by simpa [State.live] using live) _ _ _

theorem ceilDiv_256 (n : Nat) : ceilDiv n 256 = (n + 255) / 256 := by
  unfold ceilDiv
  omega

/-- Settles O27. -/
theorem rateMovesByMarksAndTheBandFollows : Obligations.RateMovesByMarksAndTheBandFollows := by
  unfold Obligations.RateMovesByMarksAndTheBandFollows
  refine ⟨fun p ar r ordered => ?_, fun p b ar => ?_, fun s e ar => ⟨?_, ?_, fun changed live => ?_⟩⟩
  · dsimp only
    refine ⟨fun c => ?_, fun c n => ?_, fun c n => ?_, fun _ => rfl, ?_, ?_⟩
    · simp [rateAfterReply, c, ceilDiv_256]
    · simp [rateAfterReply, c, n]
    · simp [rateAfterReply, c, n, riseAmount, ceilDiv_256]
    · exact le_max_left _ _
    · exact max_le ordered (min_le_right _ _)
  · refine ⟨fun low => ?_, fun scarce from_ => ?_, fun scarce from_ => ?_, fun scarce from_ => ?_, fun ok => ?_, fun ok low => ?_,
      fun ok low => ?_⟩
    · simp [bandAfter, low]
    · subst from_
      have above : ¬ar < p.scarce := by omega
      refine ⟨fun ok => ?_, fun ok ease => ?_, fun ok ease => ?_⟩
      · simp [bandAfter, above, ok]
      · simp [bandAfter, above, ease, show ¬p.ok ≤ ar by omega]
      · simp [bandAfter, above, show ¬p.ok ≤ ar by omega, show ¬p.ease ≤ ar by omega]
    · subst from_
      have above : ¬ar < p.scarce := by omega
      refine ⟨fun low => ?_, fun low => ?_⟩
      · simp [bandAfter, above, low]
      · simp [bandAfter, above, show ¬ar < p.low by omega]
    · subst from_
      have above : ¬ar < p.scarce := by omega
      refine ⟨fun ok => ?_, fun ok => ?_⟩
      · simp [bandAfter, above, ok]
      · simp [bandAfter, above, show ¬p.ok ≤ ar by omega]
    · simp [loadBand, ok]
    · simp [loadBand, low, show ¬p.ok ≤ p.start by omega]
    · simp [loadBand, show ¬p.start < p.scarce by omega, show ¬p.ok ≤ p.start by omega]
  · rw [State.setRate_paced, PerEye.get_set_self]
  · rw [State.setRate_paced, PerEye.get_set_self]
  · exact State.setRate_posts live e ar changed

/-! #### Probes (R69 to R71) -/

/-- The fade that a probe makes where patience is exceeded (R70). -/
def State.fade (s : State) (e : Eye) : State :=
  if (s.params e).patience ≤ (s.paced.get e).unanswered then s.setRate e (fadedRate (s.params e) (s.paced.get e).ar) else s

/-- The allowed rate after the fade (R70). -/
def State.fadedAr (s : State) (e : Eye) : Nat :=
  if (s.params e).patience ≤ (s.paced.get e).unanswered then fadedRate (s.params e) (s.paced.get e).ar else (s.paced.get e).ar

/-- The band after the fade (R70, R86). -/
def State.fadedBand (s : State) (e : Eye) : Band :=
  if (s.params e).patience ≤ (s.paced.get e).unanswered then
    bandAfter (s.params e) (s.paced.get e).band (fadedRate (s.params e) (s.paced.get e).ar)
  else (s.paced.get e).band

theorem State.fade_paced (s : State) (e : Eye) :
    (s.fade e).paced = s.paced.set e { s.paced.get e with ar := s.fadedAr e, band := s.fadedBand e } := by
  unfold State.fade State.fadedAr State.fadedBand
  split
  · exact s.setRate_paced e _
  · exact (s.paced.set_get e).symm

/-- The fade leaves all but its record, the train of the down transmitter and the notices. -/
theorem State.fade_eq (s : State) (e : Eye) :
    s.fade e = { s with tx := (s.fade e).tx, paced := (s.fade e).paced, notices := (s.fade e).notices } := by
  unfold State.fade
  split
  · exact State.eq_of_fields (by simp)
  · rfl

theorem State.fade_tx (s : State) (e : Eye) :
    (s.fade e).tx =
      { s.tx with
        down := { s.tx.down with train := (s.fade e).tx.down.train, gapOwed := (s.fade e).tx.down.gapOwed } } := by
  unfold State.fade
  split
  · exact s.setRate_tx e _
  · rfl

/-- The down transmitter of CONSOLE takes a probe: it sends and its FIFO holds fewer than 8 (R41, R71). -/
abbrev State.probeRoom (s : State) : Prop := s.tx.down.role.sends = true ∧ s.tx.down.fifo.length < 8

/-- The record after its probe was queued (R70, R71). -/
def State.probed (s : State) (e : Eye) : Paced :=
  { s.paced.get e with
    ar := s.fadedAr e, band := s.fadedBand e, lastProbe := (s.paced.get e).lastProbe + 1,
    unanswered := min ((s.paced.get e).unanswered + 1) 255, cellsSince := 0, probeAt := some s.tx.down.count,
    probeWaiting := decide s.probeRoom }

theorem State.queueProbe_eq (s : State) (e : Eye) :
    s.queueProbe e =
      ((s.fade e).offerTo .headset (.probe e ((s.paced.get e).lastProbe + 1) (s.fadedAr e) (s.params e).peak
        (s.params e).peak)).modPaced e fun q =>
        { q with
          lastProbe := (s.paced.get e).lastProbe + 1, unanswered := min ((s.paced.get e).unanswered + 1) 255, cellsSince := 0,
          probeAt := some s.tx.down.count,
          probeWaiting :=
            (s.fade e).accepts .headset (.probe e ((s.paced.get e).lastProbe + 1) (s.fadedAr e) (s.params e).peak
              (s.params e).peak) } := by
  have ar : ((s.fade e).paced.get e).ar = s.fadedAr e := by simp [State.fade_paced]
  rw [← ar]
  rfl

/-- A probe queued at CONSOLE: the fade, the record after it, and the FIFO of the down transmitter (R70, R71). -/
theorem State.queueProbe_of_console {s : State} (console : s.station = .console) (e : Eye) :
    s.queueProbe e =
      { (s.fade e).modTx .down fun t =>
          { t with
            fifo :=
              if s.probeRoom then
                s.tx.down.fifo ++
                  [.probe e ((s.paced.get e).lastProbe + 1) (s.fadedAr e) (s.params e).peak (s.params e).peak]
              else s.tx.down.fifo } with
        paced := s.paced.set e (s.probed e) } := by
  have station : (s.fade e).station = .console := by rw [State.fade_eq, ← console]
  have lane : laneTo (s.fade e).station .headset = some .down := by rw [station]; rfl
  have role : (s.fade e).tx.down.role = s.tx.down.role := by rw [State.fade_tx]
  have fifo : (s.fade e).tx.down.fifo = s.tx.down.fifo := by rw [State.fade_tx]
  have notPower (r : Report) (n : Nat) :
      Ctl.probe e ((s.paced.get e).lastProbe + 1) (s.fadedAr e) (s.params e).peak (s.params e).peak ≠ .power r n := nofun
  obtain ⟨accepted, -⟩ := (s.fade e).offerResult_of_not_power .down notPower
  rw [State.queueProbe_eq]
  simp only [State.accepts, State.offerTo, lane, accepted]
  rw [State.offer_of_not_power _ _ notPower]
  simp only [State.modTx, State.modPaced, PerLane.get, PerLane.set, role, fifo, State.fade_paced, PerEye.get_set_self,
    PerEye.set_set]
  rfl

theorem State.probeDue_iff (s : State) (e : Eye) :
    s.probeDue e = true ↔
      (s.params e).spacing ≤ (s.paced.get e).cellsSince ∨
        ∀ n, (s.paced.get e).probeAt = some n → (s.params e).interval ≤ (s.tx.down.count - n).toNat := by
  unfold State.probeDue
  dsimp only
  cases (s.paced.get e).probeAt with
  | none => simp
  | some n => simp only [Bool.or_eq_true, decide_eq_true_eq, Option.some.injEq, forall_eq']

theorem State.probeCheck_of_not_due {s : State} {e : Eye}
    (no : (s.paced.get e).state = .idle ∨ (s.paced.get e).probeWaiting = true ∨ s.probeDue e ≠ true) : s.probeCheck e = s := by
  unfold State.probeCheck
  refine if_neg ?_
  rintro ⟨state, waiting, due⟩
  simp_all

theorem State.probeCheck_of_due {s : State} {e : Eye} (state : (s.paced.get e).state ≠ .idle)
    (waiting : (s.paced.get e).probeWaiting = false) (due : s.probeDue e = true) : s.probeCheck e = s.queueProbe e := by
  unfold State.probeCheck
  rw [if_pos ⟨state, waiting, due⟩]

/-- The check queues a probe or leaves the state. -/
theorem State.probeCheck_cases (s : State) (e : Eye) : s.probeCheck e = s ∨ s.probeCheck e = s.queueProbe e := by
  unfold State.probeCheck
  split <;> simp

/-- The record a check leaves: as it was, or with the probe that it queued (R69 to R71). -/
theorem State.probeCheck_paced {s : State} (console : s.station = .console) (e : Eye) :
    (s.probeCheck e).paced = s.paced ∨ (s.probeCheck e).paced = s.paced.set e (s.probed e) := by
  obtain same | queued := s.probeCheck_cases e
  · exact .inl (by rw [same])
  · exact .inr (by rw [queued, State.queueProbe_of_console console])

/-! #### Replies (R78 to R82) -/

/-- The state of a record after an accepted reply (R50, R51, R82). -/
def Paced.stateAfter (p : Paced) (hold : Bool) : PacedState :=
  if hold then (if p.state = .draining then .draining else .held)
  else if p.state = .held then (if 0 < cellsLeft p.queue then .active else .idle)
  else p.state

/-- The record after an accepted reply, its rate apart (R50, R51, R82). -/
def Paced.afterReply (p : Paced) (hold : Bool) (now : Count32) : Paced :=
  { p with
    state := p.stateAfter hold, queue := if hold = true ∧ p.state = .draining then [] else p.queue,
    discarded := if hold = true ∧ p.state = .draining then p.discarded + p.queue.length else p.discarded,
    idleSince := if p.state = .held ∧ p.stateAfter hold = .idle then some now else p.idleSince }

theorem State.replyState_eq (s : State) (e : Eye) (hold : Bool) :
    s.replyState e hold = s.modPaced e fun p => p.afterReply hold s.tx.down.count := by
  unfold State.replyState
  dsimp only
  split
  · rename_i marked
    split
    · rename_i draining
      exact State.modPaced_congr (by simp [Paced.afterReply, Paced.stateAfter, Paced.dropHeld, marked, draining])
    · rename_i other
      have running : (s.paced.get e).state ≠ .draining := other
      exact State.modPaced_congr (by simp [Paced.afterReply, Paced.stateAfter, marked, running])
  · rename_i unmarked
    rw [Bool.not_eq_true] at unmarked
    split
    · rename_i held
      split
      · rename_i cells
        exact State.modPaced_congr (by simp [Paced.afterReply, Paced.stateAfter, unmarked, held, cells])
      · rename_i none
        exact State.modPaced_congr (by simp [Paced.afterReply, Paced.stateAfter, unmarked, held, none])
    · rename_i other
      exact (State.modPaced_id (by simp [Paced.afterReply, Paced.stateAfter, unmarked, other])).symm

/-- The state that an accepted reply makes, before the check of a record whose state changed (R79 to R82). -/
def State.replied (s : State) (e : Eye) (r : RateCell) : State :=
  ({ s with
     paced :=
       s.paced.set e
         { (s.paced.get e).afterReply r.hold s.tx.down.count with
           unanswered := ((s.paced.get e).lastProbe - r.number).toNat } } : State).setRate e
    (rateAfterReply (s.params e) (s.paced.get e).ar r)

theorem State.replied_get (s : State) (e : Eye) (r : RateCell) :
    (s.replied e r).paced.get e =
      { (s.paced.get e).afterReply r.hold s.tx.down.count with
        unanswered := ((s.paced.get e).lastProbe - r.number).toNat, ar := rateAfterReply (s.params e) (s.paced.get e).ar r,
        band := bandAfter (s.params e) (s.paced.get e).band (rateAfterReply (s.params e) (s.paced.get e).ar r) } := by
  rw [State.replied, State.setRate_paced, PerEye.get_set_self, PerEye.get_set_self, State.params_congr (s := s) rfl]
  rfl

theorem State.replied_get_of_ne (s : State) {e k : Eye} (h : k ≠ e) (r : RateCell) :
    (s.replied e r).paced.get k = s.paced.get k := by
  rw [State.replied, State.setRate_paced, PerEye.get_set_of_ne _ h, PerEye.get_set_of_ne _ h]

/-- A reply inside the window (R79 to R82, R69). -/
theorem State.takeReply_of_inside {s : State} {e : Eye} {r : RateCell}
    (inside : ((s.paced.get e).lastProbe - r.number).toNat < (s.paced.get e).unanswered) :
    s.takeReply e r =
      if (s.paced.get e).stateAfter r.hold = (s.paced.get e).state then s.replied e r else (s.replied e r).probeCheck e := by
  have moved : ((s.modPaced e fun q => { q with unanswered := ((s.paced.get e).lastProbe - r.number).toNat }).replyState e
      r.hold).setRate e (rateAfterReply (s.params e) (s.paced.get e).ar r) = s.replied e r := by
    rw [State.replyState_eq, State.modPaced_modPaced]
    rfl
  unfold State.takeReply
  dsimp only
  rw [if_pos inside, moved, State.replied_get]
  rfl

/-- What the probe check of an accepted reply leaves of its record: state, queue and credit stand, and the rate too where fewer than
patience stand unanswered (R69, R70). -/
theorem State.replied_checked {s : State} (console : s.station = .console) (e : Eye) (r : RateCell) :
    let p := (s.replied e r).paced.get e
    let q := ((s.replied e r).probeCheck e).paced.get e
    q.state = p.state ∧ q.queue = p.queue ∧ q.discarded = p.discarded ∧ q.credit = p.credit ∧
      (p.unanswered < (s.params e).patience → q.ar = p.ar ∧ q.band = p.band) ∧
      ∀ k, k ≠ e → ((s.replied e r).probeCheck e).paced.get k = s.paced.get k := by
  intro p q
  have station : (s.replied e r).station = .console := by simpa [State.replied] using console
  have params : (s.replied e r).params e = s.params e := State.params_congr (by simp [State.replied]) e
  have others (k : Eye) (h : k ≠ e) := s.replied_get_of_ne h r
  obtain same | queued := State.probeCheck_paced station e
  · have : q = p := congrArg (fun k => k.get e) same
    rw [this]
    exact ⟨rfl, rfl, rfl, rfl, fun _ => ⟨rfl, rfl⟩, fun k h => by rw [same, others k h]⟩
  · have : q = (s.replied e r).probed e := by
      show ((s.replied e r).probeCheck e).paced.get e = _
      rw [queued, PerEye.get_set_self]
    rw [this]
    refine ⟨rfl, rfl, rfl, rfl, fun few => ?_, fun k h => by rw [queued, PerEye.get_set_of_ne _ h, others k h]⟩
    have : ¬((s.replied e r).params e).patience ≤ ((s.replied e r).paced.get e).unanswered := by
      rw [params]
      exact Nat.not_le.2 few
    exact ⟨if_neg this, if_neg this⟩

/-- Settles O28. -/
theorem replyInTheWindowIsAccepted : Obligations.ReplyInTheWindowIsAccepted := by
  unfold Obligations.ReplyInTheWindowIsAccepted
  intro l c e r s live console kind dst src eye read handed p d state ar held drained moved
  have addr : addressed s.station c = true := by
    rw [console]
    obtain dst | dst := dst <;> simp [addressed, dst]
  have taken : exec (.replyTaken l c) s = .next (held.takeReply e r) := by
    have judged : held.live ∧ held.station = .console ∧ c.kind = .reply ∧ addressed held.station c = true ∧ c.src = .headset :=
      ⟨live, console, kind, addr, src⟩
    show execReplyTaken l c s = _
    unfold execReplyTaken
    rw [State.take_of_head? handed, if_pos judged, eye, read]
  have inside (h : d < p.unanswered) :
      held.takeReply e r = if state = p.state then held.replied e r else (held.replied e r).probeCheck e :=
    State.takeReply_of_inside (s := held) h
  have get : (held.replied e r).paced.get e =
      { p.afterReply r.hold s.tx.down.count with unanswered := d, ar := ar, band := bandAfter (s.params e) p.band ar } :=
    held.replied_get e r
  have counters : (held.takeReply e r).counters = s.counters ∨ p.unanswered ≤ d := by
    by_cases h : d < p.unanswered
    · left
      rw [inside h]
      split <;> simp [State.replied, held]
    · exact .inr (Nat.not_lt.1 h)
  refine ⟨fun h => ?_, fun h => ?_, fun h => ?_⟩
  · rw [taken, inside h]
    rfl
  · have kept : (held.takeReply e r).counters = s.counters := counters.resolve_right (Nat.not_le.2 h)
    refine ⟨_, taken, ?_⟩
    rw [inside h] at kept ⊢
    by_cases same : state = p.state
    · rw [if_pos same] at kept ⊢
      rw [get]
      refine ⟨rfl, fun _ => ⟨rfl, rfl⟩, fun _ => ⟨rfl, rfl⟩, fun hold draining => ?_, fun other => ?_, rfl, fun k hk => ?_, kept⟩
      · exact ⟨if_pos ⟨hold, draining⟩, if_pos ⟨hold, draining⟩⟩
      · exact if_neg (by rintro ⟨hold, draining⟩; simp_all)
      · exact held.replied_get_of_ne hk r
    · rw [if_neg same] at kept ⊢
      obtain ⟨st, queue, discarded, credit, rate, others⟩ := held.replied_checked console e r
      rw [get] at st queue discarded credit rate
      refine ⟨st, fun few => ?_, fun eq => absurd eq same, fun hold draining => ?_, fun other => ?_, credit, others, kept⟩
      · exact rate (few.resolve_right same)
      · exact ⟨queue.trans (if_pos ⟨hold, draining⟩), discarded.trans (if_pos ⟨hold, draining⟩)⟩
      · exact queue.trans (if_neg (by rintro ⟨hold, draining⟩; simp_all))
  · have stale : held.takeReply e r = held.count (Eye.flow e) fun c => { c with staleReplies := satInc c.staleReplies } := by
      unfold State.takeReply
      exact if_neg (Nat.not_lt.2 h)
    refine ⟨_, taken, ?_⟩
    rw [stale]
    refine ⟨State.eq_of_fields (by simp [held]), fun k hk => ?_, ?_⟩
    · rw [State.count_get_of_ne _ hk]
      rfl
    · rw [State.count_get]
      exact apply_ite FlowCounters.staleReplies _ _ _

end Sys2Proof.Machine

namespace Sys2Proof.Machine

/-! #### Reports leave the transmitters but for their FIFOs -/

/-- The transmitters of two states are the same but for their CONTROL FIFOs. -/
def State.SameButFifo (s t : State) : Prop := ∀ l, t.tx.get l = { s.tx.get l with fifo := (t.tx.get l).fifo }

namespace State.SameButFifo

theorem refl (s : State) : s.SameButFifo s := fun _ => rfl

theorem of_tx {s t u : State} (h : s.SameButFifo t) (same : u.tx = t.tx) : s.SameButFifo u := fun l => by
  rw [same]
  exact h l

theorem offer {s t : State} (h : s.SameButFifo t) (l : Lane) (c : Ctl) : s.SameButFifo (t.offer l c) := fun k => by
  rw [State.offer, State.modTx_tx, PerLane.get_set]
  split
  · rename_i same
    subst same
    rw [h k]
  · exact h k

theorem buildReport {s : State} (t : State) (_ : t.reportDue = true) (h : s.SameButFifo t) : s.SameButFifo t.buildReport :=
  ((h.offer .down _).offer .up _).of_tx rfl

theorem event {s : State} (t : State) (h : s.SameButFifo t) :
    s.SameButFifo { t with balance := { t.balance with event := true } } := h.of_tx rfl

theorem setFresh {s t : State} (h : s.SameButFifo t) : s.SameButFifo t.setFresh :=
  State.callEvent_preserves buildReport event (h.of_tx rfl)

theorem alignTest {s t : State} (h : s.SameButFifo t) (l : Lane) : s.SameButFifo (t.alignTest l) :=
  State.alignTest_preserves buildReport l h

end State.SameButFifo

/-! #### Credit (R67) -/

/-- The records after a frame start of CONSOLE's down TX (R67). -/
theorem State.accrueAll_get (s : State) (e : Eye) :
    s.accrueAll.paced.get e =
      if s.station = .console ∧ s.running then
        { s.paced.get e with credit := min ((s.paced.get e).credit + (s.paced.get e).ar) (16 * (s.params e).burst) }
      else s.paced.get e := by
  unfold State.accrueAll
  split
  · cases e <;> rfl
  · rfl

theorem State.accrueAll_eq (s : State) : s.accrueAll = { s with paced := s.accrueAll.paced } := by
  unfold State.accrueAll
  split <;> rfl

/-! #### The checks of a superframe boundary (R69) -/

/-- What a check makes of a record: the number, count, cells and superframe of a probe where one is due, nothing elsewhere. -/
def Paced.Checked (p q : Paced) (now : Count32) (due : Prop) : Prop :=
  q.credit = p.credit ∧
    (p.state ≠ .idle → p.probeWaiting = false → due →
      q.lastProbe = p.lastProbe + 1 ∧ q.unanswered = min (p.unanswered + 1) 255 ∧ q.cellsSince = 0 ∧ q.probeAt = some now) ∧
    (p.state = .idle ∨ p.probeWaiting = true ∨ ¬due → q = p)

theorem State.probeCheck_checked {s : State} (console : s.station = .console) (e : Eye) :
    (s.paced.get e).Checked ((s.probeCheck e).paced.get e) s.tx.down.count (s.probeDue e = true) := by
  by_cases no : (s.paced.get e).state = .idle ∨ (s.paced.get e).probeWaiting = true ∨ s.probeDue e ≠ true
  · rw [State.probeCheck_of_not_due no]
    refine ⟨rfl, fun state waiting due => ?_, fun _ => rfl⟩
    simp_all
  · rw [not_or, not_or] at no
    obtain ⟨state, waiting, due⟩ := no
    have waiting := Bool.eq_false_of_not_eq_true waiting
    have due := not_not.1 due
    rw [State.probeCheck_of_due state waiting due, State.queueProbe_of_console console]
    refine ⟨?_, fun _ _ _ => ?_, fun h => ?_⟩
    · simp [State.probed]
    · simp [State.probed]
    · simp_all

theorem State.probeCheck_get_of_ne {s : State} (console : s.station = .console) {e k : Eye} (h : k ≠ e) :
    (s.probeCheck e).paced.get k = s.paced.get k := by
  obtain same | queued := State.probeCheck_paced console e
  · rw [same]
  · rw [queued, PerEye.get_set_of_ne _ h]

/-- A check leaves the superframe count (R69). -/
theorem State.probeCheck_count {s : State} (console : s.station = .console) (e : Eye) :
    (s.probeCheck e).tx.down.count = s.tx.down.count := by
  obtain same | queued := s.probeCheck_cases e
  · rw [same]
  · rw [queued, State.queueProbe_of_console console]
    simp only [State.modTx, PerLane.get, PerLane.set]
    rw [State.fade_tx]

/-- Both records of CONSOLE are checked (R69, log entry 43). -/
theorem State.checks_get {s : State} (console : s.station = .console) (e : Eye) :
    (s.paced.get e).Checked (((s.probeCheck .left).probeCheck .right).paced.get e) s.tx.down.count (s.probeDue e = true) := by
  have station : (s.probeCheck .left).station = .console := by simpa using console
  cases e with
  | left =>
    rw [State.probeCheck_get_of_ne station (by decide)]
    exact State.probeCheck_checked console .left
  | right =>
    have right := State.probeCheck_checked station .right
    have same : (s.probeCheck .left).paced.get .right = s.paced.get .right := State.probeCheck_get_of_ne console (by decide)
    have due : (s.probeCheck .left).probeDue .right = s.probeDue .right := by
      unfold State.probeDue
      rw [same, State.params_congr (s := s) (by simp), State.superframe, State.superframe, State.probeCheck_count console]
    rwa [same, State.probeCheck_count console, due] at right

/-! #### The alignment cell of an ORIGIN -/

/-- The state as a frame of a transmitter's own timing begins (R3). -/
def State.begun (s : State) (l : Lane) : State :=
  (s.modTx l fun t => t.begin (s.tx.get l).nextFrame.1 (s.tx.get l).nextFrame.2).syncClock

@[simp] theorem State.begun_keeps (s : State) (l : Lane) :
    (s.begun l).start = s.start ∧ (s.begun l).station = s.station ∧ (s.begun l).cfg = s.cfg ∧ (s.begun l).paced = s.paced := by
  simp [State.begun]

theorem State.begun_count (s : State) (l : Lane) : ((s.begun l).tx.get l).count = (s.tx.get l).nextFrame.2 := by
  simp [State.begun, Tx.begin]

/-- The state at a frame start of an ORIGIN, before its cell is built (R3, R67, R69). -/
def State.frameStarted (s : State) (l : Lane) : State := (s.begun l).consoleFrame l (s.tx.get l).nextFrame.1

theorem State.originAlign_paced (s : State) (l : Lane) (q : Quiet) : (s.originAlign l q).paced = (s.frameStarted l).paced := by
  unfold State.originAlign State.frameStarted State.begun
  dsimp only
  split <;> simp

theorem State.putAlign_tx (s : State) (l : Lane) (d : Bool) (i : AlignInfo) :
    (s.putAlign l d i).tx =
      s.tx.set l ((s.tx.get l).sendAlign (s.fillStatus d { i with hop := (s.tx.get l).hopCheck })
        (alignCell s.station (s.fillStatus d { i with hop := (s.tx.get l).hopCheck }))) := by
  unfold State.putAlign State.noteStatus
  dsimp only
  split <;> simp [State.modStation]

theorem State.fillStatus_frame (s : State) (d : Bool) (i : AlignInfo) :
    (s.fillStatus d i).frame = i.frame ∧ (s.fillStatus d i).count = i.count := by
  unfold State.fillStatus
  split <;> simp

/-- The timing of an ORIGIN after its cell: its next frame (R3). -/
theorem State.originAlign_timing (s : State) (l : Lane) (q : Quiet) :
    ((s.originAlign l q).tx.get l).frame = (s.tx.get l).nextFrame.1 ∧
      ((s.originAlign l q).tx.get l).count = (s.tx.get l).nextFrame.2 := by
  have put (t u : State) (d : Bool) (i : AlignInfo) (same : (t.putAlign l d i).SameButFifo u) :
      (u.tx.get l).frame = i.frame ∧ (u.tx.get l).count = i.count := by
    rw [same l, State.putAlign_tx, PerLane.get_set_self]
    exact t.fillStatus_frame d _
  unfold State.originAlign
  dsimp only
  split
  · exact put _ _ _ _ ((State.SameButFifo.refl _).setFresh.alignTest l)
  · exact put _ _ _ _ ((State.SameButFifo.refl _).alignTest l)

theorem exec_alignmentCellSent_of_origin {s : State} {l : Lane} (live : s.live) (origin : (s.tx.get l).role = .origin) :
    exec (.alignmentCellSent l) s = .next (s.originAlign l ((s.tx.get l).quiet.getD Quiet.start)) := by
  show execAlignmentCellSent l s = _
  unfold execAlignmentCellSent
  dsimp only
  rw [if_pos live, origin]

/-- The frame start of CONSOLE's origin in RUNNING adds credit, and a superframe boundary checks both records (R67, R69). -/
theorem State.frameStarted_paced {s : State} (running : s.running) (console : s.station = .console) :
    (s.frameStarted .down).paced =
      if s.tx.down.nextFrame.1 = 0 then (((s.begun .down).accrueAll.probeCheck .left).probeCheck .right).paced
      else (s.begun .down).accrueAll.paced := by
  have here : (s.begun .down).station = .console ∧ Lane.down = .down ∧ (s.begun .down).running :=
    ⟨by simpa using console, rfl, by simpa [State.running] using running⟩
  unfold State.frameStarted State.consoleFrame
  rw [if_pos here]
  exact apply_ite State.paced _ _ _

/-- A record once its credit of a frame is added (R67). -/
theorem State.begun_accrued {s : State} (running : s.running) (console : s.station = .console) (e : Eye) :
    (s.begun .down).accrueAll.paced.get e =
      { s.paced.get e with credit := min ((s.paced.get e).credit + (s.paced.get e).ar) (16 * (s.params e).burst) } := by
  have here : (s.begun .down).station = .console ∧ (s.begun .down).running :=
    ⟨by simpa using console, by simpa [State.running] using running⟩
  rw [State.accrueAll_get, if_pos here, State.params_congr (s := s) (by simp)]
  simp

theorem frameAddsCredit {s : State} (running : s.running) (console : s.station = .console) (origin : s.tx.down.role = .origin)
    (begun : s.tx.down.begun = true) (notDeep : s.tx.down.sentThis ≠ some .deep) (notLast : s.tx.down.frame ≠ 15) :
    ∃ t, exec (.alignmentCellSent .down) s = .next t ∧ t.tx.down.frame = s.tx.down.frame + 1 ∧
      t.tx.down.count = s.tx.down.count ∧
      ∀ e, t.paced.get e =
        { s.paced.get e with credit := min ((s.paced.get e).credit + (s.paced.get e).ar) (16 * (s.params e).burst) } := by
  have nonzero : s.tx.down.frame + 1 ≠ 0 := by bv_omega
  have next : s.tx.down.nextFrame = (s.tx.down.frame + 1, s.tx.down.count) := by
    unfold Tx.nextFrame
    rw [if_neg (by simp [begun]), if_neg (by simp [notDeep])]
    dsimp only
    rw [if_neg nonzero]
  obtain ⟨frame, count⟩ := s.originAlign_timing .down (s.tx.down.quiet.getD Quiet.start)
  refine ⟨_, exec_alignmentCellSent_of_origin (.inr running) origin, ?_, ?_, fun e => ?_⟩
  · exact frame.trans (congrArg Prod.fst next)
  · exact count.trans (congrArg Prod.snd next)
  · rw [State.originAlign_paced, State.frameStarted_paced running console, next, if_neg nonzero,
      State.begun_accrued running console]

theorem boundaryChecks {s : State} (running : s.running) (console : s.station = .console) (origin : s.tx.down.role = .origin)
    (begun : s.tx.down.begun = true) (last : s.tx.down.sentThis = some .deep ∨ s.tx.down.frame = 15) :
    ∃ t, exec (.alignmentCellSent .down) s = .next t ∧ t.tx.down.count = s.tx.down.count + 1 ∧
      ∀ e,
        let p := s.paced.get e
        let due := (s.params e).spacing ≤ p.cellsSince ∨
          ∀ n, p.probeAt = some n → (s.params e).interval ≤ (t.tx.down.count - n).toNat
        (t.paced.get e).credit = min (p.credit + p.ar) (16 * (s.params e).burst) ∧
        (p.state ≠ .idle → p.probeWaiting = false → due →
          (t.paced.get e).lastProbe = p.lastProbe + 1 ∧ (t.paced.get e).unanswered = min (p.unanswered + 1) 255 ∧
          (t.paced.get e).cellsSince = 0 ∧ (t.paced.get e).probeAt = some t.tx.down.count) ∧
        (p.state = .idle ∨ p.probeWaiting = true ∨ ¬due → t.paced.get e = { p with credit := (t.paced.get e).credit }) := by
  have next : s.tx.down.nextFrame = (0, s.tx.down.count + 1) := by
    have zero : (if s.tx.down.role = .origin ∧ s.tx.down.sentThis = some .deep then 0 else s.tx.down.frame + 1) = 0 := by
      obtain deep | fifteen := last
      · exact if_pos ⟨origin, deep⟩
      · rw [fifteen]
        split <;> rfl
    unfold Tx.nextFrame
    rw [if_neg (by simp [begun])]
    dsimp only
    rw [zero, if_pos rfl]
  obtain ⟨-, count⟩ := s.originAlign_timing .down (s.tx.down.quiet.getD Quiet.start)
  refine ⟨_, exec_alignmentCellSent_of_origin (.inr running) origin, count.trans (congrArg Prod.snd next), fun e => ?_⟩
  have superframe : (s.begun .down).accrueAll.tx.down.count = s.tx.down.count + 1 := by
    rw [State.accrueAll_eq]
    exact (s.begun_count .down).trans (congrArg Prod.snd next)
  have checked := State.checks_get (s := (s.begun .down).accrueAll) (by simpa using console) e
  rw [State.probeDue_iff, superframe, State.begun_accrued running console,
    State.params_congr (s := s) (t := (s.begun .down).accrueAll) (by simp) e] at checked
  have after : (s.originAlign .down (s.tx.down.quiet.getD Quiet.start)).paced =
      (((s.begun .down).accrueAll.probeCheck .left).probeCheck .right).paced := by
    rw [State.originAlign_paced, State.frameStarted_paced running console, if_pos (congrArg Prod.fst next)]
  have now : (s.originAlign .down (s.tx.down.quiet.getD Quiet.start)).tx.down.count = s.tx.down.count + 1 :=
    count.trans (congrArg Prod.snd next)
  obtain ⟨credit, due, still⟩ := checked
  show Paced.credit ((s.originAlign .down (s.tx.down.quiet.getD Quiet.start)).paced.get e) = _ ∧ _
  rw [PerLane.get, now, after]
  exact ⟨credit, due, fun no => (still no).trans (by rw [credit])⟩

/-! #### Insertion of a probe (R71) -/

theorem probeInsertion (e : Eye) (n : Num8) (a o k : Nat) (q : List Ctl) {s : State} (running : s.running)
    (console : s.station = .console) (origin : s.tx.down.role = .origin) (isOpen : s.frameOpen .down = true)
    (sounds : s.payloadSilent .down = false) (noGap : s.tx.down.gapOwed = false) (noBlock : s.audio.source.queue = [])
    (head : s.tx.down.fifo = .probe e n a o k :: q) :
    exec (.idleSlotArbitration .down) s =
      .next ((((s.modTx .down fun t =>
        { t.send (ctlCell .console s.localSlot (.probe e n a o k)) false with fifo := t.fifo.tail }).modPaced e fun p =>
          { p with probeWaiting := false, probeAt := some s.tx.down.count }).probeCheck e)) := by
  have sends : (s.tx.get .down).role.sends = true := by simp [PerLane.get, origin, TxRole.sends]
  have winner : s.winner .down = .control (.probe e n a o k) := by
    have control : s.audioClass .down = .control (.probe e n a o k) := by
      simp [State.audioClass, noBlock, State.controlClass, PerLane.get, head]
    unfold State.winner
    split <;> simp [control]
  show execIdleSlotArbitration .down s = _
  unfold execIdleSlotArbitration
  rw [if_pos ⟨sends, sounds⟩, if_pos ⟨running, isOpen⟩, if_neg (by simp [PerLane.get, noGap]), winner]
  rw [← console]
  rfl

/-- A record that was probed in this superframe is due no probe by its interval (R69). -/
theorem State.probeDue_of_now {s : State} {e : Eye} (now : (s.paced.get e).probeAt = some s.tx.down.count)
    (interval : 1 ≤ (s.params e).interval) : s.probeDue e = true ↔ (s.params e).spacing ≤ (s.paced.get e).cellsSince := by
  rw [State.probeDue_iff]
  refine or_iff_left fun h => ?_
  have := h _ now
  simp only [BitVec.sub_self] at this
  exact absurd interval (by simpa using this)

theorem probeInsertionChecks (e : Eye) (n : Num8) (a o k : Nat) (q : List Ctl) {s : State} (running : s.running)
    (console : s.station = .console) (origin : s.tx.down.role = .origin) (isOpen : s.frameOpen .down = true)
    (sounds : s.payloadSilent .down = false) (noGap : s.tx.down.gapOwed = false) (noBlock : s.audio.source.queue = [])
    (head : s.tx.down.fifo = .probe e n a o k :: q) :
    let p := s.paced.get e
    ∃ t, exec (.idleSlotArbitration .down) s = .next t ∧
      t.tx.down.line = some (ctlCell .console s.localSlot (.probe e n a o k)) ∧
      (∀ d, d ≠ e → t.paced.get d = s.paced.get d) ∧
      (p.state = .idle ∨ (p.cellsSince < (s.params e).spacing ∧ 1 ≤ (s.params e).interval) →
        t.paced.get e = { p with probeWaiting := false, probeAt := some s.tx.down.count } ∧ t.tx.down.fifo = q) ∧
      (p.state ≠ .idle → (s.params e).spacing ≤ p.cellsSince →
        (t.paced.get e).lastProbe = p.lastProbe + 1 ∧ (t.paced.get e).cellsSince = 0 ∧
        (t.paced.get e).probeAt = some s.tx.down.count ∧
        (q.length < 8 → (t.paced.get e).probeWaiting = true ∧ t.tx.down.fifo.length = q.length + 1)) := by
  intro p
  have done := probeInsertion e n a o k q running console origin isOpen sounds noGap noBlock head
  refine ⟨_, done, ?_⟩
  generalize hu : (s.modTx .down fun t =>
      { t.send (ctlCell .console s.localSlot (.probe e n a o k)) false with fifo := t.fifo.tail }).modPaced e (fun p =>
        { p with probeWaiting := false, probeAt := some s.tx.down.count }) = u
  have station : u.station = .console := by rw [← hu]; exact console
  have line : u.tx.down.line = some (ctlCell .console s.localSlot (.probe e n a o k)) := by rw [← hu]; rfl
  have fifo : u.tx.down.fifo = q := by
    rw [← hu]
    exact congrArg List.tail head
  have count : u.tx.down.count = s.tx.down.count := by rw [← hu]; rfl
  have role : u.tx.down.role.sends = true := by
    rw [← hu]
    exact congrArg TxRole.sends origin
  have record : u.paced.get e = { p with probeWaiting := false, probeAt := some s.tx.down.count } := by simp [← hu, p]
  have params : u.params e = s.params e := State.params_congr (by simp [← hu]) e
  have others (d : Eye) (h : d ≠ e) : u.paced.get d = s.paced.get d := by
    rw [← hu, State.modPaced_paced, PerEye.get_set_of_ne _ h]
    rfl
  refine ⟨?_, fun d h => ?_, fun no => ?_, fun state due => ?_⟩
  · obtain same | queued := u.probeCheck_cases e
    · rw [same, line]
    · rw [queued, State.queueProbe_of_console station]
      simp only [State.modTx, PerLane.get, PerLane.set]
      rw [State.fade_tx, line]
  · rw [State.probeCheck_get_of_ne station h, others d h]
  · have still : u.probeCheck e = u := by
      refine State.probeCheck_of_not_due ?_
      rw [record]
      obtain idle | ⟨few, interval⟩ := no
      · exact .inl idle
      · refine .inr (.inr ?_)
        rw [ne_eq, State.probeDue_of_now (by rw [record, count]) (by rwa [params]), params, record]
        exact Nat.not_le.2 few
    rw [still]
    exact ⟨record, fifo⟩
  · have queued : u.probeCheck e = u.queueProbe e := by
      refine State.probeCheck_of_due ?_ ?_ ((u.probeDue_iff e).2 (.inl ?_))
      · rw [record]; exact state
      · rw [record]
      · rw [params, record]; exact due
    rw [queued, State.queueProbe_of_console station]
    simp only [PerEye.get_set_self, State.probed, record, count, State.modTx, PerLane.get, PerLane.set]
    refine ⟨trivial, trivial, trivial, fun short => ?_⟩
    simp [State.probeRoom, role, fifo, short]

theorem fadedRate_eq (p : FlowParams) (ar : Nat) : fadedRate p ar = max (ar - (ar * p.fade + 255) / 256) p.floor := by
  rw [fadedRate, ceilDiv_256]

theorem probeCheckQueues (e : Eye) {s : State} (console : s.station = .console) :
    let p := s.paced.get e
    let fp := s.params e
    let due := fp.spacing ≤ p.cellsSince ∨ ∀ n, p.probeAt = some n → fp.interval ≤ (s.tx.down.count - n).toNat
    let ar := if fp.patience ≤ p.unanswered then max (p.ar - (p.ar * fp.fade + 255) / 256) fp.floor else p.ar
    let room := s.tx.down.role.sends = true ∧ s.tx.down.fifo.length < 8
    let t := s.probeCheck e
    (p.state = .idle ∨ p.probeWaiting = true ∨ ¬due → t = s) ∧
    (p.state ≠ .idle → p.probeWaiting = false → due →
      t.paced.get e =
        { p with
          ar := ar, band := if fp.patience ≤ p.unanswered then bandAfter fp p.band ar else p.band,
          lastProbe := p.lastProbe + 1, unanswered := min (p.unanswered + 1) 255, cellsSince := 0,
          probeAt := some s.tx.down.count, probeWaiting := decide room } ∧
      t.tx.down.fifo =
        (if room then s.tx.down.fifo ++ [.probe e (p.lastProbe + 1) ar fp.peak fp.peak] else s.tx.down.fifo) ∧
      t = { s with tx := { s.tx with down := t.tx.down }, paced := s.paced.set e (t.paced.get e), notices := t.notices }) := by
  intro p fp due ar room t
  have rate : s.fadedAr e = ar := by
    unfold State.fadedAr
    rw [fadedRate_eq]
  have band : s.fadedBand e = if fp.patience ≤ p.unanswered then bandAfter fp p.band ar else p.band := by
    unfold State.fadedBand
    split
    · rename_i faded
      rw [← rate, State.fadedAr, if_pos faded]
    · rfl
  refine ⟨fun no => State.probeCheck_of_not_due ?_, fun state waiting isDue => ?_⟩
  · rwa [ne_eq, State.probeDue_iff]
  · have queued : t = _ :=
      (State.probeCheck_of_due state waiting ((s.probeDue_iff e).2 isDue)).trans (State.queueProbe_of_console console e)
    have record : t.paced.get e = s.probed e := by rw [queued, PerEye.get_set_self]
    refine ⟨?_, ?_, ?_⟩
    · rw [record, State.probed, rate, band]
    · rw [queued, rate]
      rfl
    · rw [record, queued, State.fade_eq, State.fade_tx]
      rfl

/-- Settles O29. -/
theorem silentFrameAddsCredit : Obligations.SilentFrameAddsCredit := by
  unfold Obligations.SilentFrameAddsCredit
  refine ⟨fun s console origin deep notLast => ?_, fun e s console => probeCheckQueues e console,
    fun s running console origin begun notDeep notLast => frameAddsCredit running console origin begun notDeep notLast,
    fun s running console origin begun last => boundaryChecks running console origin begun last,
    fun e n a o k q s running console origin isOpen sounds noGap noBlock head =>
      probeInsertionChecks e n a o k q running console origin isOpen sounds noGap noBlock head⟩
  have done : exec .frameStart s = .next ((s.modTx .down fun t =>
      { t with frame := t.frame + 1, offset := 0, sentPrev := some .deep }).syncClock.accrueAll) := by
    show execFrameStart s = _
    unfold execFrameStart
    rw [if_pos ⟨console, origin, deep, notLast⟩]
  refine ⟨_, done, ?_⟩
  rw [State.accrueAll_eq]
  refine ⟨by simp [PerLane.get, PerLane.set], by simp [PerLane.get, PerLane.set], by simp [PerLane.get, PerLane.set],
    by simp [PerLane.get, PerLane.set], fun e => ?_, fun e => ?_, ?_⟩
  · rw [State.accrueAll_get, State.params_congr (s := s) (by simp)]
    simp only [State.syncClock_station, State.modTx_station, console, State.running, State.syncClock_start, State.modTx_start,
      State.syncClock_paced, State.modTx_paced, true_and]
    split <;> rfl
  · dsimp only
    rw [State.accrueAll_get]
    simp only [State.syncClock_paced, State.modTx_paced]
    split <;> rfl
  · exact State.eq_of_fields (by simp)

end Sys2Proof.Machine

namespace Sys2Proof.Machine

/-! ### Pictures at CONSOLE and at HEADSET (O23 to O25) -/

/-- What a check of CONSOLE leaves of a record's state and queue (R69). -/
theorem State.probeCheck_queue {s : State} (console : s.station = .console) (e : Eye) :
    ((s.probeCheck e).paced.get e).state = (s.paced.get e).state ∧
      ((s.probeCheck e).paced.get e).queue = (s.paced.get e).queue ∧
      ((s.probeCheck e).paced.get e).discarded = (s.paced.get e).discarded := by
  obtain same | queued := State.probeCheck_paced console e
  · rw [same]
    exact ⟨rfl, rfl, rfl⟩
  · rw [queued, PerEye.get_set_self]
    exact ⟨rfl, rfl, rfl⟩

/-- Settles O23. -/
theorem endOfStreamDrains : Obligations.EndOfStreamDrains := by
  unfold Obligations.EndOfStreamDrains
  intro e s console
  have entered (u : State) (station : u.station = .console) :
      ((u.enterPaced e .draining).paced.get e).state = .draining ∧
        ((u.enterPaced e .draining).paced.get e).queue = (u.paced.get e).queue ∧
        ((u.enterPaced e .draining).paced.get e).discarded = (u.paced.get e).discarded ∧
        ∀ k, k ≠ e → (u.enterPaced e .draining).paced.get k = u.paced.get k := by
    obtain ⟨state, queue, discarded⟩ :=
      State.probeCheck_queue (s := u.modPaced e fun p => { p with state := .draining }) station e
    simp only [State.modPaced_paced, PerEye.get_set_self] at state queue discarded
    refine ⟨state, queue, discarded, fun k h => ?_⟩
    refine (State.probeCheck_get_of_ne (s := u.modPaced e fun p => { p with state := .draining }) station h).trans ?_
    rw [State.modPaced_paced, PerEye.get_set_of_ne _ h]
  have run : s.running → exec (.endOfStream e) s = match (s.paced.get e).state with
      | .draining => .next s
      | .held => .next ((s.modPaced e Paced.dropHeld).enterPaced e .draining)
      | .idle | .active => .next (s.enterPaced e .draining) := by
    intro running
    show execEndOfStream e s = _
    unfold execEndOfStream
    exact if_neg (by simp [console, show s.start = .running from running])
  refine ⟨fun running => ?_, fun no => ?_⟩
  · rw [run running]
    cases state : (s.paced.get e).state with
    | draining => exact ⟨s, rfl, state, nofun, fun _ => ⟨rfl, rfl⟩, fun _ _ => rfl, rfl, rfl, rfl⟩
    | held =>
      obtain ⟨drains, queue, discarded, others⟩ := entered (s.modPaced e Paced.dropHeld) console
      rw [State.modPaced_paced, PerEye.get_set_self] at queue discarded
      refine ⟨_, rfl, drains, fun _ => ⟨queue, discarded⟩, fun no => absurd rfl no, fun k h => ?_, by simp, by simp, by simp⟩
      rw [others k h, State.modPaced_paced, PerEye.get_set_of_ne _ h]
    | idle | active =>
      obtain ⟨drains, queue, discarded, others⟩ := entered s console
      exact ⟨_, rfl, drains, nofun, fun _ => ⟨queue, discarded⟩, others, by simp, by simp, by simp⟩
  · show execEndOfStream e s = _
    unfold execEndOfStream
    exact if_pos (.inr no)

/-! #### The layer map (R105) -/

theorem levelAt_nil (x : Num8) (i : Nat) : levelAt [] x i = .none := rfl

theorem levelAt_cons (t : LayerEntry) (m : List LayerEntry) (x : Num8) (i : Nat) :
    levelAt (t :: m) x i = if t.picture = x then t.levels.getD i .none else levelAt m x i := by
  unfold levelAt
  rw [List.find?_cons]
  by_cases h : t.picture = x
  · simp [h]
  · simp [h, beq_eq_false_iff_ne.2 h]

/-- A fresh entry shows no level. -/
theorem freshEntry_level (x : Num8) (i : Nat) : (freshEntry x).levels.getD i .none = .none := by
  simp only [freshEntry, List.getD_eq_getElem?_getD, List.getElem?_replicate]
  split <;> rfl

/-- An entry found or made for a picture brings no level that the map did not show (R105). -/
theorem levelAt_mapFor {m t : List LayerEntry} {x : Num8} (found : mapFor x m = some t) (y : Num8) (i : Nat)
    (shown : levelAt t y i ≠ .none) : levelAt t y i = levelAt m y i := by
  unfold mapFor at found
  split at found
  · cases found
    rfl
  · split at found
    · cases found
      rw [levelAt_cons, freshEntry_level, levelAt_nil, ite_self] at shown
      exact absurd rfl shown
    · rename_i a rest _
      split at found
      · cases found
        rw [levelAt_cons, freshEntry_level] at shown ⊢
        split at shown
        · exact absurd rfl shown
        · rename_i ne
          rw [if_neg ne]
          rw [levelAt_cons, levelAt_nil] at shown ⊢
          rw [levelAt_cons]
          split at shown
          · rename_i eq
            rw [if_pos eq, if_pos eq]
          · exact absurd rfl shown
      · have behind : levelAt [a, freshEntry x] y i ≠ .none → levelAt [a, freshEntry x] y i = levelAt (a :: rest) y i := by
          intro shown
          rw [levelAt_cons] at shown
          rw [levelAt_cons a [freshEntry x], levelAt_cons a rest]
          by_cases eq : a.picture = y
          · rw [if_pos eq, if_pos eq]
          · rw [if_neg eq, levelAt_cons, freshEntry_level, levelAt_nil, ite_self] at shown
            exact absurd rfl shown
        split at found
        · cases found
          exact behind shown
        · split at found
          · cases found
            exact behind shown
          · cases found

/-- A level set is shown at its index, and changes no other (R105). -/
theorem levelAt_setLevel (m : List LayerEntry) (x y : Num8) (i j : Nat) (l : Level)
    (shown : levelAt (setLevel m x i l) y j ≠ .none) :
    levelAt (setLevel m x i l) y j = levelAt m y j ∨ (y = x ∧ j = i ∧ levelAt (setLevel m x i l) y j = l) := by
  induction m with
  | nil => exact absurd rfl shown
  | cons t m ih =>
    have step : setLevel (t :: m) x i l = (if t.picture = x then { t with levels := t.levels.set i l } else t) :: setLevel m x i l :=
      rfl
    rw [step, levelAt_cons] at shown
    rw [step, levelAt_cons, levelAt_cons t m]
    by_cases same : t.picture = x
    · rw [if_pos same] at shown ⊢
      by_cases here : t.picture = y
      · rw [if_pos here] at shown ⊢
        rw [if_pos here]
        by_cases index : j = i
        · subst index
          by_cases inside : j < t.levels.length
          · right
            refine ⟨here.symm.trans same, rfl, ?_⟩
            simp [List.getD_eq_getElem?_getD, inside]
          · left
            rw [List.set_eq_of_length_le (Nat.not_lt.1 inside)]
        · left
          simp [List.getD_eq_getElem?_getD, Ne.symm index]
      · rw [if_neg here] at shown ⊢
        rw [if_neg here]
        exact ih shown
    · rw [if_neg same] at shown ⊢
      by_cases here : t.picture = y
      · rw [if_pos here, if_pos here]
        exact .inl rfl
      · rw [if_neg here] at shown ⊢
        rw [if_neg here]
        exact ih shown

/-- What a refinement needs below it: the level that the map shows, and the layer whose release raises it there (R105). -/
def lowerOf : Layer → Option (Level × Layer)
  | .base => none
  | .refine1 => some (.base, .base)
  | .refine2 => some (.r1, .refine1)

/-- A refinement is released where the map shows the level below it (R105). -/
theorem layerTest_needs {k : Layer} {l n lv : Level} {below : Layer} (test : layerTest k l = some n)
    (needs : lowerOf k = some (lv, below)) : l = lv := by
  cases k <;> cases l <;> simp_all [layerTest, lowerOf]

/-- A level that a refinement needs is raised by the layer below it alone (R105). -/
theorem layerTest_raises {k r : Layer} {l lv : Level} {below : Layer} (test : layerTest k l = some lv)
    (needs : lowerOf r = some (lv, below)) : k = below ∨ l = lv := by
  cases r with
  | base => cases needs
  | refine1 => cases needs; cases k <;> cases l <;> simp_all [layerTest]
  | refine2 => cases needs; cases k <;> cases l <;> simp_all [layerTest]

/-- A level that a map shows after a judgement, it showed before, or the slice released raised it (R105). -/
theorem judgeRelease_level {m : List LayerEntry} {r : BufRec} {k : Layer} {lv : Level} {below : Layer} {y : Num8} {j : Nat}
    (needs : lowerOf k = some (lv, below)) (shown : levelAt (judgeRelease m r).1 y j = lv) :
    levelAt m y j = lv ∨ ((judgeRelease m r).2 = true ∧ r.layer = below ∧ y = r.picture ∧ j = r.index.toNat) := by
  have some_level : lv ≠ .none := by
    rintro rfl
    cases k <;> simp [lowerOf] at needs
  unfold judgeRelease at shown ⊢
  split at shown
  · exact .inl shown
  · rename_i m' found
    have kept : levelAt m' y j = lv → levelAt m y j = lv := fun h => by
      rw [← levelAt_mapFor found y j (by rw [h]; exact some_level), h]
    split at shown
    · rename_i l test
      obtain same | ⟨picture, index, raised⟩ := levelAt_setLevel m' r.picture y r.index.toNat j l (by rw [shown]; exact some_level)
      · exact .inl (kept (same ▸ shown))
      · subst picture index
        rw [raised] at shown
        subst shown
        obtain layer | level := layerTest_raises test needs
        · exact .inr ⟨rfl, layer, rfl, rfl⟩
        · exact .inl (kept level)
    · exact .inl (kept shown)

/-- A released refinement follows the layer below it: the map showed that layer, or it was released before (R105). -/
theorem releaseRun_follows (m : List LayerEntry) (b : List BufRec) (i : Nat) (x : Released) (lv : Level) (below : Layer)
    (released : (releaseRun m b).out[i]? = some x) (needs : lowerOf x.layer = some (lv, below)) :
    levelAt m x.picture x.index.toNat = lv ∨
      ∃ j y, j < i ∧ (releaseRun m b).out[j]? = some y ∧ y.layer = below ∧ y.picture = x.picture ∧ y.index = x.index := by
  induction b generalizing m i with
  | nil => simp [releaseRun] at released
  | cons r b ih =>
    unfold releaseRun at released ⊢
    by_cases complete : r.complete = true
    · rw [if_pos complete] at released ⊢
      dsimp only at released ⊢
      by_cases goes : (judgeRelease m r).2 = true
      · rw [if_pos goes] at released ⊢
        dsimp only at released ⊢
        cases i with
        | zero =>
          cases released
          left
          unfold judgeRelease at goes
          split at goes
          · cases goes
          · rename_i m' found
            split at goes
            · rename_i n test
              have level := layerTest_needs test needs
              have some_level : lv ≠ .none := by
                rintro rfl
                cases layer : r.layer <;> simp [lowerOf, layer] at needs
              rw [← levelAt_mapFor found _ _ (by rw [level]; exact some_level), level]
            · cases goes
        | succ i =>
          rw [List.getElem?_cons_succ] at released
          obtain shown | ⟨j, y, before, eq, rest⟩ := ih (judgeRelease m r).1 i released
          · obtain shown | ⟨-, layer, picture, index⟩ := judgeRelease_level needs shown
            · exact .inl shown
            · refine .inr ⟨0, _, Nat.succ_pos i, List.getElem?_cons_zero, layer, picture.symm, ?_⟩
              exact BitVec.eq_of_toNat_eq index.symm
          · exact .inr ⟨j + 1, y, Nat.succ_lt_succ before, by rw [List.getElem?_cons_succ]; exact eq, rest⟩
      · rw [if_neg goes] at released ⊢
        obtain shown | before := ih (judgeRelease m r).1 i released
        · obtain shown | ⟨goes', -⟩ := judgeRelease_level needs shown
          · exact .inl shown
          · exact absurd goes' goes
        · exact .inr before
    · rw [if_neg complete] at released
      simp at released

/-- Settles O24. -/
theorem refinementsFollowTheLayerBelow : Obligations.RefinementsFollowTheLayerBelow := by
  unfold Obligations.RefinementsFollowTheLayerBelow
  intro m b i x out released before
  exact ⟨fun layer => releaseRun_follows m b i x .base .base released (by rw [layer]; rfl),
    fun layer => releaseRun_follows m b i x .r1 .refine1 released (by rw [layer]; rfl)⟩

/-! #### Release and purge (R104 to R106) -/

/-- A slice as it is handed to the bridge (R104). -/
def BufRec.handed (x : BufRec) : Released :=
  { picture := x.picture, index := x.index, layer := x.layer, length := x.length, data := x.data }

theorem releaseRun_cons_of_incomplete {m : List LayerEntry} {x : BufRec} {rest : List BufRec} (h : x.complete = false) :
    releaseRun m (x :: rest) = { map := m, buffer := x :: rest, out := [], orphans := 0 } := by
  simp [releaseRun, h]

theorem releaseRun_cons_of_released {m : List LayerEntry} {x : BufRec} {rest : List BufRec} (h : x.complete = true)
    (goes : (judgeRelease m x).2 = true) :
    releaseRun m (x :: rest) =
      { releaseRun (judgeRelease m x).1 rest with out := x.handed :: (releaseRun (judgeRelease m x).1 rest).out } := by
  simp [releaseRun, h, goes, BufRec.handed]

theorem releaseRun_cons_of_orphan {m : List LayerEntry} {x : BufRec} {rest : List BufRec} (h : x.complete = true)
    (stays : (judgeRelease m x).2 = false) :
    releaseRun m (x :: rest) =
      { releaseRun (judgeRelease m x).1 rest with orphans := (releaseRun (judgeRelease m x).1 rest).orphans + 1 } := by
  simp [releaseRun, h, stays]

/-- A run of releases takes the COMPLETE records at the head, and hands over or counts each (R104). -/
theorem releaseRun_takes (m : List LayerEntry) (b : List BufRec) :
    ∃ k, (releaseRun m b).buffer = b.drop k ∧ (∀ x ∈ b.take k, x.complete = true) ∧
      (releaseRun m b).out.Sublist ((b.take k).map BufRec.handed) ∧
      (releaseRun m b).out.length + (releaseRun m b).orphans = (b.take k).length := by
  induction b generalizing m with
  | nil => exact ⟨0, rfl, nofun, .slnil, rfl⟩
  | cons x rest ih =>
    cases complete : x.complete with
    | false =>
      rw [releaseRun_cons_of_incomplete complete]
      exact ⟨0, rfl, nofun, .slnil, rfl⟩
    | true =>
      obtain ⟨k, buffer, all, out, count⟩ := ih (judgeRelease m x).1
      have whole : ∀ y ∈ (x :: rest).take (k + 1), y.complete = true := by
        rw [List.take_succ_cons, List.forall_mem_cons]
        exact ⟨complete, all⟩
      cases goes : (judgeRelease m x).2 with
      | true =>
        rw [releaseRun_cons_of_released complete goes]
        refine ⟨k + 1, buffer, whole, out.cons_cons _, ?_⟩
        simp only [List.take_succ_cons, List.length_cons] at count ⊢
        omega
      | false =>
        rw [releaseRun_cons_of_orphan complete goes]
        refine ⟨k + 1, buffer, whole, out.cons _, ?_⟩
        simp only [List.take_succ_cons, List.length_cons] at count ⊢
        omega

/-- A run of releases ends at a record that is not COMPLETE (R104). -/
theorem releaseRun_head (m : List LayerEntry) (b : List BufRec) (x : BufRec) (head : (releaseRun m b).buffer.head? = some x) :
    x.complete = false := by
  induction b generalizing m with
  | nil => simp [releaseRun] at head
  | cons y rest ih =>
    cases complete : y.complete with
    | false =>
      rw [releaseRun_cons_of_incomplete complete] at head
      cases head
      exact complete
    | true =>
      cases goes : (judgeRelease m y).2 with
      | true =>
        rw [releaseRun_cons_of_released complete goes] at head
        exact ih _ head
      | false =>
        rw [releaseRun_cons_of_orphan complete goes] at head
        exact ih _ head

/-- The map with an entry for a picture, in the cases of R105. -/
theorem mapFor_eq (x : Num8) (m : List LayerEntry) :
    mapFor x m =
      if ∃ t ∈ m, t.picture = x then some m
      else
        match m with
        | [] => some [freshEntry x]
        | [a] => if newer x a.picture then some [freshEntry x, a] else some [a, freshEntry x]
        | a :: b :: _ =>
          if newer x a.picture then some [freshEntry x, a]
          else if newer x b.picture then some [a, freshEntry x]
          else none := by
  unfold mapFor
  by_cases entry : ∃ t ∈ m, t.picture = x
  · rw [if_pos entry, if_pos (by simpa [List.any_eq_true] using entry)]
  · rw [if_neg entry, if_neg (by simpa [List.any_eq_true] using entry)]
    match m with
    | [] => rfl
    | [a] => rfl
    | a :: b :: _ => rfl

/-- The level that a release leaves (R105). -/
def raisedLevel (k : Layer) (l : Level) : Level :=
  if k = .refine1 then .r1 else if k = .refine2 then .r2 else if l = .none then .base else l

/-- A slice goes to the bridge behind the layer below it, and leaves its own level (R105). -/
theorem layerTest_eq (k : Layer) (l : Level) :
    layerTest k l =
      if k = .base ∨ (k = .refine1 ∧ l = .base) ∨ (k = .refine2 ∧ l = .r1) then some (raisedLevel k l) else none := by
  cases k <;> cases l <;> rfl

/-- A slice of a picture older than both in the map is turned away, and leaves the map (R105). -/
theorem judgeRelease_outdated {m : List LayerEntry} {x : BufRec} (h : mapFor x.picture m = none) :
    judgeRelease m x = (m, false) := by
  unfold judgeRelease
  rw [h]

/-- The layer test of a slice whose picture has an entry (R105). -/
theorem judgeRelease_entered {m m' : List LayerEntry} {x : BufRec} (h : mapFor x.picture m = some m') :
    judgeRelease m x =
      let level := levelAt m' x.picture x.index.toNat
      if x.layer = .base ∨ (x.layer = .refine1 ∧ level = .base) ∨ (x.layer = .refine2 ∧ level = .r1) then
        (setLevel m' x.picture x.index.toNat (raisedLevel x.layer level), true)
      else (m', false) := by
  unfold judgeRelease
  rw [h]
  dsimp only
  rw [layerTest_eq]
  by_cases goes : x.layer = .base ∨ (x.layer = .refine1 ∧ levelAt m' x.picture x.index.toNat = .base) ∨
      (x.layer = .refine2 ∧ levelAt m' x.picture x.index.toNat = .r1)
  · rw [if_pos goes, if_pos goes]
  · rw [if_neg goes, if_neg goes]

/-- A count changes a flow's counters alone, and in RUNNING alone (R64). -/
theorem State.count_eq (s : State) (f : FlowId) (g : FlowCounters → FlowCounters) :
    s.count f g =
      { s with counters := if s.start = .running then s.counters.set f (g (s.counters.get f)) else s.counters } := by
  unfold State.count
  split <;> rfl

theorem State.listening_iff (s : State) (f : FlowId) : s.listening f = true ↔ ∃ n, s.dst.get f = some ⟨.listening, n⟩ := by
  unfold State.listening
  cases s.dst.get f with
  | none => simp
  | some d =>
    obtain ⟨state, expected⟩ := d
    cases state <;> simp

/-- What a run of releases leaves of an eye: the port keeps what the latest delivery handed over (log 6). -/
def EyeDst.released (x : EyeDst) (r : ReleaseRun) : EyeDst :=
  { x with map := r.map, buffer := r.buffer, out := if r.out = [] then x.out else r.out }

/-- A ready line that is high releases from a LISTENING eye's buffer (R104). -/
theorem State.considerRelease_eq {s : State} {e : Eye} (listens : s.listening (Eye.flow e) = true)
    (ready : s.pins.displayReady.get e = true) :
    s.considerRelease e =
      (s.modEye e fun x => x.released (releaseRun x.map x.buffer)).count (Eye.flow e) fun c =>
        { c with orphans := min (c.orphans + (releaseRun (s.eyes.get e).map (s.eyes.get e).buffer).orphans) 65535 } := by
  unfold State.considerRelease
  rw [if_pos ⟨listens, ready⟩]
  simp [State.modEye, EyeDst.released]

/-- Nothing is released where the ready line is low (R104). -/
theorem State.considerRelease_of_low {s : State} {e : Eye} (low : s.pins.displayReady.get e = false) :
    s.considerRelease e = s := by
  unfold State.considerRelease
  rw [if_neg (by simp [low])]

theorem State.considerRelease_of_not_listening {s : State} {e : Eye} (deaf : ¬s.listening (Eye.flow e) = true) :
    s.considerRelease e = s := by
  unfold State.considerRelease
  rw [if_neg fun h => deaf h.1]

/-- What PICTURE_TAKEN leaves in the buffer: no older picture, and nothing of the slice it broke (R102, R106). -/
theorem State.taken_eye (s : State) (e : Eye) (n : Num8) :
    let x := s.eyes.get e
    let older : Bool := decide (∃ b ∈ x.buffer, b.complete = false ∧ newer n b.picture = true)
    let broken := older && decide (x.reasm = .filling)
    ((if older then s.breakEye e else s).modEye e fun y =>
        { y with lastTaken := some n, buffer := purgeTaken n y.buffer }) =
      (s.modEye e fun y =>
        { y with
          lastTaken := some n, reasm := if older then .skipping else y.reasm,
          buffer := y.buffer.filter fun b => !newer n b.picture && (b.complete || !broken) }).count (Eye.flow e) fun c =>
        { c with breaks := if broken then satInc c.breaks else c.breaks } := by
  intro x older broken
  have plain : ∀ t : State, t.count (Eye.flow e) (fun c => { c with breaks := c.breaks }) = t := fun t => by
    unfold State.count
    split
    · rw [PerFlow.set_get]
    · rfl
  cases isOlder : older with
  | false =>
    have whole : broken = false := by simp [broken, isOlder]
    simp [whole, plain, purgeTaken]
  | true =>
    by_cases filling : (s.eyes.get e).reasm = .filling
    · have breaks : broken = true := by simp [broken, isOlder, x, filling]
      unfold State.breakEye
      simp only [if_true, if_pos filling, breaks, State.modEye, State.count_eq, purgeTaken]
      simp [List.filter_filter]
    · have whole : broken = false := by simp [broken, x, filling]
      unfold State.breakEye
      simp [filling, whole, plain, State.modEye, purgeTaken]

/-- Settles O25. -/
theorem displayLinesReleaseAndPurge : Obligations.DisplayLinesReleaseAndPurge := by
  unfold Obligations.DisplayLinesReleaseAndPurge
  refine ⟨fun e s => ?_, fun m b => ⟨releaseRun_takes m b, releaseRun_head m b⟩, fun m x rest complete => ?_⟩
  · intro x k listens raised released
    have hears : listens ↔ s.listening (Eye.flow e) = true := (s.listening_iff _).symm
    refine ⟨fun h => ?_, fun h => ?_, rfl, fun h n => ?_, fun h n => ?_⟩
    · show execDisplayReadyRise e s = _
      unfold execDisplayReadyRise
      rw [State.considerRelease_eq (s := { s with pins := raised }) (hears.1 h) (by simp [raised])]
      refine congrArg _ (State.eq_of_fields ?_)
      simp only [State.count_eq]
      by_cases runs : s.start = .running <;> simp_all [State.modEye, EyeDst.released, x, k, released]
    · show execDisplayReadyRise e s = _
      unfold execDisplayReadyRise
      rw [State.considerRelease_of_not_listening (s := { s with pins := raised }) (fun l => h (hears.2 l))]
    · intro older broken kept ready r
      show execPictureTaken e n s = _
      have any : ((s.eyes.get e).buffer.any fun b => !b.complete && newer n b.picture) = older := by
        rw [Bool.eq_iff_iff]
        simp [older, x]
      unfold execPictureTaken
      rw [if_pos (hears.1 h)]
      dsimp only
      rw [any, State.taken_eye]
      refine congrArg _ ?_
      have listens' : ∀ t : State, t.dst = s.dst → t.listening (Eye.flow e) = true := fun t same => by
        rw [State.listening, same]
        exact hears.1 h
      cases high : s.pins.displayReady.get e with
      | true =>
        rw [State.considerRelease_eq (listens' _ (by simp)) (by simpa using high)]
        refine State.eq_of_fields ?_
        simp only [State.count_eq]
        by_cases runs : s.start = .running <;> simp_all [State.modEye, EyeDst.released, x, k, released, r, ready, kept, older, broken, satInc]
      | false =>
        rw [State.considerRelease_of_low (by simpa using high)]
        refine State.eq_of_fields ?_
        simp only [State.count_eq]
        by_cases runs : s.start = .running <;> simp_all [State.modEye, x, k, released, r, ready, kept, older, broken, satInc]
    · show execPictureTaken e n s = _
      unfold execPictureTaken
      rw [if_neg fun l => h (hears.2 l)]
  · intro fresh entered
    have map : mapFor x.picture m = entered := mapFor_eq x.picture m
    refine ⟨fun outdated => ?_, fun m' found => ⟨fun goes => ?_, fun stays => ?_⟩⟩
    · have judged := judgeRelease_outdated (map.trans outdated)
      rw [releaseRun_cons_of_orphan complete (by rw [judged]), judged]
    · have judged := judgeRelease_entered (map.trans found)
      dsimp only at judged
      rw [if_pos goes] at judged
      rw [releaseRun_cons_of_released complete (by rw [judged]), judged]
      rfl
    · have judged := judgeRelease_entered (map.trans found)
      dsimp only at judged
      rw [if_neg stays] at judged
      rw [releaseRun_cons_of_orphan complete (by rw [judged]), judged]

end Sys2Proof.Machine

namespace Sys2Proof.Machine

/-! ### The attention line, the status outputs and the service line (chapter 10) -/

/-- Settles O54. -/
theorem outputsFollowTheirFunctions : Obligations.OutputsFollowTheirFunctions := by
  unfold Obligations.OutputsFollowTheirFunctions
  intro s
  refine ⟨fun dead => ⟨?_, fun p => ?_⟩, fun live => ⟨?_, fun p => ?_⟩, rfl, rfl, fun live clock => ?_⟩
  · simp only [State.attention, decide_eq_false dead, Bool.false_and]
  · cases p <;> simp only [State.output, State.outputOf, decide_eq_false dead, Bool.false_and]
  · simp only [State.attention, decide_eq_true live, Bool.true_and, List.any_eq_true]
  · intro f left
    have shown : s.output p = s.outputOf f left := by cases p <;> rfl
    rw [shown]
    unfold State.outputOf
    rw [decide_eq_true live, Bool.true_and]
    refine ⟨fun h => ?_, fun h => ?_, fun h => ?_, fun h => ?_, fun h => ?_, fun h => ?_, fun h => ?_⟩
    · have lanes : (∃ l, s.inUse l = true ∧ (s.rx.get l).state ≠ .locked) ↔
          (s.inUse .down = true ∧ s.rx.down.state ≠ .locked) ∨ (s.inUse .up = true ∧ s.rx.up.state ≠ .locked) :=
        ⟨fun ⟨l, h⟩ => by cases l; exacts [.inl h, .inr h],
          fun h => h.elim (fun h => ⟨.down, h⟩) fun h => ⟨.up, h⟩⟩
      rw [h, lanes]
      simp [State.laneFault, or_assoc]
    · have eyes : (∃ e, (s.paced.get e).band ≠ .full) ↔ s.paced.left.band ≠ .full ∨ s.paced.right.band ≠ .full :=
        ⟨fun ⟨e, h⟩ => by cases e; exacts [.inl h, .inr h], fun h => h.elim (fun h => ⟨.left, h⟩) fun h => ⟨.right, h⟩⟩
      rw [h, eyes]
      simp
    · rw [h]
      simp [State.shedActive]
    · rw [h]
    · obtain h | h := h <;> simp [h]
    · rw [h]
    · rw [h]
  · show execSuperframePulseStart s = _
    unfold execSuperframePulseStart
    rw [if_pos ⟨live, clock⟩]
    rfl

/-! #### Bytes -/

theorem beBytes_length (n v : Nat) : (beBytes n v).length = n := by
  induction n with
  | zero => rfl
  | succ n ih => rw [beBytes, List.length_cons, ih]

theorem beBytes_one (v : Nat) : beBytes 1 v = [BitVec.ofNat 8 v] := by simp [beBytes]

theorem flagByte_eq (b : Bool) : flagByte b = [if b then 1 else 0] := by cases b <;> rfl

/-! #### Requests at a waiting parser (R189) -/

/-- An answer joins the answer FIFO (R189). -/
def State.plus (t : State) (a : List Byte) : State :=
  { t with service := { t.service with answers := t.service.answers ++ a } }

/-- A complete request acts and answers where its largest answer has room (R189). -/
theorem State.serve_of_room {s : State} {r : Request}
    (room : s.service.answers.length + max r.largest (s.act 4 r).2.length ≤ 512) :
    s.serve r = (s.act 4 r).1.plus (s.act 4 r).2 := by
  unfold State.serve
  dsimp only
  rw [if_neg (by unfold State.freeSpace; omega)]
  rfl

/-- The bytes of a request at a waiting parser are the request (R189). -/
theorem State.request_of_waiting {s : State} {r : Request} (live : s.live) (waiting : s.service.parser = .waiting)
    (spells : parseRequest r.bytes = some r) : s.request r = s.serve r := by
  unfold State.request
  rw [if_pos ⟨live, waiting, spells⟩]

/-- A request at a waiting parser with room for its largest answer (R189). -/
theorem State.request_of_room {s : State} {r : Request} {t : State} {a : List Byte} (live : s.live)
    (waiting : s.service.parser = .waiting) (spells : parseRequest r.bytes = some r) (acts : s.act 4 r = (t, a))
    (room : s.service.answers.length + max r.largest a.length ≤ 512) : s.request r = t.plus a := by
  rw [State.request_of_waiting live waiting spells, State.serve_of_room (by rw [acts]; exact room), acts]

theorem noticeBytes_eq (n : Notice) :
    noticeBytes n =
      [BitVec.ofNat 8 (NoticeKind.code n.kind), BitVec.ofNat 8 (Subject.num n.subject)] ++ beBytes 4 n.value.toNat ++
        beBytes 4 n.time.toNat ++ [if n.settled then 1 else 0] := by
  simp [noticeBytes, beBytes_one, flagByte_eq]

/-- A notice for a subject with an entry takes its place (R185). -/
theorem putNotice_in_place (n m : Notice) (a b : List Notice) (before : ∀ x ∈ a, x.subject ≠ n.subject)
    (same : m.subject = n.subject) : putNotice n (a ++ m :: b) = a ++ n :: b := by
  induction a with
  | nil => simp [putNotice, same]
  | cons x a ih =>
    rw [List.forall_mem_cons] at before
    rw [List.cons_append, putNotice, if_neg before.1, ih before.2, List.cons_append]

/-- A notice for a subject without an entry joins the tail (R185). -/
theorem putNotice_at_tail (n : Notice) (q : List Notice) (none : ∀ x ∈ q, x.subject ≠ n.subject) :
    putNotice n q = q ++ [n] := by
  induction q with
  | nil => rfl
  | cons x q ih =>
    rw [List.forall_mem_cons] at none
    rw [putNotice, if_neg none.1, ih none.2, List.cons_append]

/-- Settles O48. -/
theorem noticesWaitBySubject : Obligations.NoticesWaitBySubject := by
  unfold Obligations.NoticesWaitBySubject
  intro s
  constructor
  · intro k j v n
    refine ⟨fun dead => if_neg dead, fun live fresh => ?_, fun live a m b split before same => ?_⟩
    · rw [State.post_of_live live, putNotice_at_tail _ _ fresh]
    · rw [State.post_of_live live, split, putNotice_in_place _ m a b before same]
  · intro live waiting room plus
    refine ⟨fun empty => ?_, fun n q head => ?_⟩
    · refine congrArg Host.Outcome.next (State.request_of_room live waiting rfl (t := s) (a := [0x10, 1]) ?_ ?_)
      · simp [State.act, State.noticeTake, empty, resEmpty]
      · simp [Request.largest]; omega
    · refine congrArg Host.Outcome.next (State.request_of_room live waiting rfl (t := { s with notices := q }) ?_ ?_)
      · simp [State.act, State.noticeTake, head, resOk, noticeBytes_eq]
      · simp [Request.largest, beBytes_length]; omega

/-! #### A request is its bytes (R189) -/

/-- The length that a code other than RELAY's fixes (R189). -/
def fixedLength (c : Byte) : Option Nat :=
  if c = 0x10 ∨ c = 0x13 ∨ c = 0x17 ∨ c = 0x19 then some 1
  else if c = 0x11 ∨ c = 0x15 ∨ c = 0x16 then some 2
  else if c = 0x12 ∨ c = 0x14 then some 3
  else none

/-- A byte is a code that fixes a length, RELAY's code, or no code (R189). -/
theorem code_cases (c : Byte) : (∃ n, fixedLength c = some n) ∨ c = 0x18 ∨ serviceCodes.contains c = false := by
  rw [← Option.isSome_iff_exists]
  revert c
  decide

theorem requestLength_of_fixed {c : Byte} {n : Nat} (h : fixedLength c = some n) (rest : List Byte) :
    requestLength (c :: rest) = some n := by
  unfold requestLength
  unfold fixedLength at h
  split_ifs at h ⊢ <;> exact h

theorem requestLength_relay (st : Byte) (inner : List Byte) :
    requestLength (0x18 :: st :: inner) = (requestLength inner).map (· + 2) := rfl

theorem requestLength_of_unknown {c : Byte} (h : serviceCodes.contains c = false) (rest : List Byte) :
    requestLength (c :: rest) = none := by
  unfold requestLength
  simp only [serviceCodes, List.contains_eq_mem, List.mem_cons, List.not_mem_nil, decide_eq_false_iff_not, not_or] at h
  simp only [h, or_self, if_false]

theorem unknownIn_of_fixed {c : Byte} {n : Nat} (h : fixedLength c = some n) (rest : List Byte) :
    unknownIn (c :: rest) = false := by
  have all : ∀ c : Byte, (fixedLength c).isSome = true → ¬serviceCodes.contains c = false ∧ c ≠ 0x18 := by decide
  obtain ⟨known, other⟩ := all c (by rw [h]; rfl)
  unfold unknownIn
  rw [if_neg known, if_neg other]

theorem unknownIn_relay (st : Byte) (inner : List Byte) : unknownIn (0x18 :: st :: inner) = unknownIn inner := rfl

theorem unknownIn_of_unknown {c : Byte} (h : serviceCodes.contains c = false) (rest : List Byte) :
    unknownIn (c :: rest) = true := by
  unfold unknownIn
  rw [if_pos h]

/-- The length that the bytes of a request fix, the bytes after them do not change (R189). -/
theorem requestLength_append : ∀ (p : List Byte) {n : Nat}, requestLength p = some n → ∀ q, requestLength (p ++ q) = some n
  | [], _, h, _ => by cases h
  | c :: rest, n, h, q => by
    obtain ⟨k, fixed⟩ | rfl | unknown := code_cases c
    · rw [requestLength_of_fixed fixed] at h
      rw [List.cons_append, requestLength_of_fixed fixed, h]
    · match rest with
      | [] => cases h
      | st :: inner =>
        rw [requestLength_relay, Option.map_eq_some_iff] at h
        obtain ⟨m, inside, rfl⟩ := h
        rw [List.cons_append, List.cons_append, requestLength_relay, requestLength_append inner inside q, Option.map_some]
    · rw [requestLength_of_unknown unknown] at h
      cases h

/-- Bytes that begin a request of a fixed length hold no unknown code (R190). -/
theorem unknownIn_of_requestLength : ∀ (p q : List Byte) {n : Nat}, requestLength (p ++ q) = some n → unknownIn p = false
  | [], _, _, _ => rfl
  | c :: rest, q, n, h => by
    obtain ⟨k, fixed⟩ | rfl | unknown := code_cases c
    · exact unknownIn_of_fixed fixed rest
    · match rest with
      | [] => rfl
      | st :: inner =>
        rw [List.cons_append, List.cons_append, requestLength_relay, Option.map_eq_some_iff] at h
        obtain ⟨m, inside, -⟩ := h
        rw [unknownIn_relay, unknownIn_of_requestLength inner q inside]
    · rw [List.cons_append, requestLength_of_unknown unknown] at h
      cases h

/-- Bytes of which more are to come are no request yet (R189). -/
theorem parseRequest_of_more {p q : List Byte} (whole : requestLength (p ++ q) = some (p ++ q).length) (more : q ≠ []) :
    parseRequest p = none := by
  unfold parseRequest
  rw [if_pos]
  intro early
  rw [requestLength_append p early q] at whole
  have : p.length = p.length + q.length := by simpa using whole
  exact more (List.length_eq_zero_iff.1 (by omega))

/-- What a request spells has the length of its code (R189). -/
theorem requestLength_of_parse {bs : List Byte} {r : Request} (h : parseRequest bs = some r) :
    requestLength bs = some bs.length := by
  unfold parseRequest at h
  by_contra other
  rw [if_pos other] at h
  cases h

theorem State.setParser_setParser (s : State) (p q : Parser) : (s.setParser p).setParser q = s.setParser q := rfl

theorem State.setParser_of_eq {s : State} {p : Parser} (h : s.service.parser = p) : s.setParser p = s := by
  subst h
  rfl

/-- A byte at a waiting parser is collected (R189). -/
theorem State.feedByte_of_waiting {s : State} (live : s.live) (waiting : s.service.parser = .waiting) (b : Byte) :
    s.feedByte b = s.collect [b] := by
  unfold State.feedByte
  rw [if_pos live, waiting]

/-- A byte in collection joins the bytes collected (R189). -/
theorem State.feedByte_of_collecting {s : State} {bs : List Byte} (live : s.live)
    (collecting : s.service.parser = .collecting bs) (b : Byte) : s.feedByte b = s.collect (bs ++ [b]) := by
  unfold State.feedByte
  rw [if_pos live, collecting]

/-- The parser takes no byte in discard (R190). -/
theorem State.feedByte_of_discard {s : State} (discard : s.service.parser = .discard) (b : Byte) : s.feedByte b = s := by
  unfold State.feedByte
  rw [discard]
  exact ite_self s

theorem State.foldl_feedByte_of_discard {s : State} (discard : s.service.parser = .discard) (bs : List Byte) :
    bs.foldl State.feedByte s = s := by
  induction bs with
  | nil => rfl
  | cons b bs ih => rw [List.foldl_cons, State.feedByte_of_discard discard, ih]

/-- Bytes of which more are to come stay in collection (R189). -/
theorem State.collect_of_more {s : State} {p q : List Byte} (whole : requestLength (p ++ q) = some (p ++ q).length)
    (more : q ≠ []) : s.collect p = s.setParser (.collecting p) := by
  unfold State.collect
  rw [if_neg (by rw [unknownIn_of_requestLength p q whole]; exact Bool.false_ne_true), parseRequest_of_more whole more]

/-- The last byte of a request completes it (R189). -/
theorem State.collect_of_parse {s : State} {bs : List Byte} {r : Request} (h : parseRequest bs = some r) :
    s.collect bs = (s.setParser .waiting).serve r := by
  have known := unknownIn_of_requestLength bs [] (by rw [List.append_nil]; exact requestLength_of_parse h)
  unfold State.collect
  rw [if_neg (by rw [known]; exact Bool.false_ne_true), h]

/-- The first bytes of a request at a waiting parser are collected (R189). -/
theorem State.feed_first {s : State} (live : s.live) (waiting : s.service.parser = .waiting) (p : List Byte) :
    ∀ q, requestLength (p ++ q) = some (p ++ q).length → p ≠ [] → q ≠ [] →
      p.foldl State.feedByte s = s.setParser (.collecting p) := by
  induction p using List.reverseRecOn with
  | nil => exact fun q _ some => absurd rfl some
  | append_singleton p b ih =>
    intro q whole _ more
    rw [List.foldl_append, List.foldl_cons, List.foldl_nil]
    by_cases first : p = []
    · subst first
      rw [List.foldl_nil, State.feedByte_of_waiting live waiting]
      exact State.collect_of_more whole more
    · rw [ih (b :: q) (by simpa using whole) first (List.cons_ne_nil b q)]
      rw [State.feedByte_of_collecting (s := s.setParser (.collecting p)) live rfl, State.collect_of_more whole more]
      rfl

/-- A request is its bytes, one after another (R189). -/
theorem State.request_eq_bytes (s : State) (r : Request) : s.request r = r.bytes.foldl State.feedByte s := by
  unfold State.request
  split
  · rename_i h
    obtain ⟨live, waiting, spells⟩ := h
    have whole := requestLength_of_parse spells
    obtain ⟨p, b, bytes⟩ : ∃ p b, r.bytes = p ++ [b] :=
      ⟨r.bytes.dropLast, r.bytes.getLast (by cases r <;> exact List.cons_ne_nil _ _),
        (List.dropLast_append_getLast _).symm⟩
    rw [bytes] at whole spells ⊢
    rw [List.foldl_append, List.foldl_cons, List.foldl_nil]
    by_cases first : p = []
    · subst first
      rw [List.foldl_nil, State.feedByte_of_waiting live waiting]
      rw [State.collect_of_parse (bs := [b]) spells, State.setParser_of_eq waiting]
    · rw [State.feed_first live waiting p [b] whole first (List.cons_ne_nil _ _)]
      rw [State.feedByte_of_collecting (s := s.setParser (.collecting p)) live rfl, State.collect_of_parse spells]
      rw [State.setParser_setParser, State.setParser_of_eq waiting]
  · rfl

theorem parseRequest_relay {st : Byte} {inner : List Byte} (h : requestLength inner = some inner.length) :
    parseRequest (Request.relay st inner).bytes = some (.relay st inner) := by
  unfold parseRequest Request.bytes
  rw [if_neg (not_not.2 (by rw [requestLength_relay, h]; rfl))]
  rfl

theorem Request.largest_pos (r : Request) : 0 < r.largest := by cases r <;> simp [Request.largest]

/-- A request without room for its largest answer is answered BUSY, or not at all (R189). -/
theorem State.serve_of_full {s : State} {r : Request} (full : 512 < s.service.answers.length + r.largest) :
    s.serve r = if s.service.answers.length ≤ 510 then s.plus [r.code, 2] else s := by
  have some_bytes := r.largest_pos
  unfold State.serve State.shortReply
  dsimp only
  rw [if_pos (by unfold State.freeSpace; omega)]
  by_cases room : s.service.answers.length ≤ 510
  · rw [if_pos room, if_pos (by unfold State.freeSpace; omega)]
    rfl
  · rw [if_neg room, if_neg (by unfold State.freeSpace; omega)]

/-- An unknown code is answered BAD_REQUEST and puts the parser into discard (R190). -/
theorem State.collect_of_unknown {s : State} {bs : List Byte} (h : unknownIn bs = true) :
    s.collect bs =
      { s with
        service :=
          { s.service with
            parser := .discard,
            answers :=
              if s.service.answers.length ≤ 510 then s.service.answers ++ [bs.headD 0, 3] else s.service.answers } } := by
  unfold State.collect State.shortReply
  rw [if_pos h]
  by_cases room : s.service.answers.length ≤ 510
  · rw [if_pos room, if_pos (by unfold State.freeSpace; omega)]
    rfl
  · rw [if_neg room, if_neg (by unfold State.freeSpace; omega)]
    rfl

/-- RELAY and its station are collected (R189). -/
theorem State.collect_relay (s : State) (st : Byte) : s.collect [0x18, st] = s.setParser (.collecting [0x18, st]) := rfl

/-- Settles O51. -/
theorem requestsAreTheirBytesAndFaultsRecover : Obligations.RequestsAreTheirBytesAndFaultsRecover := by
  unfold Obligations.RequestsAreTheirBytesAndFaultsRecover
  refine ⟨fun s => ?_, fun s => ?_⟩
  · intro bytes
    have whole (r : Request) : Host.Outcome.next (s.request r) = (.next (bytes r.bytes) : Host.Outcome State Fault Refusal) :=
      congrArg _ (s.request_eq_bytes r)
    refine ⟨⟨whole .noticeTake, whole .tableNext, whole .summary, whole .relayTake,
      fun a => ⟨whole (.countersTake a), whole (.volume a), whole (.micMute a)⟩,
      fun a b => ⟨whole (.tableRead a b), whole (.domainWant a b)⟩, fun st inner => whole (.relay st inner), fun b => rfl⟩, ?_⟩
    intro live waiting r spells full
    show r.bytes.foldl State.feedByte s = _
    rw [← s.request_eq_bytes r, State.request_of_waiting live waiting spells, State.serve_of_full full]
    rfl
  · intro parser codes unknown
    have foreign {b : Byte} (h : b ∉ codes) : serviceCodes.contains b = false := by
      simpa [codes, serviceCodes] using h
    refine ⟨fun b live waiting no => ?_, fun st b rest live waiting no => ?_, fun st b live collecting no => ?_,
      fun b discard => ?_, fun live => ?_, fun bs collecting => ?_, fun other => ?_, fun discard => ?_, fun other => ?_,
      fun b q head => ?_, fun empty => ?_⟩
    · show Host.Outcome.next (s.feedByte b) = _
      rw [State.feedByte_of_waiting live waiting, State.collect_of_unknown (unknownIn_of_unknown (foreign no) [])]
      rfl
    · show Host.Outcome.next (s.request (.relay st (b :: rest))) = _
      have third : (s.setParser (.collecting [0x18, st])).feedByte b = unknown 0x18 := by
        rw [State.feedByte_of_collecting (s := s.setParser (.collecting [0x18, st])) live rfl,
          State.collect_of_unknown (bs := [0x18, st] ++ [b]) (unknownIn_of_unknown (foreign no) [])]
        rfl
      rw [s.request_eq_bytes]
      show Host.Outcome.next (rest.foldl State.feedByte (((s.feedByte 0x18).feedByte st).feedByte b)) = _
      rw [State.feedByte_of_waiting live waiting]
      rw [show s.collect [0x18] = s.setParser (.collecting [0x18]) from rfl]
      rw [State.feedByte_of_collecting (s := s.setParser (.collecting [0x18])) live rfl]
      rw [List.singleton_append, State.collect_relay, State.setParser_setParser, third]
      rw [State.foldl_feedByte_of_discard rfl]
    · show Host.Outcome.next (s.feedByte b) = _
      rw [State.feedByte_of_collecting live collecting,
        State.collect_of_unknown (bs := [0x18, st] ++ [b]) (unknownIn_of_unknown (foreign no) [])]
      rfl
    · exact congrArg _ (State.feedByte_of_discard discard b)
    · exact if_pos live
    · show execIdleGap s = _
      unfold execIdleGap
      rw [collecting]
      rfl
    · show execIdleGap s = _
      unfold execIdleGap
      cases held : s.service.parser with
      | collecting bs => exact absurd held (other bs)
      | waiting => rfl
      | discard => rfl
    · exact if_pos discard
    · exact if_neg other
    · show execAnswerByteSent s = _
      unfold execAnswerByteSent
      rw [head]
      rfl
    · show execAnswerByteSent s = _
      unfold execAnswerByteSent
      rw [empty]

end Sys2Proof.Machine

namespace Sys2Proof.Machine

/-! ### The relay holder (section 10.6) -/

/-- The lane toward another station (R35). -/
def laneToward (own target : Station) : Lane := if own.num < target.num then .down else .up

theorem laneTo_of_ne {own target : Station} (h : target ≠ own) : laneTo own target = some (laneToward own target) := by
  cases own <;> cases target <;> first | rfl | exact absurd rfl h

/-- A cell for another station is offered to the lane toward it (R35). -/
theorem State.offerTo_of_ne {s : State} {x : Station} (h : x ≠ s.station) (c : Ctl) :
    s.offerTo x c = s.offer (laneToward s.station x) c := by
  unfold State.offerTo
  rw [laneTo_of_ne h]

/-- Every station's number reads back as the station (R189). -/
theorem stationOf_num (x : Station) : stationOf x.num = x := by cases x <;> rfl

/-- What a relay does that is barred: an own or unknown station, or a relay inside (R193). -/
theorem State.relayJudgement_of_barred {s : State} {st : Byte} {inner : List Byte}
    (barred : 3 < st.toNat ∨ stationOf st.toNat = s.station ∨ inner.head? = some 0x18 ∨ inner.head? = some 0x19) :
    s.relayJudgement st inner = some resBad := by
  unfold State.relayJudgement
  rw [if_pos]
  cases inner with
  | nil => simpa [or_comm, or_left_comm] using barred
  | cons b inner =>
    simp only [List.head?_cons, Option.some.injEq] at barred
    simp only [List.headD_cons]
    tauto

/-- A relay that is not barred is judged by its station's presence, then by the holder (R193). -/
theorem State.relayJudgement_of_not_barred {s : State} {st : Byte} {inner : List Byte}
    (whole : requestLength inner = some inner.length)
    (free : ¬(3 < st.toNat ∨ stationOf st.toNat = s.station ∨ inner.head? = some 0x18 ∨ inner.head? = some 0x19)) :
    s.relayJudgement st inner =
      if (s.stations.get (stationOf st.toNat)).present = false then some resNoStation
      else if s.service.holder.state = .outstanding then some resBusy
      else none := by
  unfold State.relayJudgement
  dsimp only
  rw [if_neg]
  cases inner with
  | nil => cases whole
  | cons b inner =>
    simp only [List.head?_cons, Option.some.injEq] at free
    simp only [List.headD_cons]
    tauto

/-- What an accepted relay leaves in the holder (R193). -/
def Holder.started (h : Holder) (x : Station) : Holder :=
  { state := .outstanding, target := x, tag := h.tags + 1, wait := 524288, count := none, parts := [], answer := [],
    tags := h.tags + 1 }

/-- A cell that joins a FIFO where its transmitter sends and the FIFO has room (R41). -/
def Tx.joined (t : Tx) (c : Ctl) : Tx :=
  { t with fifo := if t.role.sends = true ∧ t.fifo.length < 8 then t.fifo ++ [c] else t.fifo }

/-- An accepted relay takes the holder and offers one cell toward its target (R193). -/
theorem State.startRelay_eq {s : State} {x : Station} (h : x ≠ s.station) (inner : List Byte) :
    s.startRelay x inner =
      (s.modHolder fun h => h.started x).modTx (laneToward s.station x) fun t =>
        t.joined (.relay x false 0 (s.service.holder.tags + 1) 1 inner) := by
  have notPower (r : Report) (n : Nat) :
      Ctl.relay x false 0 (s.service.holder.tags + 1) 1 inner ≠ .power r n := nofun
  unfold State.startRelay
  dsimp only
  rw [State.offerTo_of_ne (s := s.modHolder _) h, State.offer_of_not_power _ _ notPower]
  rfl

/-- RELAY at a waiting parser (R193). -/
theorem exec_relay_of_room {s : State} {st : Byte} {inner : List Byte} (live : s.live) (waiting : s.service.parser = .waiting)
    (room : s.service.answers.length ≤ 510) (whole : requestLength inner = some inner.length) {t : State} {a : Byte}
    (acts : s.relayRequest st inner = (t, [0x18, a])) : exec (.relay st inner) s = .next (t.plus [0x18, a]) := by
  refine congrArg Host.Outcome.next (State.request_of_room live waiting (parseRequest_relay whole) acts ?_)
  simp [Request.largest]
  omega

theorem State.relayRequest_of_judged {s : State} {st : Byte} {inner : List Byte} {r : Byte}
    (h : s.relayJudgement st inner = some r) : s.relayRequest st inner = (s, [0x18, r]) := by
  unfold State.relayRequest
  rw [h]

/-- Settles O52. -/
theorem relayIsJudgedSentAndTimed : Obligations.RelayIsJudgedSentAndTimed := by
  unfold Obligations.RelayIsJudgedSentAndTimed
  intro s plus h
  refine ⟨fun live waiting room => ⟨fun st inner whole => ?_, fun ready short => ?_, fun idle => ?_⟩,
    fun live out => ?_, fun other => congrArg _ (if_neg other)⟩
  · intro x barred
    have short : s.service.answers.length ≤ 510 := by omega
    refine ⟨fun bad => ?_, fun good absent => ?_, fun good present out => ?_, fun good present out => ?_⟩
    · exact exec_relay_of_room live waiting short whole
        (State.relayRequest_of_judged (State.relayJudgement_of_barred bad))
    · refine exec_relay_of_room live waiting short whole (State.relayRequest_of_judged ?_)
      rw [State.relayJudgement_of_not_barred whole good, if_pos absent]
      rfl
    · refine exec_relay_of_room live waiting short whole (State.relayRequest_of_judged ?_)
      rw [State.relayJudgement_of_not_barred whole good, if_neg (by simpa using present), if_pos out]
      rfl
    · have judged : s.relayJudgement st inner = none := by
        rw [State.relayJudgement_of_not_barred whole good, if_neg (by simpa using present), if_neg out]
      have away : x ≠ s.station := fun own => good (.inr (.inl own))
      refine ⟨s.startRelay x inner, exec_relay_of_room live waiting short whole ?_, ?_, ?_, fun l => ?_⟩
      · unfold State.relayRequest
        rw [judged]
        rfl
      · rw [State.startRelay_eq away]
        rfl
      · rw [State.startRelay_eq away]
        rfl
      · rw [State.startRelay_eq away]
        have lane : (l = .down ↔ s.station.num < x.num) ↔ l = laneToward s.station x := by
          unfold laneToward
          split <;> cases l <;> simp_all
        simp only [lane]
        by_cases toward : l = laneToward s.station x
        · subst toward
          simp only [State.modTx, PerLane.get_set_self, Tx.joined, true_and]
          exact ⟨rfl, rfl⟩
        · rw [if_neg fun h => toward h.1]
          simp [State.modTx, toward]
  · refine congrArg Host.Outcome.next (State.request_of_room live waiting rfl
      (t := s.modHolder fun h => { h with state := .idle, answer := [] }) ?_ ?_)
    · simp [State.act, State.relayTake, ready, resOk, beBytes_one, h]
    · simp [Request.largest]
      omega
  · refine congrArg Host.Outcome.next (State.request_of_room live waiting rfl (t := s) (a := [0x19, 1]) ?_ ?_)
    · exact if_neg idle
    · simp [Request.largest]
      omega
  · refine ⟨_, congrArg Host.Outcome.next (if_pos out), ?_, ?_, ?_⟩
    · exact State.eq_of_fields (by simp)
    · simp [h]
    · exact State.exists_posted (s := s.modHolder _) live _ _ _

end Sys2Proof.Machine

namespace Sys2Proof.Machine

/-! ### The units that follow the domain table (R151, R153) -/

/-- The state with every domain changed by `f`. -/
def State.withDomains (s : State) (f : Domain → Domain) : State :=
  { s with power := { s.power with domains := s.power.domains.map f } }

/-- A change of domains posts, and does nothing else but change them (R153). -/
theorem State.changeDomains_eq (s : State) (f : Domain → Domain) :
    s.changeDomains f = { s.withDomains f with notices := (s.changeDomains f).notices } :=
  State.eq_of_fields (by simp [State.withDomains])

/-! #### What the units look at -/

theorem State.domainOn_congr {s t : State} (h : t.power.domains = s.power.domains) (n : Nat) : t.domainOn n = s.domainOn n := by
  simp only [State.domainOn, h]

/-- A record and its eye follow the display domain alike in two states that agree in these. -/
theorem State.followEye_congr {s t : State} (domains : t.power.domains = s.power.domains) (dst : t.dst = s.dst)
    (eyes : t.eyes = s.eyes) (e : Eye) :
    (t.followEye e).dst = (s.followEye e).dst ∧ (t.followEye e).eyes = (s.followEye e).eyes ∧
      (t.followEye e).power.domains = (s.followEye e).power.domains := by
  have on := State.domainOn_congr domains 1
  unfold State.followEye
  rw [dst, on]
  split
  · split <;> simp [dst, eyes, domains, State.holdEye, State.modEye]
  · split <;> simp [dst, eyes, domains, State.listenEye, State.modEye]
  · exact ⟨dst, eyes, domains⟩

/-- Records and eyes follow the display domain alike in two states that agree in these. -/
theorem State.followDisplay_congr {s t : State} (station : t.station = s.station)
    (domains : t.power.domains = s.power.domains) (dst : t.dst = s.dst) (eyes : t.eyes = s.eyes) :
    t.followDisplay.dst = s.followDisplay.dst ∧ t.followDisplay.eyes = s.followDisplay.eyes := by
  unfold State.followDisplay
  rw [station]
  split
  · obtain ⟨leftDst, leftEyes, leftDomains⟩ := State.followEye_congr domains dst eyes .left
    obtain ⟨rightDst, rightEyes, -⟩ := State.followEye_congr leftDomains leftDst leftEyes .right
    exact ⟨rightDst, rightEyes⟩
  · exact ⟨dst, eyes⟩

theorem State.followEye_dst_of_ne (s : State) {e : Eye} {f : FlowId} (h : f ≠ Eye.flow e) :
    (s.followEye e).dst.get f = s.dst.get f := by
  unfold State.followEye
  split
  · split <;> simp [State.holdEye, State.modEye, PerFlow.get_set, h]
  · split <;> simp [State.listenEye, State.modEye, PerFlow.get_set, h]
  · rfl

/-- The display domain moves the picture records alone (R57). -/
theorem State.followDisplay_dst_of_ne (s : State) {f : FlowId} (h : ∀ e, f ≠ Eye.flow e) :
    s.followDisplay.dst.get f = s.dst.get f := by
  unfold State.followDisplay
  split
  · rw [State.followEye_dst_of_ne _ (h .right), State.followEye_dst_of_ne _ (h .left)]
  · rfl

/-- A source as it opens or closes (R132). -/
def Source.follow (k : Source) (opens : Bool) : Source :=
  if opens = k.opened then k else { k with opened := opens, position := 0, frames := [] }

/-- A sink as it enters or leaves MUTED (R135). -/
def Sink.follow (k : Sink) (wakes : Bool) : Sink :=
  if wakes then (if k.state = .muted then k.prime else k) else if k.state = .muted then k else k.mute

theorem State.followSource_eq (s : State) :
    s.followSource = { s with audio := { s.audio with source := s.audio.source.follow s.sourceOpen } } := by
  unfold State.followSource Source.follow
  split <;> rfl

theorem State.followSink_eq (s : State) :
    s.followSink = { s with audio := { s.audio with sink := s.audio.sink.follow s.sinkAwake } } := by
  unfold State.followSink Sink.follow
  split
  · split <;> rfl
  · split <;> rfl

/-- Source and sink after they followed their domains (R55, R132, R135). -/
theorem State.followAudio_eq (s : State) :
    s.followSource.followSink.audio =
      { s.audio with source := s.audio.source.follow s.sourceOpen, sink := s.audio.sink.follow s.sinkAwake } := by
  rw [State.followSink_eq, State.followSource_eq]
  rfl

/-- Source and sink follow alike in two states that agree in what they look at. -/
theorem State.followAudio_congr {s t : State} (station : t.station = s.station) (cfg : t.cfg = s.cfg)
    (stations : t.stations = s.stations) (audio : t.audio = s.audio) (domains : t.power.domains = s.power.domains)
    (dst : ∀ f, (∀ e, f ≠ Eye.flow e) → t.dst.get f = s.dst.get f) :
    t.followSource.followSink.audio = s.followSource.followSink.audio := by
  have other : ∀ x e, sinkFlow x ≠ Eye.flow e := fun x e => by cases x <;> cases e <;> decide
  have opens : t.sourceOpen = s.sourceOpen := by
    simp only [State.sourceOpen, State.holdsSource, State.isAudio, State.audioStation, State.domainOn, station, cfg, stations,
      audio, domains]
  have wakes : t.sinkAwake = s.sinkAwake := by
    simp only [State.sinkAwake, State.listening, State.domainOn, station, domains, dst _ (other s.station)]
  rw [State.followAudio_eq, State.followAudio_eq, audio, opens, wakes]

/-! #### The sensors domain (R121, R123) -/

/-- At HEADSET the motion unit is OFF exactly while the sensors domain is not ON (R121). -/
def State.SensorsMatch (s : State) : Prop := s.station = .headset → (s.motion.state = .off ↔ s.domainOn 2 = false)

/-- The sensors start: their domain is ON and the motion unit is OFF still (R121). -/
def State.starts (s : State) : Bool := decide (s.station = .headset ∧ s.domainOn 2 = true ∧ s.motion.state = .off)

theorem State.starts_iff (s : State) :
    s.starts = true ↔ s.station = .headset ∧ s.domainOn 2 = true ∧ s.motion.state = .off := decide_eq_true_iff

/-- The domains as the wear link leaves them where the sensors start (R123). -/
def State.wearLinked (s : State) (v : Bool) : List Domain :=
  if s.cfg.wearLink = true then s.power.domains.map (wantOf 1 v) else s.power.domains

/-- The motion unit as the sensors domain leaves it (R121). -/
def State.sensed (s : State) : Motion :=
  if s.station = .headset then
    if s.domainOn 2 = true then
      if s.motion.state = .off then (if s.motion.worn then s.motion.toSampling else s.motion.toDoze) else s.motion
    else if s.motion.state = .off then s.motion
    else s.motion.toOff s.clock (!s.settled)
  else s.motion

theorem State.wearLink_motion (s : State) (v : Bool) : (s.wearLink v).motion = s.motion := by simp

theorem State.followSensors_motion (s : State) : s.followSensors.motion = s.sensed := by
  unfold State.followSensors State.sensed
  by_cases headset : s.station = .headset
  · rw [if_neg (not_not.2 headset), if_pos headset]
    split
    · by_cases off : s.motion.state = .off
      · rw [if_neg (not_not.2 off), if_pos off]
        split <;> rw [State.wearLink_motion, State.motionTo_motion]
      · rw [if_pos off, if_neg off]
    · split
      · rfl
      · rw [State.motionTo_motion]
  · rw [if_pos headset, if_neg headset]

/-- Where the sensors do not start, the motion unit and the notices alone follow the sensors domain (R121). -/
theorem State.followSensors_of_not_starts {s : State} (h : ¬s.starts = true) :
    s.followSensors = { s with motion := s.sensed, notices := s.followSensors.notices } := by
  have same := s.followSensors_motion
  suffices rest : s.followSensors.dst = s.dst ∧ s.followSensors.eyes = s.eyes ∧ s.followSensors.power = s.power by
    exact State.eq_of_fields (by simp [same, rest])
  rw [State.starts_iff] at h
  unfold State.followSensors
  split
  · exact ⟨rfl, rfl, rfl⟩
  · split
    · split
      · exact ⟨rfl, rfl, rfl⟩
      · simp_all
    · split
      · exact ⟨rfl, rfl, rfl⟩
      · simp

/-- Where the sensors start, the wear link writes by the wear state (R121, R123). -/
theorem State.followSensors_of_starts {s : State} (h : s.starts = true) :
    s.followSensors = (s.motionTo (if s.motion.worn then Motion.toSampling else Motion.toDoze)).wearLink s.motion.worn := by
  obtain ⟨headset, on, off⟩ := s.starts_iff.1 h
  unfold State.followSensors
  rw [if_neg (not_not.2 headset), if_pos on, if_neg (not_not.2 off)]
  cases s.motion.worn <;> rfl

/-- The domains after the sensors were followed (R123). -/
theorem State.followSensors_domains (s : State) :
    s.followSensors.power = { s.power with domains := if s.starts then s.wearLinked s.motion.worn else s.power.domains } := by
  split
  · rename_i starts
    rw [State.followSensors_of_starts starts, State.wearLink_power]
    unfold State.wearLinked
    simp only [State.motionTo_keeps, (s.starts_iff.1 starts).1, true_and]
    split <;> rfl
  · rename_i starts
    rw [State.followSensors_of_not_starts starts]

/-! #### The offer and the level (R154, R166) -/

theorem State.lowerLevel_power (s : State) : s.lowerLevel.power = { s.power with applied := s.appliedLevel } := by
  unfold State.lowerLevel
  split
  · rename_i same
    rw [same]
  · simp

/-- The levels alone follow STRAP's offer in the power unit (R166). -/
theorem State.followOffer_power (s : State) :
    s.followOffer.power =
      if s.station = .strap ∧ s.ownOffer = 0 then
        { s.power with supplyLevel := 0, applied := ({ s with power := { s.power with supplyLevel := 0 } } : State).appliedLevel }
      else s.power := by
  unfold State.followOffer
  split
  · rw [State.lowerLevel_power]
  · rfl

/-- The levels after STRAP's offer was followed: what they were, or the supply level 0 with the level it gives (R166). -/
theorem State.followOffer_cases (s : State) :
    s.followOffer = s ∨
      s.station = .strap ∧ s.ownOffer = 0 ∧
        s.followOffer.power =
          { s.power with
            supplyLevel := 0, applied := ({ s with power := { s.power with supplyLevel := 0 } } : State).appliedLevel } := by
  have power := s.followOffer_power
  unfold State.followOffer at power ⊢
  split
  · rename_i h
    rw [if_pos h, if_pos h] at power
    exact .inr ⟨h.1, h.2, power⟩
  · exact .inl rfl

/-! #### All of them -/

/-- What the power unit's part of a state fixes of its level, offers and sheds. -/
theorem State.follow_domains (s : State) :
    s.follow.power.domains = if s.starts then s.wearLinked s.motion.worn else s.power.domains := by
  unfold State.follow
  rw [State.followOffer_power]
  split <;> simp [State.followSensors_domains]

theorem State.follow_domains_of_not_starts {s : State} (h : ¬s.starts = true) : s.follow.power.domains = s.power.domains := by
  rw [State.follow_domains, if_neg h]

theorem State.follow_motion (s : State) : s.follow.motion = s.sensed := by
  simp [State.follow, State.followSensors_motion]

/-- Where the sensors do not start, records and eyes follow the display domain, source and sink theirs (R151). -/
theorem State.follow_of_not_starts {s : State} (h : ¬s.starts = true) :
    s.follow.dst = s.followDisplay.dst ∧ s.follow.eyes = s.followDisplay.eyes ∧
      s.follow.audio = s.followSource.followSink.audio := by
  have sensed := State.followSensors_of_not_starts h
  have power : s.followSensors.power = s.power := by rw [sensed]
  have display := State.followDisplay_congr (s := s) (t := s.followSensors) (by simp) (by rw [sensed]) (by rw [sensed])
    (by rw [sensed])
  refine ⟨?_, ?_, ?_⟩
  · simpa [State.follow] using display.1
  · simpa [State.follow] using display.2
  · have same := State.followAudio_congr (s := s) (t := s.followSensors.followDisplay) (by simp) (by simp) (by simp) (by simp)
      (by simp [power]) fun f other => by rw [State.followDisplay_dst_of_ne _ other, sensed]
    unfold State.follow
    simpa only [State.followOffer_keeps] using same

/-- A change that turns no domain ON does not start the sensors (R121). -/
theorem State.SensorsMatch.not_starts {s : State} (h : s.SensorsMatch) {f : Domain → Domain}
    (number : ∀ d, (f d).number = d.number) (on : ∀ d, (f d).state = .on → d.state = .on) :
    ¬(s.changeDomains f).starts = true := by
  rw [State.starts_iff]
  rintro ⟨headset, sensors, off⟩
  have before : s.domainOn 2 = true := by
    simp only [State.domainOn, State.changeDomains_power, List.any_map, List.any_eq_true, Function.comp_apply,
      Bool.and_eq_true, beq_iff_eq] at sensors ⊢
    obtain ⟨d, mem, is, state⟩ := sensors
    exact ⟨d, mem, by rw [← number]; exact is, on d state⟩
  rw [(h (by simpa using headset)).1 (by simpa using off)] at before
  cases before

/-- A change that turns no domain ON, with the units following (R153). -/
theorem State.SensorsMatch.changed {s : State} (h : s.SensorsMatch) {f : Domain → Domain}
    (number : ∀ d, (f d).number = d.number) (on : ∀ d, (f d).state = .on → d.state = .on) :
    (s.changeDomains f).follow.power.domains = s.power.domains.map f ∧
      (s.changeDomains f).follow.dst = (s.withDomains f).followDisplay.dst ∧
      (s.changeDomains f).follow.eyes = (s.withDomains f).followDisplay.eyes ∧
      (s.changeDomains f).follow.audio = (s.withDomains f).followSource.followSink.audio := by
  have stands := h.not_starts number on
  obtain ⟨dst, eyes, audio⟩ := State.follow_of_not_starts stands
  have display := State.followDisplay_congr (s := s.withDomains f) (t := s.changeDomains f) (by simp [State.withDomains])
    (by simp [State.withDomains]) (by simp [State.withDomains]) (by simp [State.withDomains])
  refine ⟨?_, dst.trans display.1, eyes.trans display.2, audio.trans ?_⟩
  · rw [State.follow_domains_of_not_starts stands, State.changeDomains_power]
  · exact State.followAudio_congr (by simp [State.withDomains]) (by simp [State.withDomains]) (by simp [State.withDomains])
      (by simp [State.withDomains]) (by simp [State.withDomains]) fun f _ => by simp [State.withDomains]

end Sys2Proof.Machine

namespace Sys2Proof.Machine

/-! ### The local requests (R188, R191) -/

/-- The calls of a change spend report numbers alone of the power unit (R167, R178). -/
theorem State.calling_power (s : State) (f : State → State) :
    (s.calling f).power = { (f s).power with nextReport := (s.calling f).power.nextReport } :=
  State.calling_preserves (P := fun t => t.power = { (f s).power with nextReport := t.power.nextReport })
    (fun t _ h => by rw [State.buildReport_power, h]) (fun t h => h) rfl

/-- The group of a lane's counters (R188). -/
def laneGroup : Lane → Nat
  | .down => 0
  | .up => 1

/-- The group of a flow's counters (R188). -/
def flowGroup (f : FlowId) : Nat := f.num + 2

/-- Every group is a lane's or a flow's (R188). -/
theorem group_cases {g : Nat} (h : g ≤ 6) : (∃ l, g = laneGroup l) ∨ ∃ f, g = flowGroup f := by
  interval_cases g
  exacts [.inl ⟨.down, rfl⟩, .inl ⟨.up, rfl⟩, .inr ⟨.pictureL, rfl⟩, .inr ⟨.pictureR, rfl⟩, .inr ⟨.motion, rfl⟩,
    .inr ⟨.audioOut, rfl⟩, .inr ⟨.audioIn, rfl⟩]

theorem State.groupCounters_lane (s : State) (l : Lane) : s.groupCounters (laneGroup l) = laneCounters (s.rx.get l) := by
  cases l <;> rfl

theorem State.groupCounters_flow (s : State) (f : FlowId) :
    s.groupCounters (flowGroup f) = flowCounters f (s.counters.get f) := by
  cases f <;> rfl

theorem State.clearGroup_lane (s : State) (l : Lane) : s.clearGroup (laneGroup l) = s.modRx l Rx.clearCounters := by
  cases l <;> rfl

theorem State.clearGroup_flow (s : State) (f : FlowId) :
    s.clearGroup (flowGroup f) = { s with counters := s.counters.set f FlowCounters.reset } := by
  cases f <;> rfl

theorem laneGroup_inj {l k : Lane} (h : laneGroup l = laneGroup k) : l = k := by
  cases l <;> cases k <;> first | rfl | cases h

theorem flowGroup_inj {f k : FlowId} (h : flowGroup f = flowGroup k) : f = k := by
  cases f <;> cases k <;> first | rfl | cases h

theorem laneGroup_ne_flowGroup (l : Lane) (f : FlowId) : laneGroup l ≠ flowGroup f := by
  cases l <;> cases f <;> decide

/-- A group has at most ten counters (R188). -/
theorem State.groupCounters_length_le (s : State) {g : Nat} (h : g ≤ 6) : (s.groupCounters g).length ≤ 10 := by
  obtain ⟨l, rfl⟩ | ⟨f, rfl⟩ := group_cases h
  · rw [State.groupCounters_lane]
    simp [laneCounters]
  · rw [State.groupCounters_flow]
    cases f <;> simp [flowCounters]

/-- The counters of a group as bytes (R191). -/
theorem counterBytes_length (ns : List Nat) : ((ns.map (beBytes 2)).flatten).length = 2 * ns.length := by
  induction ns with
  | nil => rfl
  | cons n ns ih =>
    rw [List.map_cons, List.flatten_cons, List.length_append, ih, beBytes_length, List.length_cons]
    omega

/-- What COUNTERS_TAKE clears, and what it leaves (R188). -/
theorem State.clearGroup_clears (s : State) {g : Nat} (h : g ≤ 6) :
    s.clearGroup g = { s with rx := (s.clearGroup g).rx, counters := (s.clearGroup g).counters } ∧
      (∀ n ∈ (s.clearGroup g).groupCounters g, n = 0) ∧
      ((s.clearGroup g).groupCounters g).length = (s.groupCounters g).length ∧
      (∀ k, k ≤ 6 → k ≠ g → (s.clearGroup g).groupCounters k = s.groupCounters k) ∧
      ∀ l, (s.clearGroup g).rx.get l =
        { s.rx.get l with
          alignErrors := ((s.clearGroup g).rx.get l).alignErrors, hopErrors := ((s.clearGroup g).rx.get l).hopErrors,
          cellErrors := ((s.clearGroup g).rx.get l).cellErrors, relocks := ((s.clearGroup g).rx.get l).relocks } := by
  obtain ⟨l, rfl⟩ | ⟨f, rfl⟩ := group_cases h
  · rw [State.clearGroup_lane, State.groupCounters_lane, State.groupCounters_lane]
    refine ⟨rfl, by simp [laneCounters, State.modRx, Rx.clearCounters], by simp [laneCounters], fun k le ne => ?_, fun k => ?_⟩
    · obtain ⟨k, rfl⟩ | ⟨f, rfl⟩ := group_cases le
      · have other : k ≠ l := fun same => ne (same ▸ rfl)
        rw [State.groupCounters_lane, State.groupCounters_lane]
        simp [State.modRx, other]
      · rw [State.groupCounters_flow, State.groupCounters_flow]
        rfl
    · by_cases same : k = l
      · subst same
        simp [State.modRx, Rx.clearCounters]
      · simp [State.modRx, same]
  · rw [State.clearGroup_flow, State.groupCounters_flow, State.groupCounters_flow]
    refine ⟨rfl, ?_, ?_, fun k le ne => ?_, fun k => rfl⟩
    · cases f <;> simp [flowCounters, FlowCounters.reset]
    · cases f <;> rfl
    · obtain ⟨l, rfl⟩ | ⟨k, rfl⟩ := group_cases le
      · rw [State.groupCounters_lane, State.groupCounters_lane]
      · have other : k ≠ f := fun same => ne (same ▸ rfl)
        rw [State.groupCounters_flow, State.groupCounters_flow, PerFlow.get_set, if_neg other]

theorem beSigned_one (v : Int) : beSigned 1 v = [BitVec.ofInt 8 v] := by
  unfold beSigned
  rw [beBytes_one]
  refine congrArg (fun b => [b]) (BitVec.eq_of_toNat_eq ?_)
  rw [BitVec.toNat_ofNat, BitVec.toNat_ofInt]
  have low : 0 ≤ v % 256 := Int.emod_nonneg v (by decide)
  have high : v % 256 < 256 := Int.emod_lt_of_pos v (by decide)
  norm_num
  omega

/-- The three SUMMARY bytes of a lane (R191). -/
theorem State.laneSummary_eq (s : State) (l : Lane) :
    s.laneSummary l =
      [BitVec.ofNat 8 (RxState.code (s.rx.get l).state), BitVec.ofNat 8 (TxRole.code (s.tx.get l).role),
        match (s.tx.get l).role, (s.tx.get l).quiet, (s.rx.get l).inEffect with
        | .origin, some q, _ => BitVec.ofNat 8 (LaneState.code q.lane)
        | _, _, some x => BitVec.ofNat 8 (LaneState.code x)
        | _, _, none => 4] := by
  unfold State.laneSummary State.effect
  cases (s.tx.get l).role <;> cases (s.tx.get l).quiet <;> cases (s.rx.get l).inEffect <;> simp [beBytes_one]

/-! #### DOMAIN_WANT (R152) -/

theorem wantOf_number (n : Nat) (v : Bool) (d : Domain) : (wantOf n v d).number = d.number :=
  (State.ShedLevelHolds.wantOf_keeps n v d).1

theorem wantOf_priority (n : Nat) (v : Bool) (d : Domain) : (wantOf n v d).priority = d.priority :=
  (State.ShedLevelHolds.wantOf_keeps n v d).2.1

theorem wantOf_on (n : Nat) (v : Bool) (d : Domain) (h : (wantOf n v d).state = .on) : d.state = .on :=
  (State.ShedLevelHolds.wantOf_keeps n v d).2.2.1 h

/-- A write of a wanted flag that changes it, and is none that clears a priority-0 domain's, moves the state (R152, R153). -/
theorem wantOf_eq (n : Nat) (v : Bool) (d : Domain) :
    wantOf n v d =
      if d.number = n ∧ d.wanted ≠ v ∧ (v = true ∨ d.priority ≠ 0) then
        { d with wanted := v, state := if v then (if d.state = .off then .waiting else d.state) else .off }
      else d := by
  unfold wantOf Domain.want
  by_cases number : d.number = n
  · by_cases stands : d.wanted = v ∨ (v = false ∧ d.priority = 0)
    · have writes : ¬(d.number = n ∧ d.wanted ≠ v ∧ (v = true ∨ d.priority ≠ 0)) := by
        rintro ⟨-, differs, writes⟩
        cases v <;> simp_all
      rw [if_pos number, if_pos stands, if_neg writes]
    · have writes : d.number = n ∧ d.wanted ≠ v ∧ (v = true ∨ d.priority ≠ 0) := by
        refine ⟨number, fun same => stands (.inl same), ?_⟩
        cases v <;> simp_all
      rw [if_pos number, if_neg stands, if_pos writes]
  · rw [if_neg number, if_neg fun h => number h.1]

/-- A write of a wanted flag and the units that follow (R152, R57, R132, R135). -/
theorem State.SensorsMatch.want {s : State} (h : s.SensorsMatch) (n : Nat) (v : Bool) :
    (s.want n v).power.domains = s.power.domains.map (wantOf n v) ∧
      (s.want n v).dst = (s.withDomains (wantOf n v)).followDisplay.dst ∧
      (s.want n v).eyes = (s.withDomains (wantOf n v)).followDisplay.eyes ∧
      (s.want n v).audio = (s.withDomains (wantOf n v)).followSource.followSink.audio :=
  h.changed (wantOf_number n v) (wantOf_on n v)

theorem State.wantRefused_iff (s : State) (n v : Byte) :
    s.wantRefused n v = true ↔
      1 < v.toNat ∨ (s.power.domains.find? fun d => d.number == n.toNat) = none ∨
        ∃ d, (s.power.domains.find? fun d => d.number == n.toNat) = some d ∧ d.priority = 0 ∧ v = 0 := by
  unfold State.wantRefused
  cases s.power.domains.find? fun d => d.number == n.toNat with
  | none => simp
  | some d => simp

/-- Settles O49. -/
theorem requestsActAndAnswer : Obligations.RequestsActAndAnswer := by
  unfold Obligations.RequestsActAndAnswer
  intro s live waiting room plus keeps flow
  have served {r : Request} {t : State} {a : List Byte} (spells : parseRequest r.bytes = some r) (acts : s.act 4 r = (t, a))
      (fits : max r.largest a.length ≤ 23) : (.next (s.request r) : Host.Outcome State Fault Refusal) = .next (plus t a) :=
    congrArg Host.Outcome.next (State.request_of_room live waiting spells acts (by omega))
  refine ⟨⟨rfl, rfl, rfl, rfl, rfl, rfl, rfl⟩, fun g low => ?_, fun g high => ?_, fun v => ?_, fun v => ?_, ?_, fun n v => ?_⟩
  · refine ⟨s.clearGroup g.toNat, served (r := .countersTake g) rfl ?_ ?_, s.clearGroup_clears low⟩
    · exact if_pos low
    · have := s.groupCounters_length_le low
      simp only [List.length_append, List.length_cons, List.length_nil, counterBytes_length, Request.largest]
      omega
  · exact served (r := .countersTake g) rfl (if_neg (by omega)) (by simp [Request.largest])
  · by_cases ok : keeps ∧ v.toNat ≤ 14
    · rw [if_pos ok]
      exact served (r := .volume v) rfl (if_pos ok) (by simp [Request.largest])
    · rw [if_neg ok]
      exact served (r := .volume v) rfl (if_neg ok) (by simp [Request.largest])
  · by_cases ok : keeps ∧ v.toNat ≤ 1
    · rw [if_pos ok]
      exact served (r := .micMute v) rfl (if_pos ok) (by simp [Request.largest])
    · rw [if_neg ok]
      exact served (r := .micMute v) rfl (if_neg ok) (by simp [Request.largest])
  · refine served (r := .summary) rfl ?_ ?_
    · simp only [State.act, State.summaryBytes, State.laneSummary_eq, beBytes_one, flagByte_eq, beSigned_one]
      rfl
    · simp [Request.largest]
  · intro entry
    refine ⟨fun refused => ?_, fun d found asked matching => ?_⟩
    · exact served (r := .domainWant n v) rfl (if_pos ((s.wantRefused_iff n v).2 refused)) (by simp [Request.largest])
    · have accepted : ¬s.wantRefused n v = true := by
        rw [s.wantRefused_iff n v]
        rintro (big | missing | ⟨e, same, core, off⟩)
        · obtain rfl | ⟨rfl, -⟩ := asked <;> simp at big
        · rw [show entry = none from missing] at found
          cases found
        · obtain rfl := Option.some.inj (found.symm.trans same)
          obtain rfl | ⟨-, priority⟩ := asked
          · cases off
          · exact priority core
      have matching : s.SensorsMatch := matching
      obtain ⟨domains, dst, eyes, audio⟩ := matching.want n.toNat (v == 1)
      refine ⟨s.calling fun t => t.want n.toNat (v == 1),
        served (r := .domainWant n v) rfl (if_neg accepted) (by simp [Request.largest]), by simp, by simp, by simp, ?_, ?_⟩
      · have after : ({ s with power := { s.power with domains :=
            (s.calling fun t => t.want n.toNat (v == 1)).power.domains } } : State) = s.withDomains (wantOf n.toNat (v == 1)) := by
          rw [State.calling_power]
          dsimp only
          rw [domains]
          rfl
        dsimp only
        rw [after]
        exact ⟨by simpa using dst, by simpa using eyes, by simpa using audio⟩
      · rw [State.calling_power]
        dsimp only
        rw [domains]
        refine List.map_congr_left fun x _ => ?_
        have same : (v == 1) = decide (v = 1) := rfl
        rw [wantOf_eq]
        simp only [same, decide_eq_true_eq]

end Sys2Proof.Machine

namespace Sys2Proof.Machine

/-! ### Table reads (R192) -/

/-- The records that a table code has; none where no table has the code (R192). -/
def tableRecords (t : Nat) : Nat := if t = 0 then 5 else if t = 1 then 6 else if t = 2 ∨ t = 3 then 4 else if t = 4 then 3 else 0

theorem tableSize_eq (t : Nat) : tableSize t = if t ≤ 4 then some (tableRecords t) else none := by
  match t with
  | 0 => rfl
  | 1 => rfl
  | 2 => rfl
  | 3 => rfl
  | 4 => rfl
  | t + 5 =>
    rw [if_neg (by omega)]
    rfl

theorem tableRecords_of_code {t : Nat} (h : ¬t ≤ 4) : tableRecords t = 0 := by
  unfold tableRecords
  repeat rw [if_neg (by omega)]

/-- What a read of up to `most` records answers (R192). -/
def State.readAnswer (s : State) (code : Byte) (most t i : Nat) : List Byte :=
  let k := min most (tableRecords t - i)
  [code, 0, BitVec.ofNat 8 t, BitVec.ofNat 8 i, BitVec.ofNat 8 k] ++ ((List.range k).map fun j => s.tableRecord t (i + j)).flatten

/-- The table cursor set past what was read (R192). -/
def State.cursorTo (s : State) (c : Nat × Nat) : State := { s with service := { s.service with cursor := some c } }

theorem State.readFrom_eq (s : State) (code : Byte) (most t i : Nat) :
    s.readFrom code most t i (tableRecords t) =
      (s.cursorTo (t, i + min most (tableRecords t - i)), s.readAnswer code most t i) := by
  unfold State.readFrom State.readAnswer
  simp only [beBytes_one]
  rfl

/-- TABLE_READ (R192). -/
theorem State.tableRead_eq (s : State) (most : Nat) (t i : Byte) :
    s.tableRead most t i =
      if i.toNat < tableRecords t.toNat then
        (s.cursorTo (t.toNat, i.toNat + min most (tableRecords t.toNat - i.toNat)), s.readAnswer 0x12 most t.toNat i.toNat)
      else (s, [0x12, 3]) := by
  unfold State.tableRead
  rw [tableSize_eq]
  by_cases known : t.toNat ≤ 4
  · rw [if_pos known]
    dsimp only
    split
    · exact s.readFrom_eq _ _ _ _
    · rfl
  · rw [if_neg known, tableRecords_of_code known, if_neg (Nat.not_lt_zero _)]
    rfl

/-- TABLE_NEXT from a cursor (R192). -/
theorem State.tableNext_eq {s : State} {t i : Nat} (most : Nat) (cursor : s.service.cursor = some (t, i)) (known : t ≤ 4) :
    s.tableNext most =
      if i < tableRecords t then (s.cursorTo (t, i + min most (tableRecords t - i)), s.readAnswer 0x13 most t i)
      else (s, [0x13, 1]) := by
  unfold State.tableNext
  rw [cursor]
  dsimp only
  rw [tableSize_eq, if_pos known]
  dsimp only
  split
  · exact s.readFrom_eq _ _ _ _
  · rfl

theorem State.tableNext_of_none {s : State} (most : Nat) (cursor : s.service.cursor = none) :
    s.tableNext most = (s, [0x13, 3]) := by
  unfold State.tableNext
  rw [cursor]
  rfl

/-! #### The length of a record -/

@[simp] theorem beBytes_length_simp (n v : Nat) : (beBytes n v).length = n := beBytes_length n v

@[simp] theorem flagByte_length (b : Bool) : (flagByte b).length = 1 := rfl

@[simp] theorem optBytes_length (n : Nat) (v : Option Nat) : (optBytes n v).length = n + 1 := by
  cases v <;> simp [optBytes]

@[simp] theorem itemIf_length (here : Bool) (n v : Nat) : (itemIf here n v).length = n + 1 := optBytes_length n _

@[simp] theorem seenItems_length (v : Option ProbeSeen) : (seenItems v).length = 12 := by
  match v with
  | none => rfl
  | some ⟨number, ar, fill, none⟩ => simp [seenItems]
  | some ⟨number, ar, fill, some r⟩ => simp [seenItems]

@[simp] theorem eyeItems_length (x : EyeDst) : (eyeItems x).length = 28 := by simp [eyeItems]

@[simp] theorem dstItems_length (d : DstRec) : (dstItems d).length = 3 := by simp [dstItems]

@[simp] theorem State.pacedItems_length (s : State) (e : Eye) : (s.pacedItems e).length = 25 := by simp [State.pacedItems]

theorem State.flowRecord_length_le (s : State) (f : FlowId) : (s.flowRecord f).length ≤ 48 := by
  unfold State.flowRecord
  split
  · cases f <;> simp [State.sourceItems]
  · split
    · cases f <;> simp [State.destItems]
    · simp

theorem State.domainRecord_length_le (s : State) (n : Nat) : (s.domainRecord n).length ≤ 48 := by
  unfold State.domainRecord
  split <;> simp

theorem State.viewRecord_length (s : State) (t : Station) : (s.viewRecord t).length = 48 := by simp [State.viewRecord]

theorem State.stationRecord_length_le (s : State) (t : Station) : (s.stationRecord t).length ≤ 48 := by
  simp [State.stationRecord]

theorem State.audioStationRecord_length_le (s : State) : s.audioStationRecord.length ≤ 48 := by
  simp [State.audioStationRecord]

theorem State.audioFlowRecord_length_le (s : State) (f : FlowId) : (s.audioFlowRecord f).length ≤ 48 := by
  unfold State.audioFlowRecord
  dsimp only
  split
  · simp
  · split <;> simp

/-- No record is longer than 48 bytes (R192). -/
theorem State.tableRecord_length_le (s : State) (t i : Nat) : (s.tableRecord t i).length ≤ 48 := by
  unfold State.tableRecord
  split
  · exact s.flowRecord_length_le _
  · exact s.domainRecord_length_le _
  · exact s.viewRecord_length _ |>.le
  · exact s.stationRecord_length_le _
  · split
    · exact s.audioStationRecord_length_le
    · exact s.audioFlowRecord_length_le _

/-- Records of at most 48 bytes, one after another. -/
theorem flatten_length_le {ls : List (List Byte)} (h : ∀ l ∈ ls, l.length ≤ 48) : ls.flatten.length ≤ 48 * ls.length := by
  induction ls with
  | nil => simp
  | cons l ls ih =>
    rw [List.forall_mem_cons] at h
    have := ih h.2
    rw [List.flatten_cons, List.length_append, List.length_cons]
    omega

theorem State.readAnswer_length_le (s : State) (code : Byte) (most t i : Nat) :
    (s.readAnswer code most t i).length ≤ 5 + 48 * most := by
  have records := flatten_length_le (ls := (List.range (min most (tableRecords t - i))).map fun j => s.tableRecord t (i + j))
    (by
      intro l mem
      obtain ⟨j, -, rfl⟩ := List.mem_map.1 mem
      exact s.tableRecord_length_le t (i + j))
  unfold State.readAnswer
  simp only [List.length_append, List.length_cons, List.length_nil, List.length_map, List.length_range] at records ⊢
  omega

/-! #### The items of a record -/

theorem State.holdsFlowSource_audio (s : State) {f : FlowId} (h : f ∈ [FlowId.audioOut, .audioIn]) :
    s.holdsFlowSource f = true ↔
      if f = .audioOut then s.station = .console else s.station ≠ .console ∧ s.audioStation = s.station := by
  have flow : ∀ x : Station, sourceFlow x = if x = .console then .audioOut else .audioIn := fun x => by
    cases x <;> rfl
  simp only [List.mem_cons, List.not_mem_nil, or_false] at h
  obtain rfl | rfl := h
  · by_cases console : s.station = .console <;> simp [State.holdsFlowSource, State.holdsSource, flow, console]
  · by_cases console : s.station = .console <;>
      simp [State.holdsFlowSource, State.holdsSource, State.isAudio, flow, console]

/-- The channel count at the end of an AUDIO record of a flow (log 54). -/
theorem channels_eq (s : State) (f : FlowId) :
    beBytes 1 (if f = .audioOut then 1 + bit s.cfg.twoOut else 1 + bit s.cfg.twoIn) =
      [if (if f = .audioOut then s.cfg.twoOut else s.cfg.twoIn) then 2 else 1] := by
  rw [beBytes_one]
  split
  · cases s.cfg.twoOut <;> rfl
  · cases s.cfg.twoIn <;> rfl

/-- Settles O50. -/
theorem tableReadsFollowTheCursor : Obligations.TableReadsFollowTheCursor := by
  unfold Obligations.TableReadsFollowTheCursor
  intro s size plus read
  refine ⟨fun live waiting room => ⟨fun t i => ?_, fun none => ?_, fun t i cursor known => ?_⟩, s.tableRecord_length_le, ?_⟩
  · have longest := s.readAnswer_length_le 0x12 4 t.toNat i.toNat
    show Host.Outcome.next (s.request (.tableRead t i)) = _
    have acts : s.act 4 (.tableRead t i) = _ := s.tableRead_eq 4 t i
    by_cases inside : i.toNat < tableRecords t.toNat
    · rw [if_pos (show i.toNat < size t.toNat from inside)]
      rw [if_pos inside] at acts
      refine congrArg _ (State.request_of_room live waiting rfl acts ?_)
      show s.service.answers.length + max 197 (s.readAnswer 0x12 4 t.toNat i.toNat).length ≤ 512
      omega
    · rw [if_neg (show ¬i.toNat < size t.toNat from inside)]
      rw [if_neg inside] at acts
      exact congrArg _ (State.request_of_room live waiting rfl acts (by simp [Request.largest]; omega))
  · exact congrArg Host.Outcome.next
      (State.request_of_room (r := .tableNext) live waiting rfl (State.tableNext_of_none 4 none) (by simp [Request.largest]; omega))
  · have longest := s.readAnswer_length_le 0x13 4 t i
    show Host.Outcome.next (s.request .tableNext) = _
    have acts : s.act 4 .tableNext = _ := State.tableNext_eq 4 cursor known
    by_cases inside : i < tableRecords t
    · rw [if_pos (show i < size t from inside)]
      rw [if_pos inside] at acts
      refine congrArg _ (State.request_of_room live waiting rfl acts ?_)
      show s.service.answers.length + max 197 (s.readAnswer 0x13 4 t i).length ≤ 512
      omega
    · rw [if_neg (show ¬i < size t from inside)]
      rw [if_neg inside] at acts
      exact congrArg _ (State.request_of_room live waiting rfl acts (by simp [Request.largest]; omega))
  · intro n flag opt here num
    have flags : flag = flagByte := funext fun b => (flagByte_eq b).symm
    have opts : opt = optBytes := funext fun k => funext fun v => by cases v <;> rfl
    have heres : here = itemIf := by
      funext b k v
      show opt k _ = optBytes k _
      rw [opts]
    have nums : num = bit := rfl
    clear_value flag opt here num
    subst flags opts heres nums
    refine ⟨fun e => ?_, ?_, fun f audio => ?_, rfl, fun i => rfl, fun x => ?_⟩
    · intro record p h x b
      have isRecord : record = s.flowRecord (Eye.flow e) := by cases e <;> rfl
      have source : s.holdsFlowSource (Eye.flow e) = decide (s.station = .console) := by cases e <;> rfl
      have sends : s.sourceItems (Eye.flow e) = s.pacedItems e := by cases e <;> rfl
      have receives (d : DstRec) : s.destItems (Eye.flow e) d = dstItems d ++ eyeItems x := by cases e <;> rfl
      rw [isRecord, State.flowRecord, source, sends]
      refine ⟨fun console => ?_, fun away none => ?_, fun away d holds => ?_⟩
      · rw [if_pos (decide_eq_true console)]
        rfl
      · rw [if_neg (by simpa using away), none]
      · rw [if_neg (by simpa using away), holds]
        show 1 :: s.destItems (Eye.flow e) d = _
        rw [receives]
        simp only [dstItems, eyeItems, seenItems, List.append_assoc]
        rfl
    · show s.flowRecord .motion = _
      dsimp only
      rw [State.flowRecord, show s.holdsFlowSource .motion = decide (s.station = .headset) from rfl]
      by_cases headset : s.station = .headset
      · rw [if_pos (decide_eq_true headset), if_pos headset]
        rfl
      · rw [if_neg (by simpa using headset), if_neg headset]
        cases s.dst.get .motion with
        | none => rfl
        | some d =>
          simp only [State.destItems, dstItems, List.append_assoc]
          rfl
    · intro sourced k v channels
      have flow : s.tableRecord 0 f.num = s.flowRecord f := by
        simp only [List.mem_cons, List.not_mem_nil, or_false] at audio
        obtain rfl | rfl := audio <;> rfl
      have port : s.tableRecord 4 (f.num - 2) = s.audioFlowRecord f := by
        simp only [List.mem_cons, List.not_mem_nil, or_false] at audio
        obtain rfl | rfl := audio <;> rfl
      have sends : s.sourceItems f = flagByte k.opened ++ beBytes 1 (s.seqs.get f).toNat := by
        simp only [List.mem_cons, List.not_mem_nil, or_false] at audio
        obtain rfl | rfl := audio <;> rfl
      have receives (d : DstRec) : s.destItems f d = dstItems d := by
        simp only [List.mem_cons, List.not_mem_nil, or_false] at audio
        obtain rfl | rfl := audio <;> exact List.append_nil _
      have holds : s.holdsFlowSource f = true ↔ sourced := s.holdsFlowSource_audio audio
      rw [flow, port, State.flowRecord, State.audioFlowRecord]
      rw [channels_eq, sends]
      refine ⟨fun yes => ?_, fun no none => ?_, fun no d some => ?_⟩
      · rw [if_pos (holds.2 yes), if_pos (holds.2 yes)]
        exact ⟨rfl, by simp only [List.append_assoc]; rfl⟩
      · rw [if_neg fun h => no (holds.1 h), if_neg fun h => no (holds.1 h), none, if_neg (by simp)]
        exact ⟨rfl, rfl⟩
      · rw [if_neg fun h => no (holds.1 h), if_neg fun h => no (holds.1 h), some, if_pos (by simp)]
        dsimp only
        rw [receives]
        exact ⟨rfl, rfl⟩
    · intro own con v r p b e far away
      have which : stationOf x.num = x := stationOf_num x
      refine ⟨?_, ?_⟩
      · show s.viewRecord (stationOf x.num) = _
        rw [which]
        rfl
      · show s.stationRecord (stationOf x.num) = _
        rw [which]
        rfl

end Sys2Proof.Machine

namespace Sys2Proof.Machine

/-! ### What a request does apart from the service line itself (R194) -/

/-- The state with the parser and the answer FIFO of its own line replaced. -/
def State.online (s : State) (p : Parser) (q : List Byte) : State :=
  { s with service := { s.service with parser := p, answers := q } }

section Online

variable (s : State) (p : Parser) (q : List Byte)

theorem State.online_ite {c : Prop} [Decidable c] (a b : State) :
    (if c then a else b).online p q = if c then a.online p q else b.online p q :=
  apply_ite (fun t => State.online t p q) c a b

theorem State.post_online (k : NoticeKind) (x : Subject) (n : Nat) : (s.online p q).post k x n = (s.post k x n).online p q := by
  unfold State.post
  rw [State.online_ite]
  rfl

theorem State.postDomains_online (a b : List Domain) : (s.online p q).postDomains a b = (s.postDomains a b).online p q := by
  induction a generalizing b s with
  | nil => rfl
  | cons x a ih =>
    cases b with
    | nil => rfl
    | cons y b =>
      unfold State.postDomains
      rw [← ih, State.post_online, State.online_ite]

theorem State.changeDomains_online (f : Domain → Domain) :
    (s.online p q).changeDomains f = (s.changeDomains f).online p q :=
  State.postDomains_online { s with power := { s.power with domains := s.power.domains.map f } } p q _ _

theorem State.followEye_online (e : Eye) : (s.online p q).followEye e = (s.followEye e).online p q := by
  unfold State.followEye
  rw [show (s.online p q).dst = s.dst from rfl]
  split
  · rw [State.online_ite]
    rfl
  · rw [State.online_ite]
    rfl
  · rfl

theorem State.followDisplay_online : (s.online p q).followDisplay = s.followDisplay.online p q := by
  unfold State.followDisplay
  rw [State.online_ite, ← State.followEye_online, ← State.followEye_online]
  rfl

theorem State.wearLink_online (v : Bool) : (s.online p q).wearLink v = (s.wearLink v).online p q := by
  unfold State.wearLink
  rw [State.online_ite, ← State.followDisplay_online, ← State.changeDomains_online]
  rfl

theorem State.motionTo_online (f : Motion → Motion) : (s.online p q).motionTo f = (s.motionTo f).online p q :=
  State.post_online { s with motion := f s.motion } p q _ _ _

theorem State.followSensors_online : (s.online p q).followSensors = s.followSensors.online p q := by
  unfold State.followSensors
  simp only [State.online_ite, ← State.wearLink_online, ← State.motionTo_online]
  rfl

theorem State.followSource_online : (s.online p q).followSource = s.followSource.online p q := by
  unfold State.followSource
  rw [State.online_ite]
  rfl

theorem State.followSink_online : (s.online p q).followSink = s.followSink.online p q := by
  unfold State.followSink
  simp only [State.online_ite]
  rfl

theorem State.lowerLevel_online : (s.online p q).lowerLevel = s.lowerLevel.online p q := by
  unfold State.lowerLevel
  rw [State.online_ite, ← State.post_online]
  rfl

theorem State.followOffer_online : (s.online p q).followOffer = s.followOffer.online p q := by
  unfold State.followOffer
  rw [State.online_ite, ← State.lowerLevel_online]
  rfl

theorem State.want_online (n : Nat) (v : Bool) : (s.online p q).want n v = (s.want n v).online p q := by
  unfold State.want State.follow
  rw [State.changeDomains_online, State.followSensors_online, State.followDisplay_online, State.followSource_online,
    State.followSink_online, State.followOffer_online]

theorem State.buildReport_online : (s.online p q).buildReport = s.buildReport.online p q := rfl

theorem State.reportTests_online (n k : Nat) : State.reportTests n k (s.online p q) = (State.reportTests n k s).online p q := by
  induction n generalizing k s with
  | zero => rfl
  | succ n ih =>
    cases k with
    | zero => rfl
    | succ k =>
      unfold State.reportTests
      rw [State.online_ite, ← ih]
      rfl

theorem State.callEvents_online (n : Nat) : State.callEvents n (s.online p q) = (State.callEvents n s).online p q := by
  induction n generalizing s with
  | zero => rfl
  | succ n ih =>
    unfold State.callEvents State.callEvent State.reportTest
    rw [← ih, ← State.reportTests_online]
    rfl

theorem State.calling_online {f : State → State} (h : f (s.online p q) = (f s).online p q) :
    (s.online p q).calling f = (s.calling f).online p q := by
  unfold State.calling State.callOnChange
  rw [h, ← State.callEvents_online]
  rfl

/-- A domain's want does not look at the service line. -/
theorem State.callingWant_online (n : Nat) (v : Bool) :
    ((s.online p q).calling fun t => t.want n v) = (s.calling fun t => t.want n v).online p q :=
  State.calling_online s p q (State.want_online s p q n v)

end Online

/-- What acts on the station, and is no read of a table. -/
def Request.acts : Request → Bool
  | .tableRead _ _ | .tableNext => false
  | _ => true

theorem State.startRelay_online (s : State) (p : Parser) (q : List Byte) (x : Station) (inner : List Byte) :
    (s.online p q).startRelay x inner = (s.startRelay x inner).online p q := by
  unfold State.startRelay State.offerTo
  show (match laneTo s.station x with | some l => _ | none => _) =
    State.online (match laneTo s.station x with | some l => _ | none => _) p q
  cases laneTo s.station x <;> rfl

/-- A request that reads no table does not look at the service line it came by (R194). -/
theorem State.act_online (s : State) (p : Parser) (q : List Byte) (m k : Nat) {r : Request} (h : r.acts = true) :
    (s.online p q).act m r = ((s.act k r).1.online p q, (s.act k r).2) := by
  have both {c : Prop} [Decidable c] (a b : State × List Byte) :
      ((if c then a else b).1.online p q, (if c then a else b).2) = if c then (a.1.online p q, a.2) else (b.1.online p q, b.2) := by
    split <;> rfl
  cases r with
  | tableRead t i => cases h
  | tableNext => cases h
  | noticeTake =>
    show (s.online p q).noticeTake = (s.noticeTake.1.online p q, s.noticeTake.2)
    unfold State.noticeTake
    rw [show (s.online p q).notices = s.notices from rfl]
    cases s.notices <;> rfl
  | countersTake g =>
    show (s.online p q).countersTake g = ((s.countersTake g).1.online p q, (s.countersTake g).2)
    unfold State.countersTake
    by_cases low : g.toNat ≤ 6
    · rw [if_pos low, if_pos low]
      obtain ⟨l, group⟩ | ⟨f, group⟩ := group_cases low
      · rw [group, State.clearGroup_lane, State.clearGroup_lane]
        cases l <;> rfl
      · rw [group, State.clearGroup_flow, State.clearGroup_flow]
        cases f <;> rfl
    · rw [if_neg low, if_neg low]
  | domainWant d v =>
    show (s.online p q).domainWant d v = ((s.domainWant d v).1.online p q, (s.domainWant d v).2)
    unfold State.domainWant
    rw [both, State.callingWant_online]
    rfl
  | volume v =>
    show (s.online p q).volumeRequest v = ((s.volumeRequest v).1.online p q, (s.volumeRequest v).2)
    unfold State.volumeRequest
    rw [both]
    rfl
  | micMute v =>
    show (s.online p q).muteRequest v = ((s.muteRequest v).1.online p q, (s.muteRequest v).2)
    unfold State.muteRequest
    rw [both]
    rfl
  | summary => rfl
  | relay st inner =>
    show (s.online p q).relayRequest st inner = ((s.relayRequest st inner).1.online p q, (s.relayRequest st inner).2)
    unfold State.relayRequest
    rw [show (s.online p q).relayJudgement st inner = s.relayJudgement st inner from rfl]
    cases s.relayJudgement st inner with
    | some b => rfl
    | none =>
      show ((s.online p q).startRelay _ _, _) = _
      rw [State.startRelay_online]
  | relayTake =>
    show (s.online p q).relayTake = (s.relayTake.1.online p q, s.relayTake.2)
    unfold State.relayTake
    dsimp only
    rw [both]
    rfl

/-- Acting on a request leaves the parser. -/
theorem State.Served.parser {s t : State} (h : s.Served t) : t.service.parser = s.service.parser := by
  cases h with
  | want n v => simp
  | relay t inner => simp [State.startRelay, State.modHolder, State.modService]
  | _ => rfl

/-- Acting on a request leaves the station. -/
theorem State.Served.station {s t : State} (h : s.Served t) : t.station = s.station := by
  cases h with
  | want n v => simp
  | relay t inner => simp [State.startRelay]
  | _ => rfl

theorem State.online_self (s : State) : s.online s.service.parser s.service.answers = s := rfl

/-- A relayed request that reads no table acts as its command does at a waiting parser with an empty answer FIFO (R194). -/
theorem State.act_as_command {s : State} {r : Request} {x : Instr} (live : s.live) (acts : r.acts = true)
    (spells : parseRequest r.bytes = some r) (command : ∀ t, exec x t = .next (t.request r))
    (fits : (s.act 1 r).2.length ≤ 512) :
    ∃ u, exec x (s.online .waiting []) = .next u ∧
      s.act 1 r = (u.online s.service.parser s.service.answers, u.service.answers) := by
  have served := s.act_served 1 r
  have largest : r.largest ≤ 512 := by cases r <;> simp [Request.largest]
  have room : ([] : List Byte).length + max r.largest (s.act 1 r).2.length ≤ 512 := by simpa using ⟨largest, fits⟩
  have line := s.act_online .waiting [] 4 1 acts
  refine ⟨_, (command _).trans (congrArg _ (State.request_of_room (s := s.online .waiting []) live rfl spells line room)), ?_⟩
  have same : ((s.act 1 r).1.online .waiting []).plus (s.act 1 r).2 = (s.act 1 r).1.online .waiting (s.act 1 r).2 := rfl
  rw [same]
  show s.act 1 r = ((s.act 1 r).1.online s.service.parser s.service.answers, (s.act 1 r).2)
  rw [← served.parser, ← served.answers, State.online_self]

/-- Only a RELAY is answered BUSY (R190, R194). -/
theorem State.act_not_busy (s : State) (most : Nat) {r : Request} (h : r.code ≠ 0x18) : (s.act most r).2[1]? ≠ some 2 := by
  cases r with
  | noticeTake =>
    show s.noticeTake.2[1]? ≠ _
    unfold State.noticeTake
    split <;> simp [resOk, resEmpty]
  | countersTake g =>
    show (s.countersTake g).2[1]? ≠ _
    unfold State.countersTake
    split <;> simp [resOk, resBad]
  | tableRead t i =>
    show (s.tableRead most t i).2[1]? ≠ _
    rw [State.tableRead_eq]
    split <;> simp [State.readAnswer]
  | tableNext =>
    show (s.tableNext most).2[1]? ≠ _
    unfold State.tableNext State.readFrom
    split
    · simp [resBad]
    · split
      · split <;> simp [resOk, resEmpty]
      · simp [resBad]
  | domainWant d v =>
    show (s.domainWant d v).2[1]? ≠ _
    unfold State.domainWant
    split <;> simp [resOk, resBad]
  | volume v =>
    show (s.volumeRequest v).2[1]? ≠ _
    unfold State.volumeRequest
    split <;> simp [resOk, resBad]
  | micMute v =>
    show (s.muteRequest v).2[1]? ≠ _
    unfold State.muteRequest
    split <;> simp [resOk, resBad]
  | summary => simp [State.act, resOk]
  | relay st inner => exact absurd rfl h
  | relayTake =>
    show s.relayTake.2[1]? ≠ _
    unfold State.relayTake
    dsimp only
    split <;> simp [resOk, resEmpty]

end Sys2Proof.Machine

namespace Sys2Proof.Machine

/-! ### The parts of an answer (R194) -/

/-- Cells that join a FIFO one after another (R41). -/
def Tx.joinedAll (t : Tx) (cs : List Ctl) : Tx := cs.foldl Tx.joined t

theorem Tx.joinedAll_keeps (t : Tx) (cs : List Ctl) : t.joinedAll cs = { t with fifo := (t.joinedAll cs).fifo } := by
  induction cs generalizing t with
  | nil => rfl
  | cons c cs ih => exact ih (t.joined c)

/-- The cells of an answer's parts, from index `i` of `n` (R194). -/
def answerCells (x : Station) (tag : Num8) (n : Nat) : Nat → List (List Byte) → List Ctl
  | _, [] => []
  | i, part :: rest => .relay x true i tag n part :: answerCells x tag n (i + 1) rest

/-- The parts of an answer for another station join the FIFO of the lane toward it, in index order (R194). -/
theorem State.offerParts_eq {x : Station} {tag : Num8} {n : Nat} (parts : List (List Byte)) :
    ∀ (s : State) (i : Nat), x ≠ s.station →
      s.offerParts x tag n i parts = s.modTx (laneToward s.station x) fun t => t.joinedAll (answerCells x tag n i parts) := by
  induction parts with
  | nil =>
    intro s i _
    show s = _
    simp [State.modTx, answerCells, Tx.joinedAll]
  | cons part parts ih =>
    intro s i away
    have notPower (r : Report) (k : Nat) : Ctl.relay x true i tag n part ≠ .power r k := nofun
    unfold State.offerParts
    rw [State.offerTo_of_ne away, State.offer_of_not_power _ _ notPower]
    rw [ih (s.modTx _ _) _ away]
    simp [State.modTx, answerCells, Tx.joinedAll, Tx.joined]

/-- An answer of up to 28 bytes is one part (R194). -/
theorem answerParts_one {bs : List Byte} (some : 1 ≤ bs.length) (short : bs.length ≤ 28) : answerParts bs = [bs] := by
  have one : ceilDiv bs.length 28 = 1 := by
    unfold ceilDiv
    omega
  rw [answerParts, one, partsOf, partsOf, List.take_of_length_le short]

/-- An answer of 29 to 56 bytes is two parts (R194). -/
theorem answerParts_two {bs : List Byte} (long : 29 ≤ bs.length) (short : bs.length ≤ 56) :
    answerParts bs = [bs.take 28, bs.drop 28] := by
  have two : ceilDiv bs.length 28 = 2 := by
    unfold ceilDiv
    omega
  rw [answerParts, two, partsOf, partsOf, partsOf, List.take_of_length_le (l := bs.drop 28) (by rw [List.length_drop]; omega)]

/-! ### The answer assembled (R195) -/

/-- The part of an index among parts. -/
def partAt (parts : List (Nat × List Byte)) (i : Nat) : Option (List Byte) := (parts.find? fun p => p.1 == i).map (·.2)

theorem partAt_storePart (j : Nat) (b : List Byte) (parts : List (Nat × List Byte)) (i : Nat) :
    partAt (storePart j b parts) i = if i = j then some b else partAt parts i := by
  unfold partAt storePart
  by_cases same : i = j
  · rw [if_pos same, List.find?_cons_of_pos (by simp [same])]
    rfl
  · rw [if_neg same, List.find?_cons_of_neg (by simpa using Ne.symm same), List.find?_filter]
    congr 2
    funext p
    by_cases here : p.1 = i
    · simp [here, same]
    · simp [here]

/-- With all parts held the answer is their bytes in index order (R195). -/
theorem assemble_eq_some (parts : List (Nat × List Byte)) (n : Nat) (all : ∀ i, i < n → (partAt parts i).isSome = true) :
    assemble parts n = some ((List.range n).map fun i => (partAt parts i).getD []).flatten := by
  induction n with
  | zero => rfl
  | succ n ih =>
    obtain ⟨bs, last⟩ := Option.isSome_iff_exists.1 (all n n.lt_succ_self)
    obtain ⟨p, found, rfl⟩ := Option.map_eq_some_iff.1 last
    unfold assemble
    rw [ih fun i lt => all i (lt.trans n.lt_succ_self), found, List.range_succ, List.map_append, List.flatten_append]
    simp [last]

/-- With a part missing there is no answer yet (R195). -/
theorem assemble_eq_none (parts : List (Nat × List Byte)) (n : Nat) (missing : ∃ i, i < n ∧ partAt parts i = none) :
    assemble parts n = none := by
  induction n with
  | zero =>
    obtain ⟨i, lt, -⟩ := missing
    cases lt
  | succ n ih =>
    unfold assemble
    obtain ⟨i, lt, none⟩ := missing
    obtain lt | rfl := Nat.lt_succ_iff_lt_or_eq.1 lt
    · rw [ih ⟨i, lt, none⟩]
    · rw [Option.map_eq_none_iff.1 none]
      cases assemble parts i <;> rfl

/-! ### RELAY cells taken -/

theorem addressed_of_own {own : Station} {c : Cell} (h : c.dst = .to own) : addressed own c = true := by
  simp [addressed, h]

theorem Holder.matching_iff (h : Holder) (x : Station) (r : RelayCell) :
    h.matching x r = true ↔
      h.state = .outstanding ∧ x = h.target ∧ r.tag = h.tag ∧ (h.count = none ∨ h.count = some r.count) := by
  unfold Holder.matching
  cases h.count <;> simp [and_assoc]

/-- The last part makes the holder READY with the answer (R195). -/
theorem State.storeAnswer_of_whole {s : State} {r : RelayCell} {a : List Byte}
    (h : assemble (storePart r.index r.bytes s.service.holder.parts) r.count = some a) :
    s.storeAnswer r =
      (s.modHolder fun h => { h with state := .ready, wait := 0, count := none, parts := [], answer := a }).post .relayReady
        .relay s.service.holder.noticeValue := by
  unfold State.storeAnswer
  dsimp only
  rw [h]

/-- A part with others still to come is stored (R195). -/
theorem State.storeAnswer_of_missing {s : State} {r : RelayCell}
    (h : assemble (storePart r.index r.bytes s.service.holder.parts) r.count = none) :
    s.storeAnswer r =
      s.modHolder fun h =>
        { h with count := some r.count, parts := storePart r.index r.bytes s.service.holder.parts } := by
  unfold State.storeAnswer
  dsimp only
  rw [h]

theorem State.storeAnswer_answers (s : State) (r : RelayCell) : (s.storeAnswer r).service.answers = s.service.answers := by
  cases h : assemble (storePart r.index r.bytes s.service.holder.parts) r.count with
  | some a =>
    rw [State.storeAnswer_of_whole h]
    simp [State.modHolder, State.modService]
  | none =>
    rw [State.storeAnswer_of_missing h]
    rfl

theorem State.actRelayed_served (s : State) (bs : List Byte) : s.Served (s.actRelayed bs).1 := by
  unfold State.actRelayed
  split
  · exact s.act_served 1 _
  · exact .same

/-- A relayed request acts, and its answer's parts join the FIFO toward its source (R194). -/
theorem State.answerRelay_eq {s : State} {x : Station} (away : x ≠ s.station) (tag : Num8) (bs : List Byte) :
    s.answerRelay x tag bs =
      (s.actRelayed bs).1.modTx (laneToward s.station x) fun t =>
        t.joinedAll (answerCells x tag (answerParts (s.actRelayed bs).2).length 0 (answerParts (s.actRelayed bs).2)) := by
  have station := (s.actRelayed_served bs).station
  unfold State.answerRelay
  dsimp only
  rw [State.offerParts_eq _ _ _ (by rw [station]; exact away), station]

/-- A relayed request that reads no table acts as its command does (R194). -/
theorem State.actRelayed_as_command {s : State} {bs : List Byte} (q : Request) {x : Instr} (live : s.live) (bytes : bs = q.bytes)
    (acts : q.acts = true) (spells : parseRequest q.bytes = some q) (command : ∀ t, exec x t = .next (t.request q))
    (fits : (s.act 1 q).2.length ≤ 512) :
    ∃ u, exec x (s.online .waiting []) = .next u ∧
      s.actRelayed bs = (u.online s.service.parser s.service.answers, u.service.answers) := by
  subst bytes
  unfold State.actRelayed
  rw [spells]
  exact State.act_as_command live acts spells command fits

/-- No answer but a table's and a relay's is longer than 23 bytes (R191). -/
theorem State.act_length_le (s : State) (m : Nat) {r : Request} (h : r.acts = true) (other : r ≠ .relayTake) :
    (s.act m r).2.length ≤ 23 := by
  cases r with
  | noticeTake =>
    show s.noticeTake.2.length ≤ 23
    unfold State.noticeTake
    split <;> simp [noticeBytes_eq]
  | countersTake g =>
    show (s.countersTake g).2.length ≤ 23
    unfold State.countersTake
    split
    · have := s.groupCounters_length_le ‹g.toNat ≤ 6›
      simp only [List.length_append, List.length_cons, List.length_nil, counterBytes_length]
      omega
    · simp
  | tableRead t i => cases h
  | tableNext => cases h
  | domainWant d v =>
    show (s.domainWant d v).2.length ≤ 23
    unfold State.domainWant
    split <;> simp
  | volume v =>
    show (s.volumeRequest v).2.length ≤ 23
    unfold State.volumeRequest
    split <;> simp
  | micMute v =>
    show (s.muteRequest v).2.length ≤ 23
    unfold State.muteRequest
    split <;> simp
  | summary => simp [State.act, State.summaryBytes, State.laneSummary, beSigned]
  | relay st inner =>
    show (s.relayRequest st inner).2.length ≤ 23
    unfold State.relayRequest
    split <;> simp
  | relayTake => exact absurd rfl other

theorem State.relayTake_length_le (s : State) : s.relayTake.2.length ≤ 3 + s.service.holder.answer.length := by
  unfold State.relayTake
  dsimp only
  split
  · simp only [List.length_append, List.length_cons, List.length_nil, beBytes_length]
    omega
  · exact Nat.le_trans (by simp) (Nat.le_add_right 3 _)

/-- A request begins with its code (R189). -/
theorem code_of_parse {bs : List Byte} {q : Request} (h : parseRequest bs = some q) : bs.head? = some q.code := by
  unfold parseRequest at h
  split at h
  · cases h
  · split at h
    · split_ifs at h <;> cases h <;> simp_all [Request.code]
    · split_ifs at h <;> cases h <;> simp_all [Request.code]
    · cases h

/-- A relayed read of one record (R192, R194). -/
theorem State.readAnswer_one (s : State) (code : Byte) {t i : Nat} (h : i < tableRecords t) :
    s.readAnswer code 1 t i = [code, 0, BitVec.ofNat 8 t, BitVec.ofNat 8 i, 1] ++ s.tableRecord t i := by
  have one : min 1 (tableRecords t - i) = 1 := by omega
  simp [State.readAnswer, one]

/-- Settles O53. -/
theorem relayCellsAreAnsweredAndAssembled : Obligations.RelayCellsAreAnsweredAndAssembled := by
  unfold Obligations.RelayCellsAreAnsweredAndAssembled
  intro l c r s running head kind dst src reads
  have here : (s.taken l c).running ∧ c.kind = .relay ∧ addressed (s.taken l c).station c = true :=
    ⟨running, kind, addressed_of_own dst⟩
  have request : exec (.relayRequestTaken l c) s =
      .next (if r.answer = false ∧ r.count = 1 ∧ r.index = 0 then (s.taken l c).answerRelay c.src r.tag r.bytes
        else s.taken l c) := by
    show execRelayRequestTaken l c s = _
    unfold execRelayRequestTaken
    rw [State.take_of_head? head, if_pos here, reads]
  have answer : exec (.relayAnswerTaken l c) s =
      .next (if r.answer = true ∧ s.service.holder.matching c.src r = true then (s.taken l c).storeAnswer r
        else s.taken l c) := by
    show execRelayAnswerTaken l c s = _
    unfold execRelayAnswerTaken
    rw [State.take_of_head? head, if_pos here, reads]
    rfl
  refine ⟨fun isRequest one first => ?_, fun isRequest other => ?_, fun isAnswer => ?_⟩
  · intro held a k part push acts size read
    have served : held.Served a.1 := held.actRelayed_served r.bytes
    have live : held.live := .inr running
    have as_command (q : Request) {x : Instr} (bytes : r.bytes = q.bytes) (spells : parseRequest q.bytes = some q)
        (isAct : q.acts = true) (other : q ≠ .relayTake) (command : ∀ t, exec x t = .next (t.request q)) : acts x :=
      State.actRelayed_as_command q live bytes isAct spells command ((held.act_length_le 1 isAct other).trans (by decide))
    have spelled (q : Request) (bytes : r.bytes = q.bytes) (spells : parseRequest q.bytes = some q) : a = held.act 1 q := by
      show held.actRelayed r.bytes = _
      unfold State.actRelayed
      rw [bytes, spells]
    rw [request, if_pos ⟨isRequest, one, first⟩]
    refine ⟨_, rfl, ?_⟩
    rw [State.answerRelay_eq (s := s.taken l c) src]
    have lane : laneToward (s.taken l c).station c.src = k := rfl
    rw [lane]
    refine ⟨rfl, fun j other => ?_, ?_, served.answers, served.parser, fun some short => ?_, fun long short => ?_,
      fun bytes => as_command .noticeTake bytes rfl rfl nofun fun _ => rfl,
      fun g bytes => as_command (.countersTake g) bytes rfl rfl nofun fun _ => rfl,
      fun d v bytes => as_command (.domainWant d v) bytes rfl rfl nofun fun _ => rfl,
      fun v bytes => as_command (.volume v) bytes rfl rfl nofun fun _ => rfl,
      fun v bytes => as_command (.micMute v) bytes rfl rfl nofun fun _ => rfl,
      fun bytes => as_command .summary bytes rfl rfl nofun fun _ => rfl,
      fun st inner bytes whole => as_command (.relay st inner) bytes (parseRequest_relay whole) rfl nofun fun _ => rfl,
      fun bytes short => ?_, fun table index bytes => ?_, fun bytes => ⟨fun none => ?_, fun table index cursor known => ?_⟩,
      fun other => ?_, fun none => ?_, fun bytes n q head => ?_⟩
    · exact PerLane.get_set_of_ne _ other _
    · simp only [State.modTx, PerLane.get_set_self]
      exact Tx.joinedAll_keeps _ _
    · rw [answerParts_one some short]
      simp only [State.modTx, PerLane.get_set_self]
      rfl
    · rw [answerParts_two long short]
      simp only [State.modTx, PerLane.get_set_self]
      rfl
    · exact State.actRelayed_as_command .relayTake live bytes rfl rfl (fun _ => rfl)
        (held.relayTake_length_le.trans (Nat.le_trans (Nat.add_le_add_left short 3) (by decide)))
    · rw [spelled (.tableRead table index) bytes rfl]
      show held.tableRead 1 table index = _
      rw [State.tableRead_eq]
      by_cases inside : index.toNat < tableRecords table.toNat
      · rw [if_pos inside, if_pos (show index.toNat < size table.toNat from inside), State.readAnswer_one _ _ inside,
          show min 1 (tableRecords table.toNat - index.toNat) = 1 by omega]
        rfl
      · rw [if_neg inside, if_neg (show ¬index.toNat < size table.toNat from inside)]
    · rw [spelled .tableNext bytes rfl]
      exact State.tableNext_of_none (s := held) 1 none
    · rw [spelled .tableNext bytes rfl]
      show held.tableNext 1 = _
      rw [State.tableNext_eq (s := held) 1 cursor known]
      by_cases inside : index < tableRecords table
      · rw [if_pos inside, if_pos (show index < size table from inside), State.readAnswer_one _ _ inside,
          show min 1 (tableRecords table - index) = 1 by omega]
        rfl
      · rw [if_neg inside, if_neg (show ¬index < size table from inside)]
    · show (held.actRelayed r.bytes).2[1]? ≠ some 2
      unfold State.actRelayed
      split
      · rename_i q spells
        exact held.act_not_busy 1 fun code => other (by rw [code_of_parse spells, code])
      · simp [resBad]
    · show held.actRelayed r.bytes = _
      unfold State.actRelayed
      rw [none]
      rfl
    · have taken : a = _ := spelled .noticeTake bytes rfl
      show a.1.notices = q
      rw [taken]
      show held.noticeTake.1.notices = q
      unfold State.noticeTake
      rw [show held.notices = n :: q from head]
  · rw [request, if_neg]
    rintro ⟨-, one, first⟩
    exact other.elim (fun h => h one) fun h => h first
  · intro h fits held
    refine ⟨fun no => ?_, fun yes => ?_⟩
    · rw [answer, if_neg fun h => no ((Holder.matching_iff _ _ _).1 h.2)]
    · have heldPart (i : Nat) : partAt (storePart r.index r.bytes h.parts) i = held i := partAt_storePart _ _ _ _
      rw [if_pos ⟨isAnswer, (Holder.matching_iff _ _ _).2 yes⟩] at answer
      refine ⟨_, answer, by simp, State.storeAnswer_answers _ _, fun all => ?_, fun missing => ?_⟩
      · have whole := assemble_eq_some (storePart r.index r.bytes h.parts) r.count fun i lt => by
          rw [heldPart]
          exact all i lt
        rw [State.storeAnswer_of_whole (s := s.taken l c) whole]
        simp only [heldPart]
        refine ⟨?_, ?_, ?_, ?_, State.exists_posted (s := (s.taken l c).modHolder _) (.inr running) _ _ _⟩ <;>
          simp [State.modHolder, State.modService, State.taken, State.modRx, h]
      · have none := assemble_eq_none (storePart r.index r.bytes h.parts) r.count (by simpa only [heldPart] using missing)
        rw [State.storeAnswer_of_missing (s := s.taken l c) none]
        exact ⟨yes.1, rfl, rfl, rfl, heldPart⟩

end Sys2Proof.Machine

namespace Sys2Proof.Machine

/-! ### Sheds and the applied level (R153, R154) -/

/-- The power unit's fields that no domain fixes stand while the units follow (R151). -/
theorem State.follow_power (s : State) :
    s.follow.power =
      { s.power with
        domains := s.follow.power.domains, supplyLevel := s.follow.power.supplyLevel, applied := s.follow.power.applied } := by
  have sensors : s.followSensors.followDisplay.followSource.followSink.power =
      { s.power with domains := s.followSensors.power.domains } := by
    simp [State.followSensors_domains]
  unfold State.follow
  obtain same | ⟨-, -, power⟩ := s.followSensors.followDisplay.followSource.followSink.followOffer_cases
  · rw [same, sensors]
  · rw [power, sensors]

/-- The levels stand where the station is not STRAP (R166). -/
theorem State.follow_levels_of_ne_strap {s : State} (h : s.station ≠ .strap) :
    s.follow.power.supplyLevel = s.power.supplyLevel ∧ s.follow.power.applied = s.power.applied := by
  unfold State.follow
  rw [State.followOffer_power, if_neg (by simp [h])]
  simp [State.followSensors_domains]

/-- A shed takes the ON domains that the test names, and no other (R153). -/
theorem State.SensorsMatch.shed {s : State} (h : s.SensorsMatch) (p : Domain → Bool) :
    (s.shedWhere p).power.domains = s.power.domains.map (shedIf p) :=
  (h.changed (fun d => shedIf_number p d) fun d on => ((shedIf_on p d).1 on).1).1

/-- A level that changes sheds what it does not allow, a level that stands sheds nothing (R154). -/
theorem State.SensorsMatch.relevel {s : State} (h : s.SensorsMatch) :
    s.relevel.power.domains =
      if s.appliedLevel = s.power.applied then s.power.domains
      else s.power.domains.map (shedIf fun d => decide (8 - s.appliedLevel ≤ d.priority)) := by
  rw [State.relevel_eq]
  split
  · rfl
  · have matching : (s.modPower fun q => { q with applied := s.appliedLevel }).SensorsMatch := h
    simpa using matching.shed _

/-- The applied level depends on the supply level, the station and what it has of the others (R154). -/
theorem State.appliedLevel_congr {s t : State} (station : t.station = s.station) (stations : t.stations = s.stations)
    (views : t.views = s.views) (level : t.power.supplyLevel = s.power.supplyLevel) : t.appliedLevel = s.appliedLevel := by
  simp only [State.appliedLevel, State.levelOf, station, stations, views, level]

theorem State.changeDomains_appliedLevel (s : State) (f : Domain → Domain) : (s.changeDomains f).appliedLevel = s.appliedLevel :=
  State.appliedLevel_congr (by simp) (by simp) (by simp) (by simp)

theorem State.post_appliedLevel (s : State) (k : NoticeKind) (x : Subject) (n : Nat) :
    (s.post k x n).appliedLevel = s.appliedLevel :=
  State.appliedLevel_congr (by simp) (by simp) (by simp) (by simp)

/-- An applied level that its inputs give is so after the units followed (R154, R166). -/
theorem State.follow_applied {s : State} (h : s.power.applied = s.appliedLevel) :
    s.follow.power.applied = s.follow.appliedLevel := by
  have sensors := State.appliedLevel_congr (s := s) (t := s.followSensors.followDisplay.followSource.followSink) (by simp)
    (by simp) (by simp) (by simp [State.followSensors_domains])
  unfold State.follow
  obtain same | ⟨-, -, power⟩ := s.followSensors.followDisplay.followSource.followSink.followOffer_cases
  · rw [same, sensors, ← h]
    simp [State.followSensors_domains]
  · rw [State.appliedLevel_congr (t := State.followOffer _)
      (s := { s.followSensors.followDisplay.followSource.followSink with
        power := { s.followSensors.followDisplay.followSource.followSink.power with supplyLevel := 0 } }) (by simp)
      (by simp) (by simp) (by rw [power]), power]

/-- After it was worked out afresh the applied level is the one its inputs give (R154). -/
theorem State.relevel_applied (s : State) : s.relevel.power.applied = s.relevel.appliedLevel := by
  rw [State.relevel_eq]
  split
  · rename_i same
    exact same.symm
  · rw [State.post_appliedLevel, State.shedWhere_eq]
    refine Eq.trans (by simp) (State.follow_applied ?_)
    rw [State.changeDomains_appliedLevel, State.changeDomains_power]
    rfl

/-- What is ON after the units followed was ON before (R123). -/
theorem State.follow_on {s : State} {d : Domain} (mem : d ∈ s.follow.power.domains) (on : d.state = .on) :
    ∃ e ∈ s.power.domains, e.number = d.number ∧ e.priority = d.priority ∧ e.state = .on := by
  rw [State.follow_domains] at mem
  unfold State.wearLinked at mem
  split at mem
  · split at mem
    · obtain ⟨e, was, rfl⟩ := List.mem_map.1 mem
      exact ⟨e, was, (wantOf_number _ _ e).symm, (wantOf_priority _ _ e).symm, wantOf_on _ _ e on⟩
    · exact ⟨d, mem, rfl, rfl, on⟩
  · exact ⟨d, mem, rfl, rfl, on⟩

/-- What is ON after a shed was ON before, and the test spares it (R153). -/
theorem State.shedWhere_on {s : State} {p : Domain → Bool} {d : Domain} (mem : d ∈ (s.shedWhere p).power.domains)
    (on : d.state = .on) :
    ∃ e ∈ s.power.domains, e.number = d.number ∧ e.priority = d.priority ∧ e.state = .on ∧ ¬p e = true := by
  rw [State.shedWhere_eq] at mem
  obtain ⟨c, was, number, priority, state⟩ := State.follow_on mem on
  rw [State.changeDomains_power] at was
  obtain ⟨e, here, rfl⟩ := List.mem_map.1 was
  obtain ⟨stays, spared⟩ := (shedIf_on p e).1 state
  rw [shedIf_number] at number
  rw [shedIf_priority] at priority
  exact ⟨e, here, number, priority, stays, spared⟩

/-- The level falls at most while the units follow (R166). -/
theorem State.follow_applied_le {s : State} (h : s.power.applied = s.appliedLevel) : s.follow.power.applied ≤ s.power.applied := by
  have sensors := State.appliedLevel_congr (s := s) (t := s.followSensors.followDisplay.followSource.followSink) (by simp)
    (by simp) (by simp) (by simp [State.followSensors_domains])
  unfold State.follow
  obtain same | ⟨-, -, power⟩ := s.followSensors.followDisplay.followSource.followSink.followOffer_cases
  · rw [same]
    simp [State.followSensors_domains]
  · rw [power, h, ← sensors]
    unfold State.appliedLevel State.levelOf
    refine max_le_max ?_ ?_
    · dsimp only
      split
      · exact Nat.zero_le _
      · exact le_refl _
    · dsimp only
      split
      · exact Nat.zero_le _
      · exact le_refl _

/-- A new level in effect, with what it does not allow shed (R154). -/
def State.shedTo (s : State) (level : Nat) : State :=
  (s.modPower fun q => { q with applied := level }).shedWhere fun d => decide (8 - level ≤ d.priority)

theorem State.relevel_of_same {s : State} (h : s.appliedLevel = s.power.applied) : s.relevel = s := by
  rw [State.relevel_eq, if_pos h]

theorem State.relevel_of_changed {s : State} (h : s.appliedLevel ≠ s.power.applied) :
    s.relevel = (s.shedTo s.appliedLevel).post .supplyLevel .supply s.appliedLevel := by
  rw [State.relevel_eq, if_neg h]
  rfl

theorem State.relevel_power_of_changed {s : State} (h : s.appliedLevel ≠ s.power.applied) :
    s.relevel.power = (s.shedTo s.appliedLevel).power := by
  rw [State.relevel_of_changed h]
  simp

theorem State.shedTo_power (s : State) (level : Nat) :
    (s.shedTo level).power =
      { s.power with
        domains := (s.shedTo level).power.domains, supplyLevel := (s.shedTo level).power.supplyLevel,
        applied := (s.shedTo level).power.applied } := by
  unfold State.shedTo
  rw [State.shedWhere_eq, State.follow_power, State.changeDomains_power]
  rfl

theorem State.shedTo_applied_le (s : State) : (s.shedTo s.appliedLevel).power.applied ≤ s.appliedLevel := by
  unfold State.shedTo
  rw [State.shedWhere_eq]
  refine (State.follow_applied_le ?_).trans ?_
  · rw [State.changeDomains_appliedLevel, State.changeDomains_power]
    rfl
  · rw [State.changeDomains_power]
    exact le_refl _

/-- What is ON after the level was worked out afresh was ON before, and a level that changes allows it (R154). -/
theorem State.relevel_on {s : State} {d : Domain} (mem : d ∈ s.relevel.power.domains) (on : d.state = .on) :
    (∃ e ∈ s.power.domains, e.number = d.number ∧ e.state = .on) ∧
      (s.relevel.power.applied ≠ s.power.applied → d.priority < 8 - s.relevel.power.applied) := by
  by_cases same : s.appliedLevel = s.power.applied
  · rw [State.relevel_of_same same] at mem ⊢
    exact ⟨⟨d, mem, rfl, on⟩, fun h => absurd rfl h⟩
  · rw [State.relevel_power_of_changed same] at mem ⊢
    obtain ⟨e, was, number, priority, state, spared⟩ := State.shedWhere_on mem on
    refine ⟨⟨e, was, number, state⟩, fun _ => ?_⟩
    have falls := s.shedTo_applied_le
    rw [decide_eq_true_iff, not_le, priority] at spared
    omega

/-- The power unit's fields that neither a domain nor the level fixes stand (R154). -/
theorem State.relevel_power (s : State) :
    s.relevel.power =
      { s.power with
        domains := s.relevel.power.domains, supplyLevel := s.relevel.power.supplyLevel, applied := s.relevel.power.applied } := by
  by_cases same : s.appliedLevel = s.power.applied
  · rw [State.relevel_of_same same]
  · rw [State.relevel_power_of_changed same]
    exact s.shedTo_power _

/-- A level that changes is posted (R154). -/
theorem State.relevel_posts {s : State} (live : s.live) (h : s.relevel.power.applied ≠ s.power.applied) :
    ∃ n ∈ s.relevel.notices, n.kind = .supplyLevel ∧ n.subject = .supply := by
  by_cases same : s.appliedLevel = s.power.applied
  · exact absurd (by rw [State.relevel_of_same same]) h
  · rw [State.relevel_of_changed same]
    obtain ⟨n, mem, kind, subject, -⟩ := State.exists_posted (s := s.shedTo s.appliedLevel)
      (by simpa [State.live, State.shedTo] using live) .supplyLevel .supply s.appliedLevel
    exact ⟨n, mem, kind, subject⟩

/-- The calls of a change leave what fixes the applied level. -/
theorem State.calling_appliedLevel (s : State) (f : State → State) : (s.calling f).appliedLevel = (f s).appliedLevel :=
  State.appliedLevel_congr (by simp) (by simp) (by simp) (by rw [State.calling_power])

/-- A shed by a level of priority numbers, written out. -/
theorem shedIf_decide (k : Nat) (d : Domain) :
    shedIf (fun d => decide (k ≤ d.priority)) d = if d.state = .on ∧ k ≤ d.priority then { d with state := .shed } else d := by
  simp [shedIf]

/-- The domains as a level that changes leaves them (R154). -/
def shedDomains (applied level : Nat) (ds : List Domain) : List Domain :=
  if level = applied then ds
  else ds.map fun d => if d.state = .on ∧ 8 - level ≤ d.priority then { d with state := .shed } else d

theorem State.SensorsMatch.relevel_shedDomains {s : State} (h : s.SensorsMatch) :
    s.relevel.power.domains = shedDomains s.power.applied s.appliedLevel s.power.domains := by
  rw [h.relevel]
  unfold shedDomains
  split
  · rfl
  · exact List.map_congr_left fun d _ => shedIf_decide _ d

theorem State.calling_congr {s : State} {f g : State → State} (h : f s = g s) : s.calling f = s.calling g := by
  unfold State.calling
  rw [h]

/-! ### The peer power view (R157, R168) -/

/-- A view that changes, and the level worked out afresh (R154, R157). -/
def State.viewing (s : State) (v : PerStation View) : State := { s with views := v }.relevel

theorem State.callViewing {s : State} (live : s.live) (v : PerStation View) :
    (s.calling fun u => u.viewing v).views = v ∧
      (s.calling fun u => u.viewing v).power.applied = (s.calling fun u => u.viewing v).appliedLevel ∧
      (s.calling fun u => u.viewing v).power.rail = s.power.rail ∧
      (∀ d ∈ (s.calling fun u => u.viewing v).power.domains, d.state = .on →
        (∃ e ∈ s.power.domains, e.number = d.number ∧ e.state = .on) ∧
          ((s.calling fun u => u.viewing v).power.applied ≠ s.power.applied →
            d.priority < 8 - (s.calling fun u => u.viewing v).power.applied)) ∧
      ((s.calling fun u => u.viewing v).power.applied ≠ s.power.applied →
        ∃ n ∈ (s.calling fun u => u.viewing v).notices, n.kind = .supplyLevel ∧ n.subject = .supply) ∧
      (s.SensorsMatch →
        (s.calling fun u => u.viewing v).power.domains =
          shedDomains s.power.applied ({ s with views := v } : State).appliedLevel s.power.domains) := by
  have power := s.calling_power fun u => u.viewing v
  have rest : (s.viewing v).power.rail = s.power.rail := by
    unfold State.viewing
    rw [State.relevel_power]
  have notices : (s.calling fun u => u.viewing v).notices = (s.viewing v).notices := by simp
  refine ⟨by simp [State.viewing], ?_, ?_, ?_, ?_, ?_⟩
  · rw [State.calling_appliedLevel, power]
    exact State.relevel_applied _
  · rw [power]
    exact rest
  · rw [power]
    exact fun d mem on => State.relevel_on (s := { s with views := v }) mem on
  · rw [power, notices]
    exact State.relevel_posts (s := { s with views := v }) live
  · rw [power]
    exact fun matching => State.SensorsMatch.relevel_shedDomains (s := { s with views := v }) matching

/-- Settles O43. -/
theorem reportsKeepThePeerView : Obligations.ReportsKeepThePeerView := by
  unfold Obligations.ReportsKeepThePeerView
  intro l c r x s live shed
  refine ⟨fun head kind dst src reads => ?_, fun head kind no => ?_, fun other heard => ?_⟩
  · have step : exec (.powerReportTaken l c) s =
        .next ((s.taken l c).calling fun u => u.viewing (s.views.set c.src { state := .heard, age := 0, report := r })) := by
      show execPowerReportTaken l c s = _
      unfold execPowerReportTaken
      rw [State.take_of_head? head, if_pos ⟨live, kind, dst, src⟩, reads]
      exact congrArg _ (State.calling_congr rfl)
    obtain ⟨views, applied, rail, on, notice, domains⟩ := State.callViewing (s := s.taken l c) live
      (s.views.set c.src { state := .heard, age := 0, report := r })
    refine ⟨_, step, views, applied, rail, fun d mem is => (on d mem is).1, notice, fun rises d mem is => (on d mem is).2 ?_, ?_⟩
    · exact Ne.symm rises.ne
    · intro level matching
      rw [domains matching]
      have same : level = _ := State.appliedLevel_congr
        (s := { s.taken l c with views := s.views.set c.src { state := .heard, age := 0, report := r } })
        (t := { s with views := ((s.taken l c).calling fun u =>
          u.viewing (s.views.set c.src { state := .heard, age := 0, report := r })).views }) rfl rfl views rfl
      rw [same]
      rfl
  · show execPowerReportTaken l c s = _
    unfold execPowerReportTaken
    rw [State.take_of_head? head]
    refine congrArg _ ?_
    obtain dst | own | unread := no
    · exact if_neg fun h => dst h.2.2.1
    · exact if_neg fun h => h.2.2.2 own
    · rw [unread]
      exact ite_self _
  · have step : exec (.viewEntrySilent x) s =
        .next (s.calling fun u => u.viewing
          (s.views.set x { s.views.get x with state := .silent, age := max (s.views.get x).age 10 })) := by
      show execViewEntrySilent x s = _
      unfold execViewEntrySilent
      rw [if_pos ⟨live, other, heard⟩]
      exact congrArg _ (State.calling_congr rfl)
    obtain ⟨views, applied, -, -, -, domains⟩ := State.callViewing live
      (s.views.set x { s.views.get x with state := .silent, age := max (s.views.get x).age 10 })
    refine ⟨_, step, ?_, ?_, fun y ne => ?_, applied, ?_, ?_, ?_⟩
    · rw [views, PerStation.get_set_self]
    · rw [views, PerStation.get_set_self]
    · rw [views, PerStation.get_set, if_neg ne]
    · simp [State.viewing]
    · simp [State.viewing]
    · intro level matching
      rw [domains matching]
      have same : level = _ := State.appliedLevel_congr
        (s := { s with views := s.views.set x { s.views.get x with state := .silent, age := max (s.views.get x).age 10 } })
        (t := { s with views := (s.calling fun u => u.viewing
          (s.views.set x { s.views.get x with state := .silent, age := max (s.views.get x).age 10 })).views }) rfl rfl views rfl
      rw [same]
      rfl

/-! ### The supply switch (R162, R163) -/

/-- The supply level and what it gives stand apart from STRAP's offer (R154, R166). -/
theorem State.relevel_supplyLevel_of_ne_strap {s : State} (h : s.station ≠ .strap) :
    s.relevel.power.supplyLevel = s.power.supplyLevel := by
  by_cases same : s.appliedLevel = s.power.applied
  · rw [State.relevel_of_same same]
  · rw [State.relevel_power_of_changed same]
    unfold State.shedTo
    rw [State.shedWhere_eq, (State.follow_levels_of_ne_strap (by simpa using h)).1, State.changeDomains_power]
    rfl

theorem State.relevel_applied_of_ne_strap {s : State} (h : s.station ≠ .strap) : s.relevel.power.applied = s.appliedLevel := by
  by_cases same : s.appliedLevel = s.power.applied
  · rw [State.relevel_of_same same, same]
  · rw [State.relevel_power_of_changed same]
    unfold State.shedTo
    rw [State.shedWhere_eq, (State.follow_levels_of_ne_strap (by simpa using h)).2, State.changeDomains_power]
    rfl

/-- The power unit as a trip opens the switch (R163). -/
def Power.opened (p : Power) : Power :=
  { p with switchClosed := false, supplyLevel := 7, tripped := true, tripWait := 256, overRun := 0 }

theorem State.trip_eq (s : State) : s.trip = (s.modPower Power.opened).relevel.post .supplyTrip .supply s.power.p := rfl

theorem State.trip_power (s : State) : s.trip.power = (s.modPower Power.opened).relevel.power := by
  rw [State.trip_eq]
  simp

/-- What a trip leaves of the supply control (R163). -/
theorem State.trip_supply {s : State} (h : s.station ≠ .strap) :
    s.trip.power.switchClosed = false ∧ s.trip.power.tripped = true ∧ s.trip.power.tripWait = 256 ∧
      s.trip.power.supplyLevel = 7 ∧ s.trip.power.overRun = 0 := by
  have level := State.relevel_supplyLevel_of_ne_strap (s := s.modPower Power.opened) h
  rw [State.trip_power]
  refine ⟨?_, ?_, ?_, level, ?_⟩ <;> rw [State.relevel_power] <;> rfl

/-- CONSOLE's own level 7 is the applied one (R154). -/
theorem State.appliedLevel_of_seven {s : State} (console : s.station = .console) (seven : s.power.supplyLevel = 7)
    (heard : ∀ x, (s.views.get x).report.level ≤ 7) : s.appliedLevel = 7 := by
  refine le_antisymm (State.appliedLevel_le seven.le heard) ?_
  unfold State.appliedLevel State.levelOf
  rw [if_pos console, seven]
  exact le_max_left _ _

theorem State.trip_posts {s : State} (live : s.live) :
    ∃ n ∈ s.trip.notices, n.kind = .supplyTrip ∧ n.subject = .supply ∧ n.value = BitVec.ofNat 32 s.power.p := by
  rw [State.trip_eq]
  exact State.exists_posted (s := (s.modPower Power.opened).relevel) (by simpa [State.live] using live) _ _ _

theorem State.reclose_power (s : State) :
    s.reclose.power = { s.power with switchClosed := true, tripped := false, tripWait := 0 } := by
  unfold State.reclose
  simp [State.modPower]

theorem State.reclose_posts {s : State} (live : s.live) :
    ∃ n ∈ s.reclose.notices, n.kind = .supplyReclose ∧ n.subject = .supply ∧ n.value = 0 :=
  State.exists_posted
    (s := s.modPower fun p => { p with switchClosed := true, tripped := false, tripWait := 0 }) live .supplyReclose .supply 0

/-- CONSOLE offers its limit while its switch is closed (R162). -/
theorem State.ownOffer_of_console {s : State} (h : s.station = .console) :
    s.ownOffer = if s.power.switchClosed then s.supplyLimit else 0 := by
  unfold State.ownOffer
  rw [h]

theorem State.sensorsMatch_of_ne {s : State} (h : s.station ≠ .headset) : s.SensorsMatch := fun headset => absurd headset h

/-- Settles O45. -/
theorem tripAndRecloseSwitchTheSupply : Obligations.TripAndRecloseSwitchTheSupply := by
  unfold Obligations.TripAndRecloseSwitchTheSupply
  intro s live console
  have power (f : State → State) := s.calling_power f
  refine ⟨fun closed => ?_, fun tripped => ?_⟩
  · have ne : s.station ≠ .strap := by simp [console]
    obtain ⟨switch, flag, wait, level, run⟩ := State.trip_supply ne
    refine ⟨s.calling State.trip, if_pos ⟨live, console, closed⟩, ?_, ?_, ?_, ?_, ?_, ?_, fun heard => ?_, ?_, ?_, ?_⟩
    · rw [power, switch]
    · rw [power, flag]
    · rw [power, wait]
    · rw [power, level]
    · rw [power, run]
    · rw [State.ownOffer_of_console (by simp [console]), power, switch]
      rfl
    · have seven : (s.modPower Power.opened).appliedLevel = 7 := State.appliedLevel_of_seven console rfl heard
      have applied : s.trip.power.applied = 7 := by
        rw [State.trip_power, State.relevel_applied_of_ne_strap (s := s.modPower Power.opened) ne, seven]
      have domains : s.trip.power.domains = shedDomains s.power.applied 7 s.power.domains := by
        rw [State.trip_power, State.SensorsMatch.relevel_shedDomains (State.sensorsMatch_of_ne (by simp [console])), seven]
        rfl
      rw [power, applied, domains]
      refine ⟨rfl, fun changes d mem on => ?_, ?_⟩
      · unfold shedDomains at mem
        rw [if_neg (Ne.symm changes)] at mem
        obtain ⟨e, -, rfl⟩ := List.mem_map.1 mem
        split at on
        · cases on
        · rename_i spared
          rw [if_neg spared]
          simp only [on, true_and] at spared
          omega
      · unfold shedDomains
        by_cases stands : s.power.applied = 7
        · rw [if_pos stands.symm, if_pos stands]
        · rw [if_neg (Ne.symm stands), if_neg stands]
          rfl
    · simpa using State.trip_posts live
    · simp
    · simp
  · refine ⟨s.calling State.reclose, if_pos ⟨live, console, tripped⟩, ?_, ?_, ?_, ?_, ?_, ?_, ?_, ?_, ?_⟩
    · rw [power, State.reclose_power]
    · rw [power, State.reclose_power]
    · rw [power, State.reclose_power]
    · rw [power, State.reclose_power]
    · rw [State.ownOffer_of_console (by simp [console]), power, State.reclose_power]
      simp [State.supplyLimit]
    · rw [power, State.reclose_power]
    · simpa using State.reclose_posts live
    · simp
    · simp

end Sys2Proof.Machine

namespace Sys2Proof.Machine

/-! ### What each judgement of a sample leaves in the power unit (R149 to R166) -/

/-- Calls spend report numbers alone (R178). -/
@[simp] theorem State.calling_power_keeps (s : State) (f : State → State) :
    (s.calling f).power.rail = (f s).power.rail ∧ (s.calling f).power.load = (f s).power.load ∧
    (s.calling f).power.aux = (f s).power.aux ∧ (s.calling f).power.p = (f s).power.p ∧
    (s.calling f).power.converting = (f s).power.converting ∧ (s.calling f).power.brownRun = (f s).power.brownRun ∧
    (s.calling f).power.overRun = (f s).power.overRun ∧ (s.calling f).power.domains = (f s).power.domains ∧
    (s.calling f).power.applied = (f s).power.applied ∧ (s.calling f).power.supplyLevel = (f s).power.supplyLevel ∧
    (s.calling f).power.droop = (f s).power.droop ∧ (s.calling f).power.switchClosed = (f s).power.switchClosed ∧
    (s.calling f).power.tripped = (f s).power.tripped ∧ (s.calling f).power.tripWait = (f s).power.tripWait ∧
    (s.calling f).power.battery = (f s).power.battery := by
  rw [State.calling_power]
  simp only [and_self]

@[simp] theorem State.follow_power_keeps (s : State) :
    s.follow.power.rail = s.power.rail ∧ s.follow.power.load = s.power.load ∧ s.follow.power.aux = s.power.aux ∧
    s.follow.power.p = s.power.p ∧ s.follow.power.converting = s.power.converting ∧
    s.follow.power.brownRun = s.power.brownRun ∧ s.follow.power.overRun = s.power.overRun ∧
    s.follow.power.droop = s.power.droop ∧ s.follow.power.switchClosed = s.power.switchClosed ∧
    s.follow.power.tripped = s.power.tripped ∧ s.follow.power.tripWait = s.power.tripWait ∧
    s.follow.power.battery = s.power.battery := by
  rw [State.follow_power]
  simp only [and_self]

@[simp] theorem State.shedWhere_power_keeps (s : State) (p : Domain → Bool) :
    (s.shedWhere p).power.rail = s.power.rail ∧ (s.shedWhere p).power.load = s.power.load ∧
    (s.shedWhere p).power.aux = s.power.aux ∧ (s.shedWhere p).power.p = s.power.p ∧
    (s.shedWhere p).power.converting = s.power.converting ∧ (s.shedWhere p).power.brownRun = s.power.brownRun ∧
    (s.shedWhere p).power.overRun = s.power.overRun ∧ (s.shedWhere p).power.droop = s.power.droop ∧
    (s.shedWhere p).power.switchClosed = s.power.switchClosed ∧ (s.shedWhere p).power.tripped = s.power.tripped ∧
    (s.shedWhere p).power.tripWait = s.power.tripWait ∧ (s.shedWhere p).power.battery = s.power.battery := by
  rw [State.shedWhere_eq]
  simp

@[simp] theorem State.relevel_power_keeps (s : State) :
    s.relevel.power.rail = s.power.rail ∧ s.relevel.power.load = s.power.load ∧ s.relevel.power.aux = s.power.aux ∧
    s.relevel.power.p = s.power.p ∧ s.relevel.power.converting = s.power.converting ∧
    s.relevel.power.brownRun = s.power.brownRun ∧ s.relevel.power.overRun = s.power.overRun ∧
    s.relevel.power.droop = s.power.droop ∧ s.relevel.power.switchClosed = s.power.switchClosed ∧
    s.relevel.power.tripped = s.power.tripped ∧ s.relevel.power.tripWait = s.power.tripWait ∧
    s.relevel.power.battery = s.power.battery := by
  rw [State.relevel_power]
  simp only [and_self]

/-- Droop shedding changes domains, levels and the droop mark (R155). -/
@[simp] theorem State.droop_power_keeps (s : State) :
    s.droop.power.rail = s.power.rail ∧ s.droop.power.load = s.power.load ∧ s.droop.power.aux = s.power.aux ∧
    s.droop.power.p = s.power.p ∧ s.droop.power.converting = s.power.converting ∧
    s.droop.power.brownRun = s.power.brownRun ∧ s.droop.power.overRun = s.power.overRun ∧
    s.droop.power.switchClosed = s.power.switchClosed ∧ s.droop.power.tripped = s.power.tripped ∧
    s.droop.power.tripWait = s.power.tripWait ∧ s.droop.power.battery = s.power.battery := by
  unfold State.droop
  split
  · simp
  · split
    · simp [State.modPower]
    · split
      · simp [State.modPower]
      · simp

/-- What returns a SHED domain to WAITING (R153). -/
def returnIf (level : Nat) (d : Domain) : Domain :=
  if d.state = .shed ∧ d.priority < 8 - level then { d with state := .waiting } else d

/-- The return of SHED domains changes the domains alone (R153). -/
theorem State.shedReturn_power (s : State) :
    s.shedReturn.power =
      { s.power with
        domains := if s.cfg.admitMv ≤ s.power.rail then s.power.domains.map (returnIf s.power.applied) else s.power.domains } := by
  unfold State.shedReturn
  split
  · rw [State.changeDomains_power]
    rfl
  · rfl

/-- CONSOLE's judgement of its power (R163). -/
theorem State.judgeOverload_of_ne_console {s : State} (h : s.station ≠ .console) : s.judgeOverload = s := by
  unfold State.judgeOverload
  rw [if_neg fun c => h c.1]

theorem State.judgeOverload_of_open {s : State} (h : s.power.switchClosed = false) : s.judgeOverload = s := by
  unfold State.judgeOverload
  rw [if_neg (by simp [h])]

theorem State.judgeOverload_of_within {s : State} (console : s.station = .console) (closed : s.power.switchClosed = true)
    (within : s.power.p ≤ s.supplyLimit * 5 / 4) : s.judgeOverload = s.modPower fun p => { p with overRun := 0 } := by
  unfold State.judgeOverload
  rw [if_pos ⟨console, closed⟩, if_neg (not_lt.2 within)]

theorem State.judgeOverload_of_first {s : State} (console : s.station = .console) (closed : s.power.switchClosed = true)
    (above : s.supplyLimit * 5 / 4 < s.power.p) (first : s.power.overRun = 0) :
    s.judgeOverload = s.modPower fun p => { p with overRun := p.overRun + 1 } := by
  unfold State.judgeOverload
  rw [if_pos ⟨console, closed⟩, if_pos above, if_neg (by omega)]

theorem State.judgeOverload_of_second {s : State} (console : s.station = .console) (closed : s.power.switchClosed = true)
    (above : s.supplyLimit * 5 / 4 < s.power.p) (second : 1 ≤ s.power.overRun) : s.judgeOverload = s.trip := by
  unfold State.judgeOverload
  rw [if_pos ⟨console, closed⟩, if_pos above, if_pos (by omega)]

@[simp] theorem State.trip_power_keeps (s : State) :
    s.trip.power.rail = s.power.rail ∧ s.trip.power.load = s.power.load ∧ s.trip.power.aux = s.power.aux ∧
    s.trip.power.p = s.power.p ∧ s.trip.power.converting = s.power.converting ∧ s.trip.power.brownRun = s.power.brownRun ∧
    s.trip.power.droop = s.power.droop ∧ s.trip.power.battery = s.power.battery := by
  rw [State.trip_power]
  simp [State.modPower, Power.opened]

/-- The judgement of CONSOLE's power leaves the channels' values, the runs of RAIL and the marks of others (R163). -/
@[simp] theorem State.judgeOverload_power_keeps (s : State) :
    s.judgeOverload.power.rail = s.power.rail ∧ s.judgeOverload.power.load = s.power.load ∧
    s.judgeOverload.power.aux = s.power.aux ∧ s.judgeOverload.power.p = s.power.p ∧
    s.judgeOverload.power.converting = s.power.converting ∧ s.judgeOverload.power.brownRun = s.power.brownRun ∧
    s.judgeOverload.power.droop = s.power.droop ∧ s.judgeOverload.power.battery = s.power.battery := by
  unfold State.judgeOverload
  split
  · split
    · split
      · exact s.trip_power_keeps
      · simp [State.modPower]
    · simp [State.modPower]
  · simp

/-- STRAP's judgement of its battery (R165). -/
def Power.judged (p : Power) (floor : Nat) : Power :=
  { p with battery := if floor + 200 ≤ p.aux then true else if p.aux < floor then false else p.battery }

theorem State.judgeBattery_of_ne_strap {s : State} (h : s.station ≠ .strap) : s.judgeBattery = s := by
  unfold State.judgeBattery
  rw [if_neg h]

theorem State.judgeBattery_of_strap {s : State} (h : s.station = .strap) :
    s.judgeBattery = (s.modPower fun p => p.judged s.cfg.batteryFloor).followOffer := by
  unfold State.judgeBattery
  rw [if_pos h]
  rfl

/-- STRAP's offer followed leaves all but the levels (R166). -/
@[simp] theorem State.followOffer_power_keeps (s : State) :
    s.followOffer.power.rail = s.power.rail ∧ s.followOffer.power.load = s.power.load ∧
    s.followOffer.power.aux = s.power.aux ∧ s.followOffer.power.p = s.power.p ∧
    s.followOffer.power.converting = s.power.converting ∧ s.followOffer.power.brownRun = s.power.brownRun ∧
    s.followOffer.power.overRun = s.power.overRun ∧ s.followOffer.power.domains = s.power.domains ∧
    s.followOffer.power.droop = s.power.droop ∧ s.followOffer.power.switchClosed = s.power.switchClosed ∧
    s.followOffer.power.tripped = s.power.tripped ∧ s.followOffer.power.tripWait = s.power.tripWait ∧
    s.followOffer.power.battery = s.power.battery := by
  rw [State.followOffer_power]
  split <;> simp

@[simp] theorem State.judgeBattery_power_keeps (s : State) :
    s.judgeBattery.power.rail = s.power.rail ∧ s.judgeBattery.power.load = s.power.load ∧
    s.judgeBattery.power.aux = s.power.aux ∧ s.judgeBattery.power.p = s.power.p ∧
    s.judgeBattery.power.converting = s.power.converting ∧ s.judgeBattery.power.brownRun = s.power.brownRun ∧
    s.judgeBattery.power.overRun = s.power.overRun ∧ s.judgeBattery.power.domains = s.power.domains ∧
    s.judgeBattery.power.droop = s.power.droop ∧ s.judgeBattery.power.switchClosed = s.power.switchClosed ∧
    s.judgeBattery.power.tripped = s.power.tripped ∧ s.judgeBattery.power.tripWait = s.power.tripWait := by
  unfold State.judgeBattery
  split <;> simp [State.modPower]

/-! #### Droop shedding (R155) -/

/-- Droop shedding picks, among the ON domains above priority 0, the last of the highest priority number (R155). -/
theorem droopPick_spec (ds : List Domain) :
    (∀ x, droopPick ds = some x →
      ∃ i, ds[i]? = some x ∧ x.state = .on ∧ 0 < x.priority ∧
        ∀ (j : Nat) (d : Domain), ds[j]? = some d → d.state = .on → 0 < d.priority →
          d.priority ≤ x.priority ∧ (d.priority = x.priority → j ≤ i)) ∧
      (droopPick ds = none → ∀ d ∈ ds, d.state = .on → d.priority = 0) := by
  induction ds using List.reverseRecOn with
  | nil => exact ⟨nofun, fun _ => nofun⟩
  | append_singleton ds e ih =>
    have pick : droopPick (ds ++ [e]) =
        if e.state = .on ∧ 0 < e.priority then
          match droopPick ds with
          | some b => if b.priority ≤ e.priority then some e else some b
          | none => some e
        else droopPick ds := by
      unfold droopPick
      rw [List.foldl_append]
      rfl
    have before {j : Nat} {d : Domain} (at_ : (ds ++ [e])[j]? = some d) : ds[j]? = some d ∨ (j = ds.length ∧ d = e) := by
      by_cases inside : j < ds.length
      · rw [List.getElem?_append_left inside] at at_
        exact .inl at_
      · rw [List.getElem?_append_right (not_lt.1 inside), List.getElem?_singleton] at at_
        split at at_
        · cases at_
          exact .inr ⟨by omega, rfl⟩
        · cases at_
    have index {j : Nat} {d : Domain} (at_ : ds[j]? = some d) : j < ds.length := (List.getElem?_eq_some_iff.1 at_).1
    have still {j : Nat} {d : Domain} (at_ : ds[j]? = some d) : (ds ++ [e])[j]? = some d := by
      rw [List.getElem?_append_left (index at_), at_]
    have last : (ds ++ [e])[ds.length]? = some e := by simp
    rw [pick]
    by_cases fits : e.state = .on ∧ 0 < e.priority
    · rw [if_pos fits]
      cases was : droopPick ds with
      | none =>
        refine ⟨fun x same => ?_, nofun⟩
        cases same
        refine ⟨ds.length, last, fits.1, fits.2, fun j d at_ on above => ?_⟩
        obtain at_ | ⟨rfl, rfl⟩ := before at_
        · have zero := ih.2 was d (List.mem_of_getElem? at_) on
          omega
        · exact ⟨le_refl _, fun _ => le_refl _⟩
      | some b =>
        obtain ⟨i, here, on, above, best⟩ := ih.1 b was
        by_cases beaten : b.priority ≤ e.priority
        · dsimp only
          rw [if_pos beaten]
          refine ⟨fun x same => ?_, nofun⟩
          cases same
          refine ⟨ds.length, last, fits.1, fits.2, fun j d at_ on' above' => ?_⟩
          obtain at_ | ⟨rfl, rfl⟩ := before at_
          · exact ⟨(best j d at_ on' above').1.trans beaten, fun _ => (index at_).le⟩
          · exact ⟨le_refl _, fun _ => le_refl _⟩
        · dsimp only
          rw [if_neg beaten]
          refine ⟨fun x same => ?_, nofun⟩
          cases same
          refine ⟨i, still here, on, above, fun j d at_ on' above' => ?_⟩
          obtain at_ | ⟨rfl, rfl⟩ := before at_
          · exact best j d at_ on' above'
          · exact ⟨by omega, fun h => absurd h (by omega)⟩
    · rw [if_neg fits]
      refine ⟨fun x was => ?_, fun none d mem on => ?_⟩
      · obtain ⟨i, here, on, above, best⟩ := ih.1 x was
        refine ⟨i, still here, on, above, fun j d at_ on' above' => ?_⟩
        obtain at_ | ⟨rfl, rfl⟩ := before at_
        · exact best j d at_ on' above'
        · exact absurd ⟨on', above'⟩ fits
      · obtain mem | mem := List.mem_append.1 mem
        · exact ih.2 none d mem on
        · rw [List.mem_singleton] at mem
          subst mem
          by_contra above
          exact fits ⟨on, Nat.pos_of_ne_zero above⟩

/-- The state with the droop mark set (R155). -/
def State.marked (s : State) : State := s.modPower fun p => { p with droop := true }

theorem State.marked_power (s : State) : s.marked.power = { s.power with droop := true } := rfl

theorem State.droop_of_none {s : State} (h : droopPick s.power.domains = none) : s.droop = s := by
  unfold State.droop
  rw [h]

theorem State.droop_of_cutoff {s : State} {x : Domain} (pick : droopPick s.power.domains = some x)
    (low : s.power.rail < s.cfg.cutoffMv) :
    s.droop = (s.shedWhere fun d => decide (0 < d.priority)).marked := by
  unfold State.droop
  rw [pick]
  exact if_pos low

theorem State.droop_of_first {s : State} {x : Domain} (pick : droopPick s.power.domains = some x)
    (above : s.cfg.cutoffMv ≤ s.power.rail) (low : s.power.rail < s.cfg.shedMv) (first : s.power.droop = false) :
    s.droop = (s.shedWhere fun d => decide (d.number = x.number)).marked := by
  unfold State.droop
  rw [pick]
  dsimp only
  rw [if_neg (not_lt.2 above), if_pos ⟨low, first⟩]
  rfl

theorem State.droop_of_standing {s : State} (above : s.cfg.cutoffMv ≤ s.power.rail)
    (stands : s.cfg.shedMv ≤ s.power.rail ∨ s.power.droop = true) : s.droop = s := by
  unfold State.droop
  split
  · rfl
  · rw [if_neg (not_lt.2 above), if_neg]
    rintro ⟨low, first⟩
    obtain high | marked := stands
    · exact absurd low (not_lt.2 high)
    · rw [marked] at first
      cases first

theorem State.droop_supplyLevel_of_ne_strap {s : State} (h : s.station ≠ .strap) :
    s.droop.power.supplyLevel = s.power.supplyLevel := by
  have shed (p : Domain → Bool) : (s.shedWhere p).power.supplyLevel = s.power.supplyLevel := by
    rw [State.shedWhere_eq, (State.follow_levels_of_ne_strap (by simpa using h)).1, State.changeDomains_power]
  have mark (t : State) : (t.modPower fun p => { p with droop := true }).power.supplyLevel = t.power.supplyLevel := rfl
  unfold State.droop
  split
  · rfl
  · split
    · rw [mark, shed]
    · split
      · rw [mark, shed]
      · rfl

/-! #### What is ON after the judgements -/

/-- Every domain of `t` that is ON was ON in `s`, with its number and priority. -/
def State.NoneNewOn (s t : State) : Prop :=
  ∀ d ∈ t.power.domains, d.state = .on → ∃ e ∈ s.power.domains, e.number = d.number ∧ e.priority = d.priority ∧ e.state = .on

theorem State.NoneNewOn.refl (s : State) : s.NoneNewOn s := fun d mem on => ⟨d, mem, rfl, rfl, on⟩

theorem State.NoneNewOn.of_domains {s t : State} (h : t.power.domains = s.power.domains) : s.NoneNewOn t :=
  fun d mem on => ⟨d, h ▸ mem, rfl, rfl, on⟩

theorem State.NoneNewOn.trans {s t u : State} (h : s.NoneNewOn t) (k : t.NoneNewOn u) : s.NoneNewOn u := fun d mem on => by
  obtain ⟨e, was, number, priority, state⟩ := k d mem on
  obtain ⟨c, here, number', priority', state'⟩ := h e was state
  exact ⟨c, here, number'.trans number, priority'.trans priority, state'⟩

theorem State.NoneNewOn.calling {s t : State} {f : State → State} (h : s.NoneNewOn (f t)) : s.NoneNewOn (t.calling f) :=
  fun d mem on => h d (by simpa using mem) on

theorem State.NoneNewOn.shedWhere (s : State) (p : Domain → Bool) : s.NoneNewOn (s.shedWhere p) := fun d mem on => by
  obtain ⟨e, was, number, priority, state, -⟩ := State.shedWhere_on mem on
  exact ⟨e, was, number, priority, state⟩

theorem State.NoneNewOn.relevel (s : State) : s.NoneNewOn s.relevel := by
  by_cases same : s.appliedLevel = s.power.applied
  · rw [State.relevel_of_same same]
    exact .refl s
  · exact (State.NoneNewOn.shedWhere (s.modPower fun q => { q with applied := s.appliedLevel }) _).trans
      (.of_domains (by rw [State.relevel_power_of_changed same]; rfl))

theorem State.NoneNewOn.droop (s : State) : s.NoneNewOn s.droop := by
  have mark (t : State) : t.NoneNewOn (t.modPower fun p => { p with droop := true }) := .of_domains rfl
  unfold State.droop
  split
  · exact .refl s
  · split
    · exact (State.NoneNewOn.shedWhere s _).trans (mark _)
    · split
      · exact (State.NoneNewOn.shedWhere s _).trans (mark _)
      · exact .refl s

theorem State.NoneNewOn.shedReturn (s : State) : s.NoneNewOn s.shedReturn := fun d mem on => by
  rw [State.shedReturn_power] at mem
  dsimp only at mem
  split at mem
  · obtain ⟨e, was, rfl⟩ := List.mem_map.1 mem
    unfold returnIf at on ⊢
    split at on
    · cases on
    · rename_i stays
      rw [if_neg stays]
      exact ⟨e, was, rfl, rfl, on⟩
  · exact ⟨d, mem, rfl, rfl, on⟩

theorem State.NoneNewOn.judgeOverload (s : State) : s.NoneNewOn s.judgeOverload := by
  unfold State.judgeOverload
  split
  · split
    · split
      · exact (State.NoneNewOn.relevel (s.modPower Power.opened)).trans (.of_domains (by rw [State.trip_power]))
      · exact .of_domains rfl
    · exact .of_domains rfl
  · exact .refl s

theorem State.NoneNewOn.judgeBattery (s : State) : s.NoneNewOn s.judgeBattery := .of_domains (by simp)

end Sys2Proof.Machine

namespace Sys2Proof.Machine

/-! ### A sample event's judgements, one after another (R150 to R166) -/

/-- After droop and cutoff shedding. -/
def State.dropped (s : State) : State := s.calling State.droop

/-- After the return of SHED domains besides. -/
def State.returned (s : State) : State := s.dropped.calling State.shedReturn

/-- After CONSOLE's judgement of its power besides. -/
def State.overloaded (s : State) : State := s.returned.calling State.judgeOverload

theorem State.judgeSample_eq (s : State) : s.judgeSample = s.overloaded.calling State.judgeBattery := rfl

section Stages

variable (s : State)

@[simp] theorem State.dropped_station : s.dropped.station = s.station := by simp [State.dropped]
@[simp] theorem State.returned_station : s.returned.station = s.station := by simp [State.returned]
@[simp] theorem State.overloaded_station : s.overloaded.station = s.station := by simp [State.overloaded]
@[simp] theorem State.dropped_cfg : s.dropped.cfg = s.cfg := by simp [State.dropped]
@[simp] theorem State.returned_cfg : s.returned.cfg = s.cfg := by simp [State.returned]
@[simp] theorem State.overloaded_cfg : s.overloaded.cfg = s.cfg := by simp [State.overloaded]

theorem State.shedReturn_supply :
    s.shedReturn.power.supplyLevel = s.power.supplyLevel ∧ s.shedReturn.power.switchClosed = s.power.switchClosed ∧
      s.shedReturn.power.overRun = s.power.overRun ∧ s.shedReturn.power.tripped = s.power.tripped ∧
      s.shedReturn.power.tripWait = s.power.tripWait ∧ s.shedReturn.power.droop = s.power.droop ∧
      s.shedReturn.power.battery = s.power.battery := by
  rw [State.shedReturn_power]
  simp only [and_self]

theorem State.shedReturn_values :
    s.shedReturn.power.rail = s.power.rail ∧ s.shedReturn.power.load = s.power.load ∧ s.shedReturn.power.aux = s.power.aux ∧
      s.shedReturn.power.p = s.power.p ∧ s.shedReturn.power.converting = s.power.converting ∧
      s.shedReturn.power.brownRun = s.power.brownRun := by
  rw [State.shedReturn_power]
  simp only [and_self]

/-- No judgement changes the values sampled, nor the brownout run (R149). -/
theorem State.judgeSample_values :
    s.judgeSample.power.rail = s.power.rail ∧ s.judgeSample.power.load = s.power.load ∧
      s.judgeSample.power.aux = s.power.aux ∧ s.judgeSample.power.p = s.power.p ∧
      s.judgeSample.power.converting = s.power.converting ∧ s.judgeSample.power.brownRun = s.power.brownRun := by
  simp [State.judgeSample_eq, State.overloaded, State.returned, State.dropped, State.shedReturn_values]

theorem State.returned_values :
    s.returned.power.rail = s.power.rail ∧ s.returned.power.p = s.power.p ∧ s.returned.power.aux = s.power.aux := by
  simp [State.returned, State.dropped, State.shedReturn_values]

/-- What droop shedding leaves in the droop mark, every later judgement leaves there (R155). -/
theorem State.judgeSample_droop : s.judgeSample.power.droop = s.droop.power.droop := by
  simp [State.judgeSample_eq, State.overloaded, State.returned, State.dropped, State.shedReturn_supply]

/-- The supply control as droop shedding and the return of SHED domains leave it: as it was (R163). -/
theorem State.returned_supply :
    s.returned.power.switchClosed = s.power.switchClosed ∧ s.returned.power.overRun = s.power.overRun ∧
      s.returned.power.tripped = s.power.tripped ∧ s.returned.power.tripWait = s.power.tripWait := by
  simp [State.returned, State.dropped, State.shedReturn_supply]

theorem State.returned_supplyLevel_of_ne_strap (h : s.station ≠ .strap) :
    s.returned.power.supplyLevel = s.power.supplyLevel := by
  simp [State.returned, State.dropped, State.shedReturn_supply, State.droop_supplyLevel_of_ne_strap h]

@[simp] theorem State.returned_supplyLimit : s.returned.supplyLimit = s.supplyLimit := by
  simp [State.supplyLimit, State.returned, State.dropped]

/-- A trip by a sample (R163). -/
def State.overloads : Bool :=
  decide (s.station = .console ∧ s.power.switchClosed = true ∧ s.supplyLimit * 5 / 4 < s.power.p ∧ 1 ≤ s.power.overRun)

theorem State.overloads_iff :
    s.overloads = true ↔
      s.station = .console ∧ s.power.switchClosed = true ∧ s.supplyLimit * 5 / 4 < s.power.p ∧ 1 ≤ s.power.overRun :=
  decide_eq_true_iff

/-- CONSOLE's judgement that trips (R163). -/
theorem State.judgeOverload_of_overloads {s : State} (h : s.overloads = true) : s.judgeOverload = s.trip := by
  obtain ⟨console, closed, above, second⟩ := s.overloads_iff.1 h
  exact State.judgeOverload_of_second console closed above second

/-- CONSOLE's judgement that does not trip leaves all but the overload run (R163). -/
theorem State.judgeOverload_of_not_overloads {s : State} (h : s.overloads = false) :
    s.judgeOverload = s.modPower fun p => { p with overRun := s.judgeOverload.power.overRun } := by
  unfold State.judgeOverload
  split
  · rename_i judges
    split
    · rename_i above
      split
      · rename_i second
        have : s.overloads = true := s.overloads_iff.2 ⟨judges.1, judges.2, above, by omega⟩
        rw [this] at h
        cases h
      · rfl
    · rfl
  · rfl

theorem State.returned_overloads : s.returned.overloads = s.overloads := by
  simp [State.overloads, State.returned_supply, State.returned_values]

theorem State.judgeOverload_supplyLevel_of_not_overloads {s : State} (h : s.overloads = false) :
    s.judgeOverload.power.supplyLevel = s.power.supplyLevel ∧ s.judgeOverload.power.domains = s.power.domains ∧
      s.judgeOverload.power.switchClosed = s.power.switchClosed ∧ s.judgeOverload.power.tripped = s.power.tripped ∧
      s.judgeOverload.power.tripWait = s.power.tripWait := by
  rw [State.judgeOverload_of_not_overloads h]
  exact ⟨rfl, rfl, rfl, rfl, rfl⟩

/-- The switch after a sample: closed where it was and the sample does not trip (R163). -/
theorem State.judgeSample_switch : s.judgeSample.power.switchClosed = (s.power.switchClosed && !s.overloads) := by
  have last : s.judgeSample.power.switchClosed = s.returned.judgeOverload.power.switchClosed := by
    simp [State.judgeSample_eq, State.overloaded]
  rw [last]
  cases trips : s.overloads with
  | true =>
    obtain ⟨console, -⟩ := s.overloads_iff.1 trips
    rw [State.judgeOverload_of_overloads (by rw [State.returned_overloads, trips]),
      (State.trip_supply (by simp [console])).1, Bool.not_true, Bool.and_false]
  | false =>
    rw [(State.judgeOverload_supplyLevel_of_not_overloads (by rw [State.returned_overloads, trips])).2.2.1,
      s.returned_supply.1, Bool.not_false, Bool.and_true]

/-! #### Domains -/

/-- What is ON after a sample, droop shedding left ON (R153). -/
theorem State.judgeSample_on : s.droop.NoneNewOn s.judgeSample := by
  have dropped : s.droop.NoneNewOn s.dropped := State.NoneNewOn.calling (.refl _)
  have returned : s.dropped.NoneNewOn s.returned := State.NoneNewOn.calling (.shedReturn _)
  have overloaded : s.returned.NoneNewOn s.overloaded := State.NoneNewOn.calling (.judgeOverload _)
  exact ((dropped.trans returned).trans overloaded).trans (State.NoneNewOn.calling (.judgeBattery _))

/-- The domains after a sample that does not trip are those that the return of SHED domains leaves (R153). -/
theorem State.judgeSample_domains_of_not_overloads (h : s.overloads = false) :
    s.judgeSample.power.domains = s.returned.power.domains := by
  have last : s.judgeSample.power.domains = s.returned.judgeOverload.power.domains := by
    simp [State.judgeSample_eq, State.overloaded]
  rw [last, (State.judgeOverload_supplyLevel_of_not_overloads (by rw [State.returned_overloads, h])).2.1]

/-- The domains that the return of SHED domains leaves (R153). -/
theorem State.returned_domains :
    s.returned.power.domains =
      if s.cfg.admitMv ≤ s.power.rail then s.droop.power.domains.map (returnIf s.droop.power.applied)
      else s.droop.power.domains := by
  simp [State.returned, State.dropped, State.shedReturn_power]

/-- A domain that is not ON stands while a trip sheds (R154). -/
theorem State.judgeOverload_get {s : State} {i : Nat} {d : Domain} (here : s.power.domains[i]? = some d) (off : d.state ≠ .on) :
    s.judgeOverload.power.domains[i]? = some d := by
  cases trips : s.overloads with
  | true =>
    obtain ⟨console, -⟩ := s.overloads_iff.1 trips
    rw [State.judgeOverload_of_overloads trips, State.trip_power,
      State.SensorsMatch.relevel_shedDomains (State.sensorsMatch_of_ne (by simp [console]))]
    unfold shedDomains
    split
    · exact here
    · rw [List.getElem?_map, show (s.modPower Power.opened).power.domains = s.power.domains from rfl, here, Option.map_some,
        if_neg fun h => off h.1]
  | false => rw [(State.judgeOverload_supplyLevel_of_not_overloads trips).2.1, here]

theorem State.judgeSample_get {i : Nat} {d : Domain} (here : s.returned.power.domains[i]? = some d) (off : d.state ≠ .on) :
    s.judgeSample.power.domains[i]? = some d := by
  have last : s.judgeSample.power.domains = s.returned.judgeOverload.power.domains := by
    simp [State.judgeSample_eq, State.overloaded]
  rw [last]
  exact State.judgeOverload_get here off

end Stages

/-! #### Droop shedding and what comes after it (R153, R155) -/

theorem State.droop_mark_of_cutoff {s : State} {x : Domain} (pick : droopPick s.power.domains = some x)
    (low : s.power.rail < s.cfg.cutoffMv) : s.droop.power.droop = true := by
  rw [State.droop_of_cutoff pick low, State.marked_power]

theorem State.droop_mark_of_first {s : State} {x : Domain} (pick : droopPick s.power.domains = some x)
    (above : s.cfg.cutoffMv ≤ s.power.rail) (low : s.power.rail < s.cfg.shedMv) (first : s.power.droop = false) :
    s.droop.power.droop = true := by
  rw [State.droop_of_first pick above low first, State.marked_power]

/-- At cutoff no domain above priority 0 stays ON (R155). -/
theorem State.judgeSample_of_cutoff {s : State} (low : s.power.rail < s.cfg.cutoffMv) (d : Domain)
    (mem : d ∈ s.judgeSample.power.domains) (on : d.state = .on) : d.priority = 0 := by
  obtain ⟨e, was, -, priority, state⟩ := s.judgeSample_on d mem on
  rw [← priority]
  cases pick : droopPick s.power.domains with
  | none =>
    rw [State.droop_of_none pick] at was
    exact (droopPick_spec s.power.domains).2 pick e was state
  | some x =>
    rw [State.droop_of_cutoff pick low, State.marked_power] at was
    obtain ⟨c, -, -, priority', -, spared⟩ := State.shedWhere_on was state
    rw [decide_eq_true_iff] at spared
    omega

/-- The domain that droop shedding takes is not ON after it (R155). -/
theorem State.judgeSample_of_first {s : State} {x : Domain} (pick : droopPick s.power.domains = some x)
    (above : s.cfg.cutoffMv ≤ s.power.rail) (low : s.power.rail < s.cfg.shedMv) (first : s.power.droop = false) (d : Domain)
    (mem : d ∈ s.judgeSample.power.domains) (number : d.number = x.number) : d.state ≠ .on := by
  intro on
  obtain ⟨e, was, same, -, state⟩ := s.judgeSample_on d mem on
  rw [State.droop_of_first pick above low first, State.marked_power] at was
  obtain ⟨c, -, same', -, -, spared⟩ := State.shedWhere_on was state
  exact spared (decide_eq_true (same'.trans (same.trans number)))

/-- Cutoff sheds every ON domain above priority 0, and no other (R155). -/
theorem State.SensorsMatch.droop_of_cutoff {s : State} (h : s.SensorsMatch) (low : s.power.rail < s.cfg.cutoffMv) :
    s.droop.power.domains = s.power.domains.map fun d => if d.state = .on ∧ 0 < d.priority then { d with state := .shed } else d := by
  cases pick : droopPick s.power.domains with
  | none =>
    rw [State.droop_of_none pick]
    have none := (droopPick_spec s.power.domains).2 pick
    refine (List.map_id _).symm.trans (List.map_congr_left fun d mem => ?_)
    rw [if_neg fun above => above.2.ne' (none d mem above.1)]
    rfl
  | some x =>
    rw [State.droop_of_cutoff pick low, State.marked_power]
    refine (h.shed _).trans (List.map_congr_left fun d _ => ?_)
    unfold shedIf
    simp only [decide_eq_true_eq]

/-- A droop shed takes the domain it picks, and no other (R155). -/
theorem State.SensorsMatch.droop_of_first {s : State} (h : s.SensorsMatch) {x : Domain}
    (pick : droopPick s.power.domains = some x) (above : s.cfg.cutoffMv ≤ s.power.rail) (low : s.power.rail < s.cfg.shedMv)
    (first : s.power.droop = false) :
    s.droop.power.domains =
      s.power.domains.map fun d => if d.state = .on ∧ d.number = x.number then { d with state := .shed } else d := by
  rw [State.droop_of_first pick above low first, State.marked_power]
  refine (h.shed _).trans (List.map_congr_left fun d _ => ?_)
  unfold shedIf
  simp only [decide_eq_true_eq]

/-- With RAIL below the admission level and no trip, the domains stand as droop shedding leaves them (R153). -/
theorem State.judgeSample_of_below_admit {s : State} (below : s.power.rail < s.cfg.admitMv) (quiet : s.overloads = false) :
    s.judgeSample.power.domains = s.droop.power.domains := by
  rw [State.judgeSample_domains_of_not_overloads s quiet, State.returned_domains, if_neg (not_le.2 below)]

/-- With no droop a SHED domain that the level allows returns to WAITING where RAIL is at or above the admission level (R153). -/
theorem State.judgeSample_of_no_droop {s : State} (above : s.cfg.cutoffMv ≤ s.power.rail) (high : s.cfg.shedMv ≤ s.power.rail)
    {i : Nat} {d : Domain} (here : s.power.domains[i]? = some d) (shed : d.state = .shed) :
    s.judgeSample.power.domains[i]? =
      some { d with state := if s.cfg.admitMv ≤ s.power.rail ∧ d.priority < 8 - s.power.applied then .waiting else .shed } := by
  have domains := s.returned_domains
  rw [State.droop_of_standing above (.inl high)] at domains
  by_cases reaches : s.cfg.admitMv ≤ s.power.rail
  · rw [if_pos reaches] at domains
    have returns : s.returned.power.domains[i]? = some (returnIf s.power.applied d) := by
      rw [domains, List.getElem?_map, here]
      rfl
    unfold returnIf at returns
    by_cases allowed : d.priority < 8 - s.power.applied
    · rw [if_pos ⟨shed, allowed⟩] at returns
      rw [if_pos ⟨reaches, allowed⟩]
      exact s.judgeSample_get returns nofun
    · rw [if_neg fun h => allowed h.2] at returns
      rw [if_neg fun h => allowed h.2, ← shed]
      exact s.judgeSample_get returns (by rw [shed]; nofun)
  · rw [if_neg reaches] at domains
    rw [if_neg fun h => reaches h.1, ← shed]
    exact s.judgeSample_get (by rw [domains, here]) (by rw [shed]; nofun)

/-! #### CONSOLE's supply (R163) -/

/-- The supply control after a sample at CONSOLE is as its judgement leaves it (R163). -/
theorem State.judgeSample_supply {s : State} (console : s.station = .console) :
    s.judgeSample.power.overRun = s.returned.judgeOverload.power.overRun ∧
      s.judgeSample.power.switchClosed = s.returned.judgeOverload.power.switchClosed ∧
      s.judgeSample.power.tripped = s.returned.judgeOverload.power.tripped ∧
      s.judgeSample.power.tripWait = s.returned.judgeOverload.power.tripWait ∧
      s.judgeSample.power.supplyLevel = s.returned.judgeOverload.power.supplyLevel := by
  have stays : (s.returned.calling State.judgeOverload).judgeBattery = s.returned.calling State.judgeOverload :=
    State.judgeBattery_of_ne_strap (by simp [console])
  simp [State.judgeSample_eq, stays, State.overloaded]

/-- The supply control stands where a sample does not trip, the overload run apart (R163). -/
theorem State.judgeSample_stands {s : State} (console : s.station = .console) (quiet : s.overloads = false) :
    s.judgeSample.power.switchClosed = s.power.switchClosed ∧ s.judgeSample.power.tripped = s.power.tripped ∧
      s.judgeSample.power.tripWait = s.power.tripWait ∧ s.judgeSample.power.supplyLevel = s.power.supplyLevel := by
  obtain ⟨-, switch, tripped, wait, level⟩ := State.judgeSample_supply console
  obtain ⟨level', -, switch', tripped', wait'⟩ :=
    State.judgeOverload_supplyLevel_of_not_overloads (by rw [State.returned_overloads, quiet])
  obtain ⟨switch'', -, tripped'', wait''⟩ := s.returned_supply
  exact ⟨by rw [switch, switch', switch''], by rw [tripped, tripped', tripped''], by rw [wait, wait', wait''],
    by rw [level, level', State.returned_supplyLevel_of_ne_strap s (by simp [console])]⟩

/-- The overload run after a sample that does not trip (R163). -/
theorem State.judgeSample_overRun {s : State} (console : s.station = .console) :
    (s.power.switchClosed = false → s.judgeSample.power.overRun = s.power.overRun) ∧
      (s.power.switchClosed = true → s.power.p ≤ s.supplyLimit * 5 / 4 → s.judgeSample.power.overRun = 0) ∧
      (s.power.switchClosed = true → s.supplyLimit * 5 / 4 < s.power.p → s.power.overRun = 0 →
        s.judgeSample.power.overRun = 1) := by
  obtain ⟨run, -⟩ := State.judgeSample_supply console
  obtain ⟨switch, count, -⟩ := s.returned_supply
  obtain ⟨-, p, -⟩ := s.returned_values
  have console' : s.returned.station = .console := by simp [console]
  rw [run, ← switch, ← count, ← p, ← State.returned_supplyLimit]
  refine ⟨fun opened => ?_, fun closed within => ?_, fun closed above first => ?_⟩
  · rw [State.judgeOverload_of_open opened]
  · rw [State.judgeOverload_of_within console' closed within]
    rfl
  · rw [State.judgeOverload_of_first console' closed above first]
    show s.returned.power.overRun + 1 = 1
    rw [first]

/-- A sample that trips (R163). -/
theorem State.judgeSample_trips {s : State} (live : s.live) (trips : s.overloads = true) :
    s.judgeSample.power.switchClosed = false ∧ s.judgeSample.power.tripped = true ∧ s.judgeSample.power.tripWait = 256 ∧
      s.judgeSample.power.supplyLevel = 7 ∧ s.judgeSample.power.overRun = 0 ∧
      ∃ n ∈ s.judgeSample.notices, n.kind = .supplyTrip ∧ n.subject = .supply ∧ n.value = BitVec.ofNat 32 s.power.p := by
  obtain ⟨console, -⟩ := s.overloads_iff.1 trips
  obtain ⟨run, switch, tripped, wait, level⟩ := State.judgeSample_supply console
  have trip : s.returned.judgeOverload = s.returned.trip :=
    State.judgeOverload_of_overloads (by rw [State.returned_overloads, trips])
  obtain ⟨switch', tripped', wait', level', run'⟩ := State.trip_supply (s := s.returned) (by simp [console])
  have notices : s.judgeSample.notices = s.returned.trip.notices := by
    have stays : (s.returned.calling State.judgeOverload).judgeBattery = s.returned.calling State.judgeOverload :=
      State.judgeBattery_of_ne_strap (by simp [console])
    simp [State.judgeSample_eq, stays, State.overloaded, trip]
  rw [run, switch, tripped, wait, level, trip, notices]
  refine ⟨switch', tripped', wait', level', run', ?_⟩
  have posts := State.trip_posts (s := s.returned) (by simpa [State.live, State.returned, State.dropped] using live)
  rwa [s.returned_values.2.1] at posts

/-! #### STRAP (R165, R166) -/

/-- The offer that a state gives depends on station, record, straps, switch, battery and domains (R160, R165). -/
theorem State.ownOffer_congr {s t : State} (station : t.station = s.station) (cfg : t.cfg = s.cfg) (sup : t.sup = s.sup)
    (switch : t.power.switchClosed = s.power.switchClosed) (battery : t.power.battery = s.power.battery)
    (domains : t.power.domains = s.power.domains) : t.ownOffer = s.ownOffer := by
  have on := State.domainOn_congr domains 1
  unfold State.ownOffer
  rw [station]
  cases s.station <;> simp only [State.supplyLimit, cfg, sup, switch, battery, on]

/-- STRAP's supply level is 0 after a sample that leaves it no offer (R166). -/
theorem State.judgeBattery_supplyLevel {s : State} (strap : s.station = .strap) :
    (s.judgeBattery.ownOffer = 0 → s.judgeBattery.power.supplyLevel = 0) ∧
      (s.judgeBattery.ownOffer ≠ 0 → s.judgeBattery.power.supplyLevel = s.power.supplyLevel) ∧
      s.judgeBattery.power.battery = (s.power.judged s.cfg.batteryFloor).battery := by
  rw [State.judgeBattery_of_strap strap]
  have offer : (s.modPower fun p => p.judged s.cfg.batteryFloor).followOffer.ownOffer =
      (s.modPower fun p => p.judged s.cfg.batteryFloor).ownOffer :=
    State.ownOffer_congr (by simp) (by simp) (by simp) (by simp) (by simp) (by simp)
  rw [offer, State.followOffer_power]
  by_cases none : (s.modPower fun p => p.judged s.cfg.batteryFloor).ownOffer = 0
  · rw [if_pos ⟨strap, none⟩]
    exact ⟨fun _ => rfl, fun h => absurd none h, rfl⟩
  · rw [if_neg fun h => none h.2]
    exact ⟨fun h => absurd h none, fun _ => rfl, rfl⟩

theorem State.ownOffer_of_strap {s : State} (h : s.station = .strap) :
    s.ownOffer = if s.power.battery = true ∧ s.domainOn 1 = false then s.cfg.strapLimit else 0 := by
  unfold State.ownOffer
  rw [h]

/-! #### The sample event -/

/-- The values of a conversion (R149). -/
theorem State.takeValues_power (s : State) (a b c : BitVec 10) :
    (s.takeValues a b c).power =
      { s.power with
        converting := false, rail := convert s.cfg.rail a, load := convert s.cfg.load b,
        aux := if s.station = .strap then convert s.cfg.aux c else 0,
        p := if s.station = .console ∨ s.station = .strap then convert s.cfg.load b * convert s.cfg.rail a / 1000 else 0 } := rfl

/-- The brownout run after a sample (R150). -/
theorem State.judgeBrownout_of_run {s : State} (h : ¬(s.power.rail < s.cfg.brownoutMv ∧ 3 ≤ s.power.brownRun)) :
    s.judgeBrownout =
      s.modPower fun p => { p with brownRun := if s.power.rail < s.cfg.brownoutMv then s.power.brownRun + 1 else 0 } := by
  unfold State.judgeBrownout
  dsimp only
  rw [if_neg]
  split <;> omega

theorem State.judgeBrownout_of_fourth {s : State} (low : s.power.rail < s.cfg.brownoutMv) (run : 3 ≤ s.power.brownRun) :
    s.judgeBrownout = s.resetNode .brownout := by
  unfold State.judgeBrownout
  dsimp only
  rw [if_pos low, if_pos (by omega)]

/-- What STRAP makes of a sample (R165, R166). -/
theorem State.judgeSample_strap {s : State} (strap : s.station = .strap) :
    s.judgeSample.power.battery =
        (if s.cfg.batteryFloor + 200 ≤ s.power.aux then true else if s.power.aux < s.cfg.batteryFloor then false
          else s.power.battery) ∧
      (s.judgeSample.ownOffer = 0 → s.judgeSample.power.supplyLevel = 0) ∧
      (s.cfg.cutoffMv ≤ s.power.rail → s.cfg.shedMv ≤ s.power.rail → s.judgeSample.ownOffer ≠ 0 →
        s.judgeSample.power.supplyLevel = s.power.supplyLevel) := by
  have strap' : s.overloaded.station = .strap := by simp [strap]
  obtain ⟨zero, stands, battery⟩ := State.judgeBattery_supplyLevel strap'
  have offer : s.judgeSample.ownOffer = s.overloaded.judgeBattery.ownOffer :=
    State.ownOffer_congr (by simp [State.judgeSample_eq]) (by simp [State.judgeSample_eq]) (by simp [State.judgeSample_eq])
      (by simp [State.judgeSample_eq]) (by simp [State.judgeSample_eq]) (by simp [State.judgeSample_eq])
  have level : s.judgeSample.power.supplyLevel = s.overloaded.judgeBattery.power.supplyLevel := by
    simp [State.judgeSample_eq]
  have quiet : s.returned.judgeOverload = s.returned := State.judgeOverload_of_ne_console (by simp [strap])
  rw [offer, level]
  refine ⟨?_, zero, fun above high some => ?_⟩
  · have aux : s.overloaded.power.aux = s.power.aux := by simp [State.overloaded, State.returned_values]
    have was : s.overloaded.power.battery = s.power.battery := by
      simp [State.overloaded, State.returned, State.dropped, State.shedReturn_supply]
    have last : s.judgeSample.power.battery = s.overloaded.judgeBattery.power.battery := by simp [State.judgeSample_eq]
    rw [last, battery]
    simp only [Power.judged, aux, was, State.overloaded_cfg]
  · rw [stands some]
    have last : s.overloaded.power.supplyLevel = s.returned.power.supplyLevel := by simp [State.overloaded, quiet]
    rw [last]
    simp [State.returned, State.dropped, State.shedReturn_supply, State.droop_of_standing above (.inl high)]

theorem State.ownOffer_brownRun (s : State) (n : Nat) :
    (s.modPower fun p => { p with brownRun := n }).ownOffer = s.ownOffer :=
  State.ownOffer_congr rfl rfl rfl rfl rfl rfl

/-- Settles O44. -/
theorem sampleEventJudgesTheRail : Obligations.SampleEventJudgesTheRail := by
  unfold Obligations.SampleEventJudgesTheRail
  refine ⟨fun a b c s live converting => ?_, droopPick_spec⟩
  intro value rail load supply
  have step : exec (.sampleEvent a b c) s = .next (s.takeValues a b c).judgeSample.judgeBrownout := if_pos ⟨live, converting⟩
  have overloads : (s.takeValues a b c).overloads = true ↔
      s.station = .console ∧ s.power.switchClosed = true ∧ (12000 + 6000 * s.sup.toNat) * 5 / 4 < load * rail / 1000 ∧
        1 ≤ s.power.overRun := by
    rw [State.overloads_iff]
    refine and_congr_right fun console => ?_
    have p : (s.takeValues a b c).power.p = load * rail / 1000 := by
      rw [State.takeValues_power, show s.station = .console from console]
      rfl
    rw [p]
    rfl
  obtain ⟨jRail, jLoad, jAux, jP, jConverting, jRun⟩ := (s.takeValues a b c).judgeSample_values
  have jCfg : (s.takeValues a b c).judgeSample.cfg = s.cfg := by simp
  refine ⟨_, step, fun low run => ?_, fun no => ?_⟩
  · rw [State.judgeBrownout_of_fourth (by rw [jRail, jCfg]; exact low) (by rw [jRun]; exact run)]
    have switch : ((s.takeValues a b c).judgeSample.power.switchClosed : Bool) =
        (s.power.switchClosed &&
          !decide (s.station = .console ∧ (12000 + 6000 * s.sup.toNat) * 5 / 4 < load * rail / 1000 ∧ 1 ≤ s.power.overRun)) := by
      have same : (s.takeValues a b c).power.switchClosed = s.power.switchClosed := rfl
      rw [State.judgeSample_switch, same]
      cases closed : s.power.switchClosed with
      | false => exact Bool.false_and _
      | true =>
        refine congrArg (fun x => true && !x) (Bool.eq_iff_iff.2 ?_)
        rw [overloads, decide_eq_true_iff, closed]
        simp
    unfold State.resetNode
    rw [switch]
    exact State.eq_of_fields (by simp [State.reset])
  · have stays : ¬((s.takeValues a b c).judgeSample.power.rail < (s.takeValues a b c).judgeSample.cfg.brownoutMv ∧
        3 ≤ (s.takeValues a b c).judgeSample.power.brownRun) := by
      rw [jRail, jRun, jCfg]
      exact no
    have uMatch (h : s.station = .headset → (s.motion.state = .off ↔ s.domainOn 2 = false)) :
      (s.takeValues a b c).SensorsMatch := h
    have uP (h : supply) : (s.takeValues a b c).power.p = load * rail / 1000 := if_pos h
    have uQuiet (h : s.station = .console → s.power.switchClosed = false ∨
        load * rail / 1000 ≤ (12000 + 6000 * s.sup.toNat) * 5 / 4 ∨ s.power.overRun = 0) :
        (s.takeValues a b c).overloads = false := by
      rw [← Bool.not_eq_true, overloads]
      rintro ⟨console, closed, above, second⟩
      obtain opened | within | first := h console
      · rw [closed] at opened
        cases opened
      · omega
      · omega
    have jDroop := (s.takeValues a b c).judgeSample_droop
    have jCutoff := State.judgeSample_of_cutoff (s := s.takeValues a b c)
    have jFirst {x : Domain} := State.judgeSample_of_first (s := s.takeValues a b c) (x := x)
    have jDomains := State.judgeSample_of_below_admit (s := s.takeValues a b c)
    have jReturn {i : Nat} {d : Domain} := State.judgeSample_of_no_droop (s := s.takeValues a b c) (i := i) (d := d)
    have jStands := State.judgeSample_stands (s := s.takeValues a b c)
    have jOver := State.judgeSample_overRun (s := s.takeValues a b c)
    have jTrips := State.judgeSample_trips (s := s.takeValues a b c) live
    have jStrap := State.judgeSample_strap (s := s.takeValues a b c)
    have jStation : (s.takeValues a b c).judgeSample.station = s.station := by simp
    have jStart : (s.takeValues a b c).judgeSample.start = s.start := by simp
    have jRx : (s.takeValues a b c).judgeSample.rx = s.rx := by simp
    have jViews : (s.takeValues a b c).judgeSample.views = s.views := by simp
    rw [State.judgeBrownout_of_run stays, jRail, jCfg, jRun]
    clear stays step
    generalize (s.takeValues a b c).judgeSample = j at *
    refine ⟨jRail, jLoad, jConverting, jAux, fun supplies => jP.trans (uP supplies), rfl,
      fun low d mem on => jCutoff low d mem on, fun above high => ?_,
      fun above low first x pick => ⟨?_, fun d mem number => jFirst pick above low first d mem number⟩,
      fun low pick => ?_, fun none => ?_, fun above low marked => ⟨?_, fun below away => ?_⟩,
      fun quiet matching below => ⟨fun low => ?_, fun above low first x pick => ?_⟩,
      fun console => ?_, fun above high i d here shed => jReturn above high here shed, fun strap => ?_, jStart, jRx, jViews⟩
    · exact jDroop.trans (congrArg (fun t => t.power.droop) (State.droop_of_standing (s := s.takeValues a b c) above (.inl high)))
    · exact jDroop.trans (State.droop_mark_of_first (s := s.takeValues a b c) pick above low first)
    · obtain ⟨x, pick⟩ := Option.ne_none_iff_exists'.1 pick
      exact jDroop.trans (State.droop_mark_of_cutoff (s := s.takeValues a b c) pick low)
    · exact jDroop.trans (congrArg (fun t => t.power.droop) (State.droop_of_none (s := s.takeValues a b c) none))
    · exact (jDroop.trans (congrArg (fun t => t.power.droop)
        (State.droop_of_standing (s := s.takeValues a b c) above (.inr marked)))).trans marked
    · refine (jDomains below (uQuiet fun console => absurd console away)).trans ?_
      exact congrArg (fun t => t.power.domains) (State.droop_of_standing (s := s.takeValues a b c) above (.inr marked))
    · exact (jDomains below (uQuiet quiet)).trans ((uMatch matching).droop_of_cutoff low)
    · exact (jDomains below (uQuiet quiet)).trans ((uMatch matching).droop_of_first pick above low first)
    · intro p limit stands
      obtain ⟨opened, within, second⟩ := jOver console
      have same := uP (.inl console)
      rw [same] at within second
      refine ⟨fun h => ⟨opened h, jStands console (uQuiet fun _ => .inl h)⟩,
        fun h low => ⟨within h low, jStands console (uQuiet fun _ => .inr (.inl low))⟩,
        fun h above first => ⟨second h above first, jStands console (uQuiet fun _ => .inr (.inr first))⟩,
        fun h above again => ?_⟩
      obtain ⟨switch, tripped, wait, level, run, posted⟩ := jTrips (overloads.2 ⟨console, h, above, again⟩)
      rw [same] at posted
      refine ⟨switch, tripped, wait, level, run, ?_, posted⟩
      rw [State.ownOffer_brownRun, State.ownOffer_of_console (jStation.trans console), switch]
      rfl
    · obtain ⟨battery, zero, level⟩ := jStrap strap
      have aux : (s.takeValues a b c).power.aux = value s.cfg.aux c := if_pos strap
      rw [aux] at battery
      rw [State.ownOffer_brownRun]
      refine ⟨battery, ?_, zero, level⟩
      rw [State.ownOffer_of_strap (jStation.trans strap), jCfg]
      rfl

end Sys2Proof.Machine

namespace Sys2Proof.Machine

/-! ### The admission test (R159, R160) -/

/-- After the units followed the motion unit is OFF exactly while the sensors domain is not ON (R121). -/
theorem State.follow_sensorsMatch (s : State) : s.follow.SensorsMatch := by
  intro headset
  have headset : s.station = .headset := by simpa using headset
  have sensors : s.follow.domainOn 2 = s.domainOn 2 := by
    unfold State.domainOn
    rw [State.follow_domains]
    unfold State.wearLinked
    split
    · split
      · rw [List.any_map]
        congr 1
        funext d
        simp only [Function.comp_apply, wantOf_number]
        by_cases number : d.number = 1
        · simp [number]
        · rw [wantOf_eq, if_neg fun h => number h.1]
      · rfl
    · rfl
  rw [sensors, State.follow_motion]
  unfold State.sensed
  rw [if_pos headset]
  by_cases on : s.domainOn 2 = true
  · rw [if_pos on, on]
    split
    · cases s.motion.worn <;> simp [Motion.toSampling, Motion.toDoze]
    · rename_i running
      simpa using running
  · have no : s.domainOn 2 = false := by simpa using on
    rw [if_neg on, no]
    split
    · rename_i off
      exact ⟨fun _ => rfl, fun _ => off⟩
    · simp [Motion.toOff]

/-- An admitted domain goes ON (R159). -/
def admitOn (n : Nat) (d : Domain) : Domain := if d.number = n then { d with state := .on } else d

theorem admitOn_number (n : Nat) (d : Domain) : (admitOn n d).number = d.number := by
  unfold admitOn
  split <;> rfl

theorem State.admission_of_none {s : State} (h : candidate s.power.domains = none) : s.admission = s := by
  unfold State.admission
  rw [h]

theorem State.admission_of_refused {s : State} {d : Domain} (pick : candidate s.power.domains = some d)
    (h : ¬s.admissible d = true) : s.admission = s := by
  unfold State.admission
  rw [pick]
  exact if_neg h

theorem State.admission_of_admitted {s : State} {d : Domain} (pick : candidate s.power.domains = some d)
    (h : s.admissible d = true) : s.admission = (s.changeDomains (admitOn d.number)).follow := by
  unfold State.admission
  rw [pick]
  exact if_pos h

/-- The candidate is, among the WAITING domains, the first of the lowest priority number (R159). -/
theorem candidate_of_first {ds : List Domain} {i : Nat} {d : Domain} (here : ds[i]? = some d) (waits : d.state = .waiting)
    (first : ∀ (j : Nat) (e : Domain), ds[j]? = some e → e.state = .waiting →
      d.priority < e.priority ∨ (d.priority = e.priority ∧ i ≤ j)) : candidate ds = some d := by
  have spec : ∀ es : List Domain,
      (∀ x, candidate es = some x →
        ∃ j : Nat, es[j]? = some x ∧ x.state = .waiting ∧
          ∀ (k : Nat) (e : Domain), es[k]? = some e → e.state = .waiting →
            x.priority < e.priority ∨ (x.priority = e.priority ∧ j ≤ k)) ∧
        (candidate es = none → ∀ e ∈ es, e.state ≠ .waiting) := by
    intro es
    induction es using List.reverseRecOn with
    | nil => exact ⟨nofun, fun _ => nofun⟩
    | append_singleton es e ih =>
      have pick : candidate (es ++ [e]) =
          if e.state = .waiting then
            match candidate es with
            | some b => if e.priority < b.priority then some e else some b
            | none => some e
          else candidate es := by
        unfold candidate
        rw [List.foldl_append]
        rfl
      have before {j : Nat} {d : Domain} (at_ : (es ++ [e])[j]? = some d) : es[j]? = some d ∨ (j = es.length ∧ d = e) := by
        by_cases inside : j < es.length
        · rw [List.getElem?_append_left inside] at at_
          exact .inl at_
        · rw [List.getElem?_append_right (not_lt.1 inside), List.getElem?_singleton] at at_
          split at at_
          · cases at_
            exact .inr ⟨by omega, rfl⟩
          · cases at_
      have index {j : Nat} {d : Domain} (at_ : es[j]? = some d) : j < es.length := (List.getElem?_eq_some_iff.1 at_).1
      have still {j : Nat} {d : Domain} (at_ : es[j]? = some d) : (es ++ [e])[j]? = some d := by
        rw [List.getElem?_append_left (index at_), at_]
      have last : (es ++ [e])[es.length]? = some e := by simp
      rw [pick]
      by_cases fits : e.state = .waiting
      · rw [if_pos fits]
        cases was : candidate es with
        | none =>
          refine ⟨fun x same => ?_, nofun⟩
          cases same
          refine ⟨es.length, last, fits, fun k c at_ waits => ?_⟩
          obtain at_ | ⟨rfl, rfl⟩ := before at_
          · exact absurd waits (ih.2 was c (List.mem_of_getElem? at_))
          · exact .inr ⟨rfl, le_refl _⟩
        | some b =>
          obtain ⟨j, at_b, waits_b, best⟩ := ih.1 b was
          by_cases beaten : e.priority < b.priority
          · dsimp only
            rw [if_pos beaten]
            refine ⟨fun x same => ?_, nofun⟩
            cases same
            refine ⟨es.length, last, fits, fun k c at_ waits => ?_⟩
            obtain at_ | ⟨rfl, rfl⟩ := before at_
            · obtain less | ⟨same, -⟩ := best k c at_ waits
              · exact .inl (beaten.trans less)
              · exact .inl (same ▸ beaten)
            · exact .inr ⟨rfl, le_refl _⟩
          · dsimp only
            rw [if_neg beaten]
            refine ⟨fun x same => ?_, nofun⟩
            cases same
            refine ⟨j, still at_b, waits_b, fun k c at_ waits => ?_⟩
            obtain at_ | ⟨rfl, rfl⟩ := before at_
            · exact best k c at_ waits
            · obtain less | same := (not_lt.1 beaten).lt_or_eq
              · exact .inl less
              · exact .inr ⟨same, (index at_b).le⟩
      · rw [if_neg fits]
        refine ⟨fun x was => ?_, fun none c mem => ?_⟩
        · obtain ⟨j, at_x, waits, best⟩ := ih.1 x was
          refine ⟨j, still at_x, waits, fun k c at_ waits' => ?_⟩
          obtain at_ | ⟨rfl, rfl⟩ := before at_
          · exact best k c at_ waits'
          · exact absurd waits' fits
        · obtain mem | mem := List.mem_append.1 mem
          · exact ih.2 none c mem
          · rw [List.mem_singleton] at mem
            subst mem
            exact fits
  cases pick : candidate ds with
  | none => exact absurd waits ((spec ds).2 pick d (List.mem_of_getElem? here))
  | some x =>
    obtain ⟨j, at_x, waits_x, best⟩ := (spec ds).1 x pick
    have one := best i d here waits
    have two := first j x at_x waits_x
    have same : i = j := by omega
    subst same
    rw [here] at at_x
    exact at_x.symm

theorem candidate_of_no_waiting {ds : List Domain} (h : ∀ d ∈ ds, d.state ≠ .waiting) : candidate ds = none := by
  cases pick : candidate ds with
  | none => rfl
  | some d => exact absurd (candidate_mem pick).2 (h d (candidate_mem pick).1)

/-! #### Headroom -/

theorem sum_filter_map {α : Type} (l : List α) (p : α → Bool) (f : α → Nat) :
    ((l.filter p).map f).sum = (l.map fun x => if p x then f x else 0).sum := by
  induction l with
  | nil => rfl
  | cons x l ih =>
    rw [List.filter_cons]
    split
    · rename_i here
      simp [here, ih]
    · rename_i here
      simp [here, ih]

/-- The other stations (R160). -/
def State.otherStations (s : State) : List Station := [Station.console, .pod, .headset, .strap].filter fun x => x != s.station

theorem State.others_eq (s : State) : s.others = s.otherStations.map fun x => (x, s.views.get x) := rfl

/-- The offers counted (R160). -/
theorem State.offersCounted_eq (s : State) :
    s.offersCounted =
      s.ownOffer + (s.otherStations.map fun x =>
        if (x = .console ∨ x = .strap) ∧ (s.views.get x).state = .heard ∧ (s.stations.get x).present = true then
          (s.views.get x).report.offer * 10 else 0).sum := by
  unfold State.offersCounted
  rw [sum_filter_map, State.others_eq, List.map_map]
  simp [Function.comp_def, and_assoc]

/-- The draws counted (R160). -/
theorem State.drawsCounted_eq (s : State) :
    s.drawsCounted =
      ((s.power.domains.filter fun e => e.state == .on).map (·.nominal)).sum + (s.otherStations.map fun x =>
        if (s.views.get x).state ≠ .unknown then (s.views.get x).report.draw * 10 else 0).sum := by
  unfold State.drawsCounted
  rw [sum_filter_map, State.others_eq, List.map_map]
  simp [Function.comp_def, State.drawOf]

/-- The waiting draws ahead of a candidate (R160). -/
theorem State.waitingAhead_eq (s : State) (k : Nat) :
    s.waitingAhead k =
      (s.otherStations.map fun x =>
        if (s.views.get x).state = .heard ∧ ((s.views.get x).report.top < k ∨
            (s.views.get x).report.top = k ∧ x.num < s.station.num) then
          (s.views.get x).report.waiting * 10 else 0).sum := by
  unfold State.waitingAhead
  rw [sum_filter_map, State.others_eq, List.map_map]
  simp [Function.comp_def, precedes]

/-- The three conditions of an admission (R159, R160). -/
theorem State.admissible_iff (s : State) (d : Domain) :
    s.admissible d = true ↔
      d.priority < 8 - s.power.applied ∧ s.cfg.admitMv ≤ s.power.rail ∧
        d.nominal + s.drawsCounted + s.waitingAhead d.priority ≤ s.offersCounted := by
  unfold State.admissible State.headroom
  simp only [Bool.and_eq_true, decide_eq_true_eq, and_assoc]
  refine and_congr_right fun _ => and_congr_right fun _ => ?_
  omega

end Sys2Proof.Machine

namespace Sys2Proof.Machine

/-! ### Admission: what it changes (R159, R123) -/

/-- An admission starts the sensors of HEADSET where it admits their domain alone (R121, R159). -/
theorem State.SensorsMatch.starts_of_admitOn {s : State} {n : Nat} (matching : s.SensorsMatch)
    (starts : (s.changeDomains (admitOn n)).starts = true) : s.station = .headset ∧ n = 2 := by
  obtain ⟨headset, on, off⟩ := (State.starts_iff _).1 starts
  have headset : s.station = .headset := by simpa using headset
  refine ⟨headset, ?_⟩
  by_contra no
  have same : (s.changeDomains (admitOn n)).domainOn 2 = s.domainOn 2 := by
    unfold State.domainOn
    rw [State.changeDomains_power, List.any_map]
    congr 1
    funext x
    unfold admitOn
    by_cases is : x.number = n
    · simp [is, no]
    · simp [is]
  rw [same, (matching headset).1 (by simpa using off)] at on
  cases on

/-- The domains after an admission, but for the display domain as the sensors start (R123, R159). -/
theorem State.admission_get {s : State} {d : Domain} (matching : s.SensorsMatch) (pick : candidate s.power.domains = some d)
    (fits : s.admissible d = true) {j : Nat} {e : Domain} (here : s.power.domains[j]? = some e)
    (other : s.station = .headset → d.number = 2 → e.number ≠ 1) :
    s.admission.power.domains[j]? = some (if e.number = d.number then { e with state := .on } else e) := by
  rw [State.admission_of_admitted pick fits, State.follow_domains]
  have changed : (s.changeDomains (admitOn d.number)).power.domains[j]? = some (admitOn d.number e) := by
    rw [State.changeDomains_power, List.getElem?_map, here]
    rfl
  split
  · rename_i starts
    obtain ⟨headset, sensors⟩ := matching.starts_of_admitOn starts
    unfold State.wearLinked
    split
    · rw [List.getElem?_map, changed, Option.map_some, wantOf_eq,
        if_neg fun h => other headset sensors ((admitOn_number _ e).symm.trans h.1)]
      rfl
    · exact changed
  · exact changed

end Sys2Proof.Machine

namespace Sys2Proof.Machine

/-! ### The sensor port (R119, R120, R124, R125) -/

/-- An edge ends the silence count of SAMPLING (R124). -/
def Motion.heard (m : Motion) : Motion := if m.state = .sampling then { m with silence := 0 } else m

theorem Motion.heard_eq (m : Motion) : m.heard = { m with silence := if m.state = .sampling then 0 else m.silence } := by
  unfold Motion.heard
  split <;> rfl

theorem execDataReadyEdge_of_off {s : State} (off : s.motion.state = .off) : execDataReadyEdge s = .next s :=
  if_pos (.inr off)

/-- An edge that finds no read in progress is decimated (R119, R120). -/
theorem execDataReadyEdge_of_idle {s : State} (headset : s.station = .headset) (on : s.motion.state ≠ .off)
    (idle : s.motion.reading = none) :
    execDataReadyEdge s =
      .next
        { s with
          motion :=
            { s.motion.heard with
              decimation := s.motion.decimate.2, reading := if s.motion.decimate.1 then some s.edgeReading else none } } := by
  have quiet : ¬s.motion.heard.reading.isSome = true := by simp [Motion.heard_eq, idle]
  have count : s.motion.heard.decimate = s.motion.decimate := by simp [Motion.heard_eq, Motion.decimate]
  rw [← count]
  exact (if_neg (not_or.2 ⟨not_not.2 headset, on⟩)).trans (if_neg quiet)

/-- An edge during a read is an overrun (R124). -/
theorem execDataReadyEdge_of_reading {s : State} (headset : s.station = .headset) (on : s.motion.state ≠ .off)
    (reads : s.motion.reading ≠ none) :
    execDataReadyEdge s =
      .next (({ s with motion := s.motion.heard } : State).count .motion fun c => { c with overruns := satInc c.overruns }) := by
  have reads : s.motion.heard.reading.isSome = true := by simpa [Motion.heard_eq, Option.isSome_iff_ne_none] using reads
  exact (if_neg (not_or.2 ⟨not_not.2 headset, on⟩)).trans (if_pos reads)

/-- Settles O34. -/
theorem readsFormNumberedSamples : Obligations.ReadsFormNumberedSamples := by
  intro axes s
  refine ⟨fun _ off => execDataReadyEdge_of_off off, fun headset on reads => ?_, fun r reading => ?_⟩
  · refine ⟨_, execDataReadyEdge_of_reading headset on reads, ?_, by simp [Motion.heard_eq],
      fun sampling => by simp [Motion.heard_eq, sampling]⟩
    refine (congrArg FlowCounters.overruns (State.count_get _ .motion _)).trans ?_
    exact apply_ite FlowCounters.overruns _ _ _
  · intro x
    refine ⟨{ s with motion := { s.motion.form r.time r.unsettled r.doze false axes with reading := none } }, ?_, rfl, rfl, rfl,
      rfl, fun room => ?_, fun full => ?_⟩
    · show execReadCompletion axes s = _
      unfold execReadCompletion
      rw [reading]
    · exact if_pos room
    · exact if_neg (not_lt.2 full)

/-! ### Calls that bring nothing (R178) -/

/-- A change that leaves domains, level, switch and offer calls for no report (R178). -/
theorem State.calling_of_quiet {s : State} {f : State → State} (power : (f s).power = s.power)
    (station : (f s).station = s.station) (cfg : (f s).cfg = s.cfg) (sup : (f s).sup = s.sup) : s.calling f = f s := by
  have offer : (f s).ownOffer = s.ownOffer :=
    State.ownOffer_congr station cfg sup (by rw [power]) (by rw [power]) (by rw [power])
  have same : ∀ {a b : Domain}, (a, b) ∈ s.power.domains.zip s.power.domains → a = b :=
    (List.forall₂_iff_zip.1 (List.forall₂_refl _)).2
  have none : callsFor s (f s) = 0 := by
    unfold callsFor
    rw [power, offer]
    simpa [bit] using fun (a b : Domain) mem => congrArg Domain.state (same mem)
  unfold State.calling State.callOnChange
  rw [none]
  rfl

end Sys2Proof.Machine

namespace Sys2Proof.Machine

/-! ### Domains, picture records and eyes under a change of motion (R57, R123) -/

/-- Two states whose domains, records and eyes are the same, and follow the display domain alike. -/
structure State.Alike (t s : State) : Prop where
  station : t.station = s.station
  cfg : t.cfg = s.cfg
  domains : t.power.domains = s.power.domains
  dst : t.dst = s.dst
  eyes : t.eyes = s.eyes

namespace State.Alike

variable {s t u : State}

theorem refl (s : State) : s.Alike s := ⟨rfl, rfl, rfl, rfl, rfl⟩

theorem trans (h : t.Alike s) (k : s.Alike u) : t.Alike u :=
  ⟨h.station.trans k.station, h.cfg.trans k.cfg, h.domains.trans k.domains, h.dst.trans k.dst, h.eyes.trans k.eyes⟩

theorem motionTo (h : t.Alike s) (f : Motion → Motion) : (t.motionTo f).Alike s :=
  ⟨by simp [h.station], by simp [h.cfg], by simp [h.domains], by simp [h.dst], by simp [h.eyes]⟩

theorem withMotion (h : t.Alike s) (m : Motion) : State.Alike { t with motion := m } s :=
  ⟨h.station, h.cfg, h.domains, h.dst, h.eyes⟩

theorem calling {f : State → State} (h : (f t).Alike s) : (t.calling f).Alike s :=
  ⟨by simp [h.station], by simp [h.cfg], by rw [State.calling_power]; exact h.domains, by simp [h.dst], by simp [h.eyes]⟩

/-- A write of the wear link has the same effect in both (R123). -/
theorem wearLink (h : t.Alike s) (v : Bool) : (t.wearLink v).Alike (s.wearLink v) := by
  have display := State.followDisplay_congr (s := s.changeDomains (wantOf 1 v)) (t := t.changeDomains (wantOf 1 v))
    (by simp [h.station]) (by simp [h.domains]) (by simp [h.dst]) (by simp [h.eyes])
  unfold State.wearLink
  rw [h.station, h.cfg]
  split
  · exact ⟨by simp [h.station], by simp [h.cfg], by simp [h.domains], display.1, display.2⟩
  · exact h

end State.Alike

/-- A notice of another subject stays waiting where domains change (R153, R185). -/
theorem State.mem_changeDomains {s : State} {x : Notice} (h : x ∈ s.notices) (other : ∀ n, x.subject ≠ .domain n)
    (f : Domain → Domain) : x ∈ (s.changeDomains f).notices := by
  have posts (as bs : List Domain) : ∀ t : State, x ∈ t.notices → x ∈ (t.postDomains as bs).notices := by
    induction as generalizing bs with
    | nil => exact fun t h => by simpa [State.postDomains] using h
    | cons a as ih =>
      cases bs with
      | nil => exact fun t h => by simpa [State.postDomains] using h
      | cons b bs =>
        intro t h
        unfold State.postDomains
        refine ih bs _ ?_
        split
        · exact h
        · unfold State.post
          split
          · exact mem_putNotice_of_ne h (other _)
          · exact h
  exact posts _ _ _ h

theorem State.mem_wearLink {s : State} {x : Notice} (h : x ∈ s.notices) (other : ∀ n, x.subject ≠ .domain n) (v : Bool) :
    x ∈ (s.wearLink v).notices := by
  unfold State.wearLink
  split
  · simpa using State.mem_changeDomains h other (wantOf 1 v)
  · exact h

/-- A MOTION_STATE notice for a state of the code `n` waits (R121, R184). -/
def State.MotionPosted (t : State) (n : Nat) : Prop :=
  ∃ x ∈ t.notices, x.kind = .motionState ∧ x.subject = .flow .motion ∧ x.value = BitVec.ofNat 32 n

/-- A change of the motion state posts it (R121). -/
theorem State.motionTo_posted {s : State} (live : s.live) (f : Motion → Motion) :
    (s.motionTo f).MotionPosted (MotionState.code (f s.motion).state) :=
  State.exists_posted (s := { s with motion := f s.motion }) live _ _ _

theorem State.MotionPosted.wearLink {s : State} {n : Nat} (h : s.MotionPosted n) (v : Bool) : (s.wearLink v).MotionPosted n := by
  obtain ⟨x, waits, kind, subject, value⟩ := h
  exact ⟨x, State.mem_wearLink waits (fun _ => by rw [subject]; nofun) v, kind, subject, value⟩

theorem State.MotionPosted.calling {s : State} {f : State → State} {n : Nat} (h : (f s).MotionPosted n) :
    (s.calling f).MotionPosted n := by
  unfold State.MotionPosted
  rw [show (s.calling f).notices = (f s).notices by simp]
  exact h

/-! ### The rows of wear and motion (R122, R123) -/

theorem State.fallAsleep_of_sampling {s : State} (sampling : s.motion.state = .sampling) :
    s.fallAsleep = (s.motionTo Motion.toDoze).wearLink false := if_pos sampling

theorem State.wakeUp_of_waking {s : State} (waking : s.motion.state = .waking) :
    s.wakeUp = s.motionTo Motion.toSampling := if_pos waking

/-- The state with the debounced wear state set and its run cleared (R122). -/
def State.withWear (s : State) (w : Bool) : State := { s with motion := { s.motion with worn := w, wearRun := 0 } }

theorem State.wearTo_of_worn_in_doze {s : State} (doze : s.motion.state = .doze) :
    s.wearTo true = ((s.withWear true).motionTo Motion.toWaking).wearLink true := by
  unfold State.wearTo
  rw [doze]
  rfl

theorem State.wearTo_of_lost_in_waking {s : State} (waking : s.motion.state = .waking) :
    s.wearTo false = ((s.withWear false).motionTo fun m => { m with state := .doze }).wearLink false := by
  unfold State.wearTo
  rw [waking]
  rfl

/-- In OFF and SAMPLING a change of wear sets the wear state, and at most the not-worn count besides (R122, R123). -/
theorem State.wearTo_of_off_or_sampling {s : State} (h : s.motion.state = .off ∨ s.motion.state = .sampling) (w : Bool) :
    ∃ n, s.wearTo w = { s with motion := { s.motion with worn := w, wearRun := 0, notWorn := n } } := by
  unfold State.wearTo
  obtain state | state := h <;> rw [state] <;> cases w
  · exact ⟨s.motion.notWorn, by simp⟩
  · exact ⟨s.motion.notWorn, by simp⟩
  · exact ⟨s.motion.notWorn, by simp⟩
  · exact ⟨0, by simp⟩

/-- In DOZE with wear lost, in WAKING with wear found, nothing but the wear state changes (R122). -/
theorem State.wearTo_of_doze_or_waking {s : State} {w : Bool}
    (h : s.motion.state = .doze ∧ w = false ∨ s.motion.state = .waking ∧ w = true) : s.wearTo w = s.withWear w := by
  unfold State.wearTo
  obtain ⟨state, rfl⟩ | ⟨state, rfl⟩ := h <;> rw [state] <;> rfl

/-- A sample that completes no change of wear moves the run alone (R122). -/
theorem State.sampleWear_of_held {s : State} {w : Bool} (h : w = s.motion.worn ∨ s.motion.wearRun < 3) :
    ∃ n, s.sampleWear w = { s with motion := { s.motion with wearRun := n } } := by
  by_cases agrees : w = s.motion.worn
  · exact ⟨0, State.sampleWear_of_agrees agrees⟩
  · exact ⟨_, State.sampleWear_of_early agrees (h.resolve_left agrees)⟩

/-! #### The counts at a boundary (R123) -/

theorem State.motionBoundary_of_off_or_doze {s : State} (h : s.motion.state = .off ∨ s.motion.state = .doze) :
    s.motionBoundary = s := by
  unfold State.motionBoundary
  obtain state | state := h <;> rw [state]

theorem State.motionBoundary_of_worn {s : State} (sampling : s.motion.state = .sampling) (worn : s.motion.worn = true) :
    s.motionBoundary = { s with motion := { s.motion with notWorn := 0 } } := by
  unfold State.motionBoundary
  rw [sampling]
  simp [worn]

theorem State.motionBoundary_of_not_worn {s : State} (sampling : s.motion.state = .sampling) (worn : s.motion.worn = false)
    (counts : s.motion.notWorn < 4095) :
    s.motionBoundary = { s with motion := { s.motion with notWorn := s.motion.notWorn + 1 } } := by
  have short : ¬4096 ≤ s.motion.notWorn + 1 := by omega
  unfold State.motionBoundary
  rw [sampling]
  have lost : ¬s.motion.worn = true := by simp [worn]
  dsimp only
  rw [if_neg lost, if_neg short]

theorem State.motionBoundary_of_asleep {s : State} (sampling : s.motion.state = .sampling) (worn : s.motion.worn = false)
    (ends : 4095 ≤ s.motion.notWorn) :
    s.motionBoundary =
      (({ s with motion := { s.motion with notWorn := s.motion.notWorn + 1 } } : State).motionTo Motion.toDoze).wearLink false := by
  have full : 4096 ≤ s.motion.notWorn + 1 := by omega
  unfold State.motionBoundary
  rw [sampling]
  have lost : ¬s.motion.worn = true := by simp [worn]
  dsimp only
  rw [if_neg lost, if_pos full]
  exact if_pos sampling

theorem State.motionBoundary_of_holding {s : State} (waking : s.motion.state = .waking) (holds : 2 ≤ s.motion.wakeHold) :
    s.motionBoundary = { s with motion := { s.motion with wakeHold := s.motion.wakeHold - 1 } } := by
  have more : ¬s.motion.wakeHold - 1 = 0 := by omega
  unfold State.motionBoundary
  rw [waking]
  dsimp only
  rw [if_neg more]

theorem State.motionBoundary_of_awake {s : State} (waking : s.motion.state = .waking) (ends : s.motion.wakeHold ≤ 1) :
    s.motionBoundary =
      ({ s with motion := { s.motion with wakeHold := s.motion.wakeHold - 1 } } : State).motionTo Motion.toSampling := by
  have none : s.motion.wakeHold - 1 = 0 := by omega
  unfold State.motionBoundary
  rw [waking]
  dsimp only
  rw [if_pos none]
  exact if_pos waking

end Sys2Proof.Machine

namespace Sys2Proof.Machine

/-! ### The commands of wear and motion -/

theorem exec_notWornCountExpiry_of_sampling {s : State} (live : s.live) (headset : s.station = .headset)
    (lost : s.motion.worn = false) (sampling : s.motion.state = .sampling) :
    exec .notWornCountExpiry s = .next (s.calling fun t => (t.motionTo Motion.toDoze).wearLink false) :=
  (show execNotWornCountExpiry s = .next (s.calling State.fallAsleep) from if_pos ⟨live, headset, lost⟩).trans
    (congrArg _ (State.calling_congr (State.fallAsleep_of_sampling sampling)))

theorem exec_wearChange {s : State} {w : Bool} (live : s.live) (headset : s.station = .headset) (differs : s.motion.worn ≠ w) :
    exec (.wearChange w) s = .next (s.calling fun t => t.wearTo w) := if_pos ⟨live, headset, differs⟩

theorem exec_wakeHoldExpiry {s : State} (live : s.live) (headset : s.station = .headset) :
    exec .wakeHoldExpiry s = .next s.wakeUp := if_pos ⟨live, headset⟩

theorem exec_sensorSilent {s : State} (live : s.live) (headset : s.station = .headset) :
    exec .sensorSilent s = .next s.sensorSilent := if_pos ⟨live, headset⟩

/-- The state in which a boundary at HEADSET steps the motion counts: the conversion begun, the DELAY wait stepped (R149, R118). -/
def State.atMotionStep (s : State) : State := ({ s with power := { s.power with converting := true } } : State).delayBoundary

theorem State.atMotionStep_motion (s : State) : s.atMotionStep.motion = s.motion := by simp [State.atMotionStep]

theorem State.atMotionStep_live {s : State} (live : s.live) : s.atMotionStep.live := by
  simpa [State.atMotionStep, State.live] using live

theorem State.atMotionStep_alike (s : State) : s.atMotionStep.Alike s :=
  ⟨by simp [State.atMotionStep], by simp [State.atMotionStep], by simp [State.atMotionStep], by simp [State.atMotionStep],
    by simp [State.atMotionStep]⟩

/-- A boundary at HEADSET whose sample completes no change of wear steps the motion counts, and the wear run besides
(R122, R123). -/
theorem exec_localSuperframeBoundary_of_held {s : State} {w : Bool} (live : s.live) (headset : s.station = .headset)
    (held : w = s.motion.worn ∨ s.motion.wearRun < 3) :
    ∃ t, exec (.localSuperframeBoundary w) s = .next t ∧
      (∃ n, t.motion = { s.atMotionStep.motionBoundary.motion with wearRun := n }) ∧
      t.notices = s.atMotionStep.motionBoundary.notices ∧ t.Alike s.atMotionStep.motionBoundary := by
  obtain ⟨worn, run⟩ := s.atWearSample_wear
  obtain ⟨n, sampled⟩ := State.sampleWear_of_held (s := s.atWearSample) (w := w) (by rw [worn, run]; exact held)
  refine ⟨_, exec_localSuperframeBoundary_of_headset w live headset, ⟨n, ?_⟩, ?_, ?_⟩
  · have same : (s.atWearSample.calling fun t => t.sampleWear w).motion = (s.atWearSample.sampleWear w).motion := by simp
    rw [same, sampled]
    simp [State.atWearSample, State.atMotionStep]
  · have same : (s.atWearSample.calling fun t => t.sampleWear w).notices = (s.atWearSample.sampleWear w).notices := by simp
    rw [same, sampled]
    simp [State.atWearSample, State.atMotionStep]
  · refine State.Alike.calling ?_
    rw [sampled]
    exact (State.Alike.calling (.refl _)).withMotion _

/-- The changes of DOZE and WAKING between each other leave the decimation count, and no boundary ends in another state
(R120, R123). -/
theorem State.wearTo_of_asleep {s : State} (h : s.motion.state = .doze ∨ s.motion.state = .waking) (w : Bool) :
    ((s.wearTo w).motion.state = .doze ∨ (s.wearTo w).motion.state = .waking) ∧
      (s.wearTo w).motion.decimation = s.motion.decimation := by
  obtain doze | waking := h
  · cases w
    · rw [State.wearTo_of_doze_or_waking (.inl ⟨doze, rfl⟩)]
      exact ⟨.inl doze, rfl⟩
    · rw [State.wearTo_of_worn_in_doze doze]
      simp [Motion.toWaking, State.withWear]
  · cases w
    · rw [State.wearTo_of_lost_in_waking waking]
      simp [State.withWear]
    · rw [State.wearTo_of_doze_or_waking (.inr ⟨waking, rfl⟩)]
      exact ⟨.inr waking, rfl⟩

theorem State.sampleWear_of_asleep {s : State} (h : s.motion.state = .doze ∨ s.motion.state = .waking) (w : Bool) :
    ((s.sampleWear w).motion.state = .doze ∨ (s.sampleWear w).motion.state = .waking) ∧
      (s.sampleWear w).motion.decimation = s.motion.decimation := by
  by_cases held : w = s.motion.worn ∨ s.motion.wearRun < 3
  · obtain ⟨n, sampled⟩ := State.sampleWear_of_held held
    rw [sampled]
    exact ⟨h, rfl⟩
  · rw [State.sampleWear_of_fourth (fun same => held (.inl same)) (not_lt.1 fun early => held (.inr early))]
    exact State.wearTo_of_asleep h w

/-- Settles O33. -/
theorem decimationTakesEveryEighthEdge : Obligations.DecimationTakesEveryEighthEdge := by
  intro s headset
  refine ⟨fun state idle => ?_, fun sampling idle => ?_, fun live sampling lost => ?_, fun live sampling lost ends w held => ?_,
    fun live state w => ?_, fun off on lost => ?_, fun live doze lost => ?_, fun live waking worn => ?_⟩
  · have awake : s.motion.state ≠ .off ∧ s.motion.state ≠ .sampling := by
      obtain state | state := state <;> rw [state] <;> exact ⟨nofun, nofun⟩
    have count : s.motion.decimate = (s.motion.decimation == 0, (s.motion.decimation + 1) % 8) := if_neg awake.2
    have dozes : s.edgeReading = { time := s.clock, unsettled := !s.settled, doze := true } := by
      obtain state | state := state <;> simp [State.edgeReading, state]
    refine ⟨_, execDataReadyEdge_of_idle headset awake.1 idle, ?_, ?_, rfl, rfl⟩
    · exact congrArg Prod.snd count
    · dsimp only
      rw [count, dozes]
      simp only [beq_iff_eq]
  · have count : s.motion.decimate = (true, s.motion.decimation) := if_pos sampling
    refine ⟨_, execDataReadyEdge_of_idle headset (by rw [sampling]; nofun) idle, ?_, ?_⟩
    · exact congrArg Prod.snd count
    · simp [count, State.edgeReading, sampling]
  · refine ⟨_, exec_notWornCountExpiry_of_sampling live headset lost sampling, ?_, ?_⟩
    · simp [Motion.toDoze]
    · simp [Motion.toDoze]
  · obtain ⟨t, run, ⟨n, motion⟩, -, -⟩ := exec_localSuperframeBoundary_of_held live headset held
    have asleep := State.motionBoundary_of_asleep (s := s.atMotionStep) (by rw [State.atMotionStep_motion]; exact sampling)
      (by rw [State.atMotionStep_motion]; exact lost) (by rw [State.atMotionStep_motion]; exact ends)
    refine ⟨t, run, ?_, ?_⟩
    · rw [motion, asleep]
      simp [Motion.toDoze]
    · rw [motion, asleep]
      simp [Motion.toDoze]
  · refine ⟨_, exec_localSuperframeBoundary_of_headset w live headset, ?_⟩
    have step : (s.atMotionStep.motionBoundary.motion.state = .doze ∨ s.atMotionStep.motionBoundary.motion.state = .waking) ∧
        s.atMotionStep.motionBoundary.motion.decimation = s.motion.decimation := by
      obtain doze | ⟨waking, holds⟩ := state
      · rw [State.motionBoundary_of_off_or_doze (.inr (by rw [State.atMotionStep_motion]; exact doze)),
          State.atMotionStep_motion]
        exact ⟨.inl doze, rfl⟩
      · rw [State.motionBoundary_of_holding (by rw [State.atMotionStep_motion]; exact waking)
          (by rw [State.atMotionStep_motion]; exact holds)]
        dsimp only
        rw [State.atMotionStep_motion]
        exact ⟨.inr waking, rfl⟩
    have at_ : s.atWearSample.motion = s.atMotionStep.motionBoundary.motion := by simp [State.atWearSample, State.atMotionStep]
    have sampled := State.sampleWear_of_asleep (s := s.atWearSample) (by rw [at_]; exact step.1) w
    rw [at_, step.2] at sampled
    simpa using sampled
  · have starts : s.starts = true := s.starts_iff.2 ⟨headset, on, off⟩
    rw [State.followSensors_of_starts starts, lost]
    simp [Motion.toDoze]
  · refine ⟨_, exec_wearChange live headset (by rw [lost]; nofun), ?_, ?_⟩
    · simp [State.wearTo_of_worn_in_doze doze, Motion.toWaking]
    · simpa using (State.wearTo_of_asleep (.inl doze) true).2
  · refine ⟨_, exec_wearChange live headset (by rw [worn]; nofun), ?_, ?_⟩
    · simp [State.wearTo_of_lost_in_waking waking]
    · simpa using (State.wearTo_of_asleep (.inr waking) false).2

end Sys2Proof.Machine

namespace Sys2Proof.Machine

/-! ### What the wear link writes, as R123 has it -/

/-- The domains after a write of the display domain's wanted flag by the wear link, where it is enabled (R123, R153). -/
def State.wrote (s : State) (v : Bool) (ds : List Domain) : List Domain :=
  ds.map fun d =>
    if s.cfg.wearLink = true ∧ d.number = 1 ∧ d.wanted ≠ v ∧ (v = true ∨ d.priority ≠ 0) then
      { d with wanted := v, state := if v then (if d.state = .off then .waiting else d.state) else .off }
    else d

/-- A state has the domains, records and eyes that a write by the wear link leaves (R57, R123). -/
def State.Writes (s : State) (v : Bool) (t : State) : Prop :=
  let x : State := { s with power := { s.power with domains := s.wrote v s.power.domains } }
  let y := if s.cfg.wearLink then x.followDisplay else s
  t.power.domains = x.power.domains ∧ t.dst = y.dst ∧ t.eyes = y.eyes

theorem State.wrote_of_linked {s : State} (linked : s.cfg.wearLink = true) (v : Bool) (ds : List Domain) :
    s.wrote v ds = ds.map (wantOf 1 v) := by
  refine List.map_congr_left fun d _ => ?_
  rw [wantOf_eq]
  simp only [linked, true_and]

theorem State.wrote_of_not_linked {s : State} (apart : ¬s.cfg.wearLink = true) (v : Bool) (ds : List Domain) :
    s.wrote v ds = ds :=
  (List.map_congr_left fun _ _ => if_neg fun h => apart h.1).trans (List.map_id ds)

theorem State.wearLinked_eq_wrote {s t : State} (cfg : t.cfg = s.cfg) (v : Bool) :
    t.wearLinked v = s.wrote v t.power.domains := by
  unfold State.wearLinked
  rw [cfg]
  split
  · rename_i linked
    rw [State.wrote_of_linked linked]
  · rename_i apart
    rw [State.wrote_of_not_linked apart]

theorem State.Alike.writes {s t : State} {v : Bool} (headset : s.station = .headset) (h : t.Alike (s.wearLink v)) :
    s.Writes v t := by
  by_cases linked : s.cfg.wearLink = true
  · have write : s.wearLink v = (s.changeDomains (wantOf 1 v)).followDisplay := if_pos ⟨headset, linked⟩
    have display := State.followDisplay_congr (s := s.withDomains (wantOf 1 v)) (t := s.changeDomains (wantOf 1 v))
      (by simp [State.withDomains]) (by simp [State.withDomains]) (by simp [State.withDomains]) (by simp [State.withDomains])
    unfold State.Writes
    dsimp only
    rw [if_pos linked, State.wrote_of_linked linked]
    refine ⟨h.domains.trans ?_, h.dst.trans ?_, h.eyes.trans ?_⟩
    · rw [write]
      simp
    · rw [write]
      exact display.1
    · rw [write]
      exact display.2
  · have write : s.wearLink v = s := if_neg fun h => linked h.2
    rw [write] at h
    unfold State.Writes
    dsimp only
    rw [if_neg linked, State.wrote_of_not_linked linked]
    exact ⟨h.domains, h.dst, h.eyes⟩

/-! ### The rows whole -/

/-- A change of the motion state with the wear link's write (R121, R123). -/
theorem State.motionTo_wearLink {s b : State} (alike : b.Alike s) (live : b.live) (f : Motion → Motion) (v : Bool) :
    ((b.motionTo f).wearLink v).motion = f b.motion ∧
      ((b.motionTo f).wearLink v).MotionPosted (MotionState.code (f b.motion).state) ∧
      ((b.motionTo f).wearLink v).Alike (s.wearLink v) :=
  ⟨by simp, (State.motionTo_posted live f).wearLink v, (alike.motionTo f).wearLink v⟩

/-- What the motion counts of a boundary bring (R123). -/
theorem State.motionBoundary_row {s b : State} (alike : b.Alike s) (live : b.live) (same : b.motion = s.motion) :
    let t := b.motionBoundary
    let sleeps := s.motion.state = .sampling ∧ s.motion.worn = false ∧ 4095 ≤ s.motion.notWorn
    ((sleeps → t.Alike (s.wearLink false)) ∧ (¬sleeps → t.Alike s)) ∧
      (s.motion.state = .off ∨ s.motion.state = .doze → t.motion.state = s.motion.state) ∧
      (s.motion.state = .sampling → s.motion.worn = true → t.motion.state = .sampling ∧ t.motion.notWorn = 0) ∧
      (s.motion.state = .sampling → s.motion.worn = false → s.motion.notWorn < 4095 →
        t.motion.state = .sampling ∧ t.motion.notWorn = s.motion.notWorn + 1) ∧
      (s.motion.state = .sampling → s.motion.worn = false → 4095 ≤ s.motion.notWorn →
        t.motion.state = .doze ∧ t.MotionPosted 2) ∧
      (s.motion.state = .waking → 2 ≤ s.motion.wakeHold →
        t.motion.state = .waking ∧ t.motion.wakeHold = s.motion.wakeHold - 1) ∧
      (s.motion.state = .waking → s.motion.wakeHold ≤ 1 →
        t.motion.state = .sampling ∧ t.motion.notWorn = 0 ∧ t.motion.silence = 0 ∧ t.MotionPosted 1) ∧
      t.motion.queue = s.motion.queue ∧ t.motion.next = s.motion.next := by
  intro t sleeps
  have held (m : Motion) : ({ b with motion := m } : State).Alike s := alike.withMotion m
  have live' (m : Motion) : ({ b with motion := m } : State).live := live
  by_cases idle : s.motion.state = .off ∨ s.motion.state = .doze
  · have stays : t = b := State.motionBoundary_of_off_or_doze (by rw [same]; exact idle)
    have awake : s.motion.state ≠ .sampling ∧ s.motion.state ≠ .waking := by
      obtain state | state := idle <;> rw [state] <;> exact ⟨nofun, nofun⟩
    rw [stays, same]
    exact ⟨⟨fun h => absurd h.1 awake.1, fun _ => alike⟩, fun _ => rfl, fun h => absurd h awake.1, fun h => absurd h awake.1,
      fun h => absurd h awake.1, fun h => absurd h awake.2, fun h => absurd h awake.2, rfl, rfl⟩
  · by_cases sampling : s.motion.state = .sampling
    · have waking : s.motion.state ≠ .waking := by rw [sampling]; nofun
      by_cases worn : s.motion.worn = true
      · have stays : t = { b with motion := { s.motion with notWorn := 0 } } := by
          rw [← same]
          exact State.motionBoundary_of_worn (by rw [same]; exact sampling) (by rw [same]; exact worn)
        have lost : s.motion.worn ≠ false := by rw [worn]; nofun
        rw [stays]
        exact ⟨⟨fun h => absurd h.2.1 lost, fun _ => held _⟩, fun h => absurd h idle, fun _ _ => ⟨sampling, rfl⟩,
          fun _ h => absurd h lost, fun _ h => absurd h lost, fun h => absurd h waking, fun h => absurd h waking, rfl, rfl⟩
      · have lost : s.motion.worn = false := by simpa using worn
        by_cases ends : 4095 ≤ s.motion.notWorn
        · obtain ⟨motion, posts, domains⟩ := State.motionTo_wearLink (held { s.motion with notWorn := s.motion.notWorn + 1 })
            (live' _) Motion.toDoze false
          have asleep : t = _ := State.motionBoundary_of_asleep (by rw [same]; exact sampling) (by rw [same]; exact lost)
            (by rw [same]; exact ends)
          rw [same] at asleep
          rw [asleep, motion]
          exact ⟨⟨fun _ => domains, fun h => absurd ⟨sampling, lost, ends⟩ h⟩, fun h => absurd h idle, fun _ h => absurd h worn,
            fun _ _ h => absurd ends (not_le.2 h), fun _ _ _ => ⟨rfl, posts⟩, fun h => absurd h waking, fun h => absurd h waking,
            rfl, rfl⟩
        · have counts : t = _ := State.motionBoundary_of_not_worn (by rw [same]; exact sampling) (by rw [same]; exact lost)
            (by rw [same]; exact not_le.1 ends)
          rw [same] at counts
          rw [counts]
          exact ⟨⟨fun h => absurd h.2.2 ends, fun _ => held _⟩, fun h => absurd h idle, fun _ h => absurd h worn,
            fun _ _ _ => ⟨sampling, rfl⟩, fun _ _ h => absurd h ends, fun h => absurd h waking, fun h => absurd h waking,
            rfl, rfl⟩
    · have waking : s.motion.state = .waking := by
        cases state : s.motion.state with
        | off => exact absurd (.inl state) idle
        | doze => exact absurd (.inr state) idle
        | sampling => exact absurd state sampling
        | waking => rfl
      by_cases ends : s.motion.wakeHold ≤ 1
      · have posts := State.motionTo_posted (live' { s.motion with wakeHold := s.motion.wakeHold - 1 }) Motion.toSampling
        have awake : t = _ := State.motionBoundary_of_awake (by rw [same]; exact waking) (by rw [same]; exact ends)
        rw [same] at awake
        rw [awake, State.motionTo_motion]
        exact ⟨⟨fun h => absurd h.1 sampling, fun _ => (held _).motionTo _⟩, fun h => absurd h idle, fun h => absurd h sampling,
          fun h => absurd h sampling, fun h => absurd h sampling, fun _ h => absurd ends (by omega),
          fun _ _ => ⟨rfl, rfl, rfl, posts⟩, rfl, rfl⟩
      · have holds : t = _ := State.motionBoundary_of_holding (by rw [same]; exact waking) (by rw [same]; omega)
        rw [same] at holds
        rw [holds]
        exact ⟨⟨fun h => absurd h.1 sampling, fun _ => held _⟩, fun h => absurd h idle, fun h => absurd h sampling,
          fun h => absurd h sampling, fun h => absurd h sampling, fun _ _ => ⟨waking, rfl⟩, fun _ h => absurd h ends, rfl, rfl⟩

/-- The boundary that completes a change of wear is the boundary before it with the effect of WEAR_CHANGE (R122, R123). -/
theorem localSuperframeBoundary_of_fourth {s : State} {w : Bool} (live : s.live) (headset : s.station = .headset)
    (differs : w ≠ s.motion.worn) (fourth : 3 ≤ s.motion.wearRun) :
    ∃ u t, exec (.localSuperframeBoundary s.motion.worn) s = .next u ∧ exec (.wearChange w) u = .next t ∧
      exec (.localSuperframeBoundary w) s = .next t := by
  obtain ⟨worn, run⟩ := s.atWearSample_wear
  have agrees : s.atWearSample.sampleWear s.motion.worn =
      { s.atWearSample with motion := { s.atWearSample.motion with wearRun := 0 } } :=
    State.sampleWear_of_agrees worn.symm
  have quiet : (s.atWearSample.calling fun t => t.sampleWear s.motion.worn) =
      { s.atWearSample with motion := { s.atWearSample.motion with wearRun := 0 } } := by
    rw [State.calling_of_quiet (by rw [agrees]) (by rw [agrees]) (by rw [agrees]) (by rw [agrees]), agrees]
  have changes : ∀ v : State,
      ({ v with motion := { v.motion with wearRun := 0 } } : State).calling (fun t => t.wearTo w) =
        v.calling fun t => t.wearTo w := fun v => rfl
  refine ⟨_, _, exec_localSuperframeBoundary_of_headset _ live headset, ?_, exec_localSuperframeBoundary_of_headset w live headset⟩
  rw [quiet, exec_wearChange (by simpa [State.live, State.atWearSample] using live)
    (by simpa [State.atWearSample] using headset) (by dsimp only; rw [worn]; exact differs.symm)]
  have sampled : s.atWearSample.sampleWear w = s.atWearSample.wearTo w :=
    State.sampleWear_of_fourth (by rw [worn]; exact differs) (by rw [run]; exact fourth)
  rw [changes, State.calling_congr (f := fun t => t.sampleWear w) (g := fun t => t.wearTo w) sampled]

end Sys2Proof.Machine

namespace Sys2Proof.Machine

/-- The motion unit left OFF, by the wear state (R121). -/
def State.LeftOff (s t : State) : Prop :=
  (s.motion.worn = true → t.motion = { s.motion with state := .sampling, notWorn := 0, silence := 0 } ∧ t.MotionPosted 1) ∧
    (s.motion.worn = false → t.motion = { s.motion with state := .doze, decimation := 0 } ∧ t.MotionPosted 2)

/-- Where the sensors start, the motion unit leaves OFF by the wear state (R121). -/
theorem State.followSensors_leftOff {s : State} (live : s.live) (starts : s.starts = true) : s.LeftOff s.followSensors := by
  rw [State.followSensors_of_starts starts]
  constructor
  · intro worn
    rw [worn, if_pos rfl]
    obtain ⟨motion, posts, -⟩ := State.motionTo_wearLink (.refl s) live Motion.toSampling true
    exact ⟨motion, posts⟩
  · intro lost
    rw [lost, if_neg Bool.false_ne_true]
    obtain ⟨motion, posts, -⟩ := State.motionTo_wearLink (.refl s) live Motion.toDoze false
    exact ⟨motion, posts⟩

theorem State.followSensors_alike {s : State} (starts : s.starts = true) :
    s.followSensors.Alike (s.wearLink s.motion.worn) := by
  rw [State.followSensors_of_starts starts]
  exact ((State.Alike.refl s).motionTo _).wearLink _

/-- What follows the sensors posts no notice but STRAP's (R154). -/
theorem State.follow_notices {s : State} (headset : s.station = .headset) : s.follow.notices = s.followSensors.notices := by
  have stays : s.followSensors.followDisplay.followSource.followSink.followOffer =
      s.followSensors.followDisplay.followSource.followSink := by
    refine if_neg ?_
    simp [headset]
  unfold State.follow
  rw [stays]
  simp

/-- The motion unit follows a sensors domain that leaves ON: one lapse sample, and OFF (R121). -/
theorem State.followSensors_of_left {s : State} (headset : s.station = .headset) (on : s.motion.state ≠ .off)
    (off : s.domainOn 2 = false) : s.followSensors = s.motionTo fun m => m.toOff s.clock (!s.settled) := by
  unfold State.followSensors
  rw [if_neg (not_not.2 headset), if_neg (by rw [off]; nofun), if_neg on]

/-- An admission of the sensors domain takes the motion unit out of OFF (R121, R159). -/
theorem State.admission_leftOff {s : State} (live : s.live) (headset : s.station = .headset) (off : s.motion.state = .off)
    {d : Domain} (pick : candidate s.power.domains = some d) (sensors : d.number = 2) (fits : s.admissible d = true) :
    s.LeftOff s.admission ∧
      s.admission.power.domains =
        s.wrote s.motion.worn (s.power.domains.map fun e => if e.number = 2 then { e with state := .on } else e) := by
  have on : (s.changeDomains (admitOn d.number)).domainOn 2 = true := by
    simp only [State.domainOn, State.changeDomains_power, List.any_map, List.any_eq_true, Function.comp_apply,
      Bool.and_eq_true, beq_iff_eq]
    exact ⟨d, (candidate_mem pick).1, by rw [admitOn_number, sensors], by simp [admitOn]⟩
  have starts : (s.changeDomains (admitOn d.number)).starts = true :=
    (State.starts_iff _).2 ⟨by simpa using headset, on, by simpa using off⟩
  have left := State.followSensors_leftOff (s := s.changeDomains (admitOn d.number)) (by simpa [State.live] using live) starts
  rw [State.admission_of_admitted pick fits]
  constructor
  · have motion : (s.changeDomains (admitOn d.number)).motion = s.motion := by simp
    have posts := State.follow_notices (s := s.changeDomains (admitOn d.number)) (by simpa using headset)
    unfold State.LeftOff State.MotionPosted at left ⊢
    rw [posts, State.follow_motion, ← State.followSensors_motion]
    rw [motion] at left
    exact left
  · have map : (s.changeDomains (admitOn d.number)).power.domains =
        s.power.domains.map fun e => if e.number = 2 then { e with state := .on } else e := by
      rw [State.changeDomains_power, sensors]
      rfl
    rw [State.follow_domains, if_pos starts, State.wearLinked_eq_wrote (s := s) (by simp), map]
    congr 1
    simp

/-- The motion unit after it left for OFF, with its lapse sample (R121, R125). -/
theorem Motion.toOff_eq (m : Motion) (time : Count32) (unsettled : Bool) :
    m.toOff time unsettled =
      { m with
        state := .off, reading := none, next := m.next + 1,
        queue :=
          append16 m.queue
            { number := m.next, time := time, doze := m.state == .doze || m.state == .waking, unsettled := unsettled,
              lapse := true, restart := decide (m.restart < 16), axes := zeroAxes } } := rfl

/-- A DOMAIN_WANT at a waiting parser with room: a write of the wanted flag with its calls, or no effect (R152, R191). -/
theorem exec_domainWant_effect {s : State} (live : s.live) (waiting : s.service.parser = .waiting)
    (room : s.service.answers.length ≤ 510) (n v : Byte) :
    ∃ a, exec (.domainWant n v) s =
      .next ((if s.wantRefused n v then s else s.calling fun t => t.want n.toNat (v == 1)).plus a) := by
  by_cases refused : s.wantRefused n v = true
  · rw [if_pos refused]
    exact ⟨_, congrArg _ (State.request_of_room (r := .domainWant n v) live waiting rfl (if_pos refused)
      (by simp [Request.largest]; omega))⟩
  · rw [if_neg refused]
    exact ⟨_, congrArg _ (State.request_of_room (r := .domainWant n v) live waiting rfl (if_neg refused)
      (by simp [Request.largest]; omega))⟩

/-- A DOMAIN_WANT for the sensors makes them WAITING at most (R152, R153). -/
theorem State.want_sensors_of_off {s : State} (headset : s.station = .headset) (off : s.motion.state = .off)
    (sensors : s.domainOn 2 = false) (v : Bool) :
    (s.want 2 v).motion = s.motion ∧ (s.want 2 v).domainOn 2 = false ∧
      ∀ (i : Nat) (d : Domain), s.power.domains[i]? = some d → d.number = 1 → (s.want 2 v).power.domains[i]? = some d := by
  have matching : s.SensorsMatch := fun _ => ⟨fun _ => sensors, fun _ => off⟩
  have after : (s.changeDomains (wantOf 2 v)).domainOn 2 = false := by
    rw [Bool.eq_false_iff]
    exact fun on => matching.not_starts (wantOf_number 2 v) (wantOf_on 2 v)
      ((State.starts_iff _).2 ⟨by simpa using headset, on, by simpa using off⟩)
  obtain ⟨domains, -⟩ := matching.want 2 v
  have listed : (s.want 2 v).power.domains = (s.changeDomains (wantOf 2 v)).power.domains := by
    rw [domains, State.changeDomains_power]
  refine ⟨?_, (State.domainOn_congr listed 2).trans after, fun i d here number => ?_⟩
  · unfold State.want
    rw [State.follow_motion]
    unfold State.sensed
    rw [after, if_pos (by simpa using headset), if_neg Bool.false_ne_true, if_pos (by simpa using off)]
    simp
  · rw [domains, List.getElem?_map, here, Option.map_some, wantOf_eq, if_neg fun h => by simp [number] at h]

/-- A DOMAIN_WANT that clears the sensors' wanted flag takes the motion unit to OFF (R121, R152). -/
theorem State.want_sensors_off {s : State} (live : s.live) (headset : s.station = .headset) (on : s.motion.state ≠ .off)
    (all : ∀ d ∈ s.power.domains, d.number = 2 → d.wanted = true ∧ d.priority ≠ 0) :
    (s.want 2 false).domainOn 2 = false ∧ (s.want 2 false).motion = s.motion.toOff s.clock (!s.settled) ∧
      (s.want 2 false).MotionPosted 0 := by
  have after : (s.changeDomains (wantOf 2 false)).domainOn 2 = false := by
    simp only [State.domainOn, State.changeDomains_power, List.any_map, List.any_eq_false, Function.comp_apply,
      Bool.and_eq_true, beq_iff_eq, wantOf_number]
    rintro d mem ⟨number, state⟩
    obtain ⟨wanted, priority⟩ := all d mem number
    rw [wantOf_eq, if_pos ⟨number, by rw [wanted]; nofun, .inr priority⟩] at state
    cases state
  have still : ¬(s.changeDomains (wantOf 2 false)).starts = true := fun h => by
    rw [((State.starts_iff _).1 h).2.1] at after
    cases after
  have off := State.followSensors_of_left (s := s.changeDomains (wantOf 2 false)) (by simpa using headset) (by simpa using on) after
  refine ⟨?_, ?_, ?_⟩
  · exact (State.domainOn_congr (State.follow_domains_of_not_starts still) 2).trans after
  · unfold State.want
    rw [State.follow_motion, ← State.followSensors_motion, off, State.motionTo_motion]
    simp [State.settled]
  · unfold State.MotionPosted State.want
    rw [State.follow_notices (by simpa using headset), off]
    exact State.motionTo_posted (s := s.changeDomains (wantOf 2 false)) (by simpa [State.live] using live) _

/-- An answer leaves all but the service line as it is (R189). -/
theorem State.plus_keeps (t : State) (a : List Byte) :
    (t.plus a).motion = t.motion ∧ (t.plus a).power = t.power ∧ (t.plus a).notices = t.notices ∧
      ∀ n, (t.plus a).domainOn n = t.domainOn n := ⟨rfl, rfl, rfl, fun _ => rfl⟩

/-- DOMAIN_WANT takes resting sensors to WAITING at most (R121, R152). -/
theorem exec_domainWant_of_resting {s : State} (live : s.live) (headset : s.station = .headset) (resting : s.motion.state = .off)
    (sensors : s.domainOn 2 = false) (waiting : s.service.parser = .waiting) (room : s.service.answers.length ≤ 510) (v : Byte) :
    ∃ t, exec (.domainWant 2 v) s = .next t ∧ t.motion = s.motion ∧ t.domainOn 2 = false ∧
      ∀ (i : Nat) (d : Domain), s.power.domains[i]? = some d → d.number = 1 → t.power.domains[i]? = some d := by
  obtain ⟨a, run⟩ := exec_domainWant_effect live waiting room 2 v
  rw [show BitVec.toNat (2 : Byte) = 2 from rfl] at run
  refine ⟨_, run, ?_⟩
  obtain ⟨motion, power, -, on⟩ := State.plus_keeps (if s.wantRefused 2 v then s else s.calling fun t => t.want 2 (v == 1)) a
  rw [motion, on, power]
  split
  · exact ⟨rfl, sensors, fun i d here _ => here⟩
  · obtain ⟨motion, still, stays⟩ := State.want_sensors_of_off headset resting sensors (v == 1)
    have domains : (s.calling fun t => t.want 2 (v == 1)).power.domains = (s.want 2 (v == 1)).power.domains := by
      rw [State.calling_power]
    rw [State.domainOn_congr domains, domains]
    exact ⟨by simpa using motion, still, stays⟩

/-- DOMAIN_WANT takes moving sensors to OFF (R121, R152). -/
theorem exec_domainWant_of_moving {s : State} (live : s.live) (headset : s.station = .headset) (moving : s.motion.state ≠ .off)
    (waiting : s.service.parser = .waiting) (room : s.service.answers.length ≤ 510) (here : ∃ d ∈ s.power.domains, d.number = 2)
    (all : ∀ d ∈ s.power.domains, d.number = 2 → d.wanted = true ∧ d.priority ≠ 0) :
    ∃ t, exec (.domainWant 2 0) s = .next t ∧ t.domainOn 2 = false ∧ t.motion = s.motion.toOff s.clock (!s.settled) ∧
      t.MotionPosted 0 := by
  obtain ⟨a, run⟩ := exec_domainWant_effect live waiting room 2 0
  have accepted : ¬s.wantRefused 2 0 = true := by
    rw [s.wantRefused_iff]
    rintro (big | missing | ⟨d, found, core, -⟩)
    · simp at big
    · obtain ⟨d, mem, number⟩ := here
      exact List.find?_eq_none.1 missing d mem (by simpa using number)
    · have number : d.number = 2 := by simpa using List.find?_some found
      exact (all d (List.mem_of_find?_eq_some found) number).2 core
  rw [if_neg accepted, show BitVec.toNat (2 : Byte) = 2 from rfl, show ((0 : Byte) == 1) = false from rfl] at run
  obtain ⟨sensors, motion, posts⟩ := State.want_sensors_off live headset moving all
  obtain ⟨sameMotion, -, sameNotices, sameOn⟩ := State.plus_keeps (s.calling fun t => t.want 2 false) a
  refine ⟨_, run, ?_⟩
  unfold State.MotionPosted
  rw [sameNotices, sameOn]
  refine ⟨(State.domainOn_congr ?_ 2).trans sensors, sameMotion.trans (Eq.trans ?_ motion), State.MotionPosted.calling posts⟩
  · rw [State.calling_power]
  · simp

/-- Settles O35. -/
theorem wearMovesTheMotionStates : Obligations.WearMovesTheMotionStates := by
  intro s live headset posted lapse off wrote writes stands left
  have write {v : Bool} {t : State} (h : t.Alike (s.wearLink v)) : writes v t := h.writes headset
  have stand {t : State} (h : t.Alike s) : stands t := ⟨h.domains, h.dst, h.eyes⟩
  refine ⟨fun w held => ?_, fun w differs fourth => localSuperframeBoundary_of_fourth live headset differs fourth,
    fun resting on => ?_, fun resting d pick sensors fits => State.admission_leftOff live headset resting pick sensors fits,
    fun resting sensors waiting room v => ?_, fun moving sensors => ?_, fun moving waiting room here all => ?_,
    fun sampling lost => ?_, fun doze lost => ?_, fun waking worn => ?_, fun w differs state => ?_, fun waking => ?_,
    fun sampling silence => ?_⟩
  · obtain ⟨t, run, ⟨n, motion⟩, notices, alike⟩ := exec_localSuperframeBoundary_of_held live headset held
    obtain ⟨⟨asleep, awake⟩, idle, worn, counts, sleeps, holds, wakes, queue, next⟩ :=
      State.motionBoundary_row s.atMotionStep_alike (State.atMotionStep_live live) s.atMotionStep_motion
    have posts {k : Nat} (h : s.atMotionStep.motionBoundary.MotionPosted k) : t.MotionPosted k := by
      unfold State.MotionPosted
      rw [notices]
      exact h
    refine ⟨t, run, ⟨fun h => write (alike.trans (asleep h)), fun h => stand (alike.trans (awake h))⟩, ?_⟩
    rw [motion]
    exact ⟨idle, worn, counts, fun a b c => (sleeps a b c).imp_right posts, holds,
      fun a b => (wakes a b).imp_right fun h => h.imp_right fun h => h.imp_right posts, queue, next⟩
  · have starts : s.starts = true := s.starts_iff.2 ⟨headset, on, resting⟩
    exact ⟨State.followSensors_leftOff live starts, write (State.followSensors_alike starts)⟩
  · exact exec_domainWant_of_resting live headset resting sensors waiting room v
  · rw [State.followSensors_of_left headset moving sensors]
    exact ⟨State.eq_of_fields (by simp [off, lapse, Motion.toOff_eq, append16, zeroAxes]), State.motionTo_posted live _⟩
  · obtain ⟨t, run, sensors, motion, posts⟩ := exec_domainWant_of_moving live headset moving waiting room here all
    exact ⟨t, run, sensors, motion.trans (by simp [off, lapse, Motion.toOff_eq, append16, zeroAxes]), posts⟩
  · obtain ⟨motion, posts, alike⟩ := State.motionTo_wearLink (.refl s) live Motion.toDoze false
    refine ⟨_, exec_notWornCountExpiry_of_sampling live headset lost sampling, by simp [Motion.toDoze],
      State.MotionPosted.calling posts, by simp [Motion.toDoze], write (State.Alike.calling alike)⟩
  · obtain ⟨motion, posts, alike⟩ := State.motionTo_wearLink (b := s.withWear true) ((State.Alike.refl s).withMotion _) live
      Motion.toWaking true
    rw [← State.wearTo_of_worn_in_doze doze] at motion posts alike
    have wrote := write (State.Alike.calling (t := s) (f := fun t => t.wearTo true) alike)
    refine ⟨_, exec_wearChange live headset (by rw [lost]; nofun), ?_, ?_, State.MotionPosted.calling posts, ?_, wrote,
      fun linked d mem number => ?_⟩
    · simp [motion, Motion.toWaking]
    · simp [motion, Motion.toWaking]
    · simp [motion, Motion.toWaking, State.withWear]
    · have listed := wrote.1.trans (State.wrote_of_linked linked true _)
      rw [listed, List.mem_map] at mem
      obtain ⟨e, -, rfl⟩ := mem
      rw [wantOf_number] at number
      rw [wantOf_eq]
      split
      · rfl
      · rename_i stands
        by_contra wanted
        exact stands ⟨number, wanted, .inl rfl⟩
  · obtain ⟨motion, posts, alike⟩ := State.motionTo_wearLink (b := s.withWear false) ((State.Alike.refl s).withMotion _) live
      (fun m => { m with state := .doze }) false
    rw [← State.wearTo_of_lost_in_waking waking] at motion posts alike
    refine ⟨_, exec_wearChange live headset (by rw [worn]; nofun), ?_, State.MotionPosted.calling posts, ?_,
      write (State.Alike.calling alike)⟩
    · simp [motion]
    · simp [motion, State.withWear]
  · obtain ⟨n, wear⟩ := State.wearTo_of_off_or_sampling state w
    refine ⟨_, exec_wearChange live headset differs.symm, by simp [wear], by simp [wear], stand (State.Alike.calling ?_)⟩
    rw [wear]
    exact (State.Alike.refl s).withMotion _
  · refine ⟨_, exec_wakeHoldExpiry live headset, ?_⟩
    rw [State.wakeUp_of_waking waking]
    exact ⟨by simp [Motion.toSampling], by simp [Motion.toSampling], by simp [Motion.toSampling], State.motionTo_posted live _,
      State.eq_of_fields (by simp)⟩
  · have silent : s.sensorSilent = _ := if_pos ⟨sampling, silence⟩
    refine ⟨_, exec_sensorSilent live headset, ?_⟩
    rw [silent]
    exact ⟨by simpa using sampling, by simp, State.exists_posted (by exact live) _ _ _, State.eq_of_fields (by simp)⟩

end Sys2Proof.Machine

namespace Sys2Proof.Machine

/-! ### The loading of the play register (R138) -/

theorem State.loadPlay_of_not_playing {s : State} (h : s.audio.sink.state ≠ .playing) :
    s.loadPlay = s.modSink fun k => { k with play := .idle } := by
  unfold State.loadPlay
  cases state : s.audio.sink.state with
  | muted => rfl
  | priming => rfl
  | playing => exact absurd state h

theorem State.loadPlay_of_block {s : State} {x : PlayBlock} {q : List PlayBlock} (playing : s.audio.sink.state = .playing)
    (buffer : s.audio.sink.buffer = x :: q) :
    s.loadPlay = s.modSink fun k => { k with play := x, buffer := q, repeatDone := false } := by
  unfold State.loadPlay
  rw [playing, buffer]

theorem State.loadPlay_of_repeat {s : State} (playing : s.audio.sink.state = .playing) (buffer : s.audio.sink.buffer = [])
    (first : s.audio.sink.repeatDone = false) :
    s.loadPlay =
      (((s.modSink fun k => { k with repeatDone := true }).count (sinkFlow s.station) fun c =>
          { c with underflows := satInc c.underflows }).postSlip 0).startPulse .slipPulse := by
  unfold State.loadPlay
  rw [playing, buffer]
  exact if_neg (by rw [first]; nofun)

theorem State.loadPlay_of_empty {s : State} (playing : s.audio.sink.state = .playing) (buffer : s.audio.sink.buffer = [])
    (again : s.audio.sink.repeatDone = true) :
    s.loadPlay = (s.modSink fun k => { k with play := .idle, state := .priming, expected := none }).postSlip 1 := by
  unfold State.loadPlay
  rw [playing, buffer]
  exact if_pos again

/-! ### An edge of the frame clock (R131, R138) -/

/-- The source that an edge leaves: opened or closed by R55, and its builder stepped where the station holds it (R132). -/
def State.edgeSource (s : State) (ch1 ch2 : BitVec 24) : Source :=
  let s1 := ({ s with audio := { s.audio with clock := true } } : State).followSource
  if s1.holdsSource then (s1.buildStep (s1.inputFrame ch1 ch2)).audio.source else s1.audio.source

/-- The builder touches the source alone (R132). -/
theorem State.buildStep_eq (s : State) (f : Frame) :
    s.buildStep f = { s with audio := { s.audio with source := (s.buildStep f).audio.source } } := by
  unfold State.buildStep
  dsimp only
  split
  · rfl
  · rfl

/-- The state in which an edge steps the sink: clock present, source stepped (R131, R132). -/
def State.atSinkStep (s : State) (ch1 ch2 : BitVec 24) : State :=
  { s with audio := { s.audio with clock := true, source := s.edgeSource ch1 ch2 } }

theorem exec_frameClockEdge {s : State} (live : s.live) (port : s.station ≠ .strap) (ch1 ch2 : BitVec 24) :
    exec (.frameClockEdge ch1 ch2) s = .next ((s.atSinkStep ch1 ch2).sinkStep ch1.toInt) := by
  refine (if_pos ⟨live, port⟩).trans (congrArg (fun t : State => Host.Outcome.next (t.sinkStep ch1.toInt)) ?_)
  unfold State.atSinkStep State.edgeSource
  dsimp only
  split
  · rw [State.buildStep_eq, State.followSource_eq]
  · rw [State.followSource_eq]

/-- The register as an edge at frame position 0 loads it, and as any other leaves it (R138). -/
def State.loaded (s : State) : State := if s.audio.sink.position = 0 then s.loadPlay else s

theorem State.loadPlay_position (s : State) : s.loadPlay.audio.sink.position = s.audio.sink.position := by
  unfold State.loadPlay
  split
  · rfl
  · rfl
  · rfl
  · split <;> simp [State.postSlip, State.startPulse, State.modSink]

theorem State.loaded_position (s : State) : s.loaded.audio.sink.position = s.audio.sink.position := by
  unfold State.loaded
  split
  · exact s.loadPlay_position
  · rfl

/-- An edge emits the frame of the loaded register and moves the position on; else the loaded state stands (R138). -/
theorem State.sinkStep_eq (s : State) (mic : Int) :
    s.sinkStep mic =
      { s.loaded with
        audio :=
          { s.loaded.audio with
            out := some (s.loaded.outputFrame mic),
            sink := { s.loaded.audio.sink with position := (s.audio.sink.position + 1) % 4 } } } := by
  rw [← s.loaded_position]
  rfl

/-- At CONSOLE the frame of the register is emitted unchanged (R138). -/
theorem State.outputFrame_of_console {s : State} (console : s.station = .console) (mic : Int) :
    s.outputFrame mic = s.playFrame.1 := if_pos console

/-- What an edge at the sink emits, and what the loading leaves as it is (R138). -/
theorem State.sinkStep_emits (s : State) (mic : Int) :
    let t := s.sinkStep mic
    t.audio.out =
        some (({ t with audio := { t.audio with sink := { t.audio.sink with position := s.audio.sink.position } } } :
          State).outputFrame mic) ∧
      (s.station = .console → ∀ frames x, t.audio.sink.play = .received frames → frames[s.audio.sink.position]? = some x →
        t.audio.out = some x) ∧
      (s.station = .console → t.audio.sink.play = .idle →
        t.audio.out = some { ch1 := s.cfg.idleIn.ch1, ch2 := if s.cfg.twoIn then s.cfg.idleIn.ch2 else 0 }) := by
  have station : s.loaded.station = s.station := by
    unfold State.loaded
    split <;> simp
  have cfg : s.loaded.cfg = s.cfg := by
    unfold State.loaded
    split <;> simp
  intro t
  have eq : t = _ := s.sinkStep_eq mic
  rw [← s.loaded_position] at eq ⊢
  rw [← station, ← cfg, eq]
  clear_value t
  generalize s.loaded = u
  refine ⟨rfl, fun console frames x play here => ?_, fun console play => ?_⟩
  · replace play : u.audio.sink.play = .received frames := play
    show some (u.outputFrame mic) = _
    rw [State.outputFrame_of_console console]
    simp [State.playFrame, play, List.getD_eq_getElem?_getD, here]
  · replace play : u.audio.sink.play = .idle := play
    show some (u.outputFrame mic) = _
    rw [State.outputFrame_of_console console]
    simp [State.playFrame, play, State.sinkIdle, idleFrame, State.sinkTwo, console]

/-- The pulse of a slip starts afresh or stands (R187). -/
def State.slipped (s : State) (slips : Bool) : Pulses :=
  { a := if slips = true ∧ s.cfg.outA = .slipPulse then 64 else s.pulses.a,
    b := if slips = true ∧ s.cfg.outB = .slipPulse then 64 else s.pulses.b }

theorem State.slipped_false (s : State) : s.slipped false = s.pulses := by simp [State.slipped]

theorem State.startPulse_slip (s : State) : (s.startPulse .slipPulse).pulses = s.slipped true := by
  simp [State.slipped, State.startPulse]

/-- What the loading of an empty buffer does, the first time (R138, R184, R187). -/
theorem State.loadPlay_repeats {s : State} (live : s.live) (playing : s.audio.sink.state = .playing)
    (buffer : s.audio.sink.buffer = []) (first : s.audio.sink.repeatDone = false) :
    s.loadPlay.audio = { s.audio with sink := { s.audio.sink with repeatDone := true } } ∧
      (∃ n ∈ s.loadPlay.notices, n.kind = .slip ∧ n.subject = .flow (sinkFlow s.station) ∧ n.value = 0) ∧
      (s.running → (s.loadPlay.counters.get (sinkFlow s.station)).underflows =
        min ((s.counters.get (sinkFlow s.station)).underflows + 1) 65535) ∧
      s.loadPlay.pulses = s.slipped true := by
  rw [State.loadPlay_of_repeat playing buffer first]
  refine ⟨by simp [State.modSink], ?_, fun running => ?_, ?_⟩
  · have posts := State.exists_posted (s := (s.modSink fun k => { k with repeatDone := true }).count (sinkFlow s.station) fun c =>
      { c with underflows := satInc c.underflows }) (by simpa [State.live] using live) .slip (.flow (sinkFlow s.station)) 0
    simpa [State.postSlip] using posts
  · simp [State.postSlip, State.count_of_running (s := s.modSink fun k => { k with repeatDone := true }) running, satInc]
  · rw [State.startPulse_slip]
    simp [State.slipped, State.postSlip]

/-- What the loading of an empty buffer does, again (R138, R184). -/
theorem State.loadPlay_empties {s : State} (live : s.live) (playing : s.audio.sink.state = .playing)
    (buffer : s.audio.sink.buffer = []) (again : s.audio.sink.repeatDone = true) :
    s.loadPlay.audio =
        { s.audio with sink := { s.audio.sink with play := .idle, state := .priming, expected := none } } ∧
      (∃ n ∈ s.loadPlay.notices, n.kind = .slip ∧ n.subject = .flow (sinkFlow s.station) ∧ n.value = 1) ∧
      s.loadPlay.counters = s.counters ∧ s.loadPlay.pulses = s.pulses := by
  rw [State.loadPlay_of_empty playing buffer again]
  refine ⟨by simp [State.postSlip, State.modSink], ?_, by simp [State.postSlip], by simp [State.postSlip]⟩
  exact State.exists_posted (s := s.modSink fun k => { k with play := .idle, state := .priming, expected := none }) live _ _ _

/-- The table of the loading, with what an edge leaves as it is (R138, R187). -/
theorem State.sinkStep_loads {s : State} (live : s.live) (mic : Int) :
    let k := s.audio.sink
    let t := s.sinkStep mic
    t.audio.clock = s.audio.clock ∧ t.audio.sink.position = (k.position + 1) % 4 ∧ t.audio.volume = s.audio.volume ∧
      t.audio.muted = s.audio.muted ∧
      (k.position ≠ 0 → t.audio.sink = { k with position := (k.position + 1) % 4 } ∧ t.notices = s.notices) ∧
      (k.position = 0 → k.state ≠ .playing → t.audio.sink = { k with play := .idle, position := 1 } ∧ t.notices = s.notices) ∧
      (k.position = 0 → k.state = .playing → ∀ x q, k.buffer = x :: q →
        t.audio.sink = { k with play := x, buffer := q, repeatDone := false, position := 1 } ∧ t.notices = s.notices) ∧
      (k.position = 0 → k.state = .playing → k.buffer = [] → k.repeatDone = false →
        t.audio.sink = { k with repeatDone := true, position := 1 } ∧
        (∃ n ∈ t.notices, n.kind = .slip ∧ n.subject = .flow (sinkFlow s.station) ∧ n.value = 0) ∧
        (s.running → (t.counters.get (sinkFlow s.station)).underflows =
          min ((s.counters.get (sinkFlow s.station)).underflows + 1) 65535)) ∧
      (k.position = 0 → k.state = .playing → k.buffer = [] → k.repeatDone = true →
        t.audio.sink = { k with play := .idle, state := .priming, expected := none, position := 1 } ∧
        (∃ n ∈ t.notices, n.kind = .slip ∧ n.subject = .flow (sinkFlow s.station) ∧ n.value = 1) ∧ t.counters = s.counters) ∧
      t.pulses = s.slipped (decide (k.position = 0 ∧ k.state = .playing ∧ k.buffer = [] ∧ k.repeatDone = false)) ∧
      t.rx = s.rx ∧ t.tx = s.tx ∧ t.power = s.power ∧ t.motion = s.motion := by
  intro k t
  have eq : t = _ := s.sinkStep_eq mic
  by_cases start : k.position = 0
  · have loads : s.loaded = s.loadPlay := if_pos start
    have rest : s.loadPlay.rx = s.rx ∧ s.loadPlay.tx = s.tx ∧ s.loadPlay.power = s.power ∧ s.loadPlay.motion = s.motion := by
      simp
    have one : (s.audio.sink.position + 1) % 4 = 1 := by
      rw [show s.audio.sink.position = 0 from start]
    rw [loads, one] at eq
    rw [eq, start]
    clear_value t
    by_cases playing : k.state = .playing
    · by_cases buffer : k.buffer = []
      · have full : ∀ x q, k.buffer ≠ x :: q := by
          rw [buffer]
          nofun
        by_cases done : k.repeatDone = true
        · obtain ⟨audio, posts, counters, pulses⟩ := State.loadPlay_empties live playing buffer done
          rw [audio]
          refine ⟨rfl, rfl, rfl, rfl, fun h => absurd rfl h, fun _ h => absurd playing h, fun _ _ x q h => absurd h (full x q),
            fun _ _ _ h => absurd done (by rw [h]; nofun), fun _ _ _ _ => ⟨rfl, posts, counters⟩, ?_, rest⟩
          exact pulses.trans (s.slipped_false.symm.trans (congrArg s.slipped (by simp [done])))
        · have first : k.repeatDone = false := by simpa using done
          obtain ⟨audio, posts, counts, pulses⟩ := State.loadPlay_repeats live playing buffer first
          rw [audio]
          refine ⟨rfl, rfl, rfl, rfl, fun h => absurd rfl h, fun _ h => absurd playing h, fun _ _ x q h => absurd h (full x q),
            fun _ _ _ _ => ⟨rfl, posts, counts⟩, fun _ _ _ h => absurd h done, ?_, rest⟩
          exact pulses.trans (congrArg s.slipped (by simp [playing, buffer, first]))
      · obtain ⟨x, q, is⟩ := List.exists_cons_of_ne_nil buffer
        rw [State.loadPlay_of_block playing is]
        refine ⟨rfl, rfl, rfl, rfl, fun h => absurd rfl h, fun _ h => absurd playing h, fun _ _ y r same => ?_,
          fun _ _ h => absurd h buffer, fun _ _ h => absurd h buffer, ?_, rfl, rfl, rfl, rfl⟩
        · obtain ⟨rfl, rfl⟩ := List.cons.inj (is.symm.trans same)
          exact ⟨rfl, rfl⟩
        · simp [State.slipped, State.modSink, buffer]
    · rw [State.loadPlay_of_not_playing playing]
      refine ⟨rfl, rfl, rfl, rfl, fun h => absurd rfl h, fun _ _ => ⟨rfl, rfl⟩, fun _ h => absurd h playing,
        fun _ h => absurd h playing, fun _ h => absurd h playing, ?_, rfl, rfl, rfl, rfl⟩
      exact s.slipped_false.symm.trans (congrArg s.slipped (by simp [playing]))
  · have stands : s.loaded = s := if_neg start
    rw [stands] at eq
    rw [eq]
    clear_value t
    refine ⟨rfl, rfl, rfl, rfl, fun _ => ⟨rfl, rfl⟩, fun h => absurd h start, fun h => absurd h start, fun h => absurd h start,
      fun h => absurd h start, ?_, rfl, rfl, rfl, rfl⟩
    exact s.slipped_false.symm.trans (congrArg s.slipped (by simp [start]))

theorem sinkFlow_eq {s : State} (port : s.station ≠ .strap) :
    sinkFlow s.station = if s.station = .console then FlowId.audioIn else .audioOut := by
  cases station : s.station
  · rfl
  · rfl
  · rfl
  · exact absurd station port

/-- Settles O37. -/
theorem edgeEmitsOneFrameInEveryState : Obligations.EdgeEmitsOneFrameInEveryState := by
  intro a b s live port k flow
  obtain ⟨emits, received, idle⟩ := (s.atSinkStep a b).sinkStep_emits a.toInt
  obtain ⟨clock, position, volume, muted, between, resting, takes, repeats, empties, pulses, rest⟩ :=
    State.sinkStep_loads (s := s.atSinkStep a b) live a.toInt
  have flowEq : sinkFlow (s.atSinkStep a b).station = flow := sinkFlow_eq port
  rw [flowEq] at repeats empties
  refine ⟨_, exec_frameClockEdge live port a b, clock, emits, received, idle, position, volume, muted, between, resting, takes,
    repeats, empties, ?_, rest⟩
  refine pulses.trans ?_
  simp only [State.slipped, decide_eq_true_eq]
  rfl

end Sys2Proof.Machine

namespace Sys2Proof.Machine

/-! ### The block builder (R132 to R134) -/

/-- The source that an edge finds open or closed by its domain, the clock being present (R55, R131). -/
def State.heldSource (s : State) : Source := s.audio.source.follow (s.domainOn (sourceDomain s.station))

theorem State.edgeSource_of_gathering {s : State} (holds : s.holdsSource = true) (ch1 ch2 : BitVec 24)
    (room : s.heldSource.position < 3) :
    s.edgeSource ch1 ch2 =
      { s.heldSource with
        position := s.heldSource.position + 1,
        frames := if s.heldSource.opened then s.heldSource.frames ++ [s.inputFrame ch1 ch2] else [] } := by
  have opens : ({ s with audio := { s.audio with clock := true } } : State).sourceOpen = s.domainOn (sourceDomain s.station) := by
    show (s.holdsSource && true && s.domainOn (sourceDomain s.station)) = _
    rw [holds]
    rfl
  unfold State.edgeSource
  rw [State.followSource_eq, opens]
  exact (if_pos holds).trans (congrArg (fun t : State => t.audio.source) (if_pos room))

theorem State.edgeSource_of_fourth {s : State} (holds : s.holdsSource = true) (ch1 ch2 : BitVec 24)
    (full : 3 ≤ s.heldSource.position) :
    s.edgeSource ch1 ch2 =
      { s.heldSource with
        position := 0, frames := [], next := s.heldSource.next + 1,
        queue :=
          if s.heldSource.opened then
            queueBlock s.heldSource.queue
              { number := s.heldSource.next, dst := s.blockDst,
                frames :=
                  s.blockFrames
                    (if s.heldSource.opened then s.heldSource.frames ++ [s.inputFrame ch1 ch2] else []) }
          else s.heldSource.queue } := by
  have opens : ({ s with audio := { s.audio with clock := true } } : State).sourceOpen = s.domainOn (sourceDomain s.station) := by
    show (s.holdsSource && true && s.domainOn (sourceDomain s.station)) = _
    rw [holds]
    rfl
  unfold State.edgeSource
  rw [State.followSource_eq, opens]
  exact (if_pos holds).trans (congrArg (fun t : State => t.audio.source) (if_neg (not_lt.2 full)))

/-- The sink's step leaves source and clock (R138). -/
theorem State.sinkStep_source (s : State) (mic : Int) :
    (s.sinkStep mic).audio.source = s.audio.source ∧ (s.sinkStep mic).audio.clock = s.audio.clock := by
  have loads : s.loaded.audio.source = s.audio.source ∧ s.loaded.audio.clock = s.audio.clock := by
    unfold State.loaded State.loadPlay
    split
    · split
      · exact ⟨rfl, rfl⟩
      · exact ⟨rfl, rfl⟩
      · exact ⟨rfl, rfl⟩
      · split <;> simp [State.postSlip, State.startPulse, State.modSink]
    · exact ⟨rfl, rfl⟩
  rw [s.sinkStep_eq mic]
  exact loads

theorem Source.follow_same (k : Source) : k.follow k.opened = k := if_pos rfl

theorem Source.follow_opens {k : Source} (closed : k.opened = false) :
    k.follow true = { k with opened := true, position := 0, frames := [] } := if_neg (by rw [closed]; nofun)

theorem Source.follow_closes (k : Source) :
    (k.follow false).opened = false ∧ (k.follow false).queue = k.queue ∧ (k.follow false).next = k.next ∧
      (k.opened = true → (k.follow false).position = 0 ∧ (k.follow false).frames = []) := by
  unfold Source.follow
  split
  · rename_i same
    exact ⟨same.symm, rfl, rfl, fun opened => by rw [opened] at same; cases same⟩
  · exact ⟨rfl, rfl, rfl, fun _ => ⟨rfl, rfl⟩⟩

/-- Settles O38. -/
theorem fourFramesMakeABlock : Obligations.FourFramesMakeABlock := by
  intro a b s live port holds k two f frames block
  obtain ⟨source, clock⟩ := (s.atSinkStep a b).sinkStep_source a.toInt
  have source : ((s.atSinkStep a b).sinkStep a.toInt).audio.source = s.edgeSource a b := source
  have clock : ((s.atSinkStep a b).sinkStep a.toInt).audio.clock = true := clock
  have run := exec_frameClockEdge live port a b
  generalize (s.atSinkStep a b).sinkStep a.toInt = t at source clock run
  refine ⟨fun opened on => ⟨t, run, ?_⟩, fun closed off => ⟨t, run, ?_⟩, fun closed on => ⟨t, run, clock, ?_⟩, ?_⟩
  · have held : s.heldSource = k := by
      unfold State.heldSource
      rw [on, show true = s.audio.source.opened from opened.symm]
      exact Source.follow_same _
    rw [source]
    constructor
    · intro room
      rw [State.edgeSource_of_gathering holds a b (by rw [held]; exact room), held, if_pos opened]
      rfl
    · intro full
      rw [State.edgeSource_of_fourth holds a b (by rw [held]; exact full), held, if_pos opened, if_pos opened]
      exact ⟨rfl, rfl, rfl, rfl⟩
  · have held : s.heldSource = k := by
      unfold State.heldSource
      rw [off, show false = s.audio.source.opened from closed.symm]
      exact Source.follow_same _
    have shut : ¬k.opened = true := by rw [closed]; nofun
    rw [source]
    by_cases room : k.position < 3
    · rw [State.edgeSource_of_gathering holds a b (by rw [held]; exact room), held, if_neg shut, if_pos room, if_pos room]
      exact ⟨rfl, rfl, closed, rfl, rfl⟩
    · rw [State.edgeSource_of_fourth holds a b (by rw [held]; exact not_lt.1 room), held, if_neg shut, if_neg room, if_neg room]
      exact ⟨rfl, rfl, closed, rfl, rfl⟩
  · have held : s.heldSource = { k with opened := true, position := 0, frames := [] } := by
      unfold State.heldSource
      rw [on]
      exact Source.follow_opens closed
    rw [source, State.edgeSource_of_gathering holds a b (by rw [held]; exact Nat.zero_lt_succ 2), held]
    rfl
  · have opens : ({ s with audio := { s.audio with clock := false } } : State).sourceOpen = false := by
      show (s.holdsSource && false && s.domainOn (sourceDomain s.station)) = false
      rw [Bool.and_false, Bool.false_and]
    obtain ⟨opened, queue, next, empties⟩ := s.audio.source.follow_closes
    have absent : exec .frameClockAbsent s = .next ({ s with audio := { s.audio with clock := false } } : State).followSource :=
      if_pos ⟨live, port⟩
    rw [State.followSource_eq, opens] at absent
    exact ⟨_, absent, rfl, opened, queue, next, empties, rfl, rfl⟩

end Sys2Proof.Machine

namespace Sys2Proof.Machine

/-! ### A count, said as one update (R64) -/

theorem State.count_set (s : State) (f : FlowId) (g : FlowCounters → FlowCounters) :
    s.count f g =
      { s with counters := s.counters.set f (if s.running then g (s.counters.get f) else s.counters.get f) } := by
  rw [State.count_eq]
  by_cases running : s.start = .running
  · rw [if_pos running, if_pos running]
  · rw [if_neg running, if_neg running, PerFlow.set_get]

/-- The sink after a block joined its buffer, before it may start to play (R137). -/
def State.joined (s : State) (b : PlayBlock) : State :=
  if s.audio.sink.buffer.length < 16 then s.modSink fun k => { k with buffer := k.buffer ++ [b] }
  else
    (((s.modSink fun k => { k with buffer := k.buffer.drop 1 ++ [b] }).count (sinkFlow s.station) fun c =>
        { c with overflows := satInc c.overflows }).postSlip 2).startPulse .slipPulse

/-- A PRIMING sink with 8 blocks starts to play (R138). -/
theorem State.appendBlock_eq (s : State) (b : PlayBlock) :
    s.appendBlock b =
      if (s.joined b).audio.sink.state = .priming ∧ 8 ≤ (s.joined b).audio.sink.buffer.length then
        (s.joined b).modSink fun k => { k with state := .playing }
      else s.joined b := rfl

/-- A step that counts in one flow's group alone, and no gap there. -/
structure State.CountsIn (f : FlowId) (s t : State) : Prop where
  gaps : (t.counters.get f).gaps = (s.counters.get f).gaps
  others : ∀ g, g ≠ f → t.counters.get g = s.counters.get g

namespace State.CountsIn

variable {f : FlowId} {s t u : State}

theorem of_same (h : t.counters = s.counters) : State.CountsIn f s t := ⟨by rw [h], fun _ _ => by rw [h]⟩

theorem trans (h : State.CountsIn f s t) (k : State.CountsIn f t u) : State.CountsIn f s u :=
  ⟨k.gaps.trans h.gaps, fun g other => (k.others g other).trans (h.others g other)⟩

theorem count (h : State.CountsIn f s t) {g : FlowCounters → FlowCounters} (gaps : ∀ k, (g k).gaps = k.gaps) :
    State.CountsIn f s (t.count f g) := by
  refine h.trans ⟨?_, fun k other => State.count_get_of_ne t other g⟩
  rw [State.count_get]
  split
  · exact gaps _
  · rfl

theorem breakEye (h : State.CountsIn (Eye.flow e) s t) : State.CountsIn (Eye.flow e) s (t.breakEye e) := by
  unfold State.breakEye
  split
  · refine count ?_ fun _ => rfl
    exact h.trans (of_same rfl)
  · exact h.trans (of_same rfl)

theorem considerRelease (h : State.CountsIn (Eye.flow e) s t) : State.CountsIn (Eye.flow e) s (t.considerRelease e) := by
  unfold State.considerRelease
  split
  · refine count ?_ fun _ => rfl
    exact h.trans (of_same rfl)
  · exact h

theorem judgeFirst (h : State.CountsIn (Eye.flow e) s t) (x : SliceHead) (c : Cell) :
    State.CountsIn (Eye.flow e) s (t.judgeFirst e x c) := by
  unfold State.judgeFirst
  dsimp only
  split
  · refine count ?_ fun _ => rfl
    exact h.trans (of_same rfl)
  · refine considerRelease ?_
    exact h.trans (of_same rfl)

theorem nextCell (h : State.CountsIn (Eye.flow e) s t) (c : Cell) : State.CountsIn (Eye.flow e) s (t.nextCell e c) := by
  refine considerRelease ?_
  exact h.trans (of_same rfl)

theorem startCell (h : State.CountsIn (Eye.flow e) s t) (c : Cell) : State.CountsIn (Eye.flow e) s (t.startCell e c) := by
  have broken : State.CountsIn (Eye.flow e) s (if (t.eyes.get e).reasm = .filling then t.breakEye e else t) := by
    split
    · exact h.breakEye
    · exact h
  unfold State.startCell
  generalize (if (t.eyes.get e).reasm = .filling then t.breakEye e else t) = u at broken
  dsimp only
  cases readHead c with
  | some x => exact broken.judgeFirst x c
  | none =>
    refine count ?_ fun _ => rfl
    exact broken.trans (of_same rfl)

theorem endCell (h : State.CountsIn (Eye.flow e) s t) : State.CountsIn (Eye.flow e) s (t.endCell e) := by
  unfold State.endCell
  dsimp only
  split
  · exact h.breakEye.trans (of_same rfl)
  · exact h.trans (of_same rfl)

theorem takePictureCell (h : State.CountsIn (Eye.flow e) s t) (gap : Bool) (c : Cell) :
    State.CountsIn (Eye.flow e) s (t.takePictureCell e gap c) := by
  have broken : State.CountsIn (Eye.flow e) s (if gap then t.breakEye e else t) := by
    split
    · exact h.breakEye
    · exact h
  unfold State.takePictureCell
  generalize (if gap then t.breakEye e else t) = u at broken
  dsimp only
  split
  · split
    · exact broken.nextCell c
    · exact broken
  · split
    · exact broken.endCell
    · exact broken.startCell c

theorem appendBlock (h : State.CountsIn f s t) (sinks : sinkFlow t.station = f) (b : PlayBlock) :
    State.CountsIn f s (t.appendBlock b) := by
  have joins : State.CountsIn f s (t.joined b) := by
    unfold State.joined
    split
    · exact h.trans (of_same rfl)
    · rw [sinks]
      refine State.CountsIn.trans (t := (t.modSink fun k => { k with buffer := k.buffer.drop 1 ++ [b] }).count f fun c =>
        { c with overflows := satInc c.overflows }) (count ?_ fun _ => rfl) (of_same (by simp [State.postSlip]))
      exact h.trans (of_same rfl)
  rw [State.appendBlock_eq]
  split
  · exact joins.trans (of_same rfl)
  · exact joins

theorem appendIdle (n : Nat) : ∀ {t : State}, State.CountsIn f s t → sinkFlow t.station = f →
    State.CountsIn f s (State.appendIdle n t) := by
  induction n with
  | zero => exact fun h _ => h
  | succ n ih => exact fun h sinks => ih (h.appendBlock sinks .idle) (by simpa using sinks)

theorem takeBlock (h : State.CountsIn f s t) (sinks : sinkFlow t.station = f) (n : Num8) (frames : List Frame) :
    State.CountsIn f s (t.takeBlock n frames) := by
  unfold State.takeBlock
  dsimp only
  split
  · exact h
  · split
    · exact (h.appendBlock sinks _).trans (of_same rfl)
    · split
      · exact ((appendIdle _ h sinks).appendBlock (by simpa using sinks) _).trans (of_same rfl)
      · split
        · unfold State.discontinuity
          refine ((h.trans (of_same ?_)).appendBlock (by simpa [State.postSlip] using sinks) _).trans (of_same rfl)
          simp [State.postSlip, State.modSink]
        · rw [sinks]
          exact h.count fun _ => rfl

end State.CountsIn

/-! ### A DATA cell taken (R58, R59) -/

/-- A gap stands before a cell (R59). -/
def gapBefore (e : Option Seq) (c : Cell) : Bool := e.any fun n => n != c.seq

theorem gapBefore_iff (e : Option Seq) (c : Cell) : gapBefore e c = true ↔ e.isSome = true ∧ e ≠ some c.seq := by
  cases e <;> simp [gapBefore]

/-- A flow's counters after the sequence check (R59). -/
def State.checked (s : State) (f : FlowId) (e : Option Seq) (c : Cell) : FlowCounters :=
  { s.counters.get f with
    gaps :=
      if s.running ∧ e.isSome = true ∧ e ≠ some c.seq then min ((s.counters.get f).gaps + 1) 65535
      else (s.counters.get f).gaps }

/-- A record after the sequence check, before its unit takes the cell (R59). -/
def State.sequenced (s : State) (f : FlowId) (e : Option Seq) (c : Cell) : State :=
  { s with
    dst := s.dst.set f (some ⟨.listening, some (c.seq + 1)⟩), counters := s.counters.set f (s.checked f e c) }

theorem State.sequenceCheck_eq (s : State) (f : FlowId) (e : Option Seq) (c : Cell) :
    s.sequenceCheck f e c = (s.sequenced f e c).handOver f (gapBefore e c) c := by
  refine congrArg (fun t : State => t.handOver f (gapBefore e c) c) ?_
  by_cases gap : gapBefore e c = true
  · refine (if_pos gap).trans ?_
    rw [State.count_set]
    unfold State.sequenced State.checked
    by_cases running : s.running
    · rw [if_pos running, if_pos ⟨running, (gapBefore_iff e c).1 gap⟩]
      rfl
    · rw [if_neg running, if_neg fun h => running h.1]
  · refine (if_neg gap).trans ?_
    unfold State.sequenced State.checked
    rw [if_neg fun h => gap ((gapBefore_iff e c).2 h.2), PerFlow.set_get]

/-- The flow plan check (R58). -/
theorem State.planned_iff (s : State) (f : FlowId) (c : Cell) :
    s.planned f c = true ↔ c.dst = .to s.station ∧ s.planDest f = s.station ∧ c.src = s.planSource f := by
  simp [State.planned, and_assoc]

/-- A DATA cell at the head of its lane's hand-over, addressed here or to all, is judged by plan and record (R58). -/
theorem exec_dataCellTaken {l : Lane} {c : Cell} {s : State} (live : s.live) (handed : (s.rx.get l).handed.head? = some c)
    (kind : c.kind = .data) (dst : c.dst = .to s.station ∨ c.dst = .broadcast) :
    exec (.dataCellTaken l c) s = .next ((s.taken l c).takeData l c) := by
  have here : addressed s.station c = true := by simpa [addressed] using dst
  show execDataCellTaken l c s = _
  unfold execDataCellTaken
  rw [State.take_of_head? handed]
  exact congrArg _ (if_pos ⟨live, kind, here⟩)

theorem State.takeData_of_listening {s : State} {l : Lane} {f : FlowId} {e : Option Seq} {c : Cell}
    (flow : flowOf c.flow = some f) (plan : s.planned f c = true) (record : s.dst.get f = some ⟨.listening, e⟩) :
    s.takeData l c = (s.sequenced f e c).handOver f (gapBefore e c) c := by
  rw [← State.sequenceCheck_eq]
  unfold State.takeData
  rw [flow]
  dsimp only
  rw [if_neg (by rw [plan]; nofun), record]

theorem State.takeData_of_not_listening {s : State} {l : Lane} {f : FlowId} {c : Cell}
    (flow : flowOf c.flow = some f) (plan : s.planned f c = true) (record : ∀ d, s.dst.get f = some d → d.state ≠ .listening) :
    s.takeData l c = s := by
  unfold State.takeData
  rw [flow]
  dsimp only
  rw [if_neg (by rw [plan]; nofun)]
  split
  · rename_i here
    exact absurd rfl (record _ here)
  · rfl

theorem State.takeData_of_misrouted {s : State} {l : Lane} {f : FlowId} {c : Cell} (flow : flowOf c.flow = some f)
    (plan : ¬s.planned f c = true) : s.takeData l c = s.misroute f := by
  unfold State.takeData
  rw [flow]
  exact if_pos (by simpa using plan)

theorem State.takeData_of_stray {s : State} {l : Lane} {c : Cell} (flow : flowOf c.flow = none) :
    s.takeData l c = s.misroute (strayFlow l) := by
  unfold State.takeData
  rw [flow]

/-- The flow that a station's sink takes is the audio flow whose planned destination it is (R48, R130). -/
theorem State.sinkFlow_of_planDest {s : State} {f : FlowId} (audio : f = .audioOut ∨ f = .audioIn)
    (plan : s.planDest f = s.station) : sinkFlow s.station = f := by
  obtain rfl | rfl := audio
  · have other : s.station ≠ .console := by
      rw [← plan]
      show s.audioStation ≠ .console
      unfold State.audioStation
      split <;> nofun
    have other' : s.station ≠ .strap := by
      rw [← plan]
      show s.audioStation ≠ .strap
      unfold State.audioStation
      split <;> nofun
    rw [sinkFlow_eq other', if_neg other]
  · rw [← plan]
    rfl

/-- What a unit counts of a cell stands in the cell's flow (R64). -/
theorem State.handOver_countsIn {s : State} {f : FlowId} (plan : s.planDest f = s.station) (gap : Bool) (c : Cell) :
    State.CountsIn f s (s.handOver f gap c) := by
  have same : State.CountsIn f s s := .of_same rfl
  unfold State.handOver
  cases f with
  | pictureL => exact State.CountsIn.takePictureCell (e := .left) same gap c
  | pictureR => exact State.CountsIn.takePictureCell (e := .right) same gap c
  | motion =>
    dsimp only
    split
    · exact .of_same (by simp)
    · exact same.count fun _ => rfl
  | audioOut =>
    dsimp only
    split
    · exact same.takeBlock (State.sinkFlow_of_planDest (.inl rfl) plan) _ _
    · exact same.count fun _ => rfl
  | audioIn =>
    dsimp only
    split
    · exact same.takeBlock (State.sinkFlow_of_planDest (.inr rfl) plan) _ _
    · exact same.count fun _ => rfl

/-- Settles O20. -/
theorem dataCellsMeetThePlanAndTheSequence : Obligations.DataCellsMeetThePlanAndTheSequence := by
  intro l c s live handed kind dst held bump misrouted
  have run := exec_dataCellTaken live handed kind dst
  have counted (f : FlowId) : (s.taken l c).misroute f =
      { s with rx := held, counters := if s.running then bump f misrouted else s.counters } :=
    State.count_eq (s.taken l c) f _
  refine ⟨fun stray => ?_, fun f flow => ?_⟩
  · rw [run, State.takeData_of_stray stray, counted]
    cases l <;> rfl
  · intro fits
    refine ⟨fun no => ?_, fun yes record => ?_, fun yes d record listens => ?_⟩
    · have no : ¬(s.taken l c).planned f c = true := fun plan => no ((State.planned_iff _ f c).1 plan)
      rw [run, State.takeData_of_misrouted flow no, counted]
    · have plan : (s.taken l c).planned f c = true := (State.planned_iff _ f c).2 yes
      rw [run, State.takeData_of_not_listening flow plan record]
      rfl
    · have plan : (s.taken l c).planned f c = true := (State.planned_iff _ f c).2 yes
      obtain ⟨state, e⟩ := d
      subst listens
      have counts := State.handOver_countsIn (s := (s.taken l c).sequenced f e c) (f := f) yes.2.1 (gapBefore e c) c
      rw [run, State.takeData_of_listening flow plan record]
      refine ⟨_, rfl, by simp [State.sequenced, State.taken, State.modRx], counts.gaps.trans ?_,
        by simp [State.sequenced, State.taken, State.modRx, held], by simp [State.sequenced, State.taken, State.modRx],
        by simp [State.sequenced, State.taken, State.modRx], by simp [State.sequenced, State.taken, State.modRx],
        by simp [State.sequenced, State.taken, State.modRx], fun g other => (counts.others g other).trans ?_⟩
      · simp only [State.sequenced, PerFlow.get_set_self]
        rfl
      · simp only [State.sequenced, PerFlow.get_set, if_neg other]
        rfl

end Sys2Proof.Machine

namespace Sys2Proof.Machine

/-! ### The elastic buffer (R136, R137) -/

theorem sinkFlow_station (x : Station) : sinkFlow x = if x = .console then FlowId.audioIn else .audioOut := by
  cases x <;> rfl

/-- A PRIMING sink starts to play at 8 blocks (R138). -/
def SinkState.primed (st : SinkState) (blocks : Nat) : SinkState := if st = .priming ∧ 8 ≤ blocks then .playing else st

theorem SinkState.primed_primed (st : SinkState) {a b : Nat} (h : a ≤ b) : (st.primed a).primed b = st.primed b := by
  unfold SinkState.primed
  by_cases soon : 8 ≤ a
  · have later := soon.trans h
    by_cases priming : st = .priming
    · simp [priming, soon, later]
    · simp [priming]
  · simp [soon]

/-- A sink after `n` idle blocks and a block joined a buffer with room for them (R136, R137). -/
def Sink.filled (k : Sink) (n : Nat) (b : PlayBlock) : Sink :=
  { k with
    buffer := k.buffer ++ List.replicate n .idle ++ [b], state := k.state.primed (k.buffer.length + n + 1) }

theorem State.modSink_sink (s : State) (f : Sink → Sink) : (s.modSink f).audio.sink = f s.audio.sink := rfl

theorem State.appendBlock_of_room {s : State} (room : s.audio.sink.buffer.length < 16) (b : PlayBlock) :
    s.appendBlock b = s.modSink fun k => k.filled 0 b := by
  have joins : s.joined b = s.modSink fun k => { k with buffer := k.buffer ++ [b] } := if_pos room
  have length : (s.joined b).audio.sink.buffer.length = s.audio.sink.buffer.length + 0 + 1 := by
    rw [joins]
    simp [State.modSink]
  have state : (s.joined b).audio.sink.state = s.audio.sink.state := by rw [joins]; rfl
  rw [State.appendBlock_eq, length, state, joins]
  have filled : s.audio.sink.filled 0 b =
      { s.audio.sink with
        buffer := s.audio.sink.buffer ++ [b],
        state := s.audio.sink.state.primed (s.audio.sink.buffer.length + 0 + 1) } := by
    simp [Sink.filled]
  unfold State.modSink
  dsimp only
  rw [filled]
  unfold SinkState.primed
  by_cases starts : s.audio.sink.state = .priming ∧ 8 ≤ s.audio.sink.buffer.length + 0 + 1
  · rw [if_pos starts, if_pos starts]
  · rw [if_neg starts, if_neg starts]

theorem Sink.filled_filled (k : Sink) (n : Nat) (b : PlayBlock) : (k.filled 0 .idle).filled n b = k.filled (n + 1) b := by
  unfold Sink.filled
  dsimp only
  rw [SinkState.primed_primed _ (by simp; omega)]
  simp only [List.length_append, List.length_cons, List.length_nil, List.append_assoc,
    List.replicate_succ, List.replicate_zero, List.nil_append, List.cons_append]
  congr 2
  omega

theorem State.appendIdle_appendBlock (n : Nat) (b : PlayBlock) : ∀ {s : State}, s.audio.sink.buffer.length + n < 16 →
    (State.appendIdle n s).appendBlock b = s.modSink fun k => k.filled n b := by
  induction n with
  | zero => exact fun room => State.appendBlock_of_room room b
  | succ n ih =>
    intro s room
    show (State.appendIdle n (s.appendBlock .idle)).appendBlock b = _
    rw [State.appendBlock_of_room (s := s) (by omega) .idle, ih (by simp [State.modSink, Sink.filled]; omega)]
    unfold State.modSink
    dsimp only
    rw [Sink.filled_filled]

/-- An append to a full buffer discards the oldest block, an overflow slip (R137). -/
theorem State.appendBlock_of_full {s : State} (live : s.live) (full : s.audio.sink.buffer.length = 16) (b : PlayBlock) :
    (s.appendBlock b).audio.sink =
        { s.audio.sink with
          buffer := s.audio.sink.buffer.drop 1 ++ [b],
          state := if s.audio.sink.state = .priming then .playing else s.audio.sink.state } ∧
      (∃ n ∈ (s.appendBlock b).notices, n.kind = .slip ∧ n.subject = .flow (sinkFlow s.station) ∧ n.value = 2) ∧
      (s.running → ((s.appendBlock b).counters.get (sinkFlow s.station)).overflows =
        min ((s.counters.get (sinkFlow s.station)).overflows + 1) 65535) ∧
      (s.appendBlock b).pulses = s.slipped true := by
  have joins : s.joined b =
      (((s.modSink fun k => { k with buffer := k.buffer.drop 1 ++ [b] }).count (sinkFlow s.station) fun c =>
        { c with overflows := satInc c.overflows }).postSlip 2).startPulse .slipPulse := if_neg (by omega)
  have sink : (s.joined b).audio.sink = { s.audio.sink with buffer := s.audio.sink.buffer.drop 1 ++ [b] } := by
    rw [joins]
    simp [State.postSlip, State.modSink]
  have posts : ∃ n ∈ (s.joined b).notices, n.kind = .slip ∧ n.subject = .flow (sinkFlow s.station) ∧ n.value = 2 := by
    rw [joins]
    have posts := State.exists_posted (s := (s.modSink fun k => { k with buffer := k.buffer.drop 1 ++ [b] }).count
      (sinkFlow s.station) fun c => { c with overflows := satInc c.overflows }) (by simpa [State.live] using live) .slip
      (.flow (sinkFlow s.station)) 2
    simpa [State.postSlip] using posts
  have counts : s.running → ((s.joined b).counters.get (sinkFlow s.station)).overflows =
      min ((s.counters.get (sinkFlow s.station)).overflows + 1) 65535 := by
    intro running
    rw [joins]
    simp [-List.drop_one, State.postSlip,
      State.count_of_running (s := s.modSink fun k => { k with buffer := k.buffer.drop 1 ++ [b] }) running, satInc]
  have pulses : (s.joined b).pulses = s.slipped true := by
    rw [joins, State.startPulse_slip]
    simp [State.slipped, State.postSlip]
  rw [State.appendBlock_eq, sink]
  have long : 8 ≤ (s.audio.sink.buffer.drop 1 ++ [b]).length := by simp [full]
  by_cases priming : s.audio.sink.state = .priming
  · rw [if_pos ⟨priming, long⟩, if_pos priming]
    refine ⟨?_, posts, counts, pulses⟩
    show { (s.joined b).audio.sink with state := .playing } = _
    rw [sink]
  · rw [if_neg fun h => priming h.1, if_neg priming]
    exact ⟨sink, posts, counts, pulses⟩

/-! ### The judgement of a block (R136) -/

theorem State.takeBlock_of_muted {s : State} (muted : s.audio.sink.state = .muted) (n : Num8) (frames : List Frame) :
    s.takeBlock n frames = s := if_pos muted

theorem State.takeBlock_of_first {s : State} (awake : s.audio.sink.state ≠ .muted) (first : s.audio.sink.expected = none)
    (n : Num8) (frames : List Frame) : s.takeBlock n frames = (s.appendBlock (.received frames)).judged n := by
  unfold State.takeBlock
  dsimp only
  rw [if_neg awake, first]

theorem State.takeBlock_of_expected {s : State} {e : Num8} (awake : s.audio.sink.state ≠ .muted)
    (expected : s.audio.sink.expected = some e) (n : Num8) (frames : List Frame) :
    s.takeBlock n frames =
      if (n - e).toNat ≤ 4 then ((State.appendIdle (n - e).toNat s).appendBlock (.received frames)).judged n
      else if (n - e).toNat ≤ 127 then (s.discontinuity (.received frames)).judged n
      else s.count (sinkFlow s.station) fun c => { c with lateBlocks := satInc c.lateBlocks } := by
  unfold State.takeBlock
  dsimp only
  rw [if_neg awake, expected]

/-- The sink takes the block of a cell of its flow, and a cell without one is misrouted (R58, R61, R46). -/
theorem State.handOver_of_block {s : State} {f : FlowId} {c : Cell} {n : Num8} {frames : List Frame}
    (audio : f = .audioOut ∨ f = .audioIn) (start : c.start = true) (block : readBlock c s.sinkTwo = some (n, frames)) (gap : Bool) :
    s.handOver f gap c = s.takeBlock n frames := by
  unfold State.handOver
  obtain rfl | rfl := audio
  · simp only [start, block]
  · simp only [start, block]

theorem State.handOver_of_no_block {s : State} {f : FlowId} {c : Cell} (audio : f = .audioOut ∨ f = .audioIn)
    (no : c.start = false ∨ readBlock c s.sinkTwo = none) (gap : Bool) : s.handOver f gap c = s.misroute f := by
  unfold State.handOver
  have none : ∀ x : Option (Num8 × List Frame), c.start = false ∨ x = none →
      (match c.start, x with
        | true, some (n, frames) => s.takeBlock n frames
        | _, _ => s.misroute f) = s.misroute f := by
    rintro x (no | rfl)
    · rw [no]
    · cases c.start <;> rfl
  obtain rfl | rfl := audio
  · exact none _ no
  · exact none _ no

/-- A cell misrouted after the sequence check counts in its flow's group besides (R46, R59). -/
theorem State.misroute_sequenced (s : State) (f : FlowId) (e : Option Seq) (c : Cell) :
    (s.sequenced f e c).misroute f =
      { s.sequenced f e c with
        counters :=
          s.counters.set f
            { s.checked f e c with
              misrouted :=
                if s.running then min ((s.checked f e c).misrouted + 1) 65535 else (s.checked f e c).misrouted } } := by
  have running : (s.sequenced f e c).running ↔ s.running := Iff.rfl
  have listed : (s.sequenced f e c).counters = s.counters.set f (s.checked f e c) := rfl
  refine (State.count_set _ f _).trans ?_
  simp only [running]
  rw [listed, PerFlow.get_set_self, PerFlow.set_set]
  split <;> rfl

/-- Settles O39. -/
theorem blocksAreJudgedByNumber : Obligations.BlocksAreJudgedByNumber := by
  refine ⟨fun n frames s => ?_, fun x s live full => ?_, fun l c e s live => ?_⟩
  · intro k t flow
    have flowEq : sinkFlow s.station = flow := sinkFlow_station s.station
    refine ⟨fun muted => State.takeBlock_of_muted muted n frames, fun awake => ⟨fun first room => ?_, fun e expected near room => ?_,
      fun e expected far near => ?_, fun e expected late => ?_⟩⟩
    · have eq : t = _ := State.takeBlock_of_first awake first n frames
      rw [State.appendBlock_of_room room] at eq
      rw [eq]
      exact ⟨List.append_nil k.buffer ▸ rfl, rfl, rfl, rfl⟩
    · have eq : t = _ := State.takeBlock_of_expected awake expected n frames
      rw [if_pos near, State.appendIdle_appendBlock _ _ room] at eq
      rw [eq]
      exact ⟨rfl, rfl, rfl, rfl, rfl⟩
    · have eq : t = _ := State.takeBlock_of_expected awake expected n frames
      rw [if_neg (by omega), if_pos near] at eq
      have appends : s.discontinuity (.received frames) =
          ((s.modSink fun k => { k with state := .priming, buffer := [] }).postSlip 3).modSink fun k =>
            k.filled 0 (.received frames) :=
        State.appendBlock_of_room (by simp [State.postSlip, State.modSink]) _
      have audio : ((s.modSink fun k => { k with state := .priming, buffer := [] }).postSlip 3).audio.sink =
          { k with state := .priming, buffer := [] } := by simp [State.postSlip, State.modSink, k]
      rw [eq, appends]
      have sink : (((s.modSink fun k => { k with state := .priming, buffer := [] }).postSlip 3).modSink fun k =>
          k.filled 0 (.received frames)).audio.sink = { k with state := .priming, buffer := [.received frames] } := by
        rw [State.modSink_sink, audio]
        rfl
      have judged : ∀ u : State, (u.judged n).audio.sink = { u.audio.sink with expected := some (n + 1), repeatDone := false } :=
        fun _ => rfl
      rw [judged, sink]
      refine ⟨rfl, rfl, rfl, rfl, fun live => ?_⟩
      rw [← flowEq]
      exact State.exists_posted (s := s.modSink fun k => { k with state := .priming, buffer := [] }) live .slip
        (.flow (sinkFlow s.station)) 3
    · have eq : t = _ := State.takeBlock_of_expected awake expected n frames
      rw [if_neg (by omega), if_neg (by omega), flowEq] at eq
      rw [eq]
      refine ⟨?_, ?_⟩
      · rw [State.count_eq]
      · rw [State.count_get]
        split <;> rfl
  · intro flow t
    have flowEq : sinkFlow s.station = flow := sinkFlow_station s.station
    obtain ⟨sink, posts, counts, pulses⟩ := State.appendBlock_of_full live full x
    rw [flowEq] at posts counts
    refine ⟨congrArg Sink.buffer sink, posts, counts, fun slips => ?_, fun slips => ?_, ?_, ?_⟩
    · rw [show t.pulses = _ from pulses]
      exact if_pos ⟨rfl, slips⟩
    · rw [show t.pulses = _ from pulses]
      exact if_pos ⟨rfl, slips⟩
    · rw [show t.audio.sink = _ from sink]
    · rw [show t.audio.sink = _ from sink]
  · intro f two handed kind dst dest src flow record before checked held
    have audio : f = .audioOut ∨ f = .audioIn := by
      by_cases console : s.station = .console
      · exact .inr (if_pos console)
      · exact .inl (if_neg console)
    have plan : (s.taken l c).planned f c = true := (State.planned_iff _ f c).2 ⟨dst, dest, src⟩
    have run := exec_dataCellTaken live handed kind (.inl dst)
    have held_eq : (s.taken l c).sequenced f e c = held := rfl
    rw [State.takeData_of_listening flow plan record, held_eq] at run
    refine ⟨fun n frames start block => ?_, fun no => ?_⟩
    · rw [run, State.handOver_of_block (s := held) audio start block]
    · rw [run, State.handOver_of_no_block (s := held) audio no]
      exact congrArg Host.Outcome.next ((s.taken l c).misroute_sequenced f e c)

end Sys2Proof.Machine

namespace Sys2Proof.Machine

/-! ### The motion output (R126, R127) -/

/-- The missing count and first mark of a sample, in one condition (R126). -/
theorem MotionOut.judge_eq (o : MotionOut) (x : Sample) :
    o.judge x =
      { sample := x,
        missing := if ((x.restart && !o.restartRun) || o.expected.isNone) = true then 0 else x.number - o.expected.getD 0,
        first := (x.restart && !o.restartRun) || o.expected.isNone } := by
  unfold MotionOut.judge
  by_cases first : x.restart = true ∧ o.restartRun = false
  · rw [if_pos first]
    simp [first.1, first.2]
  · rw [if_neg first]
    have later : (x.restart && !o.restartRun) = false := by
      cases restart : x.restart <;> cases run : o.restartRun <;> simp_all
    cases o.expected <;> simp [later]

/-- A delivery hands over the whole queue while the ready line is high (R127). -/
theorem State.deliver_motionOut (s : State) :
    s.deliver.motionOut =
      if s.pins.motionReady = true ∧ s.motionOut.queue ≠ [] then
        { s.motionOut with queue := [], out := s.motionOut.queue }
      else s.motionOut := by
  unfold State.deliver
  simp only [List.isEmpty_eq_false_iff]
  split <;> rfl

theorem State.deliver_eq (s : State) : s.deliver = { s with motionOut := s.deliver.motionOut } := by
  unfold State.deliver
  split <;> rfl

/-- CONSOLE's output after a sample joined its queue, before a delivery (R126, R127). -/
def MotionOut.takes (o : MotionOut) (x : Sample) : MotionOut :=
  { o with expected := some (x.number + 1), restartRun := x.restart, queue := appendOut o.queue (o.judge x) }

theorem State.takeSample_motionOut (s : State) (x : Sample) :
    (s.takeSample x).motionOut =
      if s.pins.motionReady = true ∧ (s.motionOut.takes x).queue ≠ [] then
        { s.motionOut.takes x with queue := [], out := (s.motionOut.takes x).queue }
      else s.motionOut.takes x :=
  ({ s with motionOut := s.motionOut.takes x } : State).deliver_motionOut

theorem appendOut_of_room {q : List OutSample} (room : q.length < 16) (x : OutSample) : appendOut q x = q ++ [x] := if_pos room

/-- The lane loss of the up RX ends the restart run alone (R126). -/
theorem State.leaveLocked_up_motionOut (s : State) (st : RxState) (carry : Option AlignInfo) :
    (s.leaveLocked .up st carry).motionOut = { s.motionOut with restartRun := false } := by
  have lost (t : State) : (t.loseLane .up).motionOut = { t.motionOut with restartRun := false } := by
    simp [State.loseLane, State.endRestartRun]
  have posts (t : State) : (t.postLane .up).motionOut = t.motionOut := by simp
  unfold State.leaveLocked
  dsimp only
  split
  · rw [posts, lost]
    rfl
  · rw [lost]
    rfl

/-! ### The cell at the expected position of a LOCKED receiver, and lost signal -/

theorem exec_signalAbsent_of_locked {s : State} {l : Lane} (live : s.live) (locked : (s.rx.get l).state = .locked) :
    exec (.signalAbsent l) s =
      .next (({ s with pins := { s.pins with signal := s.pins.signal.set l false } } : State).leaveLocked l .dark none) :=
  if_pos ⟨live, locked⟩

theorem exec_expectedAlignmentCell_of_error {s : State} {l : Lane} {found : Option Cell} (live : s.live)
    (locked : (s.rx.get l).state = .locked) (wrong : (s.rx.get l).correct found = none) :
    exec (.expectedAlignmentCell l found) s = .next (s.alignError l) := by
  show execExpectedAlignmentCell l found s = _
  unfold execExpectedAlignmentCell
  rw [if_pos live, locked, wrong]

theorem exec_expectedAlignmentCell_of_correct {s : State} {l : Lane} {found : Option Cell} {i : AlignInfo} (live : s.live)
    (locked : (s.rx.get l).state = .locked) (right : (s.rx.get l).correct found = some i) :
    exec (.expectedAlignmentCell l found) s = .next (s.alignCorrect l i) := by
  show execExpectedAlignmentCell l found s = _
  unfold execExpectedAlignmentCell
  rw [if_pos live, locked, right]

/-- The state in which an alignment cell in error is judged: the timing stepped, the run and the count raised (R9, R10). -/
def State.atError (s : State) (l : Lane) : State :=
  let n := s.laneCount l (s.rx.get l).alignErrors
  s.modRx l fun r => { r.advance with errRun := r.errRun + 1, alignErrors := n }

theorem State.alignError_of_fourth {s : State} {l : Lane} (fourth : 3 ≤ (s.rx.get l).errRun) :
    s.alignError l = (s.atError l).syncClock.leaveLocked l .search ((s.atError l).rx.get l).repeated := by
  refine if_pos ?_
  have run : ((s.atError l).rx.get l).errRun = (s.rx.get l).errRun + 1 := by simp [State.atError, State.modRx]
  show 4 ≤ ((s.atError l).rx.get l).errRun
  omega

theorem State.alignError_of_early {s : State} {l : Lane} (early : (s.rx.get l).errRun < 3) :
    s.alignError l = (s.atError l).syncClock := by
  refine if_neg ?_
  have run : ((s.atError l).rx.get l).errRun = (s.rx.get l).errRun + 1 := by simp [State.atError, State.modRx]
  show ¬4 ≤ ((s.atError l).rx.get l).errRun
  omega

/-- The state in which a correct cell's hop check is judged: the receiver took the cell, and the clock its time (R9, R112). -/
def State.atCorrect (s : State) (l : Lane) (i : AlignInfo) : State :=
  let n := s.laneCount l (s.rx.get l).hopErrors
  (s.modRx l fun r => r.lockedCorrect i n).syncClock

theorem State.alignCorrect_of_lost {s : State} {l : Lane} {i : AlignInfo}
    (lost : hopLost ((s.rx.get l).hopHistory i.hop) = true) :
    s.alignCorrect l i = (s.atCorrect l i).leaveLocked l .search ((s.atCorrect l i).rx.get l).repeated := if_pos lost

theorem State.alignCorrect_of_held {s : State} {l : Lane} {i : AlignInfo}
    (held : hopLost ((s.rx.get l).hopHistory i.hop) = false) :
    s.alignCorrect l i = (s.atCorrect l i).handAlign l (s.rx.get l) i := if_neg (by rw [held]; nofun)

/-- Fault-seen that becomes set ends the restart run, and no other cell touches the output (R126). -/
theorem State.handAlign_motionOut (s : State) (l : Lane) (before : Rx) (i : AlignInfo) :
    (s.handAlign l before i).motionOut =
      if l = .up ∧ before.fault = false ∧ i.fault = true then { s.motionOut with restartRun := false } else s.motionOut := by
  have fresh (t : State) (b : Bool) : (if b = true then t.setFresh else t).motionOut = t.motionOut := by
    split <;> simp
  have back (t : State) : (if i.frame = 0 then t.returnToRepeating l else t).motionOut = t.motionOut := by
    split <;> simp
  have status (t : State) (x : Station) (b : Byte) : (t.calling fun u => u.takeStatus l x b).motionOut = t.motionOut := by simp
  unfold State.handAlign
  dsimp only
  rw [fresh]
  by_cases faults : l = .up ∧ before.fault = false ∧ i.fault = true
  · rw [if_pos faults, if_pos faults, status]
    show { (if i.frame = 0 then s.returnToRepeating l else s).motionOut with restartRun := false } = _
    rw [back]
  · rw [if_neg faults, if_neg faults, status, back]

/-- Settles O36. -/
theorem motionOutputAccountsForSamples : Obligations.MotionOutputAccountsForSamples := by
  refine ⟨fun x s => ?_, fun s => ⟨?_, rfl⟩, fun l c e s live console handed kind dst src flow record => ?_,
    fun s live locked => ?_⟩
  · intro o first missing y t
    have taken : t.motionOut = _ := s.takeSample_motionOut x
    have judged : o.judge x = y := o.judge_eq x
    have low (ready : s.pins.motionReady = false) : t.motionOut = o.takes x := by
      rw [taken]
      exact if_neg fun h => by rw [h.1] at ready; cases ready
    refine ⟨?_, ?_, fun ready room => ?_, fun ready old a rest queue full => ?_, fun ready room => ?_,
      State.eq_of_fields (by simp [t])⟩
    · rw [taken]
      split <;> rfl
    · rw [taken]
      split <;> rfl
    · rw [low ready, ← judged]
      exact appendOut_of_room room _
    · rw [low ready, ← judged]
      show appendOut o.queue (o.judge x) = _
      have no : ¬o.queue.length < 16 := by omega
      unfold appendOut
      rw [if_neg no, queue]
      rfl
    · have some_ : (o.takes x).queue = o.queue ++ [y] := by
        rw [← judged]
        exact appendOut_of_room room _
      have delivers : s.pins.motionReady = true ∧ (o.takes x).queue ≠ [] := ⟨ready, by rw [some_]; simp⟩
      rw [taken, if_pos delivers]
      exact ⟨rfl, some_⟩
  · have out := State.deliver_motionOut { s with pins := { s.pins with motionReady := true } }
    refine ⟨_, rfl, ?_, ?_, fun waits => ?_, ?_, ?_⟩
    · rw [State.deliver_eq]
    · rw [out]
      by_cases none : s.motionOut.queue = []
      · rw [if_neg fun h => h.2 none]
        exact none
      · rw [if_pos ⟨rfl, none⟩]
    · rw [out, if_pos ⟨rfl, waits⟩]
    · rw [out]
      split <;> rfl
    · rw [State.deliver_eq]
  · intro before checked held
    have plan : (s.taken l c).planned .motion c = true :=
      (State.planned_iff _ _ c).2 ⟨dst.trans (congrArg Dest.to console.symm), console.symm, src⟩
    have run := exec_dataCellTaken live handed kind (.inl (dst.trans (congrArg Dest.to console.symm)))
    have held_eq : (s.taken l c).sequenced .motion e c = held := rfl
    rw [State.takeData_of_listening flow plan record, held_eq] at run
    refine ⟨fun start => ?_, fun no => ?_⟩
    · exact run.trans (congrArg _ (if_pos start))
    · refine run.trans (congrArg _ ((if_neg (by rw [no]; nofun)).trans ?_))
      exact (s.taken l c).misroute_sequenced .motion e c
  · intro cleared
    refine ⟨⟨_, exec_signalAbsent_of_locked (l := .up) live locked, State.leaveLocked_up_motionOut _ _ _⟩, fun found wrong => ?_,
      fun found i right held => ?_, fun found i right lost => ?_⟩
    · refine ⟨_, exec_expectedAlignmentCell_of_error (l := .up) live locked wrong, ?_⟩
      by_cases fourth : 3 ≤ s.rx.up.errRun
      · rw [State.alignError_of_fourth (l := .up) fourth, State.leaveLocked_up_motionOut, if_pos fourth]
        simp [State.atError, cleared]
      · rw [State.alignError_of_early (l := .up) (not_le.1 fourth), if_neg fourth]
        simp [State.atError]
    · refine ⟨_, exec_expectedAlignmentCell_of_correct (l := .up) live locked right, ?_⟩
      rw [State.alignCorrect_of_held (l := .up) held, State.handAlign_motionOut]
      have same : (s.atCorrect .up i).motionOut = s.motionOut := by simp [State.atCorrect]
      rw [same]
      by_cases faults : s.rx.up.fault = false ∧ i.fault = true
      · rw [if_pos faults, if_pos ⟨rfl, faults⟩]
      · rw [if_neg faults, if_neg fun h => faults h.2]
    · refine ⟨_, exec_expectedAlignmentCell_of_correct (l := .up) live locked right, ?_⟩
      rw [State.alignCorrect_of_lost (l := .up) lost, State.leaveLocked_up_motionOut]
      simp [State.atCorrect, cleared]

end Sys2Proof.Machine

namespace Sys2Proof.Machine

/-! ### Button lines (R144) -/

/-- The station judges presses: POD or HEADSET (R144). -/
abbrev State.presses (s : State) : Prop := s.station = .pod ∨ s.station = .headset

theorem State.setButton_setButton (s : State) (b : Button) (j k : ButtonLine) :
    (s.setButton b j).setButton b k = s.setButton b k := by
  cases b <;> rfl

/-- Two lines are set in any order. -/
theorem State.setButton_comm (s : State) {b c : Button} (h : b ≠ c) (j k : ButtonLine) :
    (s.setButton b j).setButton c k = (s.setButton c k).setButton b j := by
  cases b <;> cases c <;> first | rfl | exact absurd rfl h

theorem State.setButton_line_of_ne (s : State) {b c : Button} (h : c ≠ b) (k : ButtonLine) :
    (s.setButton b k).audio.line c = s.audio.line c := by
  cases b <;> cases c <;> first | rfl | exact absurd rfl h

/-! ### A press (R145) -/

/-- The audio unit after a press at the audio station (R134, R143). -/
def Audio.pressed (a : Audio) : Button → Audio
  | .volUp => { a with volume := a.volume - 1 }
  | .volDown => { a with volume := min (a.volume + 1) 14 }
  | .mute => { a with muted := !a.muted }

/-- The state after a press: acted on here, or its cell offered toward the audio station; BUTTON is offered up (R145). -/
def State.pressed (x : State) (b : Button) : State :=
  { x with
    audio := if x.audioStation ≠ x.station then x.audio else x.audio.pressed b,
    tx :=
      { down :=
          if x.audioStation ≠ x.station ∧ x.station = .pod then x.tx.down.joined (buttonCell x.audioStation b) else x.tx.down,
        up :=
          (if x.audioStation ≠ x.station ∧ x.station = .headset then x.tx.up.joined (buttonCell x.audioStation b)
            else x.tx.up).joined (.button b) } }

theorem buttonCell_ne_power (x : Station) (b : Button) (r : Report) (n : Nat) : buttonCell x b ≠ .power r n := by
  cases b <;> nofun

theorem State.audioStation_cases (s : State) : s.audioStation = .pod ∨ s.audioStation = .headset := by
  unfold State.audioStation
  split
  · exact .inl rfl
  · exact .inr rfl

/-- An offer other than of a POWER cell, as one update (R41). -/
theorem State.offer_joined (s : State) (l : Lane) {c : Ctl} (h : ∀ r n, c ≠ .power r n) :
    s.offer l c = s.modTx l fun t => t.joined c := by
  rw [State.offer_of_not_power _ _ h]
  rfl

theorem State.press_eq {s : State} (h : s.presses) (b : Button) : s.press b = s.pressed b := by
  have button (x : State) : x.offer .up (.button b) = x.modTx .up fun t => t.joined (.button b) :=
    State.offer_joined x .up (by nofun)
  unfold State.press
  rw [button]
  by_cases here : s.audioStation = s.station
  · have audio : s.isAudio = true := by simpa [State.isAudio] using here
    have acts : s.applyButton b = { s with audio := s.audio.pressed b } := by cases b <;> rfl
    rw [if_pos audio, acts]
    unfold State.pressed
    rw [if_neg (not_not.2 here), if_neg fun h => h.1 here, if_neg fun h => h.1 here]
    rfl
  · have away : ¬s.isAudio = true := by simpa [State.isAudio] using here
    rw [if_neg away, State.offerTo_of_ne here, State.offer_joined _ _ (buttonCell_ne_power _ b)]
    unfold State.pressed
    obtain pod | headset := h
    · have target : s.audioStation = .headset := s.audioStation_cases.resolve_left fun h => here (h.trans pod.symm)
      have lane : laneToward s.station s.audioStation = .down := by
        rw [pod, target]
        rfl
      rw [if_pos here, if_pos ⟨here, pod⟩, if_neg fun h => by rw [pod] at h; exact absurd h.2 (by decide), lane]
      rfl
    · have target : s.audioStation = .pod := s.audioStation_cases.resolve_right fun h => here (h.trans headset.symm)
      have lane : laneToward s.station s.audioStation = .up := by
        rw [headset, target]
        rfl
      rw [if_pos here, if_neg fun h => by rw [headset] at h; exact absurd h.2 (by decide), if_pos ⟨here, headset⟩, lane]
      rfl

/-- A press and a line's new state come in any order. -/
theorem State.setButton_pressed (s : State) (b c : Button) (k : ButtonLine) :
    (s.setButton b k).pressed c = (s.pressed c).setButton b k := by
  have audioStation : (s.setButton b k).audioStation = s.audioStation := rfl
  have station : (s.setButton b k).station = s.station := rfl
  have tx : (s.setButton b k).tx = s.tx := rfl
  have audio : (s.setButton b k).audio = s.audio.setLine b k := rfl
  have acts : (s.audio.setLine b k).pressed c = (s.audio.pressed c).setLine b k := by cases b <;> cases c <;> rfl
  unfold State.pressed
  rw [audioStation, station, tx, audio, acts, ← apply_ite fun a : Audio => a.setLine b k]
  rfl

theorem State.pressed_presses {s : State} (h : s.presses) (b : Button) : (s.pressed b).presses := h

theorem State.pressed_line (s : State) (b c : Button) : (s.pressed b).audio.line c = s.audio.line c := by
  have acts : (s.audio.pressed b).line c = s.audio.line c := by cases b <;> cases c <;> rfl
  unfold State.pressed
  dsimp only
  split
  · rfl
  · exact acts

/-- A line after one sample (R144). -/
def ButtonLine.sampled (k : ButtonLine) (level : Bool) : ButtonLine :=
  if level = k.pressed then ⟨k.pressed, 0⟩ else if k.run < 3 then ⟨k.pressed, k.run + 1⟩ else ⟨level, 0⟩

/-- The sample completes a run to PRESSED (R144). -/
def ButtonLine.completes (k : ButtonLine) (level : Bool) : Bool := decide (k.pressed = false ∧ level = true ∧ 3 ≤ k.run)

/-- A sample sets its line, and a run it completes to PRESSED is a press besides (R144, R145). -/
theorem State.sampleLine_eq {s : State} (h : s.presses) (b : Button) (level : Bool) :
    s.sampleLine b level =
      (if (s.audio.line b).completes level then s.pressed b else s).setButton b ((s.audio.line b).sampled level) := by
  unfold State.sampleLine ButtonLine.completes ButtonLine.sampled
  dsimp only
  by_cases agrees : level = (s.audio.line b).pressed
  · rw [if_pos agrees, if_pos agrees]
    have no : ¬((s.audio.line b).pressed = false ∧ level = true ∧ 3 ≤ (s.audio.line b).run) := fun h => by
      rw [agrees, h.1] at h
      cases h.2.1
    rw [decide_eq_false no]
    rfl
  · rw [if_neg agrees, if_neg agrees]
    by_cases fourth : 3 ≤ (s.audio.line b).run
    · have full : 4 ≤ (s.audio.line b).run + 1 := by omega
      rw [if_pos full, if_neg (not_lt.2 fourth)]
      unfold State.lineTo
      cases level with
      | false =>
        rw [decide_eq_false (by nofun)]
        rfl
      | true =>
        have released : (s.audio.line b).pressed = false := by simpa using agrees
        rw [decide_eq_true ⟨released, rfl, fourth⟩, if_pos rfl, if_pos rfl]
        rw [State.press_eq (s := s.setButton b _) h, State.setButton_pressed]
    · have short : ¬4 ≤ (s.audio.line b).run + 1 := by omega
      rw [if_neg short, if_pos (not_le.1 fourth), decide_eq_false fun h => fourth h.2.2]
      rfl

/-! ### The rows -/

theorem exec_buttonPress {s : State} (running : s.running) (h : s.presses) {b : Button}
    (released : (s.audio.line b).pressed = false) :
    exec (.buttonPress b) s = .next ((s.pressed b).setButton b ⟨true, 0⟩) := by
  refine (show execButtonPress b s = .next (s.lineTo b true) from if_pos ⟨⟨running, h⟩, released⟩).trans (congrArg _ ?_)
  show (s.setButton b ⟨true, 0⟩).press b = _
  rw [State.press_eq (s := s.setButton b _) h, State.setButton_pressed]

theorem exec_buttonRelease {s : State} (running : s.running) (h : s.presses) {b : Button}
    (pressed : (s.audio.line b).pressed = true) : exec (.buttonRelease b) s = .next (s.setButton b ⟨false, 0⟩) :=
  (show execButtonRelease b s = .next (s.lineTo b false) from if_pos ⟨⟨running, h⟩, pressed⟩).trans rfl

/-- The three lines set, in their order. -/
def State.setButtons (s : State) (k : Button → ButtonLine) : State :=
  ((s.setButton .volUp (k .volUp)).setButton .volDown (k .volDown)).setButton .mute (k .mute)

/-- A press where its line's run completes. -/
def State.pressedIf (s : State) (completes : Button → Bool) (b : Button) : State := if completes b then s.pressed b else s

theorem State.pressedIf_setButton (s : State) (completes : Button → Bool) (b c : Button) (k : ButtonLine) :
    (s.setButton b k).pressedIf completes c = (s.pressedIf completes c).setButton b k := by
  unfold State.pressedIf
  split
  · rw [State.setButton_pressed]
  · rfl

theorem State.pressedIf_line (s : State) (completes : Button → Bool) (b c : Button) :
    (s.pressedIf completes b).audio.line c = s.audio.line c := by
  unfold State.pressedIf
  split
  · rw [State.pressed_line]
  · rfl

theorem State.pressedIf_presses {s : State} (h : s.presses) (completes : Button → Bool) (b : Button) :
    (s.pressedIf completes b).presses := by
  unfold State.pressedIf
  split
  · exact h
  · exact h

/-- LOCAL_RI_BOUNDARY: the presses that complete, then the lines (R144, R145). -/
theorem exec_localRiBoundary {s : State} (running : s.running) (h : s.presses) (level : Button → Bool) :
    let completes (b : Button) := (s.audio.line b).completes (level b)
    exec (.localRiBoundary (level .volUp) (level .volDown) (level .mute)) s =
      .next
        ((((s.pressedIf completes .volUp).pressedIf completes .volDown).pressedIf completes .mute).setButtons fun b =>
          (s.audio.line b).sampled (level b)) := by
  intro completes
  have sample (x : State) (hx : x.presses) (b : Button) (same : x.audio.line b = s.audio.line b) :
      x.sampleLine b (level b) = (x.pressedIf completes b).setButton b ((s.audio.line b).sampled (level b)) := by
    rw [State.sampleLine_eq hx, same]
    rfl
  refine (show execLocalRiBoundary _ _ _ s = _ from if_pos ⟨running, h⟩).trans (congrArg _ ?_)
  rw [sample s h .volUp rfl,
    sample (State.setButton _ _ _) (State.pressedIf_presses (s := s) h _ _) .volDown (by
      rw [State.setButton_line_of_ne _ (by decide), State.pressedIf_line]),
    sample (State.setButton _ _ _) (State.pressedIf_presses (s := State.setButton _ _ _) (State.pressedIf_presses (s := s) h _ _) _ _)
      .mute (by
      rw [State.setButton_line_of_ne _ (by decide), State.pressedIf_line, State.setButton_line_of_ne _ (by decide),
        State.pressedIf_line])]
  rw [State.pressedIf_setButton, State.pressedIf_setButton, State.pressedIf_setButton]
  rfl

/-- A line set before all are set does not show. -/
theorem State.setButtons_setButton (s : State) (b : Button) (j : ButtonLine) (k : Button → ButtonLine) :
    (s.setButton b j).setButtons k = s.setButtons k := by
  cases b <;> rfl

/-- Settles O41. -/
theorem pressesActOrAreSent : Obligations.PressesActOrAreSent := by
  unfold Obligations.PressesActOrAreSent
  intro line withLine push press s running h
  have line_eq : ∀ b, line s b = s.audio.line b := fun b => by cases b <;> rfl
  have set_eq : ∀ x b k, withLine x b k = x.setButton b k := fun x b k => by cases b <;> rfl
  have press_eq : ∀ x b, press x b = x.pressed b := fun x b => by cases b <;> rfl
  refine ⟨fun b released => ?_, fun b pressed => ?_, fun u d m => ?_⟩
  · rw [set_eq, press_eq]
    exact exec_buttonPress running h (by rw [← line_eq]; exact released)
  · rw [set_eq]
    exact exec_buttonRelease running h (by rw [← line_eq]; exact pressed)
  · intro level after sampled completes
    have run := exec_localRiBoundary running h level
    have after_eq : (fun b => (s.audio.line b).sampled (level b)) = after := by
      funext b
      rw [← line_eq]
      rfl
    have completes_eq : (fun b => (s.audio.line b).completes (level b)) = completes := by
      funext b
      rw [← line_eq]
      rfl
    have sampled_eq : ∀ x, sampled x = x.setButtons after := fun x => by
      show ([Button.volUp, .volDown, .mute].foldl (fun y b => withLine y b (after b)) x) = _
      simp only [set_eq, List.foldl_cons, List.foldl_nil]
      rfl
    have pressed_eq : ([Button.volUp, .volDown, .mute].filter completes).foldl press s =
        ((s.pressedIf completes .volUp).pressedIf completes .volDown).pressedIf completes .mute := by
      rw [List.foldl_filter]
      simp only [press_eq, List.foldl_cons, List.foldl_nil]
      rfl
    rw [after_eq, completes_eq] at run
    have none {x : State} {b : Button} (no : completes b = false) : x.pressedIf completes b = x := if_neg (by rw [no]; nofun)
    refine ⟨run.trans (by rw [sampled_eq, pressed_eq]), fun no => run.trans ?_, fun b yes others => ?_⟩
    · rw [none (no _), none (no _), none (no _), sampled_eq]
    · have released : (s.audio.line b).pressed = false := by
        rw [← line_eq]
        exact (of_decide_eq_true yes).1
      refine ⟨_, exec_buttonPress running h released, run.trans ?_⟩
      have skip (x : State) (c : Button) (other : c ≠ b) : x.pressedIf completes c = x := none (others c other)
      rw [sampled_eq, State.setButtons_setButton]
      cases b with
      | volUp =>
        rw [skip _ .volDown (by decide), skip _ .mute (by decide)]
        exact congrArg (fun x : State => Host.Outcome.next (x.setButtons after)) (if_pos yes)
      | volDown =>
        rw [skip _ .volUp (by decide), skip _ .mute (by decide)]
        exact congrArg (fun x : State => Host.Outcome.next (x.setButtons after)) (if_pos yes)
      | mute =>
        rw [skip _ .volUp (by decide), skip _ .volDown (by decide)]
        exact congrArg (fun x : State => Host.Outcome.next (x.setButtons after)) (if_pos yes)

/-! ### Audio cells taken (R146) -/

theorem isControl_of_subtype {c : Cell} {own : Station} {n : Nat} (kind : c.kind = .control) (dst : c.dst = .to own)
    (subtype : byteAt c.payload 0 = n) : isControl own c n = true := by
  simp [isControl, addressed, kind, dst, subtype]

/-- Settles O42. -/
theorem audioCellsAct : Obligations.AudioCellsAct := by
  intro l c s handed kind dst held x
  have taken : s.taken l c = held := rfl
  refine ⟨fun running audio subtype => ?_, fun running audio subtype => ?_, fun other => ⟨?_, ?_⟩,
    fun console live subtype low => ?_⟩
  · have here : isControl held.station c 5 = true := isControl_of_subtype kind dst subtype
    refine congrArg Host.Outcome.next ?_
    rw [State.take_of_head? handed, taken]
    by_cases down : x = 0
    · rw [if_pos (⟨running, here, audio, by omega⟩ : held.running ∧ _ ∧ held.isAudio = true ∧ x ≤ 1), if_pos down]
      show held.moveVolume (decide (x = 1)) = _
      rw [down]
      rfl
    · by_cases up : x = 1
      · rw [if_pos (⟨running, here, audio, by omega⟩ : held.running ∧ _ ∧ held.isAudio = true ∧ x ≤ 1), if_neg down, if_pos up]
        show held.moveVolume (decide (x = 1)) = _
        rw [up]
        rfl
      · rw [if_neg (fun h => by omega : ¬(held.running ∧ _ ∧ held.isAudio = true ∧ x ≤ 1)), if_neg down, if_neg up]
  · have here : isControl held.station c 7 = true := isControl_of_subtype kind dst subtype
    refine congrArg Host.Outcome.next ?_
    rw [State.take_of_head? handed, taken]
    exact if_pos ⟨running, here, audio⟩
  · refine congrArg Host.Outcome.next ?_
    rw [State.take_of_head? handed]
    exact if_neg fun h => by
      have audio : s.isAudio = true := h.2.2.1
      rw [other] at audio
      cases audio
  · refine congrArg Host.Outcome.next ?_
    rw [State.take_of_head? handed]
    exact if_neg fun h => by
      have audio : s.isAudio = true := h.2.2
      rw [other] at audio
      cases audio
  · have here : isControl held.station c 6 = true := isControl_of_subtype kind dst subtype
    have run : exec (.buttonCellTaken l c) s = .next (held.postButton x) := by
      refine congrArg Host.Outcome.next ?_
      rw [State.take_of_head? handed, taken]
      exact if_pos ⟨console, here, low⟩
    refine ⟨_, run, State.eq_of_fields (by simp), ?_⟩
    exact State.exists_posted (s := held) live .button .buttons _

end Sys2Proof.Machine

namespace Sys2Proof.Machine

/-! ### Offers (R41) -/

/-- A lane's transmitter sends and its FIFO holds fewer than 8 (R41). -/
abbrev State.room (s : State) (l : Lane) : Prop := (s.tx.get l).role.sends = true ∧ (s.tx.get l).fifo.length < 8

theorem State.offerTo_of_console {s : State} {y : Station} (console : s.station = .console) (other : y ≠ .console) {c : Ctl}
    (h : ∀ r n, c ≠ .power r n) : s.offerTo y c = s.modTx .down fun t => t.joined c := by
  have lane : laneToward s.station y = .down := by
    rw [console]
    cases y <;> first | rfl | exact absurd rfl other
  rw [State.offerTo_of_ne (by rw [console]; exact other), lane, State.offer_joined _ _ h]

theorem State.offerTo_console {s : State} (other : s.station ≠ .console) {c : Ctl} (h : ∀ r n, c ≠ .power r n) :
    s.offerTo .console c = s.modTx .up fun t => t.joined c := by
  have lane : laneToward s.station .console = .up := by
    cases station : s.station with
    | console => exact absurd station other
    | pod => rfl
    | headset => rfl
    | strap => rfl
  rw [State.offerTo_of_ne other.symm, lane, State.offer_joined _ _ h]

/-! ### Attempts of a survey (R116) -/

/-- An attempt takes the next token, offers its ECHO down and sets the record SENDING (R116). -/
theorem State.beginAttempt_eq {s : State} {y : Station} (console : s.station = .console) (other : y ≠ .console) :
    s.beginAttempt y =
      { s.modTx .down fun t => t.joined (.echo y (s.tokens + 1)) with
        tokens := s.tokens + 1,
        surveys :=
          s.surveys.set y
            { s.surveys.get y with
              state := .sending, token := s.tokens + 1, discarded := !decide (s.room .down) } } := by
  have lane : laneTo s.station y = some .down := by
    rw [console]
    cases y <;> first | rfl | exact absurd rfl other
  have notPower : ∀ r n, Ctl.echo y (s.tokens + 1) ≠ .power r n := by nofun
  unfold State.beginAttempt State.accepts State.modSurvey
  dsimp only
  rw [State.offerTo_of_console (s := { s with tokens := s.tokens + 1 }) console other notPower]
  rw [lane]
  dsimp only
  rw [(State.offerResult_of_not_power _ _ notPower).1]
  rfl

/-- The record of an attempt that follows a failed one (R116). -/
def Survey.again (v : Survey) (token : Num8) (accepted : Bool) : Survey :=
  { v with state := .sending, failed := v.failed + 1, token := token, discarded := !accepted }

/-- The record of a survey that failed three times (R116). -/
def Survey.ended (v : Survey) : Survey := { v with state := .idle, failed := 3, unknown := true, discarded := false }

theorem State.failAttempt_of_early {s : State} {y : Station} (console : s.station = .console) (other : y ≠ .console)
    (early : (s.surveys.get y).failed < 2) :
    s.failAttempt y =
      { s.modTx .down fun t => t.joined (.echo y (s.tokens + 1)) with
        tokens := s.tokens + 1,
        surveys := s.surveys.set y ((s.surveys.get y).again (s.tokens + 1) (decide (s.room .down))) } := by
  have few : (s.surveys.get y).failed + 1 < 3 := by omega
  refine (if_pos few).trans ?_
  rw [State.beginAttempt_eq (s := s.modSurvey y _) console other]
  unfold State.modSurvey
  dsimp only
  rw [PerStation.set_set, PerStation.get_set_self]
  rfl

theorem State.failAttempt_of_third {s : State} {y : Station} (third : 2 ≤ (s.surveys.get y).failed) :
    s.failAttempt y = (s.modSurvey y Survey.ended).post .delayUnknown (.station y) 3 :=
  if_neg (by omega)

/-- What a failed attempt leaves as it is. -/
theorem State.failAttempt_others (s : State) {x y : Station} (h : x ≠ y) :
    (s.failAttempt y).surveys.get x = s.surveys.get x := by
  unfold State.failAttempt State.beginAttempt
  dsimp only
  split <;> simp [State.modSurvey, PerStation.get_set, h]

/-! ### A boundary at the surveys of CONSOLE (R116) -/

/-- The consequences of a failed attempt in a survey's record and the notices (R116). -/
def State.Failed (s t : State) (x : Station) : Prop :=
  ((s.surveys.get x).failed < 2 →
    (t.surveys.get x).state = .sending ∧ (t.surveys.get x).failed = (s.surveys.get x).failed + 1 ∧
      (t.surveys.get x).unknown = (s.surveys.get x).unknown) ∧
    (2 ≤ (s.surveys.get x).failed →
      (t.surveys.get x).state = .idle ∧ (t.surveys.get x).failed = 3 ∧ (t.surveys.get x).unknown = true ∧
        ∃ n ∈ t.notices, n.kind = .delayUnknown ∧ n.subject = .station x ∧ n.value = 3)

theorem State.failAttempt_failed {s : State} {y : Station} (live : s.live) (console : s.station = .console)
    (other : y ≠ .console) : s.Failed (s.failAttempt y) y := by
  refine ⟨fun early => ?_, fun third => ?_⟩
  · rw [State.failAttempt_of_early console other early]
    simp [Survey.again]
  · rw [State.failAttempt_of_third third]
    refine ⟨by simp [State.modSurvey, Survey.ended], by simp [State.modSurvey, Survey.ended],
      by simp [State.modSurvey, Survey.ended], ?_⟩
    exact State.exists_posted (s := s.modSurvey y Survey.ended) live _ _ _

/-- A notice of another subject stays waiting where one is posted (R185). -/
theorem State.mem_post {s : State} {n : Notice} (h : n ∈ s.notices) {subject : Subject} (other : n.subject ≠ subject)
    (kind : NoticeKind) (value : Nat) : n ∈ (s.post kind subject value).notices := by
  unfold State.post
  split
  · exact mem_putNotice_of_ne h other
  · exact h

theorem State.mem_failAttempt {s : State} {n : Notice} (h : n ∈ s.notices) {y : Station} (other : n.subject ≠ .station y) :
    n ∈ (s.failAttempt y).notices := by
  by_cases early : (s.surveys.get y).failed + 1 < 3
  · rw [show s.failAttempt y = _ from if_pos early]
    simpa using h
  · rw [show s.failAttempt y = _ from if_neg early]
    exact State.mem_post (s := s.modSurvey y _) h other _ _

/-- What a boundary does at one survey: nothing, one boundary more, or a failed attempt (R116). -/
theorem State.surveyBoundary_of_idle {s : State} {x : Station} (idle : (s.surveys.get x).state = .idle) :
    s.surveyBoundary x = s := by
  unfold State.surveyBoundary
  dsimp only
  rw [idle]

theorem State.surveyBoundary_of_sending {s : State} {x : Station} (sending : (s.surveys.get x).state = .sending) :
    s.surveyBoundary x = if (s.surveys.get x).discarded = true then s.failAttempt x else s := by
  unfold State.surveyBoundary State.echoDiscarded
  dsimp only
  rw [sending]
  simp only [true_and]

theorem State.surveyBoundary_of_waiting {s : State} {x : Station} (waiting : (s.surveys.get x).state = .waiting) :
    s.surveyBoundary x =
      if 3 ≤ (s.surveys.get x).waited then (s.modSurvey x fun v => { v with waited := v.waited + 1 }).failAttempt x
      else s.modSurvey x fun v => { v with waited := v.waited + 1 } := by
  have again : ((s.modSurvey x fun v => { v with waited := v.waited + 1 }).surveys.get x).state = .waiting := by
    simp [State.modSurvey, waiting]
  unfold State.surveyBoundary State.surveyTimeout
  dsimp only
  rw [waiting]
  dsimp only
  by_cases fourth : 3 ≤ (s.surveys.get x).waited
  · rw [if_pos fourth, if_pos (by omega), if_pos again]
  · rw [if_neg fourth, if_neg (by omega)]

theorem State.surveyBoundary_others (s : State) {x y : Station} (h : x ≠ y) :
    (s.surveyBoundary y).surveys.get x = s.surveys.get x := by
  cases state : (s.surveys.get y).state with
  | idle => rw [State.surveyBoundary_of_idle state]
  | sending =>
    rw [State.surveyBoundary_of_sending state]
    split
    · exact s.failAttempt_others h
    · rfl
  | waiting =>
    rw [State.surveyBoundary_of_waiting state]
    split
    · rw [State.failAttempt_others _ h]
      simp [State.modSurvey, PerStation.get_set, h]
    · simp [State.modSurvey, PerStation.get_set, h]

theorem State.mem_surveyBoundary {s : State} {n : Notice} (h : n ∈ s.notices) {y : Station} (other : n.subject ≠ .station y) :
    n ∈ (s.surveyBoundary y).notices := by
  cases state : (s.surveys.get y).state with
  | idle => rw [State.surveyBoundary_of_idle state]; exact h
  | sending =>
    rw [State.surveyBoundary_of_sending state]
    split
    · exact State.mem_failAttempt h other
    · exact h
  | waiting =>
    rw [State.surveyBoundary_of_waiting state]
    split
    · exact State.mem_failAttempt (s := s.modSurvey y _) h other
    · exact h

end Sys2Proof.Machine

namespace Sys2Proof.Machine

/-! ### The cells of a survey (R115 to R118) -/

theorem Tx.joined_fifo (t : Tx) (c : Ctl) :
    (t.joined c).fifo = if t.role.sends = true ∧ t.fifo.length < 8 then t.fifo ++ [c] else t.fifo := rfl

theorem State.modTx_down (s : State) (f : Tx → Tx) : (s.modTx .down f).tx.down = f s.tx.down := rfl

/-- A DELAY with the awaited token (R118). -/
def State.delayed (s : State) (d : Count32) : State :=
  ({ s with surveyed := { offset := d, known := true, awaited := none, wait := 0 } } : State).syncClock.post .delaySet
    (.station s.station) d.toNat

theorem State.delayed_clock {s : State} (other : s.station ≠ .console) (d : Count32) :
    (s.following = true → (s.delayed d).clock = slotTime (s.rx.down.count.getD 0) s.rx.down.frame s.rx.down.offset + d) ∧
      (s.following = false → (s.delayed d).clock = s.clock) := by
  have clock : (s.delayed d).clock =
      ({ s with surveyed := { offset := d, known := true, awaited := none, wait := 0 } } : State).laneTime := by
    unfold State.delayed State.syncClock
    rw [State.post_clock, State.setClock_clock]
  rw [clock]
  unfold State.laneTime
  rw [if_neg other]
  constructor
  · intro follows
    exact if_pos follows
  · intro free
    have still : ¬s.following = true := by rw [free]; nofun
    exact if_neg still

/-- A cell taken leaves the lane timing of its receiver (R34). -/
theorem State.taken_timing (s : State) (l : Lane) (c : Cell) :
    (s.taken l c).following = s.following ∧ (s.taken l c).rx.down.count = s.rx.down.count ∧
      (s.taken l c).rx.down.frame = s.rx.down.frame ∧ (s.taken l c).rx.down.offset = s.rx.down.offset := by
  cases l <;> exact ⟨rfl, rfl, rfl, rfl⟩

/-- A matching ECHO_BACK whose h is true (R117). -/
theorem State.echoAnswered_of_true {s : State} {x : Station} {h : Nat} (console : s.station = .console) (other : x ≠ .console)
    (fits : h ≤ s.localSlot - (s.surveys.get x).insertedAt) :
    let d : Count32 := BitVec.ofNat 32 ((s.localSlot - (s.surveys.get x).insertedAt - h) / 2)
    s.echoAnswered x h =
      ((({ s with stations := s.stations.set x { s.stations.get x with delay := some d } } : State).modSurvey x fun v =>
          { v with state := .idle, failed := 0 }).post .delaySet (.station x) d.toNat).modTx .down fun t =>
        t.joined (.delay x (s.surveys.get x).token d) := by
  intro d
  refine (if_neg (not_lt.2 fits)).trans ?_
  exact State.offerTo_of_console (by simpa using console) other (by nofun)

/-- Settles O30. -/
theorem surveyCellsSetTheDelay : Obligations.SurveyCellsSetTheDelay := by
  intro l c s running handed kind dst token room
  have subtype {n : Nat} (h : byteAt c.payload 0 = n) : isControl (s.taken l c).station c n = true :=
    isControl_of_subtype kind dst h
  refine ⟨fun other echo => ?_, fun other delay awaited => ?_, fun other delay awaited => ?_,
    fun console back away waiting same => ?_, fun console again away present => ?_⟩
  · have run : exec (.echoTaken l c) s =
        .next
          (({ s.taken l c with surveyed := { s.surveyed with awaited := some token, wait := 8 } } : State).modTx .up fun t =>
            t.joined (.echoBack token s.localSlot)) := by
      refine congrArg Host.Outcome.next ?_
      rw [State.take_of_head? handed]
      refine (if_pos ⟨other, running, subtype echo⟩).trans ?_
      exact State.offerTo_console (s := { s.taken l c with surveyed := { s.surveyed with awaited := some token, wait := 8 } })
        other (by nofun)
    exact ⟨_, run, rfl, rfl, rfl, rfl, rfl, rfl, rfl⟩
  · intro d
    have run : exec (.delayTaken l c) s = .next ((s.taken l c).delayed d) := by
      refine congrArg Host.Outcome.next ?_
      rw [State.take_of_head? handed]
      exact if_pos ⟨other, running, subtype delay, awaited⟩
    obtain ⟨follows, free⟩ := State.delayed_clock (s := s.taken l c) other d
    obtain ⟨following, count, frame, offset⟩ := s.taken_timing l c
    rw [following, count, frame, offset] at follows
    rw [following] at free
    refine ⟨_, run, by simp [State.delayed], follows, free, ?_, by simp [State.delayed, State.taken],
      by simp [State.delayed, State.taken]⟩
    exact State.exists_posted (by simp [State.live, State.taken, running]) _ _ _
  · refine congrArg Host.Outcome.next ?_
    rw [State.take_of_head? handed]
    exact if_neg fun h => awaited h.2.2.2
  · intro h span
    have run : exec (.echoBackTaken l c) s = .next ((s.taken l c).echoAnswered c.src h) := by
      refine congrArg Host.Outcome.next ?_
      rw [State.take_of_head? handed]
      exact if_pos ⟨console, subtype back, away, waiting, same⟩
    refine ⟨fun fits => ?_, fun short => ?_⟩
    · rw [run, State.echoAnswered_of_true (s := s.taken l c) console away fits]
      have value : BitVec.ofNat 32 (BitVec.ofNat 32 ((span - h) / 2) : Count32).toNat = BitVec.ofNat 32 ((span - h) / 2) :=
        BitVec.eq_of_toNat_eq (by simp)
      refine ⟨_, rfl, ?_, ?_, ?_, ?_, ?_, fun x differs => ⟨?_, ?_⟩⟩
      · simp [State.modSurvey, State.modTx, State.taken, State.modRx, span]
      · simp [State.modSurvey, State.modTx, State.taken, State.modRx]
      · simp [State.modSurvey, State.modTx, State.taken, State.modRx]
      · obtain ⟨n, waits, kind, subject, same⟩ := State.exists_posted
          (s := ({ s.taken l c with
            stations := s.stations.set c.src
              { s.stations.get c.src with delay := some (BitVec.ofNat 32 ((span - h) / 2)) } } : State).modSurvey c.src fun v =>
                { v with state := .idle, failed := 0 }) (.inr running) .delaySet (.station c.src)
          (BitVec.ofNat 32 ((span - h) / 2) : Count32).toNat
        exact ⟨n, waits, kind, subject, same.trans value⟩
      · have same : ((s.taken l c).surveys.get c.src).token = token := same
        rw [State.modTx_down, Tx.joined_fifo, State.post_tx, same]
        rfl
      · simp [State.modSurvey, State.modTx, State.taken, State.modRx, PerStation.get_set, differs]
      · simp [State.modSurvey, State.modTx, State.taken, State.modRx, PerStation.get_set, differs]
    · have fails : (s.taken l c).echoAnswered c.src h = (s.taken l c).failAttempt c.src := if_pos short
      refine ⟨_, run, ?_⟩
      rw [fails]
      refine ⟨by simp [State.taken], ?_, fun early => ?_, fun third => ?_⟩
      · split
        · rename_i early
          rw [State.failAttempt_of_early (s := s.taken l c) console away early]
          simp [Survey.again, State.taken, State.modRx]
        · rename_i third
          rw [State.failAttempt_of_third (s := s.taken l c) (not_lt.1 third)]
          simp [Survey.ended, State.modSurvey]
      · rw [State.failAttempt_of_early (s := s.taken l c) console away early]
        exact ⟨by simp [Survey.again], rfl⟩
      · rw [State.failAttempt_of_third (s := s.taken l c) third]
        simp [Survey.ended, State.modSurvey]
  · have run : exec (.resurveyTaken l c) s = .next ((s.taken l c).startSurvey c.src) := by
      refine congrArg Host.Outcome.next ?_
      rw [State.take_of_head? handed]
      exact if_pos ⟨console, running, subtype again, present⟩
    rw [State.startSurvey_of_console (s.taken l c) c.src console running away] at run
    refine ⟨_, run, rfl, ?_, ?_, ?_, ?_, ?_, ?_, fun x differs => ?_, rfl⟩
    · simp
    · simp [State.taken]
    · simp
    · simp
    · exact congrArg Survey.discarded (PerStation.get_set_self _ _ _)
    · rfl
    · simp [PerStation.get_set, differs, State.taken]

end Sys2Proof.Machine

namespace Sys2Proof.Machine

/-! ### The DELAY wait (R118) -/

/-- The end of the DELAY wait clears the token and offers RESURVEY up (R118). -/
theorem State.delayWaitExpiry_eq {s : State} (other : s.station ≠ .console) (awaited : s.surveyed.awaited ≠ none) :
    s.delayWaitExpiry =
      ({ s with surveyed := { s.surveyed with awaited := none, wait := 0 } } : State).modTx .up fun t =>
        t.joined .resurvey := by
  refine (if_pos (Option.isSome_iff_ne_none.2 awaited)).trans ?_
  refine (if_neg other).trans ?_
  exact State.offerTo_console (s := { s with surveyed := { s.surveyed with awaited := none, wait := 0 } }) other (by nofun)

theorem State.delayBoundary_of_none {s : State} (none : s.surveyed.awaited = none) : s.delayBoundary = s :=
  if_neg (by rw [none]; nofun)

theorem State.delayBoundary_of_more {s : State} (awaited : s.surveyed.awaited ≠ none) (more : 2 ≤ s.surveyed.wait) :
    s.delayBoundary = { s with surveyed := { s.surveyed with wait := s.surveyed.wait - 1 } } := by
  have left : ¬s.surveyed.wait - 1 = 0 := by omega
  exact (if_pos (Option.isSome_iff_ne_none.2 awaited)).trans (if_neg left)

theorem State.delayBoundary_of_last {s : State} (other : s.station ≠ .console) (awaited : s.surveyed.awaited ≠ none)
    (last : s.surveyed.wait ≤ 1) :
    s.delayBoundary =
      ({ s with surveyed := { s.surveyed with awaited := none, wait := 0 } } : State).modTx .up fun t =>
        t.joined .resurvey := by
  have left : s.surveyed.wait - 1 = 0 := by omega
  refine ((if_pos (Option.isSome_iff_ne_none.2 awaited)).trans (if_pos left)).trans ?_
  exact State.delayWaitExpiry_eq (s := { s with surveyed := { s.surveyed with wait := s.surveyed.wait - 1 } }) other awaited

/-! ### A cell that waits stays where it is under reports (R42) -/

theorem replacePower_getElem {c d : Ctl} (other : ∀ r n, d ≠ .power r n) {q : List Ctl} :
    ∀ {i : Nat} {p : List Ctl × Nat}, replacePower c q = some p → q[i]? = some d → p.1[i]? = some d := by
  induction q with
  | nil => exact fun _ h => by simp at h
  | cons x q ih =>
    intro i p replaced here
    unfold replacePower at replaced
    split at replaced
    · cases replaced
    · cases replaced
      rename_i r old rest same
      cases same
      cases i with
      | zero =>
        cases here
        exact absurd rfl (other _ _)
      | succ i => simpa using here
    · rename_i y rest _ same
      cases same
      obtain ⟨p', replaced', rfl⟩ := Option.map_eq_some_iff.1 replaced
      cases i with
      | zero => simpa using here
      | succ i => simpa using ih replaced' (by simpa using here)

/-- An offer leaves a cell other than POWER where it waits (R41, R42). -/
theorem offerFifo_getElem {c d : Ctl} (other : ∀ r n, d ≠ .power r n) (role : TxRole) {q : List Ctl} {i : Nat}
    (here : q[i]? = some d) : (offerFifo role q c).fifo[i]? = some d := by
  have inside : i < q.length := (List.getElem?_eq_some_iff.1 here).1
  unfold offerFifo
  split
  · exact here
  · split
    · rw [List.getElem?_append_left inside]
      exact here
    · split
      · split
        · rename_i replaced
          exact replacePower_getElem other replaced here
        · exact here
      · exact here

/-- The calls of a change leave a cell other than POWER where it waits in the up FIFO (R42, R178). -/
theorem State.calling_getElem {s : State} {f : State → State} {d : Ctl} (other : ∀ r n, d ≠ .power r n) {i : Nat}
    (here : (f s).tx.up.fifo[i]? = some d) : (s.calling f).tx.up.fifo[i]? = some d :=
  State.calling_preserves (P := fun t => t.tx.up.fifo[i]? = some d)
    (fun t _ h => by
      show ((t.offer .down (.power t.report t.balance.built)).offer .up (.power t.report t.balance.built)).tx.up.fifo[i]? = some d
      exact offerFifo_getElem other _ h)
    (fun _ h => h) here

/-! ### The boundary at the surveys (R116) -/

/-- A survey's record after a boundary: one boundary more, a failed attempt, or as it was (R116). -/
structure State.Surveyed (s t : State) (x : Station) : Prop where
  waits : (s.surveys.get x).state = .waiting →
    ((s.surveys.get x).waited < 3 → t.surveys.get x = { s.surveys.get x with waited := (s.surveys.get x).waited + 1 }) ∧
      (3 ≤ (s.surveys.get x).waited → s.Failed t x)
  sends : (s.surveys.get x).state = .sending →
    ((s.surveys.get x).discarded = false → t.surveys.get x = s.surveys.get x) ∧
      ((s.surveys.get x).discarded = true → s.Failed t x)
  idles : (s.surveys.get x).state = .idle → t.surveys.get x = s.surveys.get x

theorem State.surveyBoundary_surveyed {s : State} {x : Station} (live : s.live) (console : s.station = .console)
    (other : x ≠ .console) : s.Surveyed (s.surveyBoundary x) x := by
  refine ⟨fun waiting => ?_, fun sending => ?_, fun idle => by rw [State.surveyBoundary_of_idle idle]⟩
  · rw [State.surveyBoundary_of_waiting waiting]
    refine ⟨fun more => ?_, fun fourth => ?_⟩
    · rw [if_neg (not_le.2 more)]
      simp [State.modSurvey]
    · rw [if_pos fourth]
      have fails := State.failAttempt_failed (s := s.modSurvey x fun v => { v with waited := v.waited + 1 }) live console other
      unfold State.Failed at fails
      simpa [State.Failed, State.modSurvey] using fails
  · rw [State.surveyBoundary_of_sending sending]
    refine ⟨fun accepted => ?_, fun discarded => ?_⟩
    · rw [if_neg (by rw [accepted]; nofun)]
    · rw [if_pos discarded]
      exact State.failAttempt_failed live console other

/-- What leaves a survey's record and its station's notices does not undo a boundary. -/
theorem State.Surveyed.congr {s t s' t' : State} {x : Station} (h : s.Surveyed t x) (before : s.surveys.get x = s'.surveys.get x)
    (after : t'.surveys.get x = t.surveys.get x) (kept : ∀ n ∈ t.notices, n.subject = .station x → n ∈ t'.notices) :
    s'.Surveyed t' x := by
  have fails : s.Failed t x → s'.Failed t' x := by
    rintro ⟨early, third⟩
    unfold State.Failed
    rw [← before, after]
    refine ⟨early, fun late => ?_⟩
    obtain ⟨state, failed, unknown, n, waits, kind, subject, value⟩ := third late
    exact ⟨state, failed, unknown, n, kept n waits subject, kind, subject, value⟩
  obtain ⟨waits, sends, idles⟩ := h
  rw [before] at waits sends idles
  rw [← after] at waits sends idles
  exact ⟨fun state => ⟨(waits state).1, fun late => fails ((waits state).2 late)⟩,
    fun state => ⟨(sends state).1, fun late => fails ((sends state).2 late)⟩, idles⟩

theorem State.surveyBoundaries_surveyed {s : State} {x : Station} (live : s.live) (console : s.station = .console)
    (other : x ≠ .console) : s.Surveyed s.surveyBoundaries x := by
  have live1 : (s.surveyBoundary .pod).live := by simpa [State.live] using live
  have live2 : ((s.surveyBoundary .pod).surveyBoundary .headset).live := by simpa [State.live] using live
  have pass {n : Notice} {y : Station} {u : State} (ne : x ≠ y) (waits : n ∈ u.notices) (subject : n.subject = .station x) :
      n ∈ (u.surveyBoundary y).notices :=
    State.mem_surveyBoundary waits fun h => ne (by rw [subject] at h; cases h; rfl)
  unfold State.surveyBoundaries
  cases x with
  | console => exact absurd rfl other
  | pod =>
    refine (State.surveyBoundary_surveyed live console other).congr rfl ?_ fun n waits subject => ?_
    · rw [State.surveyBoundary_others _ (by decide), State.surveyBoundary_others _ (by decide)]
    · exact pass (by decide) (pass (by decide) waits subject) subject
  | headset =>
    refine (State.surveyBoundary_surveyed (s := s.surveyBoundary .pod) live1 (by simpa using console) other).congr ?_ ?_
      fun n waits subject => ?_
    · rw [State.surveyBoundary_others _ (by decide)]
    · rw [State.surveyBoundary_others _ (by decide)]
    · exact pass (by decide) waits subject
  | strap =>
    refine (State.surveyBoundary_surveyed (s := (s.surveyBoundary .pod).surveyBoundary .headset) live2 (by simpa using console)
      other).congr ?_ rfl fun n waits _ => waits
    rw [State.surveyBoundary_others _ (by decide), State.surveyBoundary_others _ (by decide)]

theorem State.surveyBoundaries_idle {s : State} {x : Station} (idle : (s.surveys.get x).state = .idle) :
    s.surveyBoundaries.surveys.get x = s.surveys.get x := by
  have one (y : Station) (u : State) (idle : (u.surveys.get x).state = .idle) :
      (u.surveyBoundary y).surveys.get x = u.surveys.get x := by
    by_cases same : x = y
    · subst same
      rw [State.surveyBoundary_of_idle idle]
    · exact u.surveyBoundary_others same
  have first := one .pod s idle
  have second := one .headset (s.surveyBoundary .pod) (by rw [first]; exact idle)
  have third := one .strap ((s.surveyBoundary .pod).surveyBoundary .headset) (by rw [second, first]; exact idle)
  exact third.trans (second.trans first)

/-- A station other than CONSOLE at a boundary: its DELAY wait steps, and HEADSET's wear and motion besides (R118, R123). -/
theorem exec_localSuperframeBoundary_of_other {s : State} {w : Bool} (live : s.live) (other : s.station ≠ .console) :
    exec (.localSuperframeBoundary w) s =
      .next (if s.station = .headset then s.atWearSample.calling fun t => t.sampleWear w else s.atMotionStep) := by
  by_cases headset : s.station = .headset
  · rw [if_pos headset]
    exact exec_localSuperframeBoundary_of_headset w live headset
  · rw [if_neg headset]
    show execLocalSuperframeBoundary w s = _
    unfold execLocalSuperframeBoundary
    rw [if_pos live]
    dsimp only
    split
    · rename_i console
      exact absurd console other
    · rename_i station
      exact absurd station headset
    · rfl
    · rfl

theorem exec_localSuperframeBoundary_of_console {s : State} {w : Bool} (live : s.live) (console : s.station = .console) :
    exec (.localSuperframeBoundary w) s =
      .next ({ s with power := { s.power with converting := true } } : State).surveyBoundaries := by
  show execLocalSuperframeBoundary w s = _
  unfold execLocalSuperframeBoundary
  rw [if_pos live]
  dsimp only
  rw [console]

/-- A write by the wear link leaves a conversion under way (R123). -/
@[simp] theorem State.wearLink_converting (s : State) (v : Bool) : (s.wearLink v).power.converting = s.power.converting := by
  rw [State.wearLink_power]
  split <;> rfl

theorem State.sampleWear_converting (s : State) (w : Bool) : (s.sampleWear w).power.converting = s.power.converting := by
  by_cases held : w = s.motion.worn ∨ s.motion.wearRun < 3
  · obtain ⟨n, sampled⟩ := State.sampleWear_of_held held
    rw [sampled]
  · rw [State.sampleWear_of_fourth (fun same => held (.inl same)) (not_lt.1 fun early => held (.inr early))]
    cases state : s.motion.state with
    | off =>
      obtain ⟨n, wear⟩ := State.wearTo_of_off_or_sampling (.inl state) w
      rw [wear]
    | sampling =>
      obtain ⟨n, wear⟩ := State.wearTo_of_off_or_sampling (.inr state) w
      rw [wear]
    | doze =>
      cases w
      · rw [State.wearTo_of_doze_or_waking (.inl ⟨state, rfl⟩)]
        rfl
      · rw [State.wearTo_of_worn_in_doze state]
        simp [State.withWear]
    | waking =>
      cases w
      · rw [State.wearTo_of_lost_in_waking state]
        simp [State.withWear]
      · rw [State.wearTo_of_doze_or_waking (.inr ⟨state, rfl⟩)]
        rfl

theorem State.motionBoundary_converting (s : State) : s.motionBoundary.power.converting = s.power.converting := by
  cases state : s.motion.state with
  | off => rw [State.motionBoundary_of_off_or_doze (.inl state)]
  | doze => rw [State.motionBoundary_of_off_or_doze (.inr state)]
  | sampling =>
    cases worn : s.motion.worn with
    | true => rw [State.motionBoundary_of_worn state worn]
    | false =>
      by_cases ends : 4095 ≤ s.motion.notWorn
      · rw [State.motionBoundary_of_asleep state worn ends]
        simp
      · rw [State.motionBoundary_of_not_worn state worn (not_le.1 ends)]
  | waking =>
    by_cases ends : s.motion.wakeHold ≤ 1
    · rw [State.motionBoundary_of_awake state ends]
      simp
    · rw [State.motionBoundary_of_holding state (by omega)]

/-- What a boundary leaves as it is, at every station. -/
theorem exec_localSuperframeBoundary_keeps {s : State} {w : Bool} (live : s.live) :
    ∃ t, exec (.localSuperframeBoundary w) s = .next t ∧ t.power.converting = true ∧ t.rx = s.rx ∧ t.seqs = s.seqs ∧
      t.clock = s.clock ∧ t.stations = s.stations := by
  by_cases console : s.station = .console
  · exact ⟨_, exec_localSuperframeBoundary_of_console live console, by simp [State.surveyBoundaries],
      by simp [State.surveyBoundaries], by simp [State.surveyBoundaries], by simp [State.surveyBoundaries],
      by simp [State.surveyBoundaries]⟩
  · refine ⟨_, exec_localSuperframeBoundary_of_other live console, ?_⟩
    split
    · have wear (u : State) : (u.sampleWear w).power.converting = u.power.converting := u.sampleWear_converting w
      have motion (u : State) : u.motionBoundary.power.converting = u.power.converting := u.motionBoundary_converting
      refine ⟨?_, by simp [State.atWearSample], by simp [State.atWearSample], by simp [State.atWearSample],
        by simp [State.atWearSample]⟩
      rw [State.calling_power]
      refine (wear _).trans ?_
      unfold State.atWearSample
      rw [State.calling_power]
      refine (motion _).trans ?_
      simp
    · exact ⟨by simp [State.atMotionStep], by simp [State.atMotionStep], by simp [State.atMotionStep],
        by simp [State.atMotionStep], by simp [State.atMotionStep]⟩

/-- The boundary at a station other than CONSOLE, seen at its DELAY wait (R118). -/
theorem exec_localSuperframeBoundary_delay {s : State} {w : Bool} (live : s.live) (other : s.station ≠ .console) :
    ∃ t, exec (.localSuperframeBoundary w) s = .next t ∧ t.surveys = s.surveys ∧ t.surveyed = s.atMotionStep.surveyed ∧
      (s.station ≠ .headset → t.tx = s.atMotionStep.tx) ∧
      ∀ (i : Nat), s.atMotionStep.tx.up.fifo[i]? = some .resurvey → t.tx.up.fifo[i]? = some .resurvey := by
  refine ⟨_, exec_localSuperframeBoundary_of_other live other, ?_⟩
  by_cases headset : s.station = .headset
  · rw [if_pos headset]
    refine ⟨by simp [State.atWearSample], by simp [State.atWearSample, State.atMotionStep], fun h => absurd headset h,
      fun i here => ?_⟩
    refine State.calling_getElem (d := .resurvey) (by nofun) ?_
    have stays : (s.atWearSample.sampleWear w).tx = s.atWearSample.tx := by simp
    rw [stays]
    refine State.calling_getElem (d := .resurvey) (by nofun) ?_
    have still : s.atMotionStep.motionBoundary.tx = s.atMotionStep.tx := by simp
    show s.atMotionStep.motionBoundary.tx.up.fifo[i]? = _
    rw [still]
    exact here
  · rw [if_neg headset]
    exact ⟨by simp [State.atMotionStep], rfl, fun _ => rfl, fun _ here => here⟩

/-- Settles O31. -/
theorem surveyAttemptsFailThrice : Obligations.SurveyAttemptsFailThrice := by
  refine ⟨⟨fun c x s live console other row => ?_, fun s other awaited => ?_⟩, fun w s live => ?_⟩
  · have run : exec c s = .next (s.failAttempt x) := by
      obtain ⟨rfl, waiting⟩ | ⟨rfl, sending, discarded⟩ := row
      · refine (show execSurveyTimeout x s = _ from if_pos console).trans (congrArg _ ?_)
        exact if_pos waiting
      · refine (show execEchoDiscardFailure x s = _ from if_pos console).trans (congrArg _ ?_)
        exact if_pos ⟨sending, discarded⟩
    refine ⟨_, run, fun y differs => s.failAttempt_others differs, by simp, by simp, fun early => ?_, fun third => ?_⟩
    · rw [State.failAttempt_of_early console other early]
      refine ⟨by simp [Survey.again], by simp [Survey.again], by simp [Survey.again], rfl, fun sends room => ⟨?_, ?_⟩,
        fun full => ⟨?_, ?_⟩⟩
      · exact (if_pos ⟨sends, room⟩ : (s.tx.down.joined _).fifo = _)
      · have fits : s.room .down := ⟨sends, room⟩
        rw [PerStation.get_set_self, decide_eq_true fits]
        rfl
      · exact (if_neg fun h => absurd h.2 (not_lt.2 full) : (s.tx.down.joined _).fifo = _)
      · have no : ¬s.room .down := fun h => absurd h.2 (not_lt.2 full)
        rw [PerStation.get_set_self, decide_eq_false no]
        rfl
    · have failed := State.failAttempt_failed live console other
      obtain ⟨state, three, unknown, posts⟩ := failed.2 third.ge
      refine ⟨state, three, unknown, ?_, ?_, posts⟩
      · rw [State.failAttempt_of_third third.ge]
        simp [State.modSurvey]
      · rw [State.failAttempt_of_third third.ge]
        simp [State.modSurvey]
  · have run : exec .delayWaitExpiry s = .next s.delayWaitExpiry := rfl
    rw [State.delayWaitExpiry_eq other awaited] at run
    exact ⟨_, run, rfl, fun sends room => if_pos ⟨sends, room⟩, rfl, rfl⟩
  · intro failed
    obtain ⟨t, run, converting, rx, seqs, clock, stations⟩ := exec_localSuperframeBoundary_keeps (w := w) live
    have console (h : s.station = .console) :
        t = ({ s with power := { s.power with converting := true } } : State).surveyBoundaries :=
      Host.Outcome.next.inj (run.symm.trans (exec_localSuperframeBoundary_of_console live h))
    refine ⟨t, run, converting, rx, seqs, clock, fun h x other waiting => ?_, fun h x other sending => ?_, fun h x idle => ?_,
      stations, fun other => ?_⟩
    · rw [console h]
      exact (State.surveyBoundaries_surveyed (s := { s with power := { s.power with converting := true } }) live h other).waits
        waiting
    · rw [console h]
      exact (State.surveyBoundaries_surveyed (s := { s with power := { s.power with converting := true } }) live h other).sends
        sending
    · rw [console h]
      exact State.surveyBoundaries_idle (s := { s with power := { s.power with converting := true } }) idle
    · obtain ⟨t', run', surveys, surveyed, tx, waits⟩ := exec_localSuperframeBoundary_delay (w := w) live other
      obtain rfl : t = t' := Host.Outcome.next.inj (run.symm.trans run')
      rw [surveyed]
      refine ⟨surveys, fun none => ?_, fun awaited => ⟨fun more => ?_, fun last => ?_⟩⟩
      · unfold State.atMotionStep
        rw [State.delayBoundary_of_none (s := { s with power := { s.power with converting := true } }) none]
      · unfold State.atMotionStep
        rw [State.delayBoundary_of_more (s := { s with power := { s.power with converting := true } }) awaited more]
      · have step : s.atMotionStep = _ := State.delayBoundary_of_last
          (s := { s with power := { s.power with converting := true } }) other awaited last
        rw [step] at waits tx ⊢
        refine ⟨rfl, fun sends room => ?_, fun away => by rw [tx away]; rfl⟩
        have joins : (s.tx.up.joined .resurvey).fifo = s.tx.up.fifo ++ [.resurvey] := if_pos ⟨sends, room⟩
        refine ⟨waits _ ?_, fun away => ?_⟩
        · show (s.tx.up.joined .resurvey).fifo[s.tx.up.fifo.length]? = _
          rw [joins]
          simp
        · rw [tx away]
          exact joins

end Sys2Proof.Machine

namespace Sys2Proof.Machine

/-! ### Room in a send queue (R92, R97) -/

/-- A queue has room for a slice of `c` cells (R92). -/
def Fits (c : Nat) (q : List SliceRec) : Prop := cellsLeft q + c ≤ 1024 ∧ q.length ≤ 63

theorem hasRoom_iff_fits (c : Nat) (q : List SliceRec) : hasRoom c (cellsLeft q) q.length = true ↔ Fits c q :=
  hasRoom_iff c _ _

/-- Room making removes the unstarted refinements from the newest on, up to the one whose removal makes the slice fit (R97). `k`
are the records behind `l`, which room making has kept. -/
theorem makeRoom_spec (c : Nat) (l : List SliceRec) : ∀ k : List SliceRec, ¬Fits c (l.reverse ++ k) →
    Fits c ((l.reverse.filter fun r => !mayGiveWay r) ++ k) →
    ∃ a r b, l.reverse = a ++ r :: b ∧ mayGiveWay r = true ∧ Fits c (a ++ (b.filter fun r => !mayGiveWay r) ++ k) ∧
      ¬Fits c (a ++ r :: (b.filter fun r => !mayGiveWay r) ++ k) ∧
      (makeRoom c (cellsLeft (l.reverse ++ k)) (l.reverse ++ k).length l).reverse = a ++ b.filter fun r => !mayGiveWay r := by
  induction l with
  | nil => exact fun k full empty => absurd empty full
  | cons r l ih =>
    intro k full empty
    have split : (r :: l).reverse ++ k = l.reverse ++ r :: k := by simp
    rw [split] at full
    rw [split, List.reverse_cons]
    have no : ¬hasRoom c (cellsLeft (l.reverse ++ r :: k)) (l.reverse ++ r :: k).length = true := fun h =>
      full ((hasRoom_iff_fits c _).1 h)
    unfold makeRoom
    rw [if_neg no]
    by_cases gives : mayGiveWay r = true
    · have unsent : r.sent = 0 := by
        unfold mayGiveWay at gives
        simp_all
      have cells : cellsLeft (l.reverse ++ r :: k) - r.total = cellsLeft (l.reverse ++ k) := by
        rw [cellsLeft_append, cellsLeft_append, cellsLeft_cons, unsent]
        omega
      have length : (l.reverse ++ r :: k).length - 1 = (l.reverse ++ k).length := by simp
      rw [if_pos gives, cells, length]
      by_cases now : Fits c (l.reverse ++ k)
      · have stops : makeRoom c (cellsLeft (l.reverse ++ k)) (l.reverse ++ k).length l = l := by
          cases l with
          | nil => rfl
          | cons x l => exact if_pos ((hasRoom_iff_fits c _).2 now)
        rw [stops]
        exact ⟨l.reverse, r, [], rfl, gives, by simpa using now, by simpa using full, by simp⟩
      · have empty : Fits c ((l.reverse.filter fun r => !mayGiveWay r) ++ k) := by
          simpa [List.filter_append, gives] using empty
        obtain ⟨a, x, b, here, gives', fits, over_, result⟩ := ih k now empty
        have drop : (b ++ [r]).filter (fun r => !mayGiveWay r) = b.filter fun r => !mayGiveWay r := by
          simp [List.filter_append, gives]
        exact ⟨a, x, b ++ [r], by rw [here]; simp, gives', by rw [drop]; exact fits, by rw [drop]; exact over_,
          by rw [drop]; exact result⟩
    · have keep : ∀ b : List SliceRec, (b ++ [r]).filter (fun r => !mayGiveWay r) = (b.filter fun r => !mayGiveWay r) ++ [r] := by
        intro b
        simp [List.filter_append, gives]
      have empty : Fits c ((l.reverse.filter fun r => !mayGiveWay r) ++ r :: k) := by
        rw [List.reverse_cons, keep] at empty
        simpa using empty
      rw [if_neg gives]
      obtain ⟨a, x, b, here, gives', fits, over_, result⟩ := ih (r :: k) full empty
      refine ⟨a, x, b ++ [r], by rw [here]; simp, gives', ?_, ?_, ?_⟩
      · rw [keep]
        simpa using fits
      · rw [keep]
        simpa using over_
      · rw [List.reverse_cons, result, keep, List.append_assoc]

theorem roomFor_of_fits {q : List SliceRec} {c : Nat} (layer : Layer) (fits : Fits c q) : roomFor q layer c = some q :=
  if_pos ((hasRoom_iff_fits c q).2 fits)

theorem roomFor_of_none {q : List SliceRec} {layer : Layer} {c : Nat} (full : ¬Fits c q)
    (refused : layer = .base → ¬Fits c (q.filter fun r => !mayGiveWay r)) : roomFor q layer c = none := by
  refine (if_neg fun h => full ((hasRoom_iff_fits c q).1 h)).trans (if_neg ?_)
  rintro ⟨base, fits⟩
  exact refused base ((hasRoom_iff_fits c _).1 fits)

theorem roomFor_of_base {q : List SliceRec} {c : Nat} (full : ¬Fits c q) (fits : Fits c (q.filter fun r => !mayGiveWay r)) :
    ∃ a r b, q = a ++ r :: b ∧ mayGiveWay r = true ∧ Fits c (a ++ b.filter fun r => !mayGiveWay r) ∧
      ¬Fits c (a ++ r :: b.filter fun r => !mayGiveWay r) ∧
      roomFor q .base c = some (a ++ b.filter fun r => !mayGiveWay r) := by
  have room : roomFor q .base c = some (makeRoom c (cellsLeft q) q.length q.reverse).reverse :=
    (if_neg fun h => full ((hasRoom_iff_fits c q).1 h)).trans (if_pos ⟨rfl, (hasRoom_iff_fits c _).2 fits⟩)
  obtain ⟨a, r, b, here, gives, fits', full', result⟩ := makeRoom_spec c q.reverse [] (by simpa using full) (by simpa using fits)
  refine ⟨a, r, b, by simpa using here, gives, by simpa using fits', by simpa using full', ?_⟩
  rw [room]
  refine congrArg some ?_
  simpa using result

/-! ### Records that leave and join a send queue (R95 to R97) -/

/-- A record whose queue became `q` with nothing else moved but, by R49, from ACTIVE to IDLE. -/
structure Paced.Left (p p' : Paced) (q : List SliceRec) : Prop where
  queue : p'.queue = q
  state : p'.state = p.state ∨ p.state = .active ∧ p'.state = .idle
  rate : p'.ar = p.ar ∧ p'.band = p.band ∧ p'.unanswered = p.unanswered ∧ p'.lastEntered = p.lastEntered ∧
    p'.newest = p.newest

/-- Purged records leave the queue and are counted (R96, R97). -/
theorem State.leaveQueue_spec {s : State} (running : s.running) (e : Eye) (q : List SliceRec) :
    (s.paced.get e).Left ((s.leaveQueue e q).paced.get e) q ∧
      (s.leaveQueue e q).counters =
        s.counters.set (Eye.flow e)
          { s.counters.get (Eye.flow e) with
            purges := min ((s.counters.get (Eye.flow e)).purges + ((s.paced.get e).queue.length - q.length)) 65535 } ∧
      (s.leaveQueue e q).station = s.station ∧ (s.leaveQueue e q).cfg = s.cfg ∧ (s.leaveQueue e q).start = s.start := by
  have count := State.count_of_running (s := s.modPaced e fun p => { p with queue := q }) running (Eye.flow e) fun c =>
    { c with purges := min (c.purges + ((s.paced.get e).queue.length - q.length)) 65535 }
  unfold State.leaveQueue
  dsimp only
  rw [count]
  unfold State.idleIfEmpty
  split
  · rename_i empties
    refine ⟨⟨by simp [State.toIdle, State.modPaced], .inr ⟨?_, by simp [State.toIdle, State.modPaced]⟩,
      by simp [State.toIdle, State.modPaced]⟩, rfl, rfl, rfl, rfl⟩
    simpa [State.modPaced] using empties.1
  · exact ⟨⟨by simp [State.modPaced], .inl (by simp [State.modPaced]), by simp [State.modPaced]⟩, rfl, rfl, rfl, rfl⟩

theorem Paced.Left.trans {p p' p'' : Paced} {q q' : List SliceRec} (h : p.Left p' q) (k : p'.Left p'' q') : p.Left p'' q' := by
  obtain ⟨ar, band, unanswered, entered, newest⟩ := h.rate
  obtain ⟨ar', band', unanswered', entered', newest'⟩ := k.rate
  refine ⟨k.queue, ?_, ar'.trans ar, band'.trans band, unanswered'.trans unanswered, entered'.trans entered, newest'.trans newest⟩
  obtain same | ⟨active, idle⟩ := h.state
  · obtain same' | ⟨active', idle'⟩ := k.state
    · exact .inl (same'.trans same)
    · exact .inr ⟨same ▸ active', idle'⟩
  · obtain same' | ⟨active', idle'⟩ := k.state
    · exact .inr ⟨active, same'.trans idle⟩
    · rw [idle] at active'
      cases active'

theorem Paced.Left.refl (p : Paced) : p.Left p p.queue := ⟨rfl, .inl rfl, rfl, rfl, rfl, rfl, rfl⟩

/-- An accepted slice at the record and the counters (R49, R95). -/
theorem State.acceptSlice_spec {s : State} (console : s.station = .console) (e : Eye) (r : SliceRec) :
    let p := s.paced.get e
    let p' := (s.acceptSlice e r).paced.get e
    p'.queue = p.queue ++ [r] ∧ p'.lastEntered = some r.picture ∧ p'.answer = some .accepted ∧
      p'.state = (if p.state = .idle then .active else p.state) ∧
      (p.unanswered < (s.params e).patience → p'.ar = p.ar ∧ p'.band = p.band) ∧
      (s.acceptSlice e r).counters = s.counters := by
  intro p p'
  have accepts : (s.modPaced e fun p => p.accept r).paced.get e = p.accept r := by simp [State.modPaced, p]
  by_cases idle : p.state = .idle
  · have enters : s.acceptSlice e r = (s.modPaced e fun p => p.accept r).enterPaced e .active := by
      refine if_pos ?_
      rw [accepts]
      exact idle
    have active : ((s.modPaced e fun p => p.accept r).modPaced e fun p => { p with state := .active }).paced.get e =
        { p.accept r with state := .active } := by simp [State.modPaced, p]
    have params : ((s.modPaced e fun p => p.accept r).modPaced e fun p => { p with state := .active }).params e = s.params e := rfl
    have counters : (s.acceptSlice e r).counters = s.counters := by
      rw [enters]
      simp [State.enterPaced]
    have checked := State.probeCheck_paced
      (s := (s.modPaced e fun p => p.accept r).modPaced e fun p => { p with state := .active }) console e
    have p'_eq : p' = (((s.modPaced e fun p => p.accept r).modPaced e fun p => { p with state := .active }).probeCheck e).paced.get
        e := congrArg (fun t : State => t.paced.get e) enters
    generalize ((s.modPaced e fun p => p.accept r).modPaced e fun p => { p with state := .active }) = u at *
    rw [if_pos idle, counters, p'_eq]
    obtain same | queued := checked
    · rw [same, active]
      exact ⟨rfl, rfl, rfl, rfl, fun _ => ⟨rfl, rfl⟩, rfl⟩
    · rw [queued, PerEye.get_set_self]
      unfold State.probed State.fadedAr State.fadedBand
      rw [active, params]
      refine ⟨rfl, rfl, rfl, rfl, fun few => ?_, rfl⟩
      have quiet : ¬(s.params e).patience ≤ p.unanswered := not_le.2 few
      exact ⟨if_neg quiet, if_neg quiet⟩
  · have stays : s.acceptSlice e r = s.modPaced e fun p => p.accept r := by
      refine if_neg ?_
      rw [accepts]
      exact idle
    rw [if_neg idle]
    have p'_eq : p' = p.accept r := (congrArg (fun t : State => t.paced.get e) stays).trans accepts
    rw [p'_eq, stays]
    exact ⟨rfl, rfl, rfl, rfl, fun _ => ⟨rfl, rfl⟩, rfl⟩

end Sys2Proof.Machine

namespace Sys2Proof.Machine

/-! ### The entry policy (R85, R94 to R97) -/

/-- Which layers a band refuses (R94). -/
theorem bandTakes_eq_false (b : Band) (l : Layer) :
    bandTakes b l = false ↔ (b = .low ∧ l = .refine2) ∨ (b = .scarce ∧ l ≠ .base) := by
  cases b <;> cases l <;> simp [bandTakes]

theorem staleAgainst_iff (p : Num8) (n : Option Num8) :
    staleAgainst p n = true ↔ ∃ r, n = some r ∧ newer (r - 1) p = true := by
  cases n <;> simp [staleAgainst]

theorem Paced.reference_eq (p : Paced) : p.reference = if p.queue = [] then p.lastEntered else p.newest := by
  simp [Paced.reference]

theorem Paced.purges_iff (p : Paced) (n : Num8) :
    p.purges n = true ↔ p.queue ≠ [] ∧ ∃ m, p.newest = some m ∧ newer n m = true := by
  unfold Paced.purges
  cases p.newest <;> simp

/-- The record after the check of R85. -/
def State.resetRecord (s : State) (e : Eye) : Paced :=
  if (s.paced.get e).state = .idle ∧ s.longSilent e = true then
    { s.paced.get e with
      ar := min (s.paced.get e).ar (s.params e).start,
      band := bandAfter (s.params e) (s.paced.get e).band (min (s.paced.get e).ar (s.params e).start) }
  else s.paced.get e

theorem State.idleReset_get (s : State) (e : Eye) : (s.idleReset e).paced.get e = s.resetRecord e := by
  unfold State.idleReset State.resetRecord
  dsimp only
  split
  · rw [State.setRate_paced, PerEye.get_set_self]
  · rfl

/-- The queue that the supersede purge leaves (R96). -/
def Paced.superseding (p : Paced) (n : Num8) : List SliceRec :=
  if p.purges n then p.queue.filter fun r => !superseded n r else p.queue

theorem State.supersede_spec {s : State} (running : s.running) (e : Eye) (n : Num8) :
    (s.paced.get e).Left ((s.supersede e n).paced.get e) ((s.paced.get e).superseding n) ∧
      (∃ k, (s.supersede e n).counters =
          s.counters.set (Eye.flow e) { s.counters.get (Eye.flow e) with purges := k } ∧
        min k 65535 =
          min ((s.counters.get (Eye.flow e)).purges +
            ((s.paced.get e).queue.length - ((s.paced.get e).superseding n).length)) 65535) ∧
      (s.supersede e n).station = s.station ∧ (s.supersede e n).cfg = s.cfg ∧ (s.supersede e n).start = s.start := by
  unfold State.supersede Paced.superseding
  dsimp only
  split
  · obtain ⟨left, counters, rest⟩ := State.leaveQueue_spec running e
      ((s.paced.get e).queue.filter fun r => !superseded n r)
    exact ⟨left, ⟨_, counters, by omega⟩, rest⟩
  · exact ⟨.refl _, ⟨(s.counters.get (Eye.flow e)).purges, (PerFlow.set_get _ _).symm, by simp⟩, rfl, rfl, rfl⟩

theorem State.entryPolicy_of_layer {s : State} {e : Eye} {r : SliceRec} (h : bandTakes (s.paced.get e).band r.layer = false) :
    s.entryPolicy e r =
      (s.count (Eye.flow e) fun c => { c with layerDrops := satInc c.layerDrops }).answerSlice e (.refused .layer) :=
  if_pos h

theorem State.entryPolicy_of_stale {s : State} {e : Eye} {r : SliceRec} (h : ¬bandTakes (s.paced.get e).band r.layer = false)
    (stale : staleAgainst r.picture (s.paced.get e).reference = true) :
    s.entryPolicy e r =
      (s.count (Eye.flow e) fun c => { c with staleRefusals := satInc c.staleRefusals }).answerSlice e (.refused .stale) :=
  (if_neg h).trans (if_pos stale)

theorem State.entryPolicy_of_room {s : State} {e : Eye} {r : SliceRec} {q : List SliceRec}
    (h : ¬bandTakes (s.paced.get e).band r.layer = false)
    (fresh : ¬staleAgainst r.picture (s.paced.get e).reference = true)
    (room : roomFor ((s.supersede e r.picture).paced.get e).queue r.layer r.total = some q) :
    s.entryPolicy e r = ((s.supersede e r.picture).leaveQueue e q).acceptSlice e r := by
  refine ((if_neg h).trans (if_neg fresh)).trans ?_
  dsimp only
  rw [room]

theorem State.entryPolicy_of_no_room {s : State} {e : Eye} {r : SliceRec}
    (h : ¬bandTakes (s.paced.get e).band r.layer = false)
    (fresh : ¬staleAgainst r.picture (s.paced.get e).reference = true)
    (full : roomFor ((s.supersede e r.picture).paced.get e).queue r.layer r.total = none) :
    s.entryPolicy e r =
      ((s.supersede e r.picture).count (Eye.flow e) fun c => { c with roomRefusals := satInc c.roomRefusals }).answerSlice e
        (.refused .room) := by
  refine ((if_neg h).trans (if_neg fresh)).trans ?_
  dsimp only
  rw [full]

/-- A slice that the policy lets in joins the queue that room making leaves, and what left it is counted (R95 to R97). -/
theorem State.entryPolicy_accepts {s : State} (console : s.station = .console) (running : s.running) {e : Eye} {r : SliceRec}
    {q : List SliceRec} (h : ¬bandTakes (s.paced.get e).band r.layer = false)
    (fresh : ¬staleAgainst r.picture (s.paced.get e).reference = true)
    (room : roomFor ((s.paced.get e).superseding r.picture) r.layer r.total = some q)
    (shorter : q.length ≤ ((s.paced.get e).superseding r.picture).length) :
    let p := s.paced.get e
    let p' := (s.entryPolicy e r).paced.get e
    p'.answer = some .accepted ∧ p'.queue = q ++ [r] ∧ p'.lastEntered = some r.picture ∧
      p'.state = (if p.state = .idle then .active else p.state) ∧
      ((s.entryPolicy e r).counters.get (Eye.flow e)).purges =
        min ((s.counters.get (Eye.flow e)).purges + (p.queue.length - q.length)) 65535 ∧
      (p.unanswered < (s.params e).patience → p'.ar = p.ar ∧ p'.band = p.band) := by
  intro p p'
  obtain ⟨left, ⟨k, counters, kept⟩, station, cfg, start⟩ := State.supersede_spec running e r.picture
  obtain ⟨left', counters', station', cfg', start'⟩ := State.leaveQueue_spec
    (s := s.supersede e r.picture) (start.trans running) e q
  rw [left.queue] at counters'
  have whole := left.trans left'
  obtain ⟨ar, band, unanswered, -⟩ := whole.rate
  have accepts := State.acceptSlice_spec (s := (s.supersede e r.picture).leaveQueue e q)
    (station'.trans (station.trans console)) e r
  have same := State.entryPolicy_of_room h fresh (by rw [left.queue]; exact room)
  have p'_eq : p' = _ := congrArg (fun t : State => t.paced.get e) same
  have params : ((s.supersede e r.picture).leaveQueue e q).params e = s.params e := State.params_congr (cfg'.trans cfg) e
  rw [p'_eq, same]
  dsimp only at accepts ⊢
  obtain ⟨queue, entered, answer, state, rate, counted⟩ := accepts
  refine ⟨answer, by rw [queue, left'.queue], entered, ?_, ?_, fun few => ?_⟩
  · rw [state]
    obtain same | ⟨active, idle⟩ := whole.state
    · rw [same]
    · rw [idle, if_pos rfl, active, if_neg (by nofun)]
  · rw [counted, counters', PerFlow.get_set_self, counters, PerFlow.get_set_self]
    have sub : ((s.paced.get e).superseding r.picture).length ≤ p.queue.length := by
      unfold Paced.superseding
      split
      · exact List.length_filter_le _ _
      · exact le_refl _
    show min (k + _) 65535 = _
    have kept : min k 65535 = min ((s.counters.get (Eye.flow e)).purges +
      (p.queue.length - ((s.paced.get e).superseding r.picture).length)) 65535 := kept
    omega
  · rw [params, unanswered] at rate
    obtain ⟨ar', band'⟩ := rate few
    exact ⟨ar'.trans ar, band'.trans band⟩

/-! ### The offer (R90) -/

/-- An offer that fails a test before the entry policy (R90). -/
def State.refuseSlice (s : State) (e : Eye) (r : Refused) : State :=
  (s.count (Eye.flow e) fun c => { c with roomRefusals := satInc c.roomRefusals }).answerSlice e (.refused r)

theorem State.refuseSlice_spec {s : State} (running : s.running) (e : Eye) (r : Refused) :
    ((s.refuseSlice e r).paced.get e).answer = some (.refused r) ∧ ((s.refuseSlice e r).paced.get e).queue = (s.paced.get e).queue ∧
      ((s.refuseSlice e r).counters.get (Eye.flow e)).roomRefusals =
        min ((s.counters.get (Eye.flow e)).roomRefusals + 1) 65535 := by
  unfold State.refuseSlice
  rw [State.count_of_running running]
  simp [State.answerSlice, State.modPaced, satInc]

theorem execSliceOffered_of_malformed {s : State} {e : Eye} {p : Num8} {i : BitVec 6} {k : BitVec 2} {n : Nat}
    {data : List Byte} (console : s.station = .console) (running : s.running) (bad : n = 0 ∨ 4096 < n ∨ k = 3) :
    exec (.sliceOffered e p i k n data) s = .next (s.refuseSlice e .malformed) := by
  show execSliceOffered e p i k n data s = _
  unfold execSliceOffered
  dsimp only
  rw [if_neg (not_not.2 console), if_neg (not_not.2 running)]
  cases layer : layerOf k.toNat with
  | none => rfl
  | some x =>
    have three : k ≠ 3 := by
      rintro rfl
      cases layer
    exact if_pos (or_assoc.2 bad |>.resolve_right three)

theorem execSliceOffered_of_whole {s : State} {e : Eye} {p : Num8} {i : BitVec 6} {k : BitVec 2} {n : Nat}
    {data : List Byte} {layer : Layer} (console : s.station = .console) (running : s.running) (low : 1 ≤ n) (high : n ≤ 4096)
    (is : layerOf k.toNat = some layer) :
    exec (.sliceOffered e p i k n data) s =
      .next
        (if (s.paced.get e).state = .draining then s.refuseSlice e .draining
        else (s.idleReset e).entryPolicy e (newSlice p i layer n data)) := by
  show execSliceOffered e p i k n data s = _
  unfold execSliceOffered
  dsimp only
  rw [if_neg (not_not.2 console), if_neg (not_not.2 running), is]
  dsimp only
  rw [if_neg (by omega)]
  split <;> rfl

/-- Only the layer number 3 is none (R92). -/
theorem layerOf_some : ∀ k : BitVec 2, k ≠ 3 → ∃ layer, layerOf k.toNat = some layer := by
  intro k h
  have low : k.toNat < 4 := k.isLt
  have not_three : k.toNat ≠ 3 := fun is => h (BitVec.eq_of_toNat_eq is)
  obtain is | is | is : k.toNat = 0 ∨ k.toNat = 1 ∨ k.toNat = 2 := by omega
  · exact ⟨.base, by rw [is]; rfl⟩
  · exact ⟨.refine1, by rw [is]; rfl⟩
  · exact ⟨.refine2, by rw [is]; rfl⟩

/-! ### What a refusal of the entry policy leaves -/

/-- An offer refused with ROOM leaves the queue that the supersede purge leaves (R96, R97). -/
theorem State.entryPolicy_refuses {s : State} (running : s.running) {e : Eye} {r : SliceRec}
    (h : ¬bandTakes (s.paced.get e).band r.layer = false)
    (fresh : ¬staleAgainst r.picture (s.paced.get e).reference = true)
    (full : roomFor ((s.paced.get e).superseding r.picture) r.layer r.total = none) :
    let p := s.paced.get e
    let p' := (s.entryPolicy e r).paced.get e
    p'.answer = some (.refused .room) ∧ p'.queue = p.superseding r.picture ∧ p'.ar = p.ar ∧ p'.band = p.band ∧
      ((s.entryPolicy e r).counters.get (Eye.flow e)).roomRefusals =
        min ((s.counters.get (Eye.flow e)).roomRefusals + 1) 65535 := by
  obtain ⟨left, ⟨k, counters, -⟩, -, -, start⟩ := State.supersede_spec running e r.picture
  obtain ⟨ar, band, -⟩ := left.rate
  rw [State.entryPolicy_of_no_room h fresh (by rw [left.queue]; exact full),
    State.count_of_running (s := s.supersede e r.picture) (start.trans running)]
  refine ⟨by simp [State.answerSlice, State.modPaced], ?_, ?_, ?_, ?_⟩
  · simpa [State.answerSlice, State.modPaced] using left.queue
  · simpa [State.answerSlice, State.modPaced] using ar
  · simpa [State.answerSlice, State.modPaced] using band
  · simp only [State.answerSlice, State.modPaced, PerFlow.get_set_self, counters]
    rfl

/-- The queue that room making leaves is none longer than the one it finds. -/
theorem roomFor_length {q q' : List SliceRec} {layer : Layer} {c : Nat} (room : roomFor q layer c = some q') :
    q'.length ≤ q.length := by
  by_cases fits : Fits c q
  · rw [roomFor_of_fits layer fits] at room
    cases room
    exact le_refl _
  · by_cases base : layer = .base ∧ Fits c (q.filter fun r => !mayGiveWay r)
    · obtain ⟨a, r, b, here, -, -, -, result⟩ := roomFor_of_base fits base.2
      rw [base.1, result] at room
      cases room
      have fewer := List.length_filter_le (fun r => !mayGiveWay r) b
      rw [here]
      simp only [List.length_append, List.length_cons]
      omega
    · rw [roomFor_of_none fits fun is fits' => base ⟨is, fits'⟩] at room
      cases room

/-- The policy leaves rate and band, but for the fade of a probe that an accepted slice brings (R70, R94 to R97). -/
theorem State.entryPolicy_rate {s : State} (console : s.station = .console) (running : s.running) (e : Eye) (r : SliceRec) :
    let p := s.paced.get e
    let p' := (s.entryPolicy e r).paced.get e
    p.unanswered < (s.params e).patience ∨ p'.answer ≠ some .accepted → p'.ar = p.ar ∧ p'.band = p.band := by
  intro p p' quiet
  by_cases layer : bandTakes (s.paced.get e).band r.layer = false
  · have p'_eq : p' = _ := congrArg (fun t : State => t.paced.get e) (State.entryPolicy_of_layer layer)
    rw [p'_eq]
    simp [State.answerSlice, State.modPaced, p]
  · by_cases stale : staleAgainst r.picture (s.paced.get e).reference = true
    · have p'_eq : p' = _ := congrArg (fun t : State => t.paced.get e) (State.entryPolicy_of_stale layer stale)
      rw [p'_eq]
      simp [State.answerSlice, State.modPaced, p]
    · cases room : roomFor ((s.paced.get e).superseding r.picture) r.layer r.total with
      | none =>
        obtain ⟨-, -, ar, band, -⟩ := State.entryPolicy_refuses running layer stale room
        exact ⟨ar, band⟩
      | some q =>
        obtain ⟨accepted, -, -, -, -, rate⟩ := State.entryPolicy_accepts console running layer stale room (roomFor_length room)
        exact rate (quiet.resolve_right (not_not.2 accepted))

/-! ### The record after the check of R85 -/

theorem State.resetRecord_ar (s : State) (e : Eye) :
    (s.resetRecord e).ar =
      if (s.paced.get e).state = .idle ∧ s.longSilent e = true then min (s.paced.get e).ar (s.params e).start
      else (s.paced.get e).ar := by
  unfold State.resetRecord
  split <;> rfl

theorem State.resetRecord_band (s : State) (e : Eye) :
    (s.resetRecord e).band =
      if (s.paced.get e).state = .idle ∧ s.longSilent e = true then
        bandAfter (s.params e) (s.paced.get e).band (s.resetRecord e).ar
      else (s.paced.get e).band := by
  unfold State.resetRecord
  split <;> rfl

/-- The check moves rate and band alone. -/
theorem State.resetRecord_keeps (s : State) (e : Eye) :
    s.resetRecord e = { s.paced.get e with ar := (s.resetRecord e).ar, band := (s.resetRecord e).band } := by
  unfold State.resetRecord
  split <;> rfl

/-- An offer touches neither receivers, numbering, motion, audio nor power. -/
theorem execSliceOffered_keeps {e : Eye} {p : Num8} {i : BitVec 6} {k : BitVec 2} {n : Nat} {data : List Byte} {s t : State}
    (h : exec (.sliceOffered e p i k n data) s = .next t) :
    t.rx = s.rx ∧ t.seqs = s.seqs ∧ t.motion = s.motion ∧ t.audio = s.audio ∧ t.power = s.power := by
  have h : execSliceOffered e p i k n data s = .next t := h
  unfold execSliceOffered at h
  dsimp only at h
  repeat' split at h
  all_goals
    cases h
    simp [State.answerSlice, State.modPaced]

/-- Settles O22: the tests of R90 in order, then the entry policy on the record that the check of R85 leaves. -/
theorem sliceOfferIsAnswered : Obligations.SliceOfferIsAnswered := by
  unfold Obligations.SliceOfferIsAnswered
  intro e p i k n data s console x flow offer
  refine ⟨fun off => ?_, fun running bad => ?_, fun running low high whole draining => ?_,
    fun layer running low high is free => ?_, fun t answered => execSliceOffered_keeps answered⟩
  · have answered : offer = .next (s.answerSlice e (.refused .notRunning)) :=
      (if_neg (not_not.2 console)).trans (if_pos off)
    exact ⟨_, answered, by simp [State.answerSlice, State.modPaced], rfl, by simp [State.answerSlice, State.modPaced, x],
      by simp [State.answerSlice, State.modPaced, x]⟩
  · exact ⟨_, execSliceOffered_of_malformed console running bad, State.refuseSlice_spec running e .malformed⟩
  · obtain ⟨layer, is⟩ := layerOf_some k whole
    exact ⟨_, (execSliceOffered_of_whole console running low high is).trans (congrArg _ (if_pos draining)),
      State.refuseSlice_spec running e .draining⟩
  · intro fp silent reset ar band reference stale refusedLayer purge q c new fits gives
    have answered : offer = .next ((s.idleReset e).entryPolicy e new) :=
      (execSliceOffered_of_whole console running low high is).trans (congrArg _ (if_neg free))
    have console' : (s.idleReset e).station = .console := by simpa using console
    have running' : (s.idleReset e).running := (by simp : (s.idleReset e).start = s.start).trans running
    have counters : (s.idleReset e).counters = s.counters := by simp
    have params : (s.idleReset e).params e = fp := State.params_congr (by simp) e
    have record : (s.idleReset e).paced.get e = { x with ar := ar, band := band } := by
      rw [State.idleReset_get, State.resetRecord_keeps, State.resetRecord_band, State.resetRecord_ar]
      rfl
    have layer_iff : bandTakes band layer = false ↔ refusedLayer := bandTakes_eq_false band layer
    have stale_iff : staleAgainst p ({ x with ar := ar, band := band } : Paced).reference = true ↔ stale := by
      rw [Paced.reference_eq]
      exact staleAgainst_iff p reference
    have superseding : ({ x with ar := ar, band := band } : Paced).superseding p = q := by
      refine if_congr (Paced.purges_iff _ p) (List.filter_congr fun r _ => ?_) rfl
      rw [Bool.decide_and]
      rfl
    have rate := State.entryPolicy_rate console' running' e new
    have layered := State.entryPolicy_of_layer (s := s.idleReset e) (e := e) (r := new)
    have staled := State.entryPolicy_of_stale (s := s.idleReset e) (e := e) (r := new)
    have accepts := fun {q} => State.entryPolicy_accepts console' running' (e := e) (r := new) (q := q)
    have refuses := State.entryPolicy_refuses running' (e := e) (r := new)
    have counts := fun f => State.count_of_running running' (Eye.flow e) f
    rw [answered]
    clear answered offer
    rw [record] at rate layered staled accepts refuses
    rw [params] at rate accepts
    rw [superseding] at accepts refuses
    rw [counters] at accepts refuses counts
    have lets : ¬refusedLayer → ¬bandTakes band new.layer = false := mt layer_iff.1
    have fresh : ¬stale → ¬staleAgainst p ({ x with ar := ar, band := band } : Paced).reference = true := mt stale_iff.1
    have gives_eq : (fun r => !gives r) = fun r => !mayGiveWay r := rfl
    refine ⟨⟨_, rfl, rate⟩, fun refused => ⟨_, rfl, ?_⟩, fun taken is_stale => ⟨_, rfl, ?_⟩, fun taken fresh' room => ⟨_, rfl, ?_⟩,
      fun taken fresh' full base room => ⟨_, rfl, ?_⟩, fun taken fresh' full rest => ⟨_, rfl, ?_⟩⟩
    · rw [layered (layer_iff.2 refused), counts]
      simp [State.answerSlice, State.modPaced, record, satInc, flow]
    · rw [staled (lets taken) (stale_iff.2 is_stale), counts]
      simp [State.answerSlice, State.modPaced, record, satInc, flow]
    · obtain ⟨answer, queue, entered, state, purges, -⟩ := accepts (lets taken) (fresh fresh')
        (roomFor_of_fits layer room) (le_refl _)
      exact ⟨answer, queue, entered, state, purges⟩
    · obtain ⟨a, r, b, here, gives', fits', full', result⟩ := roomFor_of_base full room
      have room : roomFor q new.layer new.total = some (a ++ b.filter fun r => !mayGiveWay r) := by
        rw [show new.layer = .base from base]
        exact result
      obtain ⟨answer, queue, entered, state, purges, -⟩ := accepts (lets taken) (fresh fresh') room (roomFor_length room)
      exact ⟨answer, entered, state, a, r, b, here, gives', fits', full', queue, purges⟩
    · obtain ⟨answer, queue, -, -, counted⟩ := refuses (lets taken) (fresh fresh') (roomFor_of_none full rest)
      exact ⟨answer, queue.trans superseding, counted⟩

end Sys2Proof.Machine

namespace Sys2Proof.Machine

/-! ### Payload slots (R11, R29 to R34, R73) -/

/-- A block that is offered any other cell than the oldest one waiting takes none (R34). -/
theorem State.take_of_not_head {s : State} {l : Lane} {c : Cell} (h : (s.rx.get l).handed.head? ≠ some c) (f : State → State) :
    s.take l c f = s :=
  if_neg fun next => h (by simpa [State.nextHanded] using next)

/-- A cell that a receiver replaces (R30, R33). -/
def BadCell (c : Cell) : Prop :=
  checkOk c = false ∨ c.kind = .align ∨ (c.kind ≠ .idle ∧ ∃ n, c.dst = .invalid n)

/-- The decision by what the cell is (R29 to R33). -/
theorem cellDecision_cases (own : Station) (c : Cell) :
    (BadCell c ∧ cellDecision own c = .replace) ∨
    (¬BadCell c ∧ c.kind = .idle ∧ cellDecision own c = .idle) ∨
    (¬BadCell c ∧ c.kind ≠ .idle ∧ c.dst = .to own ∧ cellDecision own c = .drop) ∨
    (¬BadCell c ∧ c.kind ≠ .idle ∧ c.dst = .broadcast ∧ cellDecision own c = .copy) ∨
    (¬BadCell c ∧ c.kind ≠ .idle ∧ c.dst ≠ .to own ∧ c.dst ≠ .broadcast ∧ cellDecision own c = .pass) := by
  unfold cellDecision BadCell
  by_cases wrong : checkOk c = false
  · simp [wrong]
  · by_cases idle : c.kind = .idle
    · simp [wrong, idle]
    · by_cases align : c.kind = .align
      · simp [wrong, align]
      · obtain x | n | - := c.dst
        · by_cases here : x = own
          · simp [wrong, idle, align, here]
          · simp [wrong, idle, align, here]
        · simp [wrong, idle, align]
        · simp [wrong, idle, align]

/-- The state after a payload slot: the cell in the hop check, the error count and the cells handed over as given, and a
REPEATING transmitter's cell, where there is one, sent (R6, R11, R31 to R33). -/
def State.afterSlot (s : State) (l : Lane) (c : Cell) (errors : Nat) (handed : List Cell) (out : Option Cell) : State :=
  { s with
    rx := s.rx.set l { (s.rx.get l).arrive c with cellErrors := errors, handed := handed },
    tx := if (s.tx.get l).role = .repeating then out.elim s.tx fun m => s.tx.set l ((s.tx.get l).send m false) else s.tx }

section
variable {s : State} {l : Lane} {c : Cell}

/-- A receiver in use runs (R1). -/
theorem State.rxRuns_of_inUse (used : s.inUse l = true) : s.rxRuns l = true := by
  unfold State.rxRuns
  rw [used, Bool.or_true, Bool.and_true]
  cases l
  · simpa [State.inUse, fitted] using And.right (by simpa [State.inUse] using used)
  · rfl

theorem exec_payloadSlotReceived (live : s.live) (locked : (s.rx.get l).state = .locked) (runs : s.rxRuns l = true)
    (sent : (s.rx.get l).payloadState ≠ some .deep) :
    exec (.payloadSlotReceived l c) s =
      .next (if s.inUse l then (s.modRx l fun r => r.arrive c).decideCell l c else s.modRx l fun r => r.arrive c) :=
  if_pos ⟨live, locked, runs, sent⟩

/-- The cells a receiver has handed over, once a cell for its blocks came (R31, R34, R46). -/
def Rx.handing (r : Rx) (c : Cell) : List Cell := if subtypeLost c then r.handed else r.handed ++ [c]

theorem Rx.hand_arrive (r : Rx) (c : Cell) :
    (r.arrive c).hand c = { r.arrive c with cellErrors := r.cellErrors, handed := r.handing c } := by
  unfold Rx.hand Rx.handing
  split <;> rfl

theorem State.decideCell_of_replace (h : cellDecision s.station c = .replace) :
    (s.modRx l fun r => r.arrive c).decideCell l c =
      s.afterSlot l c (s.laneCount l (s.rx.get l).cellErrors) (s.rx.get l).handed none := by
  unfold State.decideCell
  rw [show (s.modRx l fun r => r.arrive c).station = s.station from rfl, h]
  simp [State.modRx, State.afterSlot, Rx.arrive, State.laneCount, State.inUse]
  rfl

theorem State.decideCell_of_idle (h : cellDecision s.station c = .idle) :
    (s.modRx l fun r => r.arrive c).decideCell l c =
      s.afterSlot l c (s.rx.get l).cellErrors (s.rx.get l).handed none := by
  unfold State.decideCell
  rw [show (s.modRx l fun r => r.arrive c).station = s.station from rfl, h]
  simp [State.modRx, State.afterSlot, Rx.arrive]

theorem State.decideCell_of_drop (h : cellDecision s.station c = .drop) :
    (s.modRx l fun r => r.arrive c).decideCell l c =
      s.afterSlot l c (s.rx.get l).cellErrors ((s.rx.get l).handing c) none := by
  unfold State.decideCell
  rw [show (s.modRx l fun r => r.arrive c).station = s.station from rfl, h]
  simp [State.modRx, State.afterSlot, Rx.hand_arrive]

theorem State.decideCell_of_copy (h : cellDecision s.station c = .copy) :
    (s.modRx l fun r => r.arrive c).decideCell l c =
      s.afterSlot l c (s.rx.get l).cellErrors ((s.rx.get l).handing c) (some c) := by
  unfold State.decideCell
  rw [show (s.modRx l fun r => r.arrive c).station = s.station from rfl, h]
  simp only [State.modRx, State.repeatCell, State.modTx, State.afterSlot, PerLane.get_set_self, PerLane.set_set, Rx.hand_arrive]
  split <;> rfl

theorem State.decideCell_of_pass (h : cellDecision s.station c = .pass) :
    (s.modRx l fun r => r.arrive c).decideCell l c =
      s.afterSlot l c (s.rx.get l).cellErrors (s.rx.get l).handed (some (s.transit l c)) := by
  unfold State.decideCell
  rw [show (s.modRx l fun r => r.arrive c).station = s.station from rfl, h]
  have marked : (s.modRx l fun r => r.arrive c).transit l c = s.transit l c := rfl
  dsimp only
  rw [marked]
  unfold State.repeatCell State.afterSlot
  by_cases role : (s.tx.get l).role = .repeating
  · rw [if_pos role]
    exact if_pos role
  · rw [if_neg role]
    exact if_neg role

end

/-- What the probe mark leaves: all fields but the mark byte (R44, R73). -/
theorem markProbe_spec {c : Cell} {marks : Nat} (ok : checkOk c = true) (whole : c.payload.length = 32) :
    let m := markProbe c marks
    checkOk m = true ∧ m.kind = c.kind ∧ m.src = c.src ∧ m.dst = c.dst ∧ m.flow = c.flow ∧ m.seq = c.seq ∧ m.start = c.start ∧
      m.payload = c.payload.set 7 (c.payload.getD 7 0 ||| BitVec.ofNat 8 marks) := by
  intro m
  by_cases same : c.payload.getD 7 0 ||| BitVec.ofNat 8 marks = c.payload.getD 7 0
  · have is : m = c := if_pos same
    rw [is, same]
    have here : 7 < c.payload.length := by omega
    exact ⟨ok, rfl, rfl, rfl, rfl, rfl, rfl, by rw [List.getD_eq_getElem _ _ here, List.set_getElem_self]⟩
  · have is : m = _ := if_neg same
    rw [is]
    exact ⟨beq_self_eq_true _, rfl, rfl, rfl, rfl, rfl, rfl, rfl⟩

theorem subtypeLost_iff (c : Cell) :
    subtypeLost c = true ↔ c.kind = .control ∧ (byteAt c.payload 0 = 0 ∨ 7 < byteAt c.payload 0) := by
  simp [subtypeLost]

/-- A cell of which nothing is sent on leaves the transmitters. -/
theorem State.afterSlot_none (s : State) (l : Lane) (c : Cell) (errors : Nat) (handed : List Cell) :
    (s.afterSlot l c errors handed none).tx = s.tx :=
  ite_self _

theorem State.afterSlot_idle {s : State} {l : Lane} (h : (s.tx.get l).role ≠ .repeating) (c : Cell) (errors : Nat)
    (handed : List Cell) (m : Cell) : (s.afterSlot l c errors handed (some m)).tx = s.tx :=
  if_neg h

theorem State.afterSlot_sends {s : State} {l : Lane} (h : (s.tx.get l).role = .repeating) (c : Cell) (errors : Nat)
    (handed : List Cell) (m : Cell) :
    (s.afterSlot l c errors handed (some m)).tx.get l = (s.tx.get l).send m false := by
  have sent : (s.afterSlot l c errors handed (some m)).tx = s.tx.set l ((s.tx.get l).send m false) := if_pos h
  rw [sent, PerLane.get_set_self]

theorem State.afterSlot_rx (s : State) (l : Lane) (c : Cell) (errors : Nat) (handed : List Cell) (out : Option Cell) :
    (s.afterSlot l c errors handed out).rx.get l = { (s.rx.get l).arrive c with cellErrors := errors, handed := handed } :=
  PerLane.get_set_self _ _ _

theorem State.afterSlot_other {s : State} {l k : Lane} (h : k ≠ l) (c : Cell) (errors : Nat) (handed : List Cell)
    (out : Option Cell) :
    (s.afterSlot l c errors handed out).rx.get k = s.rx.get k ∧ (s.afterSlot l c errors handed out).tx.get k = s.tx.get k := by
  refine ⟨PerLane.get_set_of_ne _ h _, ?_⟩
  unfold State.afterSlot
  dsimp only
  split
  · cases out with
    | none => rfl
    | some m => exact PerLane.get_set_of_ne _ h _
  · rfl

theorem Rx.handing_of_kept {r : Rx} {c : Cell} (h : ¬(c.kind = .control ∧ (byteAt c.payload 0 = 0 ∨ 7 < byteAt c.payload 0))) :
    r.handing c = r.handed ++ [c] :=
  if_neg (mt (subtypeLost_iff c).1 h)

theorem Rx.handing_of_lost {r : Rx} {c : Cell} (h : c.kind = .control ∧ (byteAt c.payload 0 = 0 ∨ 7 < byteAt c.payload 0)) :
    r.handing c = r.handed :=
  if_pos ((subtypeLost_iff c).2 h)

/-- A lane counter of a receiver in use rises in RUNNING (R25). -/
theorem State.laneCount_of_inUse {s : State} {l : Lane} (used : s.inUse l = true) (n : Nat) :
    s.laneCount l n = if s.running then min (n + 1) 65535 else n := by
  simp [State.laneCount, used, satInc]

/-- The marks of R73, as the byte they join. -/
theorem State.marks_byte (s : State) (l : Lane) :
    BitVec.ofNat 8 (s.marks l) =
      if s.cfg.crowd ≤ s.backlog l then 1 else if max 1 (s.cfg.crowd / 2) ≤ s.backlog l then 2 else 0 := by
  unfold State.marks State.halfCrowd
  split
  · rfl
  · split <;> rfl

/-- What O16 says of a payload slot at a receiver in use, of the state `t` that it leaves. -/
theorem decideCell_spec {s : State} {l : Lane} {c : Cell} (used : s.inUse l = true) :
    ∃ errors handed out, (s.modRx l fun r => r.arrive c).decideCell l c = s.afterSlot l c errors handed out ∧
      let here := ¬BadCell c ∧ c.kind ≠ .idle ∧ c.dst = .to s.station
      let all := ¬BadCell c ∧ c.kind ≠ .idle ∧ c.dst = .broadcast
      let onward := ¬BadCell c ∧ c.kind ≠ .idle ∧ ¬here ∧ ¬all
      let lost := c.kind = .control ∧ (byteAt c.payload 0 = 0 ∨ 7 < byteAt c.payload 0)
      (BadCell c → errors = if s.running then min ((s.rx.get l).cellErrors + 1) 65535 else (s.rx.get l).cellErrors) ∧
      (¬BadCell c → errors = (s.rx.get l).cellErrors) ∧
      (here ∨ all → ¬lost → handed = (s.rx.get l).handed ++ [c]) ∧
      ((¬here ∧ ¬all) ∨ lost → handed = (s.rx.get l).handed) ∧
      (¬(all ∨ onward) → out = none) ∧
      (all → out = some c) ∧
      (onward → out = some (s.transit l c)) := by
  obtain ⟨bad, is⟩ | ⟨good, idle, is⟩ | ⟨good, busy, dst, is⟩ | ⟨good, busy, dst, is⟩ | ⟨good, busy, notHere, notAll, is⟩ :=
    cellDecision_cases s.station c
  · refine ⟨_, _, _, State.decideCell_of_replace is, ?_⟩
    simp [bad, State.laneCount_of_inUse used]
  · refine ⟨_, _, _, State.decideCell_of_idle is, ?_⟩
    simp [good, idle]
  · refine ⟨_, _, _, State.decideCell_of_drop is, ?_⟩
    intro here all onward lost
    have isHere : here := ⟨good, busy, dst⟩
    have notAll : ¬all := fun k => nomatch dst.symm.trans k.2.2
    exact ⟨fun bad => absurd bad good, fun _ => rfl, fun _ => Rx.handing_of_kept,
      fun k => Rx.handing_of_lost (k.resolve_left fun n => n.1 isHere), fun _ => rfl, fun k => absurd k notAll,
      fun k => absurd isHere k.2.2.1⟩
  · refine ⟨_, _, _, State.decideCell_of_copy is, ?_⟩
    intro here all onward lost
    have isAll : all := ⟨good, busy, dst⟩
    exact ⟨fun bad => absurd bad good, fun _ => rfl, fun _ => Rx.handing_of_kept,
      fun k => Rx.handing_of_lost (k.resolve_left fun n => n.2 isAll), fun k => absurd (.inl isAll) k, fun _ => rfl,
      fun k => absurd isAll k.2.2.2⟩
  · refine ⟨_, _, _, State.decideCell_of_pass is, ?_⟩
    intro here all onward lost
    have isOnward : onward := ⟨good, busy, fun k => notHere k.2.2, fun k => notAll k.2.2⟩
    exact ⟨fun bad => absurd bad good, fun _ => rfl, fun k => absurd k (not_or.2 isOnward.2.2), fun _ => rfl,
      fun k => absurd (.inr isOnward) k, fun k => absurd k isOnward.2.2.2, fun _ => rfl⟩

theorem State.transit_of_not_probe (s : State) (l : Lane) {c : Cell} (h : c.kind ≠ .probe) : s.transit l c = c := if_neg h

theorem State.transit_of_probe (s : State) (l : Lane) {c : Cell} (h : c.kind = .probe) :
    s.transit l c = markProbe c (s.marks l) :=
  if_pos h

/-- Settles O16, by the decision on the cell. -/
theorem payloadSlotIsDecided : Obligations.PayloadSlotIsDecided := by
  refine ⟨fun l c s live locked sent unsettled far => ?_, fun l c s other x member => ?_,
    fun l c s live locked used sent whole => ?_⟩
  · have runs : s.rxRuns l = true := by
      cases l
      · simpa [State.rxRuns, fitted, unsettled] using far rfl
      · simp [State.rxRuns, fitted, unsettled]
    have unused : s.inUse l = false := by cases l <;> simp [State.inUse, unsettled]
    rw [exec_payloadSlotReceived live locked runs sent, unused]
    rfl
  · simp only [List.mem_cons, List.not_mem_nil, or_false] at member
    obtain rfl | rfl | rfl | rfl | rfl | rfl | rfl | rfl | rfl | rfl | rfl | rfl | rfl := member
    all_goals exact congrArg Host.Outcome.next (State.take_of_not_head other _)
  · obtain ⟨errors, handed, out, is, bad, good, handedOn, kept, nothing, copied, passed⟩ :=
      decideCell_spec used
    refine ⟨s.afterSlot l c errors handed out, ?_, rfl, fun k other => State.afterSlot_other other c errors handed out, ?_, ?_⟩
    · rw [exec_payloadSlotReceived live locked (State.rxRuns_of_inUse used) sent, if_pos used, is]
    · rw [State.afterSlot_rx]
      rfl
    · rw [State.afterSlot_rx]
      refine ⟨bad, good, handedOn, kept, ?_, ?_, ?_, ?_, ?_⟩
      · rintro (role | none)
        · cases out with
          | none => exact State.afterSlot_none s l c errors handed
          | some m => exact State.afterSlot_idle role c errors handed m
        · rw [nothing none]
          exact State.afterSlot_none s l c errors handed
      · intro role sends m line
        obtain ⟨m', rfl⟩ : ∃ m', out = some m' := sends.elim (fun k => ⟨_, copied k⟩) fun k => ⟨_, passed k⟩
        rw [State.afterSlot_sends role] at line ⊢
        cases line
        rfl
      · intro role k
        rw [copied k, State.afterSlot_sends role]
        rfl
      · intro role k other
        rw [passed k, State.afterSlot_sends role, State.transit_of_not_probe s l other]
        rfl
      · intro role k probe
        rw [passed k, State.afterSlot_sends role, State.transit_of_probe s l probe]
        have ok : checkOk c = true := by simpa using fun h : checkOk c = false => k.1 (.inl h)
        rw [← State.marks_byte]
        exact ⟨_, rfl, markProbe_spec ok whole⟩

end Sys2Proof.Machine

namespace Sys2Proof.Machine

/-! ### The insertion arbiter (R36 to R41) -/

section
variable {s : State} {l : Lane}

/-- An idle slot of an open frame with no gap owed goes to the first class that is ready (R37). -/
theorem exec_idleSlotArbitration_of_open (sends : (s.tx.get l).role.sends = true) (sent : s.payloadSilent l = false)
    (running : s.running) (opened : s.frameOpen l = true) (free : (s.tx.get l).gapOwed = false) :
    exec (.idleSlotArbitration l) s = .next (s.insert l (s.winner l)) := by
  refine (if_pos ⟨sends, sent⟩).trans ((if_pos ⟨running, opened⟩).trans (if_neg ?_))
  rw [free]
  nofun

/-- A slot that no class may take leaves as an IDLE cell, and an open frame's pays the gap (R36, R37, R40). -/
theorem exec_idleSlotArbitration_of_idle (sends : (s.tx.get l).role.sends = true) (sent : s.payloadSilent l = false)
    (idle : ¬s.running ∨ s.frameOpen l = false ∨ (s.tx.get l).gapOwed = true ∨ s.winner l = .none) :
    exec (.idleSlotArbitration l) s =
      .next
        { s with
          tx := s.tx.set l
            { (s.tx.get l).send (idleCell s.station) false with
              gapOwed := (s.tx.get l).gapOwed && !(decide s.running && s.frameOpen l) } } := by
  by_cases opened : s.running ∧ s.frameOpen l = true
  · obtain ⟨running, opened⟩ := opened
    by_cases owed : (s.tx.get l).gapOwed = true
    · refine ((if_pos ⟨sends, sent⟩).trans ((if_pos ⟨running, opened⟩).trans (if_pos owed))).trans ?_
      rw [decide_eq_true running, opened]
      simp [State.sendIdle, State.modTx, Tx.send]
    · have none : s.winner l = .none := by simpa [running, opened, owed] using idle
      rw [Bool.not_eq_true] at owed
      rw [exec_idleSlotArbitration_of_open sends sent running opened owed, none]
      simp [State.insert, State.sendIdle, State.modTx, Tx.send, owed]
  · refine ((if_pos ⟨sends, sent⟩).trans (if_neg opened)).trans ?_
    have closed : (decide s.running && s.frameOpen l) = false := by simpa using opened
    rw [closed]
    simp [State.sendIdle, State.modTx, Tx.send]

end

/-- Settles O17: `exec_idleSlotArbitration_of_idle`, and the frames by role. -/
theorem closedSlotLeavesIdle : Obligations.ClosedSlotLeavesIdle := by
  refine ⟨fun l s => ?_, fun l s sends sent idle => ?_⟩
  · unfold State.frameOpen
    cases (s.tx.get l).role <;> simp
  · refine ⟨_, exec_idleSlotArbitration_of_idle sends sent idle, rfl, ?_⟩
    rw [PerLane.get_set_self]
    exact ⟨rfl, rfl, rfl, rfl, rfl, rfl, fun k other => PerLane.get_set_of_ne _ other _⟩

end Sys2Proof.Machine

namespace Sys2Proof.Machine

/-! ### The classes of the arbiter in order (R37) -/

section
variable {s : State} {l : Lane}

theorem State.winner_of_motion {x : Sample} {q : List Sample} (up : l = .up) (headset : s.station = .headset)
    (queue : s.motion.queue = x :: q) : s.winner l = .motion x := by
  unfold State.winner
  rw [queue]
  exact if_pos ⟨up, headset⟩

theorem State.winner_of_no_motion (h : ¬(l = .up ∧ s.station = .headset ∧ s.motion.queue ≠ [])) :
    s.winner l = s.audioClass l := by
  unfold State.winner
  split
  · rename_i queue
    exact if_neg fun k => h ⟨k.1, k.2, by rw [queue]; nofun⟩
  · rfl

theorem State.audioClass_of_audio {b : Block} {q : List Block} (lane : l = sourceLane s.station)
    (queue : s.audio.source.queue = b :: q) : s.audioClass l = .audio b := by
  unfold State.audioClass
  rw [queue]
  exact if_pos lane

theorem State.audioClass_of_no_audio (h : ¬(l = sourceLane s.station ∧ s.audio.source.queue ≠ [])) :
    s.audioClass l = s.controlClass l := by
  unfold State.audioClass
  split
  · rename_i queue
    exact if_neg fun k => h ⟨k, by rw [queue]; nofun⟩
  · rfl

theorem State.controlClass_of_control {c : Ctl} {q : List Ctl} (fifo : (s.tx.get l).fifo = c :: q) :
    s.controlClass l = .control c := by
  unfold State.controlClass
  rw [fifo]

theorem State.controlClass_of_no_control (fifo : (s.tx.get l).fifo = []) : s.controlClass l = s.pictureClass l := by
  unfold State.controlClass
  rw [fifo]

end

/-! ### What reports of an insertion leave of the slot sent (R38, R71, R116, R179) -/

/-- The slot that a transmitter sent stands, and a train at zero stays there. -/
def Tx.SlotStands (t t' : Tx) : Prop := t'.line = t.line ∧ t'.crc = t.crc ∧ t'.sent = t.sent ∧ (t.train = 0 → t'.train = 0)

theorem Tx.SlotStands.refl (t : Tx) : t.SlotStands t := ⟨rfl, rfl, rfl, id⟩

theorem Tx.SlotStands.trans {t t' t'' : Tx} (h : t.SlotStands t') (k : t'.SlotStands t'') : t.SlotStands t'' :=
  ⟨k.1.trans h.1, k.2.1.trans h.2.1, k.2.2.1.trans h.2.2.1, k.2.2.2 ∘ h.2.2.2⟩

theorem Tx.SlotStands.of_eq {t t' : Tx} (h : t' = t) : t.SlotStands t' := h ▸ .refl t

theorem State.SameButFifo.slotStands {s t : State} (h : s.SameButFifo t) (l : Lane) : (s.tx.get l).SlotStands (t.tx.get l) := by
  rw [h l]
  exact ⟨rfl, rfl, rfl, id⟩

theorem Tx.bandChange_slotStands (t : Tx) (e : Eye) (old new : Band) : t.SlotStands (t.bandChange e old new) := by
  unfold Tx.bandChange
  split
  · exact ⟨rfl, rfl, rfl, fun _ => rfl⟩
  · exact .refl t

theorem State.setRate_slotStands (s : State) (e : Eye) (a : Nat) (l : Lane) : (s.tx.get l).SlotStands ((s.setRate e a).tx.get l) := by
  unfold State.setRate
  dsimp only
  split
  · exact .refl _
  · rw [State.post_tx, State.modTx_tx, State.modPaced_tx, PerLane.get_set]
    split
    · rename_i down
      subst down
      exact Tx.bandChange_slotStands _ e _ _
    · exact .refl _

theorem State.SameButFifo.offerTo {s t : State} (h : s.SameButFifo t) (x : Station) (c : Ctl) : s.SameButFifo (t.offerTo x c) := by
  unfold State.offerTo
  split
  · exact h.offer _ c
  · exact h

theorem State.probeCheck_slotStands (s : State) (e : Eye) (l : Lane) : (s.tx.get l).SlotStands ((s.probeCheck e).tx.get l) := by
  obtain same | queued := s.probeCheck_cases e
  · rw [same]
    exact .refl _
  · rw [queued, State.queueProbe_eq, State.modPaced_tx]
    have fade : (s.tx.get l).SlotStands ((s.fade e).tx.get l) := by
      unfold State.fade
      split
      · exact s.setRate_slotStands e _ l
      · exact .refl _
    exact fade.trans (((State.SameButFifo.refl _).offerTo .headset _).slotStands l)

theorem State.copyInserted_slotStands (s : State) (l : Lane) (serial : Nat) (k : Lane) :
    (s.tx.get k).SlotStands ((s.copyInserted l serial).tx.get k) := by
  unfold State.copyInserted
  dsimp only
  split
  · have balanced : s.SameButFifo { s with balance := s.balance.copyGone l serial true } := (State.SameButFifo.refl s).of_tx rfl
    exact State.SameButFifo.slotStands (State.reportTest_preserves State.SameButFifo.buildReport balanced) k
  · exact .refl _

theorem State.reportInserted_slotStands (s : State) (l : Lane) (c : Ctl) (k : Lane) :
    (s.tx.get k).SlotStands ((s.reportInserted l c).tx.get k) := by
  cases c with
  | probe e n a o p => exact State.probeCheck_slotStands _ e k
  | power r serial => exact s.copyInserted_slotStands l serial k
  | echo t n =>
    unfold State.reportInserted
    dsimp only
    split <;> exact .refl _
  | _ => exact .refl _

/-- Only a probe or a report that was inserted is followed by further cells (R71, R179). -/
theorem State.reportInserted_tx {s : State} {c : Ctl} (probe : ∀ e n a o p, c ≠ .probe e n a o p) (power : ∀ r k, c ≠ .power r k)
    (l : Lane) : (s.reportInserted l c).tx = s.tx := by
  cases c with
  | probe e n a o p => exact absurd rfl (probe e n a o p)
  | power r serial => exact absurd rfl (power r serial)
  | echo t n =>
    unfold State.reportInserted
    dsimp only
    split <;> rfl
  | _ => rfl

/-- An ECHO inserted for an attempt that is SENDING starts its wait (R116). -/
theorem State.reportInserted_of_echo {s : State} {x : Station} {k : Num8} (sending : (s.surveys.get x).state = .sending)
    (token : (s.surveys.get x).token = k) (l : Lane) :
    s.reportInserted l (.echo x k) =
      s.modSurvey x fun v => { v with state := .waiting, insertedAt := s.localSlot, waited := 0 } :=
  if_pos ⟨sending, token⟩

/-- Settles O18, class by class. -/
theorem firstReadyClassTakesTheSlot : Obligations.FirstReadyClassTakesTheSlot := by
  unfold Obligations.FirstReadyClassTakesTheSlot
  intro l s sends sent running opened free built motion audio
  have arbitrates := exec_idleSlotArbitration_of_open sends sent running opened free
  refine ⟨fun x q up headset queue => ?_, fun b q noMotion lane queue => ?_, fun c q noMotion noAudio fifo => ?_⟩
  · rw [arbitrates, State.winner_of_motion up headset queue]
    refine ⟨_, rfl, ?_, ?_, rfl, rfl, ⟨s.dataCell .motion .console true (samplePayload x), ?_⟩, rfl⟩
    · simp [State.insert, State.insertMotion, State.nextSeq, Tx.send, State.dataCell, headset, FlowId.num]
    · simp [State.insert, State.insertMotion, queue]
    · simp only [State.insert, State.insertMotion, State.nextSeq, State.modTx_tx, PerLane.get_set_self]
      exact ⟨rfl, rfl, rfl, rfl⟩
  · rw [arbitrates, State.winner_of_no_motion noMotion, State.audioClass_of_audio lane queue]
    refine ⟨_, rfl, ?_, ?_, rfl,
      ⟨s.dataCell (sourceFlow s.station) b.dst true (blockPayload s.sourceTwo b), ?_⟩, rfl⟩
    · simp [State.insert, State.insertAudio, State.nextSeq, State.modSource, Tx.send, State.dataCell]
    · simp [State.insert, State.insertAudio, State.nextSeq, State.modSource, queue]
    · simp only [State.insert, State.insertAudio, State.nextSeq, State.modSource, State.modTx_tx, PerLane.get_set_self]
      exact ⟨rfl, rfl, rfl, rfl⟩
  · rw [arbitrates, State.winner_of_no_motion noMotion, State.audioClass_of_no_audio noAudio,
      State.controlClass_of_control fifo]
    have stands := State.reportInserted_slotStands
      (s.modTx l fun t => { t.send (ctlCell s.station s.localSlot c) false with fifo := t.fifo.tail }) l c l
    rw [State.modTx_tx, PerLane.get_set_self] at stands
    obtain ⟨line, crc, count, train⟩ := stands
    refine ⟨_, rfl, line, by simp [State.insert], by simp [State.insert], by simp [State.insert],
      ⟨_, line, crc, count, train rfl⟩, fun probe power => ?_, fun x k is sending token => ?_⟩
    · have kept := State.reportInserted_tx probe power l
        (s := s.modTx l fun t => { t.send (ctlCell s.station s.localSlot c) false with fifo := t.fifo.tail })
      have tx : (s.insertControl l c).tx = _ := kept
      simp only [State.insert, tx, State.modTx_tx, PerLane.get_set_self, fifo, List.tail_cons]
    · subst is
      have starts : s.insertControl l (.echo x k) = _ := State.reportInserted_of_echo
        (s := s.modTx l fun t => { t.send (ctlCell s.station s.localSlot (.echo x k)) false with fifo := t.fifo.tail })
        sending token l
      simp only [State.insert, starts, State.modSurvey, PerStation.get_set_self]
      exact ⟨trivial, rfl, trivial⟩

end Sys2Proof.Machine

namespace Sys2Proof.Machine

/-! ### The picture class (R39, R40, R52, R68, R98) -/

section
variable {s : State} {e : Eye}

/-- The eligible flow takes the slot, and of two the one that the turn names (R39). -/
theorem State.pictureWinner_of_eligible (eligible : s.eligible e = true)
    (turn : s.tx.down.turn = e ∨ ∀ k, k ≠ e → s.eligible k = false) : s.pictureWinner = .picture e := by
  unfold State.pictureWinner
  cases e with
  | left =>
    rw [eligible]
    cases other : s.eligible .right with
    | false => rfl
    | true =>
      have named := turn.resolve_right fun h => by rw [h .right nofun] at other; cases other
      rw [named]
  | right =>
    rw [eligible]
    cases other : s.eligible .left with
    | false => rfl
    | true =>
      have named := turn.resolve_right fun h => by rw [h .left nofun] at other; cases other
      rw [named]

end

/-- The record after its next cell was inserted, before the probe check: an emptied ACTIVE one and that of END are IDLE (R49,
R52, R68). -/
def State.pictured (s : State) (e : Eye) : Paced :=
  let p := (s.paced.get e).spend s.tx.down.count
  if (s.paced.get e).queue = [] then { p with discarded := 0, state := .idle, idleSince := some s.tx.down.count }
  else if p.state = .active ∧ cellsLeft p.queue = 0 then { p with state := .idle, idleSince := some s.tx.down.count }
  else p

/-- The insertion, but for its probe check, is some state `u` of which these fields are known (R38 to R40, R52, R68). -/
structure State.Pictured (s : State) (e : Eye) (u : State) : Prop where
  inserts : s.insertPicture .down e = u.probeCheck e
  station : u.station = s.station
  cfg : u.cfg = s.cfg
  paced : u.paced = s.paced.set e (s.pictured e)
  tx : u.tx = s.tx.set .down ((s.tx.down.send (s.pictureCell e) true).countPicture e (s.paced.get e).band)
  seqs : u.seqs = s.seqs.set (Eye.flow e) (s.seqs.get (Eye.flow e) + 1)
  rx : u.rx = s.rx
  drained : s.running → (s.paced.get e).queue = [] → ∃ n ∈ u.notices,
    n.kind = .drainDone ∧ n.subject = .flow (Eye.flow e) ∧ n.value = BitVec.ofNat 32 (s.paced.get e).discarded

/-- The state once the cell is in its slot and paid for (R39, R68). -/
def State.spent (s : State) (e : Eye) : State :=
  { s with
    tx := s.tx.set .down ((s.tx.down.send (s.pictureCell e) true).countPicture e (s.paced.get e).band),
    seqs := s.seqs.set (Eye.flow e) (s.seqs.get (Eye.flow e) + 1),
    paced := s.paced.set e ((s.paced.get e).spend s.tx.down.count) }

theorem State.insertPicture_spent (s : State) (e : Eye) :
    s.insertPicture .down e =
      (if (s.paced.get e).queue = [] then (s.spent e).endInserted e else (s.spent e).idleIfEmpty e).probeCheck e := by
  refine congrArg (State.probeCheck · e) ?_
  by_cases empty : (s.paced.get e).queue = []
  · rw [if_pos empty]
    exact if_pos (by rw [empty]; rfl)
  · have busy : (s.paced.get e).queue.isEmpty = false := by simpa using empty
    rw [if_neg empty]
    exact if_neg (by rw [busy]; nofun)

theorem State.endInserted_paced (s : State) (e : Eye) :
    (s.endInserted e).paced =
      s.paced.set e { s.paced.get e with discarded := 0, state := .idle, idleSince := some s.tx.down.count } := by
  simp [State.endInserted, State.toIdle, State.modPaced]

theorem State.idleIfEmpty_paced (s : State) (e : Eye) :
    (s.idleIfEmpty e).paced =
      s.paced.set e
        (if (s.paced.get e).state = .active ∧ cellsLeft (s.paced.get e).queue = 0 then
          { s.paced.get e with state := .idle, idleSince := some s.tx.down.count }
        else s.paced.get e) := by
  unfold State.idleIfEmpty
  split
  · simp [State.toIdle, State.modPaced]
  · simp

theorem State.endInserted_posts {s : State} (live : s.live) (e : Eye) :
    ∃ n ∈ (s.endInserted e).notices, n.kind = .drainDone ∧ n.subject = .flow (Eye.flow e) ∧
      n.value = BitVec.ofNat 32 (s.paced.get e).discarded :=
  State.exists_posted (s := (s.modPaced e fun p => { p with discarded := 0 }).toIdle e) live _ _ _

theorem State.exists_pictured (s : State) (e : Eye) : ∃ u, s.Pictured e u := by
  have count : (s.spent e).tx.down.count = s.tx.down.count := rfl
  have record : (s.spent e).paced.get e = (s.paced.get e).spend s.tx.down.count := PerEye.get_set_self _ _ _
  by_cases empty : (s.paced.get e).queue = []
  · have inserts := s.insertPicture_spent e
    rw [if_pos empty] at inserts
    have paced := (s.spent e).endInserted_paced e
    have posts := fun live => (s.spent e).endInserted_posts live e
    rw [record] at paced posts
    refine ⟨_, inserts, by simp [State.spent], by simp [State.spent], ?_, by simp [State.spent], by simp [State.spent],
      by simp [State.spent], fun running _ => posts (.inr running)⟩
    rw [paced, count]
    unfold State.pictured State.spent
    rw [PerEye.set_set, if_pos empty]
  · have inserts := s.insertPicture_spent e
    rw [if_neg empty] at inserts
    have paced := (s.spent e).idleIfEmpty_paced e
    rw [record] at paced
    refine ⟨_, inserts, by simp [State.spent], by simp [State.spent], ?_, by simp [State.spent], by simp [State.spent],
      by simp [State.spent], fun _ h => absurd h empty⟩
    rw [paced, count]
    unfold State.pictured State.spent
    rw [PerEye.set_set, if_neg empty]

/-! ### The probe check of an insertion (R69 to R71) -/

/-- The check at CONSOLE's down TX with an empty FIFO: a due probe is queued there. -/
theorem State.probeCheck_of_room {s : State} (console : s.station = .console) (sends : s.tx.down.role.sends = true)
    (fifo : s.tx.down.fifo = []) {e : Eye} (state : (s.paced.get e).state ≠ .idle)
    (waiting : (s.paced.get e).probeWaiting = false) (due : s.probeDue e = true) :
    (s.probeCheck e).paced.get e =
        { s.paced.get e with
          ar := s.fadedAr e, band := s.fadedBand e, lastProbe := (s.paced.get e).lastProbe + 1,
          unanswered := min ((s.paced.get e).unanswered + 1) 255, cellsSince := 0, probeAt := some s.tx.down.count,
          probeWaiting := true } ∧
      (s.probeCheck e).tx.down.fifo =
        [.probe e ((s.paced.get e).lastProbe + 1) (s.fadedAr e) (s.params e).peak (s.params e).peak] := by
  have room : s.probeRoom := ⟨sends, by rw [fifo]; decide⟩
  rw [State.probeCheck_of_due state waiting due, State.queueProbe_of_console console]
  refine ⟨?_, ?_⟩
  · rw [PerEye.get_set_self, State.probed, decide_eq_true room]
  · simp only [State.modTx_tx, PerLane.get, PerLane.set]
    rw [if_pos room, fifo]
    rfl

/-- The check moves the turn never, and the train and the gap only with a fade (R40, R70). -/
theorem State.probeCheck_train {s : State} (console : s.station = .console) (e : Eye) :
    (s.probeCheck e).tx.down.turn = s.tx.down.turn ∧
      ((s.paced.get e).unanswered < (s.params e).patience →
        (s.probeCheck e).tx.down.train = s.tx.down.train ∧ (s.probeCheck e).tx.down.gapOwed = s.tx.down.gapOwed) := by
  obtain same | queued := s.probeCheck_cases e
  · rw [same]
    exact ⟨rfl, fun _ => ⟨rfl, rfl⟩⟩
  · rw [queued, State.queueProbe_of_console console]
    simp only [State.modTx_tx, PerLane.get, PerLane.set]
    refine ⟨by rw [State.fade_tx], fun few => ?_⟩
    have still : s.fade e = s := if_neg (not_le.2 few)
    rw [still]
    exact ⟨rfl, rfl⟩

/-- The check moves the record's rate and probe fields alone. -/
theorem State.probeCheck_record {s : State} (console : s.station = .console) (e : Eye) :
    let p := s.paced.get e
    let p' := (s.probeCheck e).paced.get e
    p'.credit = p.credit ∧ p'.dataAt = p.dataAt ∧ p'.queue = p.queue ∧ p'.state = p.state ∧ p'.idleSince = p.idleSince := by
  intro p p'
  obtain same | queued := State.probeCheck_paced console e
  · have is : p' = p := congrArg (PerEye.get · e) same
    rw [is]
    exact ⟨rfl, rfl, rfl, rfl, rfl⟩
  · have is : p' = s.probed e := (congrArg (PerEye.get · e) queued).trans (PerEye.get_set_self _ _ _)
    rw [is]
    exact ⟨rfl, rfl, rfl, rfl, rfl⟩

theorem State.pictured_eq (s : State) (e : Eye) :
    s.pictured e =
      { (s.paced.get e).spend s.tx.down.count with
        discarded := (s.pictured e).discarded, state := (s.pictured e).state, idleSince := (s.pictured e).idleSince } := by
  unfold State.pictured
  dsimp only
  split
  · rfl
  · split <;> rfl

theorem advanceQueue_of_more {r : SliceRec} (h : r.sent + 1 < r.total) (q : List SliceRec) :
    advanceQueue (r :: q) = { r with sent := r.sent + 1 } :: q :=
  if_neg (not_le.2 h)

theorem advanceQueue_of_last {r : SliceRec} (h : r.total ≤ r.sent + 1) (q : List SliceRec) : advanceQueue (r :: q) = q :=
  if_pos h

theorem cellsLeft_pos {r : SliceRec} (h : r.sent < r.total) (q : List SliceRec) : cellsLeft (r :: q) ≠ 0 := by
  rw [cellsLeft_cons]
  omega

/-- What the record's queue and state become (R39, R49, R52, R98). -/
theorem State.pictured_queue (s : State) (e : Eye) : (s.pictured e).queue = advanceQueue (s.paced.get e).queue := by
  rw [s.pictured_eq]
  rfl

theorem State.pictured_of_empty {s : State} {e : Eye} (h : (s.paced.get e).queue = []) : (s.pictured e).state = .idle := by
  unfold State.pictured
  rw [if_pos h]

theorem State.pictured_of_slice {s : State} {e : Eye} (h : (s.paced.get e).queue ≠ []) :
    s.pictured e =
      if (s.paced.get e).state = .active ∧ cellsLeft (advanceQueue (s.paced.get e).queue) = 0 then
        { (s.paced.get e).spend s.tx.down.count with state := .idle, idleSince := some s.tx.down.count }
      else (s.paced.get e).spend s.tx.down.count :=
  if_neg h

theorem State.pictureCell_of_slice {s : State} {e : Eye} {r : SliceRec} {q : List SliceRec}
    (h : (s.paced.get e).queue = r :: q) :
    s.pictureCell e = s.dataCell (Eye.flow e) .headset (r.sent == 0) (slicePayload r) := by
  unfold State.pictureCell
  rw [h]

theorem State.pictureCell_of_empty {s : State} {e : Eye} (h : (s.paced.get e).queue = []) :
    s.pictureCell e = s.dataCell (Eye.flow e) .headset true [] := by
  unfold State.pictureCell
  rw [h]

/-- The fields of the record that a probe is built from (R69 to R71), after the insertion. -/
theorem State.pictured_probe (s : State) (e : Eye) :
    let p := s.paced.get e
    let p' := s.pictured e
    p'.cellsSince = min (p.cellsSince + 1) 255 ∧ p'.lastProbe = p.lastProbe ∧ p'.unanswered = p.unanswered ∧
      p'.probeAt = p.probeAt ∧ p'.ar = p.ar ∧ p'.probeWaiting = p.probeWaiting := by
  dsimp only
  rw [s.pictured_eq]
  exact ⟨rfl, rfl, rfl, rfl, rfl, rfl⟩

/-- Settles O19: the insertion of `State.Pictured`, then the check of R69. -/
theorem pictureCellTakesTheSlot : Obligations.PictureCellTakesTheSlot := by
  unfold Obligations.PictureCellTakesTheSlot
  intro e s console running sends sent opened free noMotion noAudio fifo eligible turn p
  obtain ⟨u, inserts, station, cfg, paced, tx, seqs, rx, drained⟩ := s.exists_pictured e
  have wins : s.winner .down = .picture e := by
    rw [State.winner_of_no_motion (fun h => h.2.2 noMotion), State.audioClass_of_no_audio fun h => h.2 noAudio,
      State.controlClass_of_no_control (l := .down) fifo]
    exact (if_pos ⟨rfl, console⟩).trans (State.pictureWinner_of_eligible eligible turn)
  have leaves : exec (.idleSlotArbitration .down) s = .next (u.probeCheck e) := by
    rw [exec_idleSlotArbitration_of_open (l := .down) sends sent running opened free, wins]
    exact congrArg _ inserts
  have console' : u.station = .console := station.trans console
  have record : u.paced.get e = s.pictured e := by rw [paced, PerEye.get_set_self]
  have down : u.tx.down = (s.tx.down.send (s.pictureCell e) true).countPicture e p.band := by rw [tx]; rfl
  have params : u.params e = s.params e := State.params_congr cfg e
  have fields := s.pictured_eq e
  obtain ⟨credit, dataAt, queue, state, idleSince⟩ := State.probeCheck_record console' e
  obtain ⟨turns, trains⟩ := State.probeCheck_train console' e
  obtain ⟨line, crc, count, -⟩ := State.probeCheck_slotStands u e .down
  have emptied := State.probeCheck_of_room console' (e := e) (by rw [down]; exact sends) (by rw [down]; exact fifo)
  have quiet := State.probeCheck_of_not_due (s := u) (e := e)
  have due := u.probeDue_iff e
  have other := fun k h => State.probeCheck_get_of_ne console' (e := e) (k := k) h
  have seqs' : (u.probeCheck e).seqs = u.seqs := by simp
  have rx' : (u.probeCheck e).rx = u.rx := by simp
  simp only [PerLane.get] at line crc count
  simp only [State.fadedAr] at emptied
  simp only [record, params] at credit dataAt queue state idleSince emptied quiet due trains
  rw [down] at turns trains line crc count emptied due
  rw [leaves]
  generalize u.probeCheck e = t at *
  refine ⟨t, rfl, ?_, ?_, ?_, ?_, fun r q first => ?_, fun empty => ?_, fun few => ?_, ?_, ?_, rx'.trans rx, fun k h => ?_⟩
  · rw [credit, fields]
    rfl
  · rw [seqs', seqs]
  · rw [turns]
    cases e <;> simp [Tx.countPicture]
  · rw [dataAt, fields]
    rfl
  · have slice := State.pictured_of_slice (s := s) (e := e) (by rw [first]; nofun)
    have cell := State.pictureCell_of_slice first
    rw [first] at slice
    refine ⟨?_, fun more => ?_, fun last => ?_⟩
    · rw [line, ← console]
      exact congrArg some cell
    · rw [queue, s.pictured_queue, first, advanceQueue_of_more more, state, slice, advanceQueue_of_more more,
        if_neg fun h => cellsLeft_pos (r := { r with sent := r.sent + 1 }) more q h.2]
      exact ⟨rfl, rfl⟩
    · rw [queue, s.pictured_queue, first, advanceQueue_of_last last, state, idleSince, slice, advanceQueue_of_last last]
      refine ⟨rfl, fun active none => ?_⟩
      rw [if_pos ⟨active, none⟩]
      exact ⟨rfl, rfl⟩
  · have idle := State.pictured_of_empty empty
    have same := quiet (.inl idle)
    refine ⟨?_, state.trans idle, ?_⟩
    · rw [line, ← console]
      exact congrArg some (State.pictureCell_of_empty empty)
    · rw [same]
      exact drained running empty
  · obtain ⟨train, gap⟩ := trains (by rw [fields]; exact few)
    rw [train, gap]
    refine ⟨?_, ?_⟩
    · simp [Tx.countPicture, Tx.send]
    · simp [Tx.countPicture, Tx.send, free]
  · exact ⟨_, line, crc, count⟩
  · obtain ⟨cells, last, unanswered, probeAt, ar, waiting⟩ := s.pictured_probe e
    rw [cells, probeAt] at due
    rw [waiting] at emptied quiet
    rw [last, unanswered, ar, fadedRate, ceilDiv_256] at emptied
    rw [state]
    refine ⟨fun busy free due' => ?_, fun no => ?_⟩
    · obtain ⟨after, queued⟩ := emptied busy free (due.2 due')
      rw [after]
      exact ⟨rfl, rfl, rfl, rfl, rfl, rfl, queued⟩
    · have same := quiet (no.imp_right (Or.imp_right fun k => mt due.1 k))
      rw [same, record, down]
      exact ⟨cells, last, unanswered, probeAt, ar, fifo⟩
  · rw [other k h, paced, PerEye.get_set_of_ne _ h]

end Sys2Proof.Machine

namespace Sys2Proof.Machine

/-! ### A receiver leaves LOCKED (R13, R16, R60) -/

section
variable {s : State} {l : Lane}

/-- LANE_STATE gives the receiver's state and the transmitter's role (R184). -/
theorem State.postLane_posts (live : s.live) (l : Lane) :
    ∃ n ∈ (s.postLane l).notices, n.kind = .laneState ∧ n.subject = .lane l ∧
      n.value = BitVec.ofNat 32 (RxState.code (s.rx.get l).state * 16 + TxRole.code (s.tx.get l).role) :=
  State.exists_posted live _ _ _

/-- A loss of LOCKED, one relock more where it counts (R13, R25). -/
def Rx.lost (r : Rx) (st : RxState) (relocks : Nat) : Rx := { r.clear st with relocks := relocks, outOfLock := 0 }

theorem State.leaveLocked_rx_get (s : State) (l : Lane) (st : RxState) (c : Option AlignInfo) :
    (s.leaveLocked l st c).rx.get l = (s.rx.get l).lost st (s.laneCount l (s.rx.get l).relocks) := by
  rw [State.leaveLocked_rx, PerLane.get_set_self]
  rfl

theorem State.leaveLocked_tx_get (s : State) (l : Lane) (st : RxState) (c : Option AlignInfo) :
    (s.leaveLocked l st c).tx.get l = (s.tx.get l).loseLock c := by
  rw [State.leaveLocked_tx, PerLane.get_set_self]

theorem State.leaveLocked_other {k : Lane} (h : k ≠ l) (st : RxState) (c : Option AlignInfo) :
    (s.leaveLocked l st c).rx.get k = s.rx.get k ∧ (s.leaveLocked l st c).tx.get k = s.tx.get k := by
  rw [State.leaveLocked_rx, State.leaveLocked_tx]
  exact ⟨PerLane.get_set_of_ne _ h _, PerLane.get_set_of_ne _ h _⟩

/-- The loss is noticed where the receiver is in use (R13, R184). -/
theorem State.leaveLocked_posts (live : s.live) (used : s.inUse l = true) (st : RxState) (c : Option AlignInfo) :
    ∃ n ∈ (s.leaveLocked l st c).notices, n.kind = .laneState ∧ n.subject = .lane l ∧
      n.value = BitVec.ofNat 32 (RxState.code st * 16 + TxRole.code ((s.leaveLocked l st c).tx.get l).role) := by
  rw [State.leaveLocked_tx_get]
  unfold State.leaveLocked
  dsimp only
  rw [if_pos used]
  have posts := State.postLane_posts (l := l)
    (s := ((s.modRx l fun r => { r.clear st with relocks := s.laneCount l (s.rx.get l).relocks, outOfLock := 0 }).modTx l
      fun t => t.loseLock c).loseLane l) (by simpa [State.live] using live)
  obtain ⟨n, mem, kind, subject, value⟩ := posts
  refine ⟨n, mem, kind, subject, value.trans ?_⟩
  simp [State.modRx, State.modTx, Rx.clear]

theorem State.leaveLocked_notices (unused : s.inUse l = false) (st : RxState) (c : Option AlignInfo) :
    (s.leaveLocked l st c).notices = s.notices := by
  unfold State.leaveLocked
  dsimp only
  rw [if_neg (by rw [unused]; nofun)]
  simp

/-- The loss touches the lane, the records it feeds and the notices, and nothing else (R13). -/
theorem State.leaveLocked_eq (s : State) (l : Lane) (st : RxState) (c : Option AlignInfo) :
    s.leaveLocked l st c =
      { s with
        rx := (s.leaveLocked l st c).rx, tx := (s.leaveLocked l st c).tx, dst := (s.leaveLocked l st c).dst,
        eyes := (s.leaveLocked l st c).eyes, counters := (s.leaveLocked l st c).counters,
        motionOut := (s.leaveLocked l st c).motionOut, notices := (s.leaveLocked l st c).notices } :=
  State.eq_of_fields (by simp)

/-- The flows whose cells a lane brings (R60). -/
def fedBy : Lane → List FlowId
  | .down => [.pictureL, .pictureR, .audioOut] | .up => [.motion, .audioIn]

theorem State.leaveLocked_dst_get (s : State) (l : Lane) (st : RxState) (c : Option AlignInfo) (f : FlowId) :
    (s.leaveLocked l st c).dst.get f =
      if f ∈ fedBy l ∧ (s.dst.get f).map (fun d => d.state) = some .listening then some ⟨.listening, none⟩ else s.dst.get f := by
  rw [State.leaveLocked_dst, State.loseLane_dst]
  cases l <;> rfl

/-- No record that the lane feeds expects a number after the loss (R60). -/
theorem State.leaveLocked_forgets (st : RxState) (c : Option AlignInfo) {f : FlowId} (fed : f ∈ fedBy l) {d : DstRec}
    (record : (s.leaveLocked l st c).dst.get f = some d) (listens : d.state = .listening) : d.expected = none := by
  rw [State.leaveLocked_dst_get] at record
  split at record
  · cases record
    rfl
  · rename_i no
    refine absurd ⟨fed, ?_⟩ no
    rw [record, ← listens]
    rfl

end

/-! #### The lane's transmitter at the loss (R16, R20) -/

theorem Tx.loseLock_of_repeating {t : Tx} (h : t.role = .repeating) (c : Option AlignInfo) :
    t.loseLock c = t.stepSilent.substitute c := if_pos h

theorem Tx.loseLock_of_waiting {t : Tx} (h : t.role = .provisional) (follows : t.follows = true) (c : Option AlignInfo) :
    t.loseLock c = t.substitute none :=
  (if_neg (by rw [h]; nofun)).trans (if_pos ⟨h, follows⟩)

theorem Tx.loseLock_of_own {t : Tx} (repeating : t.role ≠ .repeating) (waiting : ¬(t.role = .provisional ∧ t.follows = true))
    (c : Option AlignInfo) : t.loseLock c = t :=
  (if_neg repeating).trans (if_neg waiting)

theorem Tx.loseLock_timing {t : Tx} (h : t.role ≠ .repeating) (c : Option AlignInfo) :
    (t.loseLock c).count = t.count ∧ (t.loseLock c).frame = t.frame := by
  unfold Tx.loseLock
  rw [if_neg h]
  split <;> exact ⟨rfl, rfl⟩

/-! #### Signal on a port (R7, R19, R21) -/

/-- The state once the signal on a port reads `b`. -/
def State.sensing (s : State) (l : Lane) (b : Bool) : State :=
  { s with pins := { s.pins with signal := s.pins.signal.set l b } }

theorem exec_signalPresent {s : State} (live : s.live) (l : Lane) :
    exec (.signalPresent l) s =
      .next (if s.rxRuns l then (s.sensing l true).findSignal l else (s.sensing l true).lateNeighbour l) := by
  refine (if_pos live).trans ?_
  split <;> rfl

/-- A receiver outside LOCKED is cleared as its signal goes (R7). -/
theorem exec_signalAbsent_of_not_locked {s : State} {l : Lane} (live : s.live) (unlocked : (s.rx.get l).state ≠ .locked) :
    exec (.signalAbsent l) s = .next ((s.sensing l false).modRx l fun r => r.clear .dark) :=
  (if_neg fun h => unlocked h.2).trans (if_pos live)

/-- A receiver in DARK that finds signal (R7, R19). -/
theorem State.findSignal_of_dark {s : State} {l : Lane} (dark : (s.rx.get l).state = .dark) :
    s.findSignal l =
      { s with
        rx := s.rx.set l ((s.rx.get l).clear .search),
        farNeighbour := s.farNeighbour || decide (l = .up ∧ s.settledRoles = false) } := by
  refine (if_pos dark).trans ?_
  dsimp only
  by_cases far : l = .up ∧ s.settledRoles = false
  · rw [if_pos far, decide_eq_true far, Bool.or_true]
    rfl
  · rw [if_neg far, decide_eq_false far, Bool.or_false]
    rfl

/-- Settles O9. -/
theorem signalMovesTheReceiver : Obligations.SignalMovesTheReceiver := by
  refine ⟨fun l s live => ⟨fun fits free dark => ?_, fun up settled alone => ?_, fun unlocked => ?_⟩, fun l s live locked => ?_⟩
  · have runs : s.rxRuns l = true := by
      unfold State.rxRuns
      rw [fits]
      obtain unsettled | used := free
      · rw [unsettled]
        rfl
      · rw [used, Bool.or_true]
        rfl
    have finds : exec (.signalPresent l) s = _ := exec_signalPresent live l
    rw [if_pos runs, State.findSignal_of_dark (s := s.sensing l true) dark] at finds
    refine ⟨_, finds, ?_⟩
    refine ⟨by simp [State.sensing, Rx.clear], by simp [State.sensing], fun up unsettled => by simp [State.sensing, up, unsettled],
      fun down => by simp [State.sensing, down], rfl, rfl, fun k other => PerLane.get_set_of_ne _ other _, ?_⟩
    simp [State.sensing, Rx.clear]
  · subst up
    have idle : s.rxRuns .up = false := by simp [State.rxRuns, State.inUse, settled, alone]
    have late : exec (.signalPresent .up) s = _ := exec_signalPresent live .up
    rw [if_neg (by rw [idle]; nofun)] at late
    unfold State.lateNeighbour at late
    by_cases seen : s.lateSeen = true
    · rw [if_neg fun h => by have := h.2.2.2; simp_all [State.sensing]] at late
      exact ⟨_, late, rfl, rfl, alone, seen, fun _ => rfl, fun unseen => by rw [seen] at unseen; cases unseen⟩
    · have unseen : s.lateSeen = false := by simpa using seen
      rw [if_pos ⟨rfl, settled, alone, unseen⟩] at late
      refine ⟨_, late, by simp [State.sensing], by simp [State.sensing], by simpa [State.sensing] using alone, by simp,
        fun h => absurd h seen, fun _ => ?_⟩
      obtain ⟨n, mem, kind, subject, -⟩ := State.exists_posted
        (s := { s.sensing .up true with lateSeen := true }) live .lateNeighbour (.lane .up) 0
      exact ⟨n, mem, kind, subject⟩
  · refine ⟨_, exec_signalAbsent_of_not_locked live unlocked, by simp [State.modRx, Rx.clear], by simp [State.sensing, State.modRx],
      rfl, fun k other => PerLane.get_set_of_ne _ other _, rfl, ?_⟩
    simp [State.sensing, State.modRx, Rx.clear]
  · have leaves : exec (.signalAbsent l) s = .next ((s.sensing l false).leaveLocked l .dark none) :=
      exec_signalAbsent_of_locked live locked
    have rx : ((s.sensing l false).leaveLocked l .dark none).rx.get l = _ := State.leaveLocked_rx_get _ _ _ _
    have tx : ((s.sensing l false).leaveLocked l .dark none).tx.get l = (s.tx.get l).loseLock none :=
      State.leaveLocked_tx_get _ _ _ _
    have other := fun k h => State.leaveLocked_other (s := s.sensing l false) (l := l) (k := k) h .dark none
    have posts := fun used : s.inUse l = true => State.leaveLocked_posts (s := s.sensing l false) (l := l) live used .dark none
    have forgets := fun f fed d => State.leaveLocked_forgets (s := s.sensing l false) (l := l) .dark none (f := f) fed (d := d)
    have kept := (s.sensing l false).leaveLocked_eq l .dark none
    generalize (s.sensing l false).leaveLocked l .dark none = t at *
    have relocks : (t.rx.get l).relocks = s.laneCount l (s.rx.get l).relocks := by rw [rx]; rfl
    refine ⟨t, leaves, by rw [rx]; rfl, ?_, by rw [rx]; rfl, by rw [rx]; rfl, by rw [rx]; rfl, by rw [rx]; rfl, by rw [rx]; rfl,
      by rw [rx]; rfl, fun role => ?_, fun role waits => ?_, fun role role' => ?_, fun role => ?_, fun role => ?_,
      fun used => by simpa [RxState.code] using posts used, ?_, ?_, other, ?_⟩
    · rw [relocks]
      rfl
    · rw [tx, Tx.loseLock_of_repeating role]
      rfl
    · rw [tx, Tx.loseLock_of_waiting role waits]
      rfl
    · rw [tx, Tx.loseLock_of_own role fun h => role' h.1]
    · rw [tx]
      exact Tx.loseLock_timing role none
    · rw [tx, Tx.loseLock_of_repeating role]
      exact ⟨rfl, rfl⟩
    · rintro rfl
      exact fun f fed d => forgets f fed d
    · rintro rfl
      exact fun f fed d => forgets f fed d
    · rw [kept]
      exact ⟨rfl, rfl, rfl, rfl⟩

end Sys2Proof.Machine

namespace Sys2Proof.Machine

/-! ### Confirmation and lock (R8, R13, R118) -/

section
variable {s : State} {l : Lane}

theorem State.modRx_rx_get (s : State) (l : Lane) (f : Rx → Rx) : (s.modRx l f).rx.get l = f (s.rx.get l) :=
  PerLane.get_set_self _ _ _

theorem exec_candidateAlignmentCell {c : Cell} {i : AlignInfo} (live : s.live) (reads : readAlign c = some i)
    (search : (s.rx.get l).state = .search) :
    exec (.candidateAlignmentCell l c) s =
      .next (s.modRx l fun r => { r.clear .confirm with confirm := 1, frame := i.frame }.accept i) := by
  show execCandidateAlignmentCell l c s = _
  unfold execCandidateAlignmentCell
  rw [reads]
  exact if_pos ⟨live, search⟩

theorem exec_expectedAlignmentCell_of_confirm {found : Option Cell} (live : s.live) (confirm : (s.rx.get l).state = .confirm) :
    exec (.expectedAlignmentCell l found) s = .next (s.confirmCell l found) := by
  show execExpectedAlignmentCell l found s = _
  unfold execExpectedAlignmentCell
  rw [if_pos live, confirm]

theorem State.confirmCell_of_wrong {found : Option Cell} (wrong : (s.rx.get l).correct found = none) :
    s.confirmCell l found = s.modRx l fun r => r.clear .search := by
  unfold State.confirmCell
  dsimp only
  rw [wrong]

theorem State.confirmCell_of_second {found : Option Cell} {i : AlignInfo} (right : (s.rx.get l).correct found = some i)
    (first : (s.rx.get l).confirm = 1) :
    s.confirmCell l found = s.modRx l fun r => { r.advance.accept i with confirm := 2 } := by
  unfold State.confirmCell
  dsimp only
  rw [right]
  refine (if_pos (by rw [first]; decide)).trans ?_
  simp only [State.modRx, first]

theorem State.confirmCell_of_third {found : Option Cell} {i : AlignInfo} (right : (s.rx.get l).correct found = some i)
    (second : (s.rx.get l).confirm = 2) : s.confirmCell l found = s.enterLocked l i := by
  unfold State.confirmCell
  dsimp only
  rw [right]
  exact if_neg (by rw [second]; decide)

/-- The receiver as it locks (R8, R13). -/
def Rx.locking (r : Rx) (i : AlignInfo) : Rx :=
  { r.advance.accept i with
    state := .locked, confirm := 0, errRun := 0, history := [], fault := i.fault, bytes := ⟨none, none, none, none⟩,
    outOfLock := 0 }

/-- The locking receiver with its notice posted. -/
def State.lockPosted (s : State) (l : Lane) (i : AlignInfo) : State :=
  ((s.modRx l fun r => r.locking i).syncClock.postLane l)

theorem State.enterLocked_eq (s : State) (l : Lane) (i : AlignInfo) :
    s.enterLocked l i =
      let t := if l = .up ∧ i.fault = true then (s.lockPosted l i).endRestartRun else s.lockPosted l i
      if l = .down ∧ s.running then t.offerResurvey else t := rfl

theorem State.lockPosted_rx (s : State) (l : Lane) (i : AlignInfo) : (s.lockPosted l i).rx.get l = (s.rx.get l).locking i := by
  simp [State.lockPosted, State.postLane, State.modRx]

theorem State.lockPosted_posts (live : s.live) (i : AlignInfo) :
    ∃ n ∈ (s.lockPosted l i).notices, n.kind = .laneState ∧ n.subject = .lane l ∧
      n.value = BitVec.ofNat 32 (48 + TxRole.code (s.tx.get l).role) := by
  obtain ⟨n, mem, kind, subject, value⟩ := State.postLane_posts (l := l)
    (s := (s.modRx l fun r => r.locking i).syncClock) (by simpa [State.live] using live)
  refine ⟨n, mem, kind, subject, value.trans ?_⟩
  simp [State.modRx, Rx.locking, RxState.code]

@[simp] theorem State.lockPosted_keeps (s : State) (l : Lane) (i : AlignInfo) :
    (s.lockPosted l i).start = s.start ∧ (s.lockPosted l i).station = s.station ∧ (s.lockPosted l i).tx = s.tx ∧
      (s.lockPosted l i).surveys = s.surveys ∧ (s.lockPosted l i).surveyed = s.surveyed ∧
      (s.lockPosted l i).tokens = s.tokens := by
  simp [State.lockPosted, State.postLane]

/-- What a lock offers: RESURVEY by the down RX in RUNNING at a station other than CONSOLE, and nothing else (R118). -/
theorem State.enterLocked_tx (s : State) (l : Lane) (i : AlignInfo) :
    (s.enterLocked l i).tx =
      if l = .down ∧ s.running ∧ s.station ≠ .console then { s.tx with up := s.tx.up.joined .resurvey } else s.tx := by
  rw [State.enterLocked_eq]
  dsimp only
  have tx : (if l = .up ∧ i.fault = true then (s.lockPosted l i).endRestartRun else s.lockPosted l i).tx = s.tx := by
    split <;> simp [State.endRestartRun]
  have station : (if l = .up ∧ i.fault = true then (s.lockPosted l i).endRestartRun else s.lockPosted l i).station =
      s.station := by
    split <;> simp [State.endRestartRun]
  generalize (if l = .up ∧ i.fault = true then (s.lockPosted l i).endRestartRun else s.lockPosted l i) = t at *
  rw [← station, ← tx]
  unfold State.offerResurvey
  by_cases resurveys : l = .down ∧ s.running
  · rw [if_pos resurveys]
    by_cases console : t.station = .console
    · rw [if_pos console, if_neg fun h => h.2.2 console]
    · rw [if_neg console, if_pos ⟨resurveys.1, resurveys.2, console⟩, State.offerTo_console console (by nofun), State.modTx_tx]
      rfl
  · rw [if_neg resurveys, if_neg fun h => resurveys ⟨h.1, h.2.1⟩]

theorem State.enterLocked_kept (s : State) (l : Lane) (i : AlignInfo) :
    (s.enterLocked l i).rx = (s.lockPosted l i).rx ∧ (s.enterLocked l i).notices = (s.lockPosted l i).notices ∧
      (s.enterLocked l i).surveys = s.surveys ∧ (s.enterLocked l i).surveyed = s.surveyed ∧
      (s.enterLocked l i).tokens = s.tokens := by
  rw [State.enterLocked_eq]
  dsimp only
  split <;> split <;> simp [State.endRestartRun]

end

/-- Settles O10. -/
theorem threeCorrectCellsLock : Obligations.ThreeCorrectCellsLock := by
  refine fun l s live => ⟨fun c i reads search => ?_, fun found i confirm right => ⟨fun first => ?_, fun second => ?_⟩,
    fun found confirm wrong => ?_⟩
  · refine ⟨_, exec_candidateAlignmentCell live reads search, ?_⟩
    rw [State.modRx_rx_get]
    refine ⟨rfl, rfl, rfl, rfl, fun zero => ?_, rfl, fun k other => PerLane.get_set_of_ne _ other _, rfl⟩
    exact if_pos zero
  · have run := exec_expectedAlignmentCell_of_confirm (found := found) live confirm
    rw [State.confirmCell_of_second right first] at run
    refine ⟨_, run, ?_⟩
    rw [State.modRx_rx_get]
    exact ⟨confirm, rfl, rfl, rfl, rfl⟩
  · have run := exec_expectedAlignmentCell_of_confirm (found := found) live confirm
    rw [State.confirmCell_of_third right second] at run
    obtain ⟨rx, notices, surveys, surveyed, tokens⟩ := s.enterLocked_kept l i
    have rx_get : ((s.enterLocked l i).rx.get l) = (s.rx.get l).locking i := by rw [rx, State.lockPosted_rx]
    refine ⟨_, run, by rw [rx_get]; rfl, by rw [rx_get]; rfl, by rw [rx_get]; rfl, by rw [rx_get]; rfl, by rw [rx_get]; rfl,
      by rw [rx_get]; rfl, ?_, fun resurveys => ?_, fun no => ?_, surveys, surveyed, tokens⟩
    · rw [notices]
      exact State.lockPosted_posts live i
    · rw [State.enterLocked_tx, if_pos resurveys]
      rfl
    · rw [State.enterLocked_tx, if_neg no]
  · have run := exec_expectedAlignmentCell_of_confirm (found := found) live confirm
    rw [State.confirmCell_of_wrong wrong] at run
    refine ⟨_, run, ?_⟩
    rw [State.modRx_rx_get]
    exact ⟨rfl, rfl, rfl⟩

end Sys2Proof.Machine

namespace Sys2Proof.Machine

/-! ### Cells at the expected position in LOCKED (R9 to R17) -/

/-! #### The status byte leaves the transmitters but for their FIFOs (R22, R115) -/

namespace State.SameButFifo

theorem beginAttempt {s t : State} (h : s.SameButFifo t) (x : Station) : s.SameButFifo (t.beginAttempt x) := by
  have tokens : s.SameButFifo { t with tokens := t.tokens + 1 } := h.of_tx rfl
  exact (tokens.offerTo x (.echo x (t.tokens + 1))).of_tx rfl

theorem startSurvey {s t : State} (h : s.SameButFifo t) (x : Station) : s.SameButFifo (t.startSurvey x) := by
  unfold State.startSurvey
  split
  · have cleared : s.SameButFifo (t.modSurvey x fun v => { v with failed := 0, unknown := false }) := h.of_tx rfl
    exact cleared.beginAttempt x
  · exact h

theorem becomePresent {s t : State} (h : s.SameButFifo t) (x : Station) : s.SameButFifo (t.becomePresent x) := by
  have posted : s.SameButFifo
      ((t.modStation x fun v => { v with present := true }).post .stationPresent (.station x) 0).relevel :=
    h.of_tx (by simp)
  exact (posted.startSurvey x).of_tx (by simp [State.becomePresent])

theorem takeStatus {s t : State} (h : s.SameButFifo t) (l : Lane) (x : Station) (b : Byte) :
    s.SameButFifo (t.takeStatus l x b) := by
  have wrote (f : StationEntry → StationEntry) : s.SameButFifo (t.modStation x f) := h.of_tx rfl
  unfold State.takeStatus
  dsimp only
  split
  · exact h
  · split
    · split
      · exact wrote _
      · exact (wrote _).becomePresent x
    · split
      · exact h.of_tx (by simp [State.modStation])
      · exact wrote _

theorem calling {s t : State} {f : State → State} (h : s.SameButFifo (f t)) : s.SameButFifo (t.calling f) :=
  State.calling_preserves buildReport event h

end State.SameButFifo

section
variable {s : State} {l : Lane}

/-! #### The return to REPEATING (R17, R20) -/

theorem State.beforeStatus_tx (s : State) (l : Lane) (r : Rx) (i : AlignInfo) :
    (s.beforeStatus l r i).tx = if i.frame = 0 then (s.returnToRepeating l).tx else s.tx := by
  unfold State.beforeStatus
  dsimp only
  split <;> split <;> rfl

theorem State.returnToRepeating_role (substitute : (s.tx.get l).role = .substitute) :
    ((s.returnToRepeating l).tx.get l).role = .repeating := by
  unfold State.returnToRepeating
  dsimp only
  rw [if_pos substitute]
  simp [State.postLane]

theorem State.handAlign_sameButFifo (s : State) (l : Lane) (r : Rx) (i : AlignInfo) :
    (s.beforeStatus l r i).SameButFifo (s.handAlign l r i) := by
  rw [State.handAlign_eq]
  have called : (s.beforeStatus l r i).SameButFifo
      ((s.beforeStatus l r i).calling fun t =>
        t.takeStatus l (statusOwner ((s.rx.get l).underDeep i) i.frame i.count) i.status) :=
    .calling ((State.SameButFifo.refl _).takeStatus l _ _)
  split
  · exact called.setFresh
  · exact called

/-- A correct cell in frame 0 brings a SUBSTITUTE back, and another cell moves no role (R17). -/
theorem State.handAlign_role (s : State) (l : Lane) (r : Rx) (i : AlignInfo) :
    (i.frame = 0 → (s.tx.get l).role = .substitute → ((s.handAlign l r i).tx.get l).role = .repeating) ∧
      (i.frame ≠ 0 → ((s.handAlign l r i).tx.get l).role = (s.tx.get l).role) := by
  have tx := s.handAlign_sameButFifo l r i l
  rw [tx, State.beforeStatus_tx]
  refine ⟨fun zero substitute => ?_, fun later => ?_⟩
  · rw [if_pos zero]
    exact State.returnToRepeating_role substitute
  · rw [if_neg later]

theorem State.handAlign_rx (s : State) (l : Lane) (r : Rx) (i : AlignInfo) : (s.handAlign l r i).rx = s.rx := by
  rw [State.handAlign_eq]
  split <;> simp

/-! #### The hop check's history (R11, R12) -/

theorem Rx.hopDue_iff {r : Rx} (locked : r.state = .locked) :
    r.hopDue = true ↔ r.payloadState ≠ some .deep ∧ r.inEffect ≠ some .deep := by
  simp [Rx.hopDue, locked]

theorem hopLost_iff (history : List Bool) : hopLost history = true ↔ 12 ≤ history.count true := by
  have same : (history.filter fun b => b) = history.filter (· == true) := List.filter_congr fun b _ => by cases b <;> rfl
  rw [hopLost, decide_eq_true_iff, same, List.count_eq_length_filter]

/-! #### The cell still owed (R16) -/

/-- A receiver whose timing ran on without a cell repeats the fields that it held, the status byte that of the position (R4,
R5). -/
theorem Rx.repeated_of_advance (r : Rx) (run errors : Nat) :
    ({ r.advance with errRun := run, alignErrors := errors } : Rx).repeated =
      r.info.map fun i =>
        let f := r.expectedFrame
        let count := if f = 0 then i.count + 1 else i.count
        let owner := stationOf (if f = 0 ∧ (r.inEffect = some .deep ∨ i.lane = .deep) then count.toNat else f.toNat)
        { i with frame := f, count := count, status := (r.bytes.get owner).getD 0 } := by
  unfold Rx.repeated Rx.advance statusOwner Rx.underDeep
  simp only [Option.map_map]
  congr 1
  funext i
  simp

/-- A receiver that took a correct cell repeats that cell (R4). -/
theorem Rx.repeated_of_lockedCorrect (r : Rx) (i : AlignInfo) (n : Nat) : (r.lockedCorrect i n).repeated = some i := rfl

/-! #### What a loss leaves (R13) -/

/-- The consequences of a loss of LOCKED at the expected position, as O11 lists them, with the cell owed. -/
def State.Lost (l : Lane) (s t : State) (owed : Option AlignInfo) : Prop :=
  let r := s.rx.get l
  let x := s.tx.get l
  let n := x.frame.toNat + x.offset / 64
  t.rx.get l =
    { state := .search, confirm := 0, errRun := 0, history := [], inEffect := none, count := none, frame := 0, offset := 0,
      fault := false, info := none, infoOk := false, bytes := ⟨none, none, none, none⟩, activeThis := false,
      activePrev := false, payloadState := none, crc := 0xFFFF, outOfLock := 0, alignErrors := (t.rx.get l).alignErrors,
      hopErrors := (t.rx.get l).hopErrors, cellErrors := r.cellErrors,
      relocks := if s.running ∧ s.inUse l = true then min (r.relocks + 1) 65535 else r.relocks, handed := r.handed } ∧
  t.tx.get l =
    (if x.role = .repeating then
      { x with
        role := .substitute, frame := BitVec.ofNat 4 n, count := x.count + BitVec.ofNat 32 (n / 16), offset := x.offset % 64,
        follows := false, own := false, carry := owed }
    else if x.role = .provisional ∧ x.follows = true then
      { x with role := .substitute, follows := false, own := true, carry := none }
    else x) ∧
  (∀ f,
    t.dst.get f =
      if f ∈ fedBy l ∧ (s.dst.get f).map (fun d => d.state) = some .listening then some ⟨.listening, none⟩ else s.dst.get f) ∧
  (s.inUse l = true →
    ∃ m ∈ t.notices, m.kind = .laneState ∧ m.subject = .lane l ∧
      m.value = BitVec.ofNat 32 (16 + TxRole.code (t.tx.get l).role)) ∧
  (s.inUse l = false → t.notices = s.notices) ∧ (∀ k, k ≠ l → t.rx.get k = s.rx.get k ∧ t.tx.get k = s.tx.get k) ∧
  t =
    { s with
      rx := t.rx, tx := t.tx, dst := t.dst, eyes := t.eyes, counters := t.counters, motionOut := t.motionOut,
      clock := t.clock, pulses := t.pulses, notices := t.notices }

theorem Tx.loseLock_eq (x : Tx) (owed : Option AlignInfo) :
    x.loseLock owed =
      if x.role = .repeating then
        { x with
          role := .substitute, frame := BitVec.ofNat 4 (x.frame.toNat + x.offset / 64),
          count := x.count + BitVec.ofNat 32 ((x.frame.toNat + x.offset / 64) / 16), offset := x.offset % 64,
          follows := false, own := false, carry := owed }
      else if x.role = .provisional ∧ x.follows = true then
        { x with role := .substitute, follows := false, own := true, carry := none }
      else x := by
  by_cases repeating : x.role = .repeating
  · rw [Tx.loseLock_of_repeating repeating, if_pos repeating]
    unfold Tx.substitute Tx.stepSilent
    simp [repeating]
  · rw [if_neg repeating]
    by_cases waits : x.role = .provisional ∧ x.follows = true
    · rw [Tx.loseLock_of_waiting waits.1 waits.2, if_pos waits]
      unfold Tx.substitute
      simp [waits.1]
    · rw [Tx.loseLock_of_own repeating waits, if_neg waits]

/-- A state in which a cell was judged: its receiver stepped, and the clock with it. -/
structure State.Judged (s u : State) (l : Lane) (r : Rx) : Prop where
  eq : u = { s with rx := s.rx.set l r, clock := u.clock, pulses := u.pulses }
  kept : r.cellErrors = (s.rx.get l).cellErrors ∧ r.handed = (s.rx.get l).handed ∧ r.relocks = (s.rx.get l).relocks

theorem State.Judged.lost {u : State} {r : Rx} (judged : s.Judged u l r) (live : s.live) (owed : Option AlignInfo) :
    s.Lost l (u.leaveLocked l .search owed) owed := by
  obtain ⟨eq, cells, handed, relocks⟩ := judged
  have rx := u.leaveLocked_rx_get l .search owed
  have tx := u.leaveLocked_tx_get l .search owed
  have dst := u.leaveLocked_dst_get l .search owed
  have posts := fun live used => State.leaveLocked_posts (s := u) (l := l) live used .search owed
  have quiet := fun unused => State.leaveLocked_notices (s := u) (l := l) unused .search owed
  have other := fun k h => State.leaveLocked_other (s := u) (l := l) (k := k) h .search owed
  have rest := u.leaveLocked_eq l .search owed
  generalize u.leaveLocked l .search owed = t at *
  generalize u.clock = clock at *
  generalize u.pulses = pulses at *
  subst eq
  rw [PerLane.get_set_self] at rx
  unfold Rx.lost Rx.clear at rx
  rw [cells, handed, relocks] at rx
  refine ⟨?_, tx.trans (Tx.loseLock_eq _ _), dst, fun used => posts live used, quiet, fun k h => ?_, ?_⟩
  · rw [rx]
    rfl
  · obtain ⟨a, b⟩ := other k h
    exact ⟨a.trans (PerLane.get_set_of_ne _ h _), b⟩
  · rw [rest]

theorem State.syncClock_judged (s : State) (l : Lane) (f : Rx → Rx)
    (kept : (f (s.rx.get l)).cellErrors = (s.rx.get l).cellErrors ∧ (f (s.rx.get l)).handed = (s.rx.get l).handed ∧
      (f (s.rx.get l)).relocks = (s.rx.get l).relocks) :
    s.Judged (s.modRx l f).syncClock l (f (s.rx.get l)) :=
  ⟨State.eq_of_fields (by simp [State.modRx]), kept⟩

/-- The receiver as an alignment cell in error is judged (R9, R10). -/
def State.erred (s : State) (l : Lane) : Rx :=
  { (s.rx.get l).advance with
    errRun := (s.rx.get l).errRun + 1, alignErrors := s.laneCount l (s.rx.get l).alignErrors }

theorem State.atError_judged (s : State) (l : Lane) : s.Judged (s.atError l).syncClock l (s.erred l) :=
  s.syncClock_judged l
    (fun r => { r.advance with errRun := r.errRun + 1, alignErrors := s.laneCount l (s.rx.get l).alignErrors }) ⟨rfl, rfl, rfl⟩

/-- The receiver as a correct cell is judged (R9 to R12). -/
def State.corrected (s : State) (l : Lane) (i : AlignInfo) : Rx :=
  (s.rx.get l).lockedCorrect i (s.laneCount l (s.rx.get l).hopErrors)

theorem State.atCorrect_judged (s : State) (l : Lane) (i : AlignInfo) : s.Judged (s.atCorrect l i) l (s.corrected l i) :=
  s.syncClock_judged l (fun r => r.lockedCorrect i (s.laneCount l (s.rx.get l).hopErrors)) ⟨rfl, rfl, rfl⟩

theorem State.atCorrect_rx (s : State) (l : Lane) (i : AlignInfo) : (s.atCorrect l i).rx.get l = s.corrected l i := by
  simp [State.atCorrect, State.modRx, State.corrected]

theorem State.atError_rx (s : State) (l : Lane) : (s.atError l).rx.get l = s.erred l := by
  simp [State.atError, State.modRx, State.erred]

/-- Cells in error leave the other lane alone (R10). -/
theorem State.alignError_other (s : State) {k : Lane} (h : k ≠ l) :
    (s.alignError l).rx.get k = s.rx.get k ∧ (s.alignError l).tx.get k = s.tx.get k := by
  have judged : (s.atError l).syncClock.rx.get k = s.rx.get k ∧ (s.atError l).syncClock.tx.get k = s.tx.get k := by
    simp [State.atError, State.modRx, PerLane.get_set_of_ne _ h]
  by_cases early : (s.rx.get l).errRun < 3
  · rw [State.alignError_of_early early]
    exact judged
  · rw [State.alignError_of_fourth (not_lt.1 early)]
    obtain ⟨rx, tx⟩ := State.leaveLocked_other (s := (s.atError l).syncClock) (l := l) h .search
      ((s.atError l).rx.get l).repeated
    exact ⟨rx.trans judged.1, tx.trans judged.2⟩

/-- A hop check is counted where it is evaluated and fails (R11, R25). -/
theorem State.corrected_hopErrors (s : State) (l : Lane) (i : AlignInfo) (locked : (s.rx.get l).state = .locked) :
    (s.corrected l i).hopErrors =
      if s.running ∧ s.inUse l = true ∧ ((s.rx.get l).payloadState ≠ some .deep ∧ (s.rx.get l).inEffect ≠ some .deep) ∧
          (s.rx.get l).crc ≠ i.hop then
        min ((s.rx.get l).hopErrors + 1) 65535
      else (s.rx.get l).hopErrors := by
  have fails : (s.rx.get l).hopFails i.hop = true ↔
      ((s.rx.get l).payloadState ≠ some .deep ∧ (s.rx.get l).inEffect ≠ some .deep) ∧ (s.rx.get l).crc ≠ i.hop := by
    simp [Rx.hopFails, Rx.hopDue_iff locked]
  show (if (s.rx.get l).hopFails i.hop = true then s.laneCount l (s.rx.get l).hopErrors else (s.rx.get l).hopErrors) = _
  unfold State.laneCount satInc
  by_cases counts : s.running ∧ s.inUse l = true
  · rw [if_pos counts]
    exact if_congr (fails.trans ⟨fun h => ⟨counts.1, counts.2, h⟩, fun h => h.2.2⟩) rfl rfl
  · rw [if_neg counts, ite_self, if_neg fun h => counts ⟨h.1, h.2.1⟩]

theorem Rx.correct_frame {r : Rx} {found : Option Cell} {i : AlignInfo} (right : r.correct found = some i) :
    i.frame = r.expectedFrame := by
  unfold Rx.correct at right
  split at right
  · split at right
    · rename_i frame
      cases right
      exact frame
    · cases right
  · cases right

/-- The receiver after a correct cell, field by field (R4 to R6, R9 to R12, R36). -/
theorem Rx.lockedCorrect_eq {r : Rx} {i : AlignInfo} (frame : i.frame = r.expectedFrame) (n : Nat) :
    r.lockedCorrect i n =
      { r with
        frame := i.frame, offset := 0, count := if i.frame = 0 then some i.count else r.count,
        info := some i, infoOk := true,
        bytes := r.bytes.set
          (stationOf (if i.frame = 0 ∧ (r.inEffect = some .deep ∨ i.lane = .deep) then i.count.toNat else i.frame.toNat))
          (some i.status),
        inEffect := some i.lane, activeThis := decide (i.lane = .active), activePrev := r.activeThis,
        payloadState := r.inEffect, crc := 0xFFFF, errRun := 0, fault := i.fault,
        history := if i.lane = .deep then [] else r.hopHistory i.hop, hopErrors := (r.lockedCorrect i n).hopErrors } := by
  have count : (if i.frame = 0 then some i.count else r.advance.count) = if i.frame = 0 then some i.count else r.count := by
    split
    · rfl
    · rename_i later
      rw [frame] at later
      have step : r.advance.count = r.count.map id := by
        unfold Rx.advance
        simp only [if_neg later]
        rfl
      rw [step, Option.map_id]
      rfl
  have owner : statusOwner ((r.advance.accept i).underDeep i) i.frame i.count =
      stationOf (if i.frame = 0 ∧ (r.inEffect = some .deep ∨ i.lane = .deep) then i.count.toNat else i.frame.toNat) := by
    have deep : (r.advance.accept i).underDeep i = true ↔ i.frame = 0 ∧ (r.inEffect = some .deep ∨ i.lane = .deep) := by
      simp [Rx.underDeep, Rx.accept, Rx.advance]
    exact congrArg stationOf (if_congr deep rfl rfl)
  have same : r.lockedCorrect i n = { r.lockedCorrect i n with frame := i.frame } := by
    rw [frame]
    rfl
  rw [← owner, ← count]
  exact same

end

/-- Settles O11. -/
theorem lockedCellsKeepOrLoseLock : Obligations.LockedCellsKeepOrLoseLock := by
  unfold Obligations.LockedCellsKeepOrLoseLock
  intro lost
  refine ⟨fun l found s live locked wrong => ?_, fun l found i s live locked right => ?_⟩
  · have is_lost : ∀ t owed, s.Lost l t owed → lost l s t owed := fun t owed h => by
      cases l <;> exact h
    have rx := s.atError_rx l
    have judged := s.atError_judged l
    refine ⟨_, exec_expectedAlignmentCell_of_error live locked wrong, ?_, fun early => ?_, fun fourth => ?_,
      fun k h => s.alignError_other h⟩
    · by_cases early : (s.rx.get l).errRun < 3
      · rw [State.alignError_of_early early, State.syncClock_rx, rx]
        rfl
      · rw [State.alignError_of_fourth (not_lt.1 early), State.leaveLocked_rx_get, State.syncClock_rx, rx]
        rfl
    · rw [State.alignError_of_early early, State.syncClock_rx, rx]
      exact ⟨locked, rfl, by simp [State.atError], rfl, rfl, rfl⟩
    · rw [State.alignError_of_fourth fourth, State.leaveLocked_rx_get, State.leaveLocked_tx_get]
      refine ⟨rfl, rfl, rfl, fun role => ?_, ?_⟩
      · rw [Tx.loseLock_of_repeating (by simpa [State.atError] using role)]
        rfl
      · have owed := judged.lost live ((s.atError l).rx.get l).repeated
        rw [rx] at owed ⊢
        unfold State.erred at owed ⊢
        rw [Rx.repeated_of_advance] at owed ⊢
        exact is_lost _ _ owed
  · intro evaluated history failures
    have is_lost : ∀ t owed, s.Lost l t owed → lost l s t owed := fun t owed h => by
      cases l <;> exact h
    have rx := s.atCorrect_rx l i
    have judged := s.atCorrect_judged l i
    have hist : (s.rx.get l).hopHistory i.hop = history := if_congr (Rx.hopDue_iff locked) rfl rfl
    refine ⟨_, exec_expectedAlignmentCell_of_correct live locked right, fun few => ?_, fun many => ?_, ?_, ?_⟩
    · have held : hopLost ((s.rx.get l).hopHistory i.hop) = false := by
        rw [hist, Bool.eq_false_iff, ne_eq, hopLost_iff]
        exact not_le.2 few
      have role := (s.atCorrect l i).handAlign_role l (s.rx.get l) i
      have tx : (s.atCorrect l i).tx = s.tx := by rw [judged.eq]
      rw [tx] at role
      rw [State.alignCorrect_of_held held, State.handAlign_rx, rx]
      unfold State.corrected
      rw [Rx.lockedCorrect_eq (Rx.correct_frame right), hist]
      exact ⟨locked, rfl, rfl, rfl, rfl, fun zero => if_pos zero, rfl, role.1, role.2, rfl⟩
    · have gone : hopLost ((s.rx.get l).hopHistory i.hop) = true := by
        rw [hist, hopLost_iff]
        exact many
      have owed := judged.lost live ((s.atCorrect l i).rx.get l).repeated
      rw [State.alignCorrect_of_lost gone]
      refine ⟨by rw [State.leaveLocked_rx_get]; rfl, by rw [State.leaveLocked_rx_get]; rfl, is_lost _ _ ?_⟩
      rw [rx] at owed ⊢
      exact owed
    · have counted := s.corrected_hopErrors l i locked
      by_cases gone : hopLost ((s.rx.get l).hopHistory i.hop) = true
      · rw [State.alignCorrect_of_lost gone, State.leaveLocked_rx_get, rx]
        exact counted
      · rw [State.alignCorrect_of_held (Bool.eq_false_iff.2 gone), State.handAlign_rx, rx]
        exact counted
    · by_cases gone : hopLost ((s.rx.get l).hopHistory i.hop) = true
      · rw [State.alignCorrect_of_lost gone, State.leaveLocked_rx_get, rx]
        rfl
      · rw [State.alignCorrect_of_held (Bool.eq_false_iff.2 gone), State.handAlign_rx, rx]
        rfl

end Sys2Proof.Machine

namespace Sys2Proof.Machine

/-! ### Bytes read back from a payload (section 2.8) -/

theorem checkOk_mkCell (kind : Kind) (src : Station) (dst : Dest) (flow : BitVec 3) (q : Seq) (start : Bool) (bs : List Byte) :
    checkOk (mkCell kind src dst flow q start bs) = true :=
  beq_self_eq_true _

theorem pad32_length (bs : List Byte) : (pad32 bs).length = 32 := by simp [pad32]

/-- Padding with zeros does not show in a byte read (R46). -/
theorem getD_pad32 (bs : List Byte) {i : Nat} (h : i < 32) : (pad32 bs).getD i 0 = bs.getD i 0 := by
  have here : i < (pad32 bs).length := by rw [pad32_length]; exact h
  rw [List.getD_eq_getElem _ _ here]
  by_cases inside : i < bs.length
  · rw [List.getD_eq_getElem _ _ inside]
    simp [pad32, List.getElem_append_left inside]
  · rw [List.getD_eq_default _ _ (not_lt.1 inside)]
    simp only [pad32, List.getElem_take, List.getElem_append_right (not_lt.1 inside), List.getElem_replicate]

theorem byteAt_pad32 (bs : List Byte) {i : Nat} (h : i < 32) : byteAt (pad32 bs) i = byteAt bs i :=
  congrArg BitVec.toNat (getD_pad32 bs h)

theorem fieldAt_pad32 (bs : List Byte) {i n : Nat} (h : i + n ≤ 32) : fieldAt (pad32 bs) i n = fieldAt bs i n := by
  induction n with
  | zero => rfl
  | succ n ih => rw [fieldAt, fieldAt, ih (by omega), byteAt_pad32 bs (by omega)]

/-- A byte of a concatenation, on either side of the seam. -/
theorem byteAt_append_left {a b : List Byte} {i : Nat} (h : i < a.length) : byteAt (a ++ b) i = byteAt a i := by
  unfold byteAt
  rw [List.getD_append _ _ _ _ h]

theorem byteAt_append_right {a b : List Byte} {i : Nat} (h : a.length ≤ i) : byteAt (a ++ b) i = byteAt b (i - a.length) := by
  unfold byteAt
  rw [List.getD_append_right _ _ _ _ h]

theorem fieldAt_append_left {a b : List Byte} {i n : Nat} (h : i + n ≤ a.length) : fieldAt (a ++ b) i n = fieldAt a i n := by
  induction n with
  | zero => rfl
  | succ n ih => rw [fieldAt, fieldAt, ih (by omega), byteAt_append_left (by omega)]

theorem fieldAt_append_right {a b : List Byte} {i n : Nat} (h : a.length ≤ i) :
    fieldAt (a ++ b) i n = fieldAt b (i - a.length) n := by
  induction n with
  | zero => rfl
  | succ n ih =>
    rw [fieldAt, fieldAt, ih, byteAt_append_right (by omega)]
    congr 2
    omega

/-- A field is its first bytes, then its last (section 2.8). -/
theorem fieldAt_add (bs : List Byte) (i m n : Nat) : fieldAt bs i (m + n) = fieldAt bs i m * 256 ^ n + fieldAt bs (i + m) n := by
  induction n with
  | zero => simp [fieldAt]
  | succ n ih =>
    have split : fieldAt bs i (m + (n + 1)) = fieldAt bs i (m + n) * 256 + byteAt bs (i + (m + n)) := rfl
    rw [split, ih, fieldAt, pow_succ, add_mul, mul_assoc, add_assoc, add_assoc]

/-- A number in big-endian bytes reads back (section 2.8). -/
theorem fieldAt_beBytes (n v : Nat) : fieldAt (beBytes n v) 0 n = v % 256 ^ n := by
  induction n with
  | zero => simp [fieldAt, Nat.mod_one]
  | succ n ih =>
    have rest : fieldAt (BitVec.ofNat 8 (v / 256 ^ n) :: beBytes n v) 1 n = fieldAt (beBytes n v) 0 n :=
      fieldAt_append_right (a := [BitVec.ofNat 8 (v / 256 ^ n)]) (b := beBytes n v) le_rfl
    have first : fieldAt (BitVec.ofNat 8 (v / 256 ^ n) :: beBytes n v) 0 1 = v / 256 ^ n % 256 := by
      simp [fieldAt, byteAt]
    rw [beBytes, add_comm n 1, fieldAt_add, first, rest, ih, add_comm 1 n, Nat.mod_pow_succ]
    ring

/-! ### The layouts -/

theorem flagBits (x y z : Bool) : (bit x + bit y * 2 + bit z * 4) % 256 % 2 = bit x ∧
    (bit x + bit y * 2 + bit z * 4) % 256 / 2 % 2 = bit y ∧ (bit x + bit y * 2 + bit z * 4) % 256 / 4 % 2 = bit z := by
  cases x <;> cases y <;> cases z <;> decide

theorem bit_eq_one (b : Bool) : decide (bit b = 1) = b := by cases b <;> rfl

/-- Probes and replies (R46). -/
theorem readRate_mkCell (kind : Kind) (src : Station) (dst : Dest) (flow : BitVec 3) (q : Seq) (start : Bool) (n : Num8)
    {ar o p : Nat} (x y z : Bool) (har : ar ≤ 1008) (ho : o ≤ 1008) (low : 16 ≤ p) (high : p ≤ 1008) :
    readRate (mkCell kind src dst flow q start (ratePayload n ar o p x y z)) =
      some { number := n, ar := ar, offered := o, peak := p, congested := x, noRise := y, hold := z } := by
  have payload : (mkCell kind src dst flow q start (ratePayload n ar o p x y z)).payload = pad32 (ratePayload n ar o p x y z) :=
    rfl
  unfold readRate
  rw [payload]
  simp only [fieldAt_pad32 _ (show 1 + 2 ≤ 32 by decide), fieldAt_pad32 _ (show 3 + 2 ≤ 32 by decide),
    fieldAt_pad32 _ (show 5 + 2 ≤ 32 by decide), byteAt_pad32 _ (show 7 < 32 by decide), getD_pad32 _ (show 0 < 32 by decide)]
  obtain ⟨a, b, c⟩ := flagBits x y z
  have e1 : fieldAt (ratePayload n ar o p x y z) 1 2 = ar := by
    simp [ratePayload, fieldAt, byteAt, beBytes]
    omega
  have e2 : fieldAt (ratePayload n ar o p x y z) 3 2 = o := by
    simp [ratePayload, fieldAt, byteAt, beBytes]
    omega
  have e3 : fieldAt (ratePayload n ar o p x y z) 5 2 = p := by
    simp [ratePayload, fieldAt, byteAt, beBytes]
    omega
  have e4 : byteAt (ratePayload n ar o p x y z) 7 = (bit x + bit y * 2 + bit z * 4) % 256 := by
    simp [ratePayload, byteAt, beBytes]
  have e5 : (ratePayload n ar o p x y z).getD 0 0 = n := by
    simp [ratePayload, beBytes]
  rw [e1, e2, e3, e4, e5, a, b, c]
  simp only [bit_eq_one]
  exact if_pos ⟨har, ho, low, high⟩

end Sys2Proof.Machine

namespace Sys2Proof.Machine

/-- The payload of an alignment cell (R4, R46). -/
def alignPayload (i : AlignInfo) : List Byte :=
  beBytes 2 (alignWord i.frame) ++
    [BitVec.ofNat 8 i.frame.toNat,
      BitVec.ofNat 8 (i.origin.num + LaneState.code i.lane * 4 + (if i.fault then 16 else 0))] ++
    beBytes 4 i.count.toNat ++ [i.status] ++ beBytes 2 i.hop.toNat

/-- Origin, lane state and fault flag in one byte (R46). -/
theorem alignFlags (x : Station) (l : LaneState) (f : Bool) :
    let flags := (x.num + LaneState.code l * 4 + (if f then 16 else 0)) % 256
    stationOf flags = x ∧ laneStateOf (flags / 4) = l ∧ decide (flags / 16 % 2 = 1) = f := by
  cases x <;> cases l <;> cases f <;> decide

/-- Alignment cells (R4, R46). -/
theorem readAlign_alignCell (own : Station) (i : AlignInfo) : readAlign (alignCell own i) = some i := by
  have payload : (alignCell own i).payload = pad32 (alignPayload i) := rfl
  have ok : (alignCell own i).kind = .align ∧ checkOk (alignCell own i) = true := ⟨rfl, checkOk_mkCell _ _ _ _ _ _ _⟩
  have frame : byteAt (alignPayload i) 2 = i.frame.toNat := by
    have small : i.frame.toNat < 16 := i.frame.isLt
    simp [alignPayload, byteAt, beBytes]
    omega
  have flags : byteAt (alignPayload i) 3 = (i.origin.num + LaneState.code i.lane * 4 + (if i.fault then 16 else 0)) % 256 := by
    simp [alignPayload, byteAt, beBytes]
  have word : fieldAt (alignPayload i) 0 2 = alignWord i.frame := by
    have short : alignWord i.frame < 65536 := by unfold alignWord; split <;> decide
    simp [alignPayload, fieldAt, byteAt, beBytes]
    omega
  have count : fieldAt (alignPayload i) 4 4 = i.count.toNat := by
    have long : i.count.toNat < 4294967296 := i.count.isLt
    simp [alignPayload, fieldAt, byteAt, beBytes]
    omega
  have status : (alignPayload i).getD 8 0 = i.status := by simp [alignPayload, beBytes]
  have hop : fieldAt (alignPayload i) 9 2 = i.hop.toNat := by
    have short : i.hop.toNat < 65536 := i.hop.isLt
    simp [alignPayload, fieldAt, byteAt, beBytes]
    omega
  obtain ⟨origin, lane, fault⟩ := alignFlags i.origin i.lane i.fault
  unfold readAlign
  rw [payload]
  simp (disch := decide) only [fieldAt_pad32, byteAt_pad32, getD_pad32]
  rw [frame, flags, word, count, status, hop, origin, lane, fault]
  simp only [BitVec.ofNat_toNat, BitVec.setWidth_eq]
  exact if_pos ⟨ok.1, ok.2, i.frame.isLt, trivial⟩

/-- Power reports (R46). -/
theorem readReport_mkCell (src : Station) (dst : Dest) (flow : BitVec 3) (q : Seq) (start : Bool) {r : Report}
    (draw : r.draw < 65536) (waiting : r.waiting < 65536) (top : r.top ≤ 8) (offer : r.offer < 65536) (level : r.level ≤ 7)
    (rail : r.rail < 65536) : readReport (mkCell .power src dst flow q start (reportPayload r)) = some r := by
  have payload : (mkCell .power src dst flow q start (reportPayload r)).payload = pad32 (reportPayload r) := rfl
  have e0 : (reportPayload r).getD 0 0 = r.number := by simp [reportPayload, beBytes]
  have e1 : fieldAt (reportPayload r) 1 2 = r.draw := by
    simp [reportPayload, fieldAt, byteAt, beBytes]
    omega
  have e3 : fieldAt (reportPayload r) 3 2 = r.waiting := by
    simp [reportPayload, fieldAt, byteAt, beBytes]
    omega
  have e5 : byteAt (reportPayload r) 5 = r.top := by
    simp [reportPayload, byteAt, beBytes]
    omega
  have e6 : fieldAt (reportPayload r) 6 2 = r.offer := by
    simp [reportPayload, fieldAt, byteAt, beBytes]
    omega
  have e8 : byteAt (reportPayload r) 8 = r.level := by
    simp [reportPayload, byteAt, beBytes]
    omega
  have e9 : fieldAt (reportPayload r) 9 2 = r.rail := by
    simp [reportPayload, fieldAt, byteAt, beBytes]
    omega
  have e11 : byteAt (reportPayload r) 11 = bit r.tripped := by
    cases h : r.tripped <;> simp [reportPayload, byteAt, beBytes, h, bit]
  have flag : decide (bit r.tripped % 2 = 1) = r.tripped := by cases r.tripped <;> rfl
  unfold readReport
  rw [payload]
  simp (disch := decide) only [fieldAt_pad32, byteAt_pad32, getD_pad32]
  rw [e0, e1, e3, e5, e6, e8, e9, e11, flag]
  exact if_pos ⟨top, level⟩

/-- The four flags of a motion sample (R46). -/
theorem sampleFlags (w x y z : Bool) :
    let flags := (bit w * 8 + bit x * 4 + bit y * 2 + bit z) % 256
    decide (flags / 8 % 2 = 1) = w ∧ decide (flags / 4 % 2 = 1) = x ∧ decide (flags / 2 % 2 = 1) = y ∧
      decide (flags % 2 = 1) = z := by
  cases w <;> cases x <;> cases y <;> cases z <;> decide

/-- A 16-bit field reads back as its bits (section 2.8). -/
theorem ofNat_be2 (x : BitVec 16) : BitVec.ofNat 16 (x.toNat / 256 % 256 * 256 + x.toNat % 256) = x := by
  have short : x.toNat < 65536 := x.isLt
  rw [show x.toNat / 256 % 256 * 256 + x.toNat % 256 = x.toNat by omega, BitVec.ofNat_toNat, BitVec.setWidth_eq]

/-- Motion samples (R46). -/
theorem readSample_mkCell (src : Station) (dst : Dest) (flow : BitVec 3) (q : Seq) (start : Bool) (x : Sample) :
    readSample (mkCell .data src dst flow q start (samplePayload x)) = x := by
  have payload : (mkCell .data src dst flow q start (samplePayload x)).payload = pad32 (samplePayload x) := rfl
  have number : fieldAt (samplePayload x) 0 2 = x.number.toNat / 256 % 256 * 256 + x.number.toNat % 256 := by
    simp [samplePayload, fieldAt, byteAt, beBytes]
  have time : fieldAt (samplePayload x) 2 4 = x.time.toNat := by
    have long : x.time.toNat < 4294967296 := x.time.isLt
    simp [samplePayload, fieldAt, byteAt, beBytes]
    omega
  have flags : byteAt (samplePayload x) 6 = (bit x.doze * 8 + bit x.unsettled * 4 + bit x.lapse * 2 + bit x.restart) % 256 := by
    simp [samplePayload, byteAt, beBytes]
  have gx : fieldAt (samplePayload x) 8 2 = x.axes.gx.toNat / 256 % 256 * 256 + x.axes.gx.toNat % 256 := by
    simp [samplePayload, fieldAt, byteAt, beBytes]
  have gy : fieldAt (samplePayload x) 10 2 = x.axes.gy.toNat / 256 % 256 * 256 + x.axes.gy.toNat % 256 := by
    simp [samplePayload, fieldAt, byteAt, beBytes]
  have gz : fieldAt (samplePayload x) 12 2 = x.axes.gz.toNat / 256 % 256 * 256 + x.axes.gz.toNat % 256 := by
    simp [samplePayload, fieldAt, byteAt, beBytes]
  have ax : fieldAt (samplePayload x) 14 2 = x.axes.ax.toNat / 256 % 256 * 256 + x.axes.ax.toNat % 256 := by
    simp [samplePayload, fieldAt, byteAt, beBytes]
  have ay : fieldAt (samplePayload x) 16 2 = x.axes.ay.toNat / 256 % 256 * 256 + x.axes.ay.toNat % 256 := by
    simp [samplePayload, fieldAt, byteAt, beBytes]
  have az : fieldAt (samplePayload x) 18 2 = x.axes.az.toNat / 256 % 256 * 256 + x.axes.az.toNat % 256 := by
    simp [samplePayload, fieldAt, byteAt, beBytes]
  obtain ⟨doze, unsettled, lapse, restart⟩ := sampleFlags x.doze x.unsettled x.lapse x.restart
  unfold readSample
  rw [payload]
  simp (disch := decide) only [fieldAt_pad32, byteAt_pad32]
  rw [number, time, flags, gx, gy, gz, ax, ay, az, doze, unsettled, lapse, restart]
  simp only [ofNat_be2, BitVec.ofNat_toNat, BitVec.setWidth_eq]

/-! #### Audio blocks -/

/-- The number that the three bytes of a signed sample spell (section 2.8). -/
def threeBytes (v : Int) : Nat :=
  ((v % 16777216).toNat / 65536 % 256 * 256 + (v % 16777216).toNat / 256 % 256) * 256 + (v % 16777216).toNat % 256

/-- A signed sample of 24 bits reads back from its three bytes (section 2.8). -/
theorem signedOf_threeBytes {v : Int} (low : -8388608 ≤ v) (high : v ≤ 8388607) : signedOf 24 (threeBytes v) = v := by
  have whole : threeBytes v = (v % 16777216).toNat := by
    unfold threeBytes
    omega
  rw [whole]
  unfold signedOf
  rw [BitVec.toInt_ofNat', Int.toNat_of_nonneg (by omega)]
  exact (Int.emod_bmod v 16777216).trans (Int.bmod_eq_of_le (by omega) (by omega))

/-- A sample in the layout's range (R46). -/
def Frame.InRange (two : Bool) (f : Frame) : Prop :=
  -8388608 ≤ f.ch1 ∧ f.ch1 ≤ 8388607 ∧ -8388608 ≤ f.ch2 ∧ f.ch2 ≤ 8388607 ∧ (two = false → f.ch2 = 0)

theorem Frame.InRange.two {f : Frame} (h : f.InRange true) :
    ({ ch1 := signedOf 24 (threeBytes f.ch1), ch2 := signedOf 24 (threeBytes f.ch2) } : Frame) = f := by
  obtain ⟨low, high, low', high', -⟩ := h
  rw [signedOf_threeBytes low high, signedOf_threeBytes low' high']

theorem Frame.InRange.one {f : Frame} (h : f.InRange false) :
    ({ ch1 := signedOf 24 (threeBytes f.ch1), ch2 := 0 } : Frame) = f := by
  obtain ⟨low, high, -, -, zero⟩ := h
  rw [signedOf_threeBytes low high, ← zero rfl]

/-- Audio blocks of one and of two channels (R46). -/
theorem readBlock_mkCell (src : Station) (dst : Dest) (flow : BitVec 3) (q : Seq) (start two : Bool) {b : Block}
    {f0 f1 f2 f3 : Frame} (frames : b.frames = [f0, f1, f2, f3]) (range : ∀ f ∈ b.frames, Frame.InRange two f) :
    readBlock (mkCell .data src dst flow q start (blockPayload two b)) two = some (b.number, b.frames) := by
  have payload : (mkCell .data src dst flow q start (blockPayload two b)).payload = pad32 (blockPayload two b) := rfl
  rw [frames] at range ⊢
  have first := range f0 (by simp)
  have second := range f1 (by simp)
  have third := range f2 (by simp)
  have fourth := range f3 (by simp)
  unfold readBlock readFrame
  rw [payload]
  cases two with
  | true =>
    simp (disch := decide) only [fieldAt_pad32, byteAt_pad32, getD_pad32]
    simp [blockPayload, frames, beSigned, beBytes, byteAt, fieldAt]
    exact ⟨first.two, second.two, third.two, fourth.two⟩
  | false =>
    simp (disch := decide) only [fieldAt_pad32, byteAt_pad32, getD_pad32]
    simp [blockPayload, frames, beSigned, beBytes, byteAt, fieldAt]
    exact ⟨first.one, second.one, third.one, fourth.one⟩

/-! #### Picture cells -/

/-- A payload of at most 32 bytes, padded (R46). -/
theorem pad32_of_short {bs : List Byte} (h : bs.length ≤ 32) : pad32 bs = bs ++ List.replicate (32 - bs.length) 0 := by
  unfold pad32
  rw [List.take_append, List.take_of_length_le h, List.take_replicate, min_eq_left (by omega)]

/-- The four bytes before a first cell's slice data (R46). -/
def headBytes (r : SliceRec) : List Byte :=
  beBytes 1 r.picture.toNat ++ beBytes 1 (r.index.toNat * 4 + Layer.code r.layer) ++ beBytes 2 r.length

theorem headBytes_length (r : SliceRec) : (headBytes r).length = 4 := by simp [headBytes]

theorem slicePayload_of_first {r : SliceRec} (h : r.sent = 0) : slicePayload r = headBytes r ++ r.data.take 28 := if_pos h

theorem slicePayload_of_next {r : SliceRec} (h : 1 ≤ r.sent) :
    slicePayload r = (r.data.drop (28 + 32 * (r.sent - 1))).take 32 :=
  if_neg (by omega)

theorem layerOf_code (k : Layer) : layerOf (Layer.code k) = some k := by cases k <;> rfl

theorem layerCode_lt (k : Layer) : Layer.code k < 3 := by cases k <;> decide

/-- A first cell (R93, R46). -/
theorem readHead_mkCell (src : Station) (dst : Dest) (flow : BitVec 3) (q : Seq) (start : Bool) {r : SliceRec}
    (first : r.sent = 0) (short : r.length ≤ 4096) :
    readHead (mkCell .data src dst flow q start (slicePayload r)) =
      some { picture := r.picture, index := r.index, layer := r.layer, length := r.length } := by
  have payload : (mkCell .data src dst flow q start (slicePayload r)).payload = pad32 (headBytes r ++ r.data.take 28) := by
    rw [← slicePayload_of_first first]
    rfl
  have small : r.index.toNat < 64 := r.index.isLt
  have code := layerCode_lt r.layer
  have length := headBytes_length r
  have picture : (pad32 (headBytes r ++ r.data.take 28)).getD 0 0 = r.picture := by
    rw [getD_pad32 _ (by decide)]
    simp [headBytes, beBytes]
  have tags : byteAt (pad32 (headBytes r ++ r.data.take 28)) 1 = r.index.toNat * 4 + Layer.code r.layer := by
    rw [byteAt_pad32 _ (by decide), byteAt_append_left (by omega)]
    simp [headBytes, beBytes, byteAt]
    omega
  have size : fieldAt (pad32 (headBytes r ++ r.data.take 28)) 2 2 = r.length := by
    rw [fieldAt_pad32 _ (by decide), fieldAt_append_left (by omega)]
    simp [headBytes, beBytes, byteAt, fieldAt]
    omega
  unfold readHead sliceLength
  rw [payload, picture, tags, size, show (r.index.toNat * 4 + Layer.code r.layer) % 4 = Layer.code r.layer by omega,
    show (r.index.toNat * 4 + Layer.code r.layer) / 4 = r.index.toNat by omega, Nat.mod_eq_of_lt (by omega), layerOf_code]
  simp [short]

/-- A padded payload holds its bytes and zeros behind them (R46). -/
theorem pad32_tail {bs : List Byte} (h : bs.length ≤ 32) :
    (pad32 bs).take bs.length = bs ∧ ∀ b ∈ (pad32 bs).drop bs.length, b = 0 := by
  rw [pad32_of_short h]
  refine ⟨by simp, fun b mem => ?_⟩
  rw [List.drop_left] at mem
  exact List.eq_of_mem_replicate mem

/-- Behind a header the bytes and the zeros stand as without it. -/
theorem pad32_drop {a bs : List Byte} (h : a.length + bs.length ≤ 32) :
    ((pad32 (a ++ bs)).drop a.length).take bs.length = bs ∧ ∀ b ∈ (pad32 (a ++ bs)).drop (a.length + bs.length), b = 0 := by
  rw [pad32_of_short (by rw [List.length_append]; exact h), List.append_assoc]
  refine ⟨by simp, fun b mem => ?_⟩
  rw [← List.append_assoc, ← List.length_append, List.drop_left] at mem
  exact List.eq_of_mem_replicate mem

/-! #### CONTROL and RELAY cells -/

/-- A CONTROL cell of a subtype reads as that subtype alone (R46). -/
theorem control_reads (own target : Station) (sub : Byte) (rest : List Byte) :
    let c := mkCell .control own (.to target) 0 0 true (sub :: rest)
    checkOk c = true ∧ c.src = own ∧ c.dst = .to target ∧ c.start = true ∧ isControl target c sub.toNat = true ∧
      ∀ n, isControl target c n = true → n = sub.toNat := by
  intro c
  have payload : c.payload = pad32 (sub :: rest) := rfl
  have code : byteAt c.payload 0 = sub.toNat := by
    rw [payload, byteAt_pad32 _ (by decide)]
    rfl
  refine ⟨checkOk_mkCell _ _ _ _ _ _ _, rfl, rfl, rfl, ?_, fun n h => ?_⟩
  · unfold isControl
    rw [code]
    simp [c, mkCell, sealCell, addressed]
  · unfold isControl at h
    rw [code] at h
    rw [Bool.and_eq_true, beq_iff_eq] at h
    exact h.2.symm

/-- A time behind subtype and token reads back (R46). -/
theorem delayField_reads (sub k : Byte) {v : Nat} (h : v < 4294967296) : fieldAt ([sub, k] ++ beBytes 4 v) 2 4 = v := by
  have behind : fieldAt ([sub, k] ++ beBytes 4 v) 2 4 = fieldAt (beBytes 4 v) 0 4 := fieldAt_append_right (a := [sub, k]) le_rfl
  rw [behind, fieldAt_beBytes]
  exact Nat.mod_eq_of_lt h

/-- RELAY cells (R46, R194). -/
theorem readRelay_ctlCell (own t : Station) (slot : Nat) (answer : Bool) {i n : Nat} (tag : Num8) {bytes : List Byte}
    (most : n ≤ 4) (inside : i < n) (some_ : 1 ≤ bytes.length) (short : bytes.length ≤ 28) :
    readRelay (ctlCell own slot (.relay t answer i tag n bytes)) =
      some { answer := answer, index := i, tag := tag, count := n, bytes := bytes } := by
  let head := [BitVec.ofNat 8 (bit answer * 128 + i), tag, BitVec.ofNat 8 n, BitVec.ofNat 8 bytes.length]
  have payload : (ctlCell own slot (.relay t answer i tag n bytes)).payload = pad32 (head ++ bytes) := rfl
  have first : byteAt (pad32 (head ++ bytes)) 0 = bit answer * 128 + i := by
    rw [byteAt_pad32 _ (by decide), byteAt_append_left (by simp [head])]
    cases answer <;> simp [head, byteAt, bit] <;> omega
  have second : (pad32 (head ++ bytes)).getD 1 0 = tag := by
    rw [getD_pad32 _ (by decide)]
    simp [head]
  have third : byteAt (pad32 (head ++ bytes)) 2 = n := by
    rw [byteAt_pad32 _ (by decide), byteAt_append_left (by simp [head])]
    simp [head, byteAt]
    omega
  have fourth : byteAt (pad32 (head ++ bytes)) 3 = bytes.length := by
    rw [byteAt_pad32 _ (by decide), byteAt_append_left (by simp [head])]
    simp [head, byteAt]
    omega
  have tail : ((pad32 (head ++ bytes)).drop 4).take bytes.length = bytes :=
    (pad32_drop (a := head) (bs := bytes) (by simp only [head, List.length_cons, List.length_nil]; omega)).1
  have index : (bit answer * 128 + i) % 16 = i := by cases answer <;> simp [bit] <;> omega
  have flag : decide ((bit answer * 128 + i) / 128 = 1) = answer := by
    cases answer
    · exact decide_eq_false (by simp [bit]; omega)
    · exact decide_eq_true (by simp [bit]; omega)
  unfold readRelay
  rw [payload, first, second, third, fourth]
  dsimp only
  rw [index, flag, tail]
  exact if_pos ⟨by omega, most, inside, some_, short⟩

theorem eyeOf_eyeField (e : Eye) : eyeOf (eyeField e) = some e := by cases e <;> rfl

theorem ok_ctlCell (own : Station) (slot : Nat) (c : Ctl) : checkOk (ctlCell own slot c) = true := by
  cases c <;> exact checkOk_mkCell _ _ _ _ _ _ _

/-- Settles O55, layout by layout. -/
theorem cellLayoutsReadBack : Obligations.CellLayoutsReadBack := by
  refine ⟨fun own i => ⟨checkOk_mkCell _ _ _ _ _ _ _, readAlign_alignCell own i⟩,
    fun own slot e n ar o p x y z har ho low high => ⟨?_, ?_⟩, fun own slot serial r draw waiting top offer level rail => ?_,
    fun src dst q x => ⟨checkOk_mkCell _ _ _ _ _ _ _, readSample_mkCell src dst 2 q true x⟩,
    fun src dst flow q two b f0 f1 f2 f3 frames range =>
      ⟨checkOk_mkCell _ _ _ _ _ _ _, readBlock_mkCell src dst flow q true two frames range⟩,
    fun src dst flow q r first short whole => ?_, fun src dst flow q => ⟨checkOk_mkCell _ _ _ _ _ _ _, rfl, ?_⟩,
    fun src dst flow q r next whole more => ?_, fun own far slot takenAt k d quieter b => ?_,
    fun own t slot answer i n tag bytes least most inside some_ short => ?_⟩
  · exact ⟨ok_ctlCell _ _ _, rfl, rfl, eyeOf_eyeField e, readRate_mkCell _ _ _ _ _ _ n false false false har ho low high⟩
  · exact ⟨ok_ctlCell _ _ _, rfl, rfl, eyeOf_eyeField e, readRate_mkCell _ _ _ _ _ _ n x y z har ho low high⟩
  · exact ⟨ok_ctlCell _ _ _, rfl, rfl, readReport_mkCell _ _ _ _ _ draw waiting top offer level rail⟩
  · have length : (r.data.take 28).length = min 28 r.length := by rw [List.length_take, whole]
    have tail := pad32_drop (a := headBytes r) (bs := r.data.take 28) (by rw [headBytes_length, length]; omega)
    rw [headBytes_length, length, ← slicePayload_of_first first] at tail
    exact ⟨checkOk_mkCell _ _ _ _ _ _ _, rfl, pad32_length _, readHead_mkCell src dst flow q true first short, tail⟩
  · show fieldAt (pad32 []) 2 2 % 8192 = 0
    rw [fieldAt_pad32 _ (by decide)]
    rfl
  · have length : ((r.data.drop (28 + 32 * (r.sent - 1))).take 32).length = min 32 (r.length - (28 + 32 * (r.sent - 1))) := by
      rw [List.length_take, List.length_drop, whole]
    have tail := pad32_tail (bs := (r.data.drop (28 + 32 * (r.sent - 1))).take 32) (by rw [length]; omega)
    rw [length] at tail
    refine ⟨checkOk_mkCell _ _ _ _ _ _ _, rfl, pad32_length _, ?_⟩
    rw [slicePayload_of_next next]
    exact tail
  · have back {c : Cell} {x : Station} {n : Nat} {q : Prop} (h : checkOk c = true ∧ c.src = own ∧ c.dst = .to x ∧ c.start = true ∧
        isControl x c n = true ∧ ∀ k, isControl x c k = true → k = n) (hq : q) :
        checkOk c = true ∧ c.src = own ∧ c.dst = .to x ∧ c.start = true ∧ isControl x c n = true ∧
          (∀ k, isControl x c k = true → k = n) ∧ q := by
      tauto
    refine ⟨back (control_reads own far 1 [k]) ?_, fun later wait => back (control_reads own .console 2 _) ?_,
      back (control_reads own far 3 _) ?_, back (control_reads own .console 4 []) trivial,
      back (control_reads own far 5 _) ?_, back (control_reads own .console 6 _) ?_, back (control_reads own far 7 []) trivial⟩
    · exact getD_pad32 [1, k] (by decide)
    · show (pad32 _).getD 1 0 = k ∧ fieldAt (pad32 _) 2 4 = _
      rw [getD_pad32 _ (by decide), fieldAt_pad32 _ (by decide)]
      exact ⟨rfl, delayField_reads 2 k wait⟩
    · show (pad32 _).getD 1 0 = k ∧ fieldAt (pad32 _) 2 4 = _
      rw [getD_pad32 _ (by decide), fieldAt_pad32 _ (by decide)]
      exact ⟨rfl, delayField_reads 3 k d.isLt⟩
    · cases quieter <;> exact byteAt_pad32 _ (by decide)
    · cases b <;> exact byteAt_pad32 _ (by decide)
  · exact ⟨ok_ctlCell _ _ _, rfl, rfl, readRelay_ctlCell own t slot answer tag most inside some_ short⟩

end Sys2Proof.Machine

namespace Sys2Proof.Machine

/-! ### Reassembly of a slice (R99 to R103) -/

/-- A flow counter's step where it counts (R64). -/
def State.adds (s : State) (b : Bool) (v : Nat) : Nat := if s.running ∧ b = true then min (v + 1) 65535 else v

/-- What a cell makes of an eye's reassembly: its state, its buffer, and what was broken, refused or misrouted. -/
def State.reassembled (s : State) (e : Eye) (r : Reasm) (q : List BufRec) (broken refused misrouted : Bool) : State :=
  { s with
    eyes := s.eyes.set e { s.eyes.get e with reasm := r, buffer := q },
    counters :=
      s.counters.set (Eye.flow e)
        { s.counters.get (Eye.flow e) with
          breaks := s.adds broken (s.counters.get (Eye.flow e)).breaks,
          refusals := s.adds refused (s.counters.get (Eye.flow e)).refusals,
          misrouted := s.adds misrouted (s.counters.get (Eye.flow e)).misrouted } }

section
variable {s : State} {e : Eye}

theorem State.adds_of_running (running : s.running) (b : Bool) (v : Nat) : s.adds b v = if b then min (v + 1) 65535 else v := by
  unfold State.adds
  exact if_congr (and_iff_right running) rfl rfl

theorem State.adds_of_not_running (idle : ¬s.running) (b : Bool) (v : Nat) : s.adds b v = v := if_neg fun h => idle h.1

theorem State.adds_false (s : State) (v : Nat) : s.adds false v = v := if_neg (by nofun)

/-- Nothing happens to an eye whose state and buffer stay. -/
theorem State.reassembled_same (s : State) (e : Eye) :
    s.reassembled e (s.eyes.get e).reasm (s.eyes.get e).buffer false false false = s := by
  unfold State.reassembled
  simp only [State.adds_false]
  show ({ s with eyes := s.eyes.set e (s.eyes.get e), counters := s.counters.set (Eye.flow e) (s.counters.get (Eye.flow e)) } :
    State) = s
  rw [PerEye.set_get, PerFlow.set_get]

/-- A further change of the eye alone. -/
theorem State.reassembled_modEye (s : State) (e : Eye) (r : Reasm) (q : List BufRec) (b x y : Bool) (f : EyeDst → EyeDst)
    (r' : Reasm) (q' : List BufRec)
    (h : f { s.eyes.get e with reasm := r, buffer := q } = { s.eyes.get e with reasm := r', buffer := q' }) :
    (s.reassembled e r q b x y).modEye e f = s.reassembled e r' q' b x y := by
  simp [State.reassembled, State.modEye, h]

theorem State.reassembled_refused (s : State) (e : Eye) (r : Reasm) (q : List BufRec) (b : Bool) :
    ((s.reassembled e r q b false false).count (Eye.flow e) fun c => { c with refusals := satInc c.refusals }) =
      s.reassembled e r q b true false := by
  rw [State.count_set]
  unfold State.reassembled
  dsimp only
  by_cases running : s.running
  · rw [if_pos running]
    simp only [State.adds_of_running running, PerFlow.get_set_self, PerFlow.set_set, satInc]
    rfl
  · rw [if_neg running]
    simp only [State.adds_of_not_running running, PerFlow.get_set_self, PerFlow.set_set]

theorem State.reassembled_misrouted (s : State) (e : Eye) (r : Reasm) (q : List BufRec) (b : Bool) :
    ((s.reassembled e r q b false false).count (Eye.flow e) fun c => { c with misrouted := satInc c.misrouted }) =
      s.reassembled e r q b false true := by
  rw [State.count_set]
  unfold State.reassembled
  dsimp only
  by_cases running : s.running
  · rw [if_pos running]
    simp only [State.adds_of_running running, PerFlow.get_set_self, PerFlow.set_set, satInc]
    rfl
  · rw [if_neg running]
    simp only [State.adds_of_not_running running, PerFlow.get_set_self, PerFlow.set_set]

theorem State.reassembled_broke (s : State) (e : Eye) (r : Reasm) (q : List BufRec) :
    ((s.reassembled e r q false false false).count (Eye.flow e) fun c => { c with breaks := satInc c.breaks }) =
      s.reassembled e r q true false false := by
  rw [State.count_set]
  unfold State.reassembled
  dsimp only
  by_cases running : s.running
  · rw [if_pos running]
    simp only [State.adds_of_running running, PerFlow.get_set_self, PerFlow.set_set, satInc]
    rfl
  · rw [if_neg running]
    simp only [State.adds_of_not_running running, PerFlow.get_set_self, PerFlow.set_set]

/-- What is left of a buffer when its slice being filled, where there is one, is broken (R102). -/
def EyeDst.unbroken (x : EyeDst) (broken : Bool) : List BufRec :=
  if broken then x.buffer.filter fun b => b.complete else x.buffer

theorem State.breakEye_eq (s : State) (e : Eye) :
    s.breakEye e =
      s.reassembled e .skipping ((s.eyes.get e).unbroken (decide ((s.eyes.get e).reasm = .filling)))
        (decide ((s.eyes.get e).reasm = .filling)) false false := by
  have same := s.reassembled_same e
  unfold State.breakEye EyeDst.unbroken
  by_cases filling : (s.eyes.get e).reasm = .filling
  · have cleared : (s.modEye e fun x => { x with reasm := .skipping, buffer := x.buffer.filter fun r => r.complete }) =
        s.reassembled e .skipping ((s.eyes.get e).buffer.filter fun r => r.complete) false false false := by
      conv_lhs => rw [← same]
      exact State.reassembled_modEye _ _ _ _ _ _ _ _ _ _ rfl
    rw [if_pos filling, decide_eq_true filling, cleared]
    exact State.reassembled_broke _ _ _ _
  · rw [if_neg filling, decide_eq_false filling]
    conv_lhs => rw [← same]
    exact State.reassembled_modEye _ _ _ _ _ _ _ _ _ _ rfl

theorem State.reassembled_eye (s : State) (e : Eye) (r : Reasm) (q : List BufRec) (b x y : Bool) :
    (s.reassembled e r q b x y).eyes.get e = { s.eyes.get e with reasm := r, buffer := q } := by
  simp [State.reassembled]

/-- The state in which a cell with its start bit is judged: what was being filled is broken, by the gap or by the start bit
(R102, R103). -/
theorem State.broken_of_start (s : State) (e : Eye) (gap : Bool) :
    let s' := if gap then s.breakEye e else s
    (if (s'.eyes.get e).reasm = .filling then s'.breakEye e else s') =
      s.reassembled e (if gap = true ∨ (s.eyes.get e).reasm = .filling then .skipping else (s.eyes.get e).reasm)
        ((s.eyes.get e).unbroken (decide ((s.eyes.get e).reasm = .filling))) (decide ((s.eyes.get e).reasm = .filling)) false
        false := by
  intro s'
  cases gap with
  | true =>
    have is : s' = s.breakEye e := rfl
    rw [is, State.breakEye_eq, State.reassembled_eye]
    rfl
  | false =>
    have is : s' = s := rfl
    rw [is]
    by_cases filling : (s.eyes.get e).reasm = .filling
    · rw [if_pos filling, State.breakEye_eq, if_pos (.inr filling)]
    · rw [if_neg filling, if_neg (by simpa using filling), decide_eq_false filling]
      exact (s.reassembled_same e).symm

/-- A cell without the start bit that follows a gap, or comes where nothing is filled, is discarded (R101, R102). -/
theorem State.takePictureCell_of_discard {c : Cell} (start : c.start = false) (gap : Bool)
    (stray : gap = true ∨ (s.eyes.get e).reasm ≠ .filling) :
    s.takePictureCell e gap c =
      s.reassembled e (if gap then .skipping else (s.eyes.get e).reasm)
        ((s.eyes.get e).unbroken (decide ((s.eyes.get e).reasm = .filling ∧ gap = true)))
        (decide ((s.eyes.get e).reasm = .filling ∧ gap = true)) false false := by
  unfold State.takePictureCell
  dsimp only
  rw [if_pos start]
  cases gap with
  | true =>
    have skips : ¬((s.breakEye e).eyes.get e).reasm = .filling := by
      rw [State.breakEye_eq, State.reassembled_eye]
      nofun
    rw [if_pos rfl, if_neg skips, State.breakEye_eq]
    simp
  | false =>
    have idle := stray.resolve_left Bool.false_ne_true
    rw [if_neg Bool.false_ne_true, if_neg idle]
    simp only [Bool.false_eq_true, and_false, decide_false]
    exact (s.reassembled_same e).symm

/-- END (R103). -/
theorem State.takePictureCell_of_end {c : Cell} (start : c.start = true) (none : sliceLength c = 0) (gap : Bool) :
    s.takePictureCell e gap c =
      s.reassembled e .waitStart ((s.eyes.get e).unbroken (decide ((s.eyes.get e).reasm = .filling)))
        (decide ((s.eyes.get e).reasm = .filling)) false false := by
  have ends : s.takePictureCell e gap c = (if gap then s.breakEye e else s).endCell e :=
    (if_neg (by rw [start]; nofun)).trans (if_pos none)
  rw [ends]
  unfold State.endCell
  dsimp only
  rw [State.broken_of_start]
  exact State.reassembled_modEye _ _ _ _ _ _ _ _ _ _ rfl

/-- A first cell that is out of range (R103, R46). -/
theorem State.takePictureCell_of_misrouted {c : Cell} (start : c.start = true) (some_ : sliceLength c ≠ 0)
    (bad : readHead c = none) (gap : Bool) :
    s.takePictureCell e gap c =
      s.reassembled e .skipping ((s.eyes.get e).unbroken (decide ((s.eyes.get e).reasm = .filling)))
        (decide ((s.eyes.get e).reasm = .filling)) false true := by
  have starts : s.takePictureCell e gap c = (if gap then s.breakEye e else s).startCell e c :=
    (if_neg (by rw [start]; nofun)).trans (if_neg some_)
  rw [starts]
  unfold State.startCell
  dsimp only
  rw [State.broken_of_start, bad]
  dsimp only
  rw [State.reassembled_modEye _ _ _ _ _ _ _ _ .skipping _ rfl]
  exact State.reassembled_misrouted _ _ _ _ _

theorem State.takePictureCell_of_head {c : Cell} {h : SliceHead} (start : c.start = true) (some_ : sliceLength c ≠ 0)
    (head : readHead c = some h) (gap : Bool) :
    s.takePictureCell e gap c =
      (s.reassembled e (if gap = true ∨ (s.eyes.get e).reasm = .filling then .skipping else (s.eyes.get e).reasm)
        ((s.eyes.get e).unbroken (decide ((s.eyes.get e).reasm = .filling))) (decide ((s.eyes.get e).reasm = .filling)) false
        false).judgeFirst e h c := by
  have starts : s.takePictureCell e gap c = (if gap then s.breakEye e else s).startCell e c :=
    (if_neg (by rw [start]; nofun)).trans (if_neg some_)
  rw [starts]
  unfold State.startCell
  dsimp only
  rw [State.broken_of_start, head]

theorem staleFirst_iff (p : Num8) (n : Option Num8) :
    staleFirst p n = true ↔ ¬∀ m, n = some m → newer p (m - 1) = true := by
  cases n <;> simp [staleFirst]

/-- A first cell that is stale or has no room (R100). -/
theorem State.judgeFirst_of_refused {q : List BufRec} {r : Reasm} {b : Bool} {h : SliceHead} (c : Cell)
    (refused : ¬((∀ m, (s.eyes.get e).lastTaken = some m → newer h.picture (m - 1) = true) ∧
      reserved q + sliceCells h.length ≤ 1024 ∧ q.length ≤ 63)) :
    (s.reassembled e r q b false false).judgeFirst e h c = s.reassembled e .skipping q b true false := by
  have fails : staleFirst h.picture ((s.reassembled e r q b false false).eyes.get e).lastTaken = true ∨
      hasRoom (sliceCells h.length) (reserved ((s.reassembled e r q b false false).eyes.get e).buffer)
        ((s.reassembled e r q b false false).eyes.get e).buffer.length = false := by
    rw [State.reassembled_eye]
    dsimp only
    rw [← Bool.not_eq_true, hasRoom_iff, staleFirst_iff, ← not_and_or]
    exact refused
  refine (if_pos fails).trans ?_
  rw [State.reassembled_modEye _ _ _ _ _ _ _ _ .skipping q rfl]
  exact State.reassembled_refused _ _ _ _ _

/-- A first cell that makes its record (R99 to R101). -/
theorem State.judgeFirst_of_room {q : List BufRec} {r : Reasm} {b : Bool} {h : SliceHead} (c : Cell)
    (low : s.pins.displayReady.get e = false) (fresh : ∀ m, (s.eyes.get e).lastTaken = some m → newer h.picture (m - 1) = true)
    (room : reserved q + sliceCells h.length ≤ 1024 ∧ q.length ≤ 63) :
    (s.reassembled e r q b false false).judgeFirst e h c =
      s.reassembled e (if sliceCells h.length = 1 then .waitStart else .filling) (q ++ [firstRecord h c]) b false false := by
  have passes : ¬(staleFirst h.picture ((s.reassembled e r q b false false).eyes.get e).lastTaken = true ∨
      hasRoom (sliceCells h.length) (reserved ((s.reassembled e r q b false false).eyes.get e).buffer)
        ((s.reassembled e r q b false false).eyes.get e).buffer.length = false) := by
    rw [State.reassembled_eye]
    dsimp only
    rw [← Bool.not_eq_true, hasRoom_iff, staleFirst_iff, ← not_and_or, not_not]
    exact ⟨fresh, room⟩
  refine (if_neg passes).trans ?_
  rw [State.reassembled_modEye _ _ _ _ _ _ _ _ (if sliceCells h.length = 1 then .waitStart else .filling)
    (q ++ [firstRecord h c]) (by simp [firstRecord])]
  exact State.considerRelease_of_low low

end

end Sys2Proof.Machine

namespace Sys2Proof.Machine

/-! ### DATA cells of the picture flows at HEADSET (R58 to R60, R99 to R103) -/

section
variable {s : State} {e : Eye}

theorem State.planned_picture {c : Cell} (headset : s.station = .headset) (dst : c.dst = .to .headset) (src : c.src = .console)
    (e : Eye) : s.planned (Eye.flow e) c = true := by
  rw [State.planned_iff, headset]
  cases e <;> exact ⟨dst, rfl, src⟩

/-- A DATA cell of a LISTENING picture record reaches reassembly once its number is checked (R59). -/
theorem exec_dataCellTaken_of_picture {l : Lane} {c : Cell} {n : Option Seq} (live : s.live) (headset : s.station = .headset)
    (handed : (s.rx.get l).handed.head? = some c) (kind : c.kind = .data) (dst : c.dst = .to .headset) (src : c.src = .console)
    (flow : flowOf c.flow = some (Eye.flow e)) (record : s.dst.get (Eye.flow e) = some ⟨.listening, n⟩) :
    exec (.dataCellTaken l c) s =
      .next (((s.taken l c).sequenced (Eye.flow e) n c).takePictureCell e (gapBefore n c) c) := by
  have plan : (s.taken l c).planned (Eye.flow e) c = true := State.planned_picture headset dst src e
  rw [exec_dataCellTaken live handed kind (.inl (by rw [headset]; exact dst)), State.takeData_of_listening flow plan record]
  cases e <;> rfl

/-- A state whose reassembly took a cell of the given fate, with the sequence check counted (R59, R64). -/
def State.afterCell (s : State) (l : Lane) (c : Cell) (e : Eye) (gap : Bool) (r : Reasm) (q : List BufRec)
    (broken refused misrouted : Bool) : State :=
  { s.taken l c with
    dst := s.dst.set (Eye.flow e) (some ⟨.listening, some (c.seq + 1)⟩),
    eyes := s.eyes.set e { s.eyes.get e with reasm := r, buffer := q },
    counters :=
      s.counters.set (Eye.flow e)
        { s.counters.get (Eye.flow e) with
          gaps := s.adds gap (s.counters.get (Eye.flow e)).gaps, breaks := s.adds broken (s.counters.get (Eye.flow e)).breaks,
          refusals := s.adds refused (s.counters.get (Eye.flow e)).refusals,
          misrouted := s.adds misrouted (s.counters.get (Eye.flow e)).misrouted } }

theorem State.checked_eq (s : State) (f : FlowId) (n : Option Seq) (c : Cell) :
    s.checked f n c =
      { s.counters.get f with gaps := s.adds (decide (n.isSome = true ∧ n ≠ some c.seq)) (s.counters.get f).gaps } := by
  unfold State.checked State.adds
  simp only [decide_eq_true_eq]

theorem State.sequenced_reassembled (s : State) (l : Lane) (c : Cell) (n : Option Seq) (r : Reasm) (q : List BufRec)
    (b x y : Bool) :
    ((s.taken l c).sequenced (Eye.flow e) n c).reassembled e r q b x y =
      s.afterCell l c e (decide (n.isSome = true ∧ n ≠ some c.seq)) r q b x y := by
  unfold State.reassembled State.sequenced State.afterCell
  rw [State.checked_eq]
  dsimp only
  rw [PerFlow.get_set_self, PerFlow.set_set]
  rfl

theorem State.adds_congr {t : State} (h : t.start = s.start) (b : Bool) (v : Nat) : t.adds b v = s.adds b v := by
  refine if_congr ?_ rfl rfl
  show t.start = .running ∧ _ ↔ s.start = .running ∧ _
  rw [h]

/-! #### The loss of the lane (R60, R102) -/

theorem State.losePicture_of_listening {n : Option Seq} (record : s.dst.get (Eye.flow e) = some ⟨.listening, n⟩) :
    (s.losePicture e).eyes.get e =
        { s.eyes.get e with
          reasm := .skipping, buffer := (s.eyes.get e).unbroken (decide ((s.eyes.get e).reasm = .filling)) } ∧
      (s.losePicture e).counters.get (Eye.flow e) =
        { s.counters.get (Eye.flow e) with
          breaks := s.adds (decide ((s.eyes.get e).reasm = .filling)) (s.counters.get (Eye.flow e)).breaks } := by
  have listens : s.listening (Eye.flow e) = true := by simp [State.listening, record]
  unfold State.losePicture
  rw [if_pos listens, State.breakEye_eq]
  have eyes : (s.forgetSeq (Eye.flow e)).eyes = s.eyes := by simp
  have counters : (s.forgetSeq (Eye.flow e)).counters = s.counters := by simp
  have adds (b : Bool) (v : Nat) : (s.forgetSeq (Eye.flow e)).adds b v = s.adds b v := State.adds_congr (by simp) b v
  unfold State.reassembled
  dsimp only
  rw [PerEye.get_set_self, PerFlow.get_set_self, eyes, counters]
  simp only [adds, State.adds_false, and_self]

/-- The other eye's loss is none of this one's. -/
theorem State.losePicture_other {k : Eye} (h : k ≠ e) (s : State) :
    (s.losePicture k).eyes.get e = s.eyes.get e ∧ (s.losePicture k).counters.get (Eye.flow e) = s.counters.get (Eye.flow e) ∧
      (s.losePicture k).dst.get (Eye.flow e) = s.dst.get (Eye.flow e) ∧ (s.losePicture k).start = s.start := by
  have flows : Eye.flow e ≠ Eye.flow k := by revert h; cases e <;> cases k <;> simp [Eye.flow]
  refine ⟨?_, ?_, ?_, by simp⟩
  · unfold State.losePicture
    split
    · rw [State.breakEye_eq]
      simp [State.reassembled, PerEye.get_set_of_ne _ (Ne.symm h)]
    · rfl
  · unfold State.losePicture
    split
    · rw [State.breakEye_eq]
      simp [State.reassembled, PerFlow.get_set, flows]
    · rfl
  · rw [State.losePicture_dst, State.forgetSeq_dst, if_neg fun x => flows x.1]

theorem State.loseLane_down_eye {n : Option Seq} (record : s.dst.get (Eye.flow e) = some ⟨.listening, n⟩) :
    (s.loseLane .down).eyes.get e =
        { s.eyes.get e with
          reasm := .skipping, buffer := (s.eyes.get e).unbroken (decide ((s.eyes.get e).reasm = .filling)) } ∧
      (s.loseLane .down).counters.get (Eye.flow e) =
        { s.counters.get (Eye.flow e) with
          breaks := s.adds (decide ((s.eyes.get e).reasm = .filling)) (s.counters.get (Eye.flow e)).breaks } := by
  have audio : (s.loseLane .down).eyes = ((s.losePicture .left).losePicture .right).eyes ∧
      (s.loseLane .down).counters = ((s.losePicture .left).losePicture .right).counters := by simp [State.loseLane]
  rw [audio.1, audio.2]
  cases e with
  | left =>
    obtain ⟨eye, counters, -, -⟩ := (s.losePicture .left).losePicture_other (e := .left) (k := .right) nofun
    rw [eye, counters]
    exact State.losePicture_of_listening record
  | right =>
    obtain ⟨eye, counters, dst, start⟩ := s.losePicture_other (e := .right) (k := .left) nofun
    have loses := State.losePicture_of_listening (s := s.losePicture .left) (e := .right) (n := n) (dst.trans record)
    rw [eye, counters, State.adds_congr start] at loses
    exact loses

/-- The loss of LOCKED does to an eye what the lane's loss does (R13). -/
theorem State.leaveLocked_down_eye {n : Option Seq} (record : s.dst.get (Eye.flow e) = some ⟨.listening, n⟩) (st : RxState)
    (owed : Option AlignInfo) :
    (s.leaveLocked .down st owed).dst.get (Eye.flow e) = some ⟨.listening, none⟩ ∧
      (s.leaveLocked .down st owed).eyes.get e =
        { s.eyes.get e with
          reasm := .skipping, buffer := (s.eyes.get e).unbroken (decide ((s.eyes.get e).reasm = .filling)) } ∧
      (s.leaveLocked .down st owed).counters.get (Eye.flow e) =
        { s.counters.get (Eye.flow e) with
          breaks := s.adds (decide ((s.eyes.get e).reasm = .filling)) (s.counters.get (Eye.flow e)).breaks } := by
  let t := (s.modRx .down fun r => r.lost st (s.laneCount .down (s.rx.get .down).relocks)).modTx .down fun t => t.loseLock owed
  have same : (s.leaveLocked .down st owed).eyes = (t.loseLane .down).eyes ∧
      (s.leaveLocked .down st owed).counters = (t.loseLane .down).counters := by
    unfold State.leaveLocked
    dsimp only
    split
    · exact ⟨by simp [State.postLane]; rfl, by simp [State.postLane]; rfl⟩
    · exact ⟨rfl, rfl⟩
  have loses := State.loseLane_down_eye (s := t) (e := e) (n := n) record
  rw [same.1, same.2, State.leaveLocked_dst_get]
  refine ⟨?_, loses⟩
  rw [record]
  exact if_pos ⟨by cases e <;> decide, rfl⟩

end

theorem firstRecord_eq (h : SliceHead) (c : Cell) :
    firstRecord h c =
      { picture := h.picture, index := h.index, layer := h.layer, length := h.length, expected := sliceCells h.length,
        received := 1, complete := decide (sliceCells h.length = 1), data := ((c.payload.drop 4).take 28).take h.length } := by
  unfold firstRecord
  rw [Bool.beq_eq_decide_eq]

/-- What O21 says of a loss of the down lane at an eye, of the state that it leaves. -/
theorem leaveLocked_breaks {s u : State} {e : Eye} {n : Option Seq} (record : s.dst.get (Eye.flow e) = some ⟨.listening, n⟩)
    (dst : u.dst = s.dst) (eyes : u.eyes = s.eyes) (counters : u.counters = s.counters) (start : u.start = s.start) (st : RxState)
    (owed : Option AlignInfo) :
    (u.leaveLocked .down st owed).dst.get (Eye.flow e) = some ⟨.listening, none⟩ ∧
      (u.leaveLocked .down st owed).eyes.get e =
        { s.eyes.get e with
          reasm := .skipping,
          buffer :=
            if (s.eyes.get e).reasm = .filling then (s.eyes.get e).buffer.filter fun b => b.complete
            else (s.eyes.get e).buffer } ∧
      (u.leaveLocked .down st owed).counters.get (Eye.flow e) =
        { s.counters.get (Eye.flow e) with
          breaks :=
            if s.running ∧ (s.eyes.get e).reasm = .filling then min ((s.counters.get (Eye.flow e)).breaks + 1) 65535
            else (s.counters.get (Eye.flow e)).breaks } := by
  have leaves := State.leaveLocked_down_eye (s := u) (e := e) (n := n) (by rw [dst]; exact record) st owed
  rw [eyes, counters, State.adds_congr start] at leaves
  unfold State.adds EyeDst.unbroken at leaves
  simpa only [decide_eq_true_eq] using leaves

/-! #### A slice's cells in order -/

/-- The record of a slice once `k` of its cells are taken (R101). -/
def SliceRec.grown (r : SliceRec) (k : Nat) : BufRec :=
  { picture := r.picture, index := r.index, layer := r.layer, length := r.length, expected := r.total, received := k,
    complete := decide (r.total ≤ k), data := r.data.take (28 + 32 * (k - 1)) }

/-- Cell `k` of a slice (R93). -/
def SliceRec.cell (r : SliceRec) (e : Eye) (seq : Seq) (k : Nat) : Cell :=
  mkCell .data .console (.to .headset) (BitVec.ofNat 3 (FlowId.num (Eye.flow e))) (seq + BitVec.ofNat 4 k) (k == 0)
    (slicePayload { r with sent := k })

theorem flowOf_eye (e : Eye) : flowOf (BitVec.ofNat 3 (FlowId.num (Eye.flow e))) = some (Eye.flow e) := by cases e <;> rfl

/-- The state once `k` cells of the slice are taken, the first of them numbered `seq`. -/
structure State.Rebuilding (s t : State) (e : Eye) (r : SliceRec) (seq : Seq) (k : Nat) : Prop where
  eq : t =
    { s with
      dst := s.dst.set (Eye.flow e) (some ⟨.listening, some (seq + BitVec.ofNat 4 k)⟩),
      eyes := s.eyes.set e
        { s.eyes.get e with
          reasm := if r.total ≤ k then .waitStart else .filling, buffer := (s.eyes.get e).buffer ++ [r.grown k] },
      counters := t.counters }

/-- The payload of a later cell adds the bytes it stands for (R93, R101). -/
theorem grow_data (data : List Byte) (k : Nat) (later : 1 ≤ k) :
    data.take (28 + 32 * (k - 1)) ++
        ((pad32 ((data.drop (28 + 32 * (k - 1))).take 32)).take 32).take (data.length - (data.take (28 + 32 * (k - 1))).length) =
      data.take (28 + 32 * k) := by
  have split : 28 + 32 * k = 28 + 32 * (k - 1) + 32 := by omega
  rw [split]
  generalize 28 + 32 * (k - 1) = n
  have length : ((data.drop n).take 32).length = min 32 (data.length - (data.take n).length) := by
    rw [List.length_take, List.length_drop, List.length_take]
    omega
  have tail := (pad32_tail (bs := (data.drop n).take 32) (by rw [length]; omega)).1
  rw [length] at tail
  rw [List.take_take, min_comm, tail, List.take_add]

theorem SliceRec.grow_grown (r : SliceRec) (e : Eye) (seq : Seq) {k : Nat} (later : 1 ≤ k) (more : k < r.total)
    (whole : r.data.length = r.length) : growRecord (r.cell e seq k) (r.grown k) = r.grown (k + 1) := by
  have payload : (r.cell e seq k).payload = pad32 ((r.data.drop (28 + 32 * (k - 1))).take 32) := by
    rw [← slicePayload_of_next (r := { r with sent := k }) later]
    rfl
  have open_ : (r.grown k).complete = false := decide_eq_false (not_le.2 more)
  refine (if_neg (by rw [open_]; nofun)).trans ?_
  unfold SliceRec.grown
  dsimp only
  rw [payload, ← whole, grow_data r.data k later]
  rfl

/-- A cell handed over and taken where none waits (R34). -/
theorem State.takeCells_cons {s t : State} {c : Cell} (rest : List Cell)
    (takes : exec (.dataCellTaken .down c) (s.modRx .down fun r => r.hand c) = .next t) :
    s.takeCells (c :: rest) = t.takeCells rest := by
  rw [State.takeCells, takes]

/-- A DATA cell that the down lane hands over where none waits reaches reassembly, and none waits after it. -/
theorem exec_handed {s : State} {e : Eye} {c : Cell} {n : Option Seq} (live : s.live) (headset : s.station = .headset)
    (none : s.rx.down.handed = []) (kind : c.kind = .data) (dst : c.dst = .to .headset) (src : c.src = .console)
    (flow : flowOf c.flow = some (Eye.flow e)) (record : s.dst.get (Eye.flow e) = some ⟨.listening, n⟩) :
    exec (.dataCellTaken .down c) (s.modRx .down fun r => r.hand c) =
      .next ((s.sequenced (Eye.flow e) n c).takePictureCell e (gapBefore n c) c) := by
  have hands : (s.rx.get .down).hand c = { s.rx.down with handed := [c] } := by
    unfold Rx.hand subtypeLost
    rw [kind]
    simp [PerLane.get, none]
  have run := exec_dataCellTaken_of_picture (s := s.modRx .down fun r => r.hand c) (l := .down) live headset
    (by rw [State.modRx_rx_get, hands]; rfl) kind dst src flow record
  have taken : (s.modRx .down fun r => r.hand c).taken .down c = s := by
    unfold State.taken State.modRx
    dsimp only
    rw [PerLane.get_set_self, PerLane.set_set, hands]
    simp only [List.erase_cons_head]
    rw [← none]
    rfl
  rw [run, taken]

/-- HEADSET with an eye whose buffer is COMPLETE and whose ready line is low, and no cell waiting. -/
structure State.Ready (s : State) (e : Eye) : Prop where
  live : s.live
  headset : s.station = .headset
  none : s.rx.down.handed = []
  low : s.pins.displayReady.get e = false
  complete : ∀ b ∈ (s.eyes.get e).buffer, b.complete = true

theorem growRecord_of_complete {q : List BufRec} (h : ∀ b ∈ q, b.complete = true) (c : Cell) : q.map (growRecord c) = q :=
  (List.map_congr_left fun b mem => if_pos (h b mem)).trans (List.map_id' q)

theorem State.takePictureCell_of_next {s : State} {e : Eye} {c : Cell} (start : c.start = false)
    (filling : (s.eyes.get e).reasm = .filling) : s.takePictureCell e false c = s.nextCell e c :=
  (if_pos start).trans (if_pos filling)

theorem State.nextCell_of_low {s : State} {e : Eye} (low : s.pins.displayReady.get e = false) (c : Cell) :
    s.nextCell e c =
      s.modEye e fun x =>
        { x with
          buffer := (s.eyes.get e).buffer.map (growRecord c),
          reasm := if ((s.eyes.get e).buffer.map (growRecord c)).all fun r => r.complete then .waitStart else .filling } :=
  State.considerRelease_of_low low

section
variable {s t : State} {e : Eye} {r : SliceRec} {seq : Seq} {k : Nat}

theorem Seq.next (seq : Seq) (k : Nat) : seq + BitVec.ofNat 4 k + 1 = seq + BitVec.ofNat 4 (k + 1) := by
  rw [BitVec.ofNat_add, BitVec.add_assoc]
  rfl

/-- A later cell of the slice joins its record (R101). -/
theorem State.Rebuilding.next (h : s.Rebuilding t e r seq k) (ready : s.Ready e) (later : 1 ≤ k) (more : k < r.total)
    (whole : r.data.length = r.length) :
    ∃ t', exec (.dataCellTaken .down (r.cell e seq k)) (t.modRx .down fun x => x.hand (r.cell e seq k)) = .next t' ∧
      s.Rebuilding t' e r seq (k + 1) := by
  obtain ⟨live, headset, none, low, complete⟩ := ready
  have eq := h.eq
  have start : t.start = s.start := by rw [eq]
  have station : t.station = s.station := by rw [eq]
  have rx : t.rx = s.rx := by rw [eq]
  have pins : t.pins = s.pins := by rw [eq]
  have record : t.dst.get (Eye.flow e) = some ⟨.listening, some (seq + BitVec.ofNat 4 k)⟩ := by
    rw [eq]
    exact PerFlow.get_set_self _ _ _
  have eye : t.eyes.get e =
      { s.eyes.get e with reasm := .filling, buffer := (s.eyes.get e).buffer ++ [r.grown k] } := by
    rw [eq]
    exact (PerEye.get_set_self _ _ _).trans (by rw [if_neg (not_le.2 more)])
  have late : (r.cell e seq k).start = false := beq_eq_false_iff_ne.2 (by omega)
  have noGap : gapBefore (some (seq + BitVec.ofNat 4 k)) (r.cell e seq k) = false := by simp [gapBefore, SliceRec.cell, mkCell, sealCell]
  have run := exec_handed (c := r.cell e seq k) (e := e) (s := t) (by rw [State.live, start]; exact live)
    (station.trans headset) (by rw [rx]; exact none) rfl rfl rfl (flowOf_eye e) record
  have eyes : (t.sequenced (Eye.flow e) (some (seq + BitVec.ofNat 4 k)) (r.cell e seq k)).eyes.get e = t.eyes.get e := rfl
  rw [noGap, State.takePictureCell_of_next late (by rw [eyes, eye]),
    State.nextCell_of_low (by show t.pins.displayReady.get e = false; rw [pins]; exact low), eyes, eye] at run
  dsimp only at run
  rw [List.map_append, growRecord_of_complete complete, List.map_singleton, r.grow_grown e seq later more whole] at run
  refine ⟨_, run, ⟨?_⟩⟩
  have all : ((s.eyes.get e).buffer ++ [r.grown (k + 1)]).all (fun b => b.complete) = decide (r.total ≤ k + 1) := by
    rw [List.all_append, List.all_eq_true.2 complete]
    simp [SliceRec.grown]
  have seq_next : (r.cell e seq k).seq + 1 = seq + BitVec.ofNat 4 (k + 1) := Seq.next seq k
  rw [all]
  simp only [decide_eq_true_eq]
  generalize t.counters = counters at eq
  subst eq
  unfold State.modEye State.sequenced
  dsimp only
  rw [PerEye.get_set_self, PerEye.set_set, PerFlow.set_set, seq_next]

/-- The first cell makes the slice's record (R99, R100). -/
theorem State.rebuilding_one (ready : s.Ready e) (least : 1 ≤ r.length) (most : r.length ≤ 4096) (whole : r.data.length = r.length)
    (cells : r.total = sliceCells r.length) {n : Option Seq} (record : s.dst.get (Eye.flow e) = some ⟨.listening, n⟩)
    (idle : (s.eyes.get e).reasm ≠ .filling) (room : reserved (s.eyes.get e).buffer + r.total ≤ 1024)
    (few : (s.eyes.get e).buffer.length ≤ 63)
    (fresh : ∀ n, (s.eyes.get e).lastTaken = some n → newer r.picture (n - 1) = true) :
    ∃ t', exec (.dataCellTaken .down (r.cell e seq 0)) (s.modRx .down fun x => x.hand (r.cell e seq 0)) = .next t' ∧
      s.Rebuilding t' e r seq 1 := by
  obtain ⟨live, headset, none, low, complete⟩ := ready
  have run := exec_handed (c := r.cell e seq 0) (e := e) (s := s) live headset none rfl rfl rfl (flowOf_eye e) record
  have head : readHead (r.cell e seq 0) = some ⟨r.picture, r.index, r.layer, r.length⟩ :=
    readHead_mkCell .console (.to .headset) (BitVec.ofNat 3 (FlowId.num (Eye.flow e))) (seq + BitVec.ofNat 4 0) true
      (r := { r with sent := 0 }) rfl most
  have length : sliceLength (r.cell e seq 0) ≠ 0 := by
    have same := head
    unfold readHead at same
    split at same
    · cases same
    · split at same
      · injection same with same
        injection same with _ _ _ same
        omega
      · cases same
  have eyes : (s.sequenced (Eye.flow e) n (r.cell e seq 0)).eyes.get e = s.eyes.get e := rfl
  rw [State.takePictureCell_of_head rfl length head, eyes, decide_eq_false idle,
    State.judgeFirst_of_room (s := s.sequenced (Eye.flow e) n (r.cell e seq 0)) (q := (s.eyes.get e).unbroken false)
      (h := ⟨r.picture, r.index, r.layer, r.length⟩) _ low (by rw [eyes]; exact fresh) ⟨by rw [← cells]; exact room, few⟩] at run
  refine ⟨_, run, ⟨?_⟩⟩
  have first : firstRecord ⟨r.picture, r.index, r.layer, r.length⟩ (r.cell e seq 0) = r.grown 1 := by
    have payload : (r.cell e seq 0).payload = pad32 (headBytes r ++ r.data.take 28) := rfl
    have short : (r.data.take 28).length = min 28 r.length := by rw [List.length_take, whole]
    have data := (pad32_drop (a := headBytes r) (bs := r.data.take 28) (by rw [headBytes_length, short]; omega)).1
    rw [headBytes_length, short] at data
    rw [firstRecord_eq, payload, List.take_take, min_comm, data]
    unfold SliceRec.grown
    have one : decide (sliceCells r.length = 1) = decide (r.total ≤ 1) := by
      rw [cells, decide_eq_decide]
      unfold sliceCells
      omega
    rw [one, cells]
  have ends : (sliceCells r.length = 1) = (r.total ≤ 1) := by
    rw [cells]
    unfold sliceCells
    exact propext (by omega)
  rw [first]
  simp only [ends]
  have seq_next : (r.cell e seq 0).seq + 1 = seq + BitVec.ofNat 4 1 := Seq.next seq 0
  unfold State.reassembled State.sequenced
  dsimp only
  rw [seq_next]
  rfl

/-- The cells that remain complete the slice (R101). -/
theorem State.Rebuilding.takeCells (ready : s.Ready e) (whole : r.data.length = r.length) (m : Nat) :
    ∀ {t : State} {k : Nat}, s.Rebuilding t e r seq k → 1 ≤ k → k + m = r.total →
      s.Rebuilding (t.takeCells ((List.range' k m).map (r.cell e seq))) e r seq r.total := by
  induction m with
  | zero =>
    intro t k h _ all
    have all : k = r.total := all
    subst all
    exact h
  | succ m ih =>
    intro t k h later all
    obtain ⟨t', run, h'⟩ := h.next ready later (by omega) whole
    rw [List.range'_succ, List.map_cons, State.takeCells_cons _ run]
    exact ih h' (by omega) (by omega)

end

/-- Settles O21. -/
theorem sliceCellsRebuildTheSlice : Obligations.SliceCellsRebuildTheSlice := by
  unfold Obligations.SliceCellsRebuildTheSlice
  refine ⟨?_, fun l c e n s live headset handed kind dst src flow record low => ?_, fun e n s live locked record => ?_⟩
  · intro e r seq s headset live least most whole cells none record low idle complete room few fresh t
    obtain ⟨n, record⟩ := record
    have ready : s.Ready e := ⟨live, headset, none, low, complete⟩
    obtain ⟨t', run, one⟩ := State.rebuilding_one (seq := seq) ready least most whole cells record idle room few fresh
    have total : 1 ≤ r.total := by
      rw [cells]
      unfold sliceCells
      omega
    have all : r.cells e seq = r.cell e seq 0 :: (List.range' 1 (r.total - 1)).map (r.cell e seq) := by
      obtain ⟨m, more⟩ : ∃ m, r.total = m + 1 := ⟨r.total - 1, by omega⟩
      unfold SliceRec.cells
      rw [more, List.range_eq_range', List.range'_succ]
      rfl
    have done : s.Rebuilding t e r seq r.total := by
      show s.Rebuilding (s.takeCells (r.cells e seq)) e r seq r.total
      rw [all, State.takeCells_cons _ run]
      exact one.takeCells ready whole (r.total - 1) le_rfl (by omega)
    have data : r.grown r.total =
        { picture := r.picture, index := r.index, layer := r.layer, length := r.length, expected := r.total,
          received := r.total, complete := true, data := r.data } := by
      unfold SliceRec.grown
      rw [List.take_of_length_le (by rw [whole, cells]; unfold sliceCells; omega), decide_eq_true le_rfl]
    have eq := done.eq
    rw [data, if_pos le_rfl] at eq
    generalize t.counters = counters at eq
    generalize t = u at *
    subst eq
    refine ⟨?_, ?_, PerFlow.get_set_self _ _ _, fun k other => PerEye.get_set_of_ne _ other _, rfl, rfl⟩
    · simp only [PerEye.get_set_self]
    · simp only [PerEye.get_set_self]
  · intro x k gap broken buffer add after first fresh room
    have run := exec_dataCellTaken_of_picture live headset handed kind dst src flow record
    have afterwards : ∀ r q b m, s.afterCell l c e gap r q broken b m = after r q b m := fun _ _ _ _ => rfl
    have leaves := fun r q b y m => s.sequenced_reassembled (e := e) l c n r q b y m
    have gap_eq : gapBefore n c = gap := by
      rw [Bool.eq_iff_iff, gapBefore_iff]
      exact (decide_eq_true_iff).symm
    have eyes : ((s.taken l c).sequenced (Eye.flow e) n c).eyes.get e = x := rfl
    have pins : ((s.taken l c).sequenced (Eye.flow e) n c).pins = s.pins := rfl
    have begun (start : c.start = true) : decide (x.reasm = .filling) = broken := by simp [broken, start]
    generalize (s.taken l c).sequenced (Eye.flow e) n c = u at *
    rw [gap_eq] at run
    refine ⟨fun start stray => ?_, fun start none => ?_, fun starts bad => ?_, fun starts h head => ⟨fun refused => ?_,
      fun new space => ?_⟩⟩
    · have same : decide (x.reasm = .filling ∧ gap = true) = broken := by simp [broken, start]
      rw [run, State.takePictureCell_of_discard start gap (by rw [eyes]; exact stray), leaves, eyes, same]
      exact congrArg _ (afterwards _ _ _ _)
    · rw [run, State.takePictureCell_of_end start none gap, leaves, eyes, begun start]
      exact congrArg _ (afterwards _ _ _ _)
    · rw [run, State.takePictureCell_of_misrouted starts.1 starts.2 bad gap, leaves, eyes, begun starts.1]
      exact congrArg _ (afterwards _ _ _ _)
    · rw [run, State.takePictureCell_of_head starts.1 starts.2 head gap, eyes, begun starts.1,
        State.judgeFirst_of_refused c (by rw [eyes]; exact refused), leaves]
      exact congrArg _ (afterwards _ _ _ _)
    · rw [run, State.takePictureCell_of_head starts.1 starts.2 head gap, eyes, begun starts.1,
        State.judgeFirst_of_room (q := x.unbroken broken) c (by rw [pins]; exact low) (by rw [eyes]; exact new) space, leaves,
        firstRecord_eq]
      exact congrArg _ (afterwards _ _ _ _)
  · intro x k filling breaks
    refine ⟨?_, fun found wrong fourth => ?_, fun found i right gone => ?_⟩
    · have run : exec (.signalAbsent .down) s = .next ((s.sensing .down false).leaveLocked .down .dark none) :=
        exec_signalAbsent_of_locked (l := .down) live locked
      have lost := leaveLocked_breaks (u := s.sensing .down false) record rfl rfl rfl rfl .dark none
      generalize (s.sensing .down false).leaveLocked .down .dark none = t at *
      exact ⟨t, run, lost⟩
    · have run := exec_expectedAlignmentCell_of_error (l := .down) live locked wrong
      rw [State.alignError_of_fourth (l := .down) fourth] at run
      have lost := leaveLocked_breaks (u := (s.atError .down).syncClock) record (by simp [State.atError]) (by simp [State.atError])
        (by simp [State.atError]) (by simp [State.atError]) .search ((s.atError .down).rx.get .down).repeated
      generalize (s.atError .down).syncClock.leaveLocked .down .search ((s.atError .down).rx.get .down).repeated = t at *
      exact ⟨t, run, lost⟩
    · have run := exec_expectedAlignmentCell_of_correct (l := .down) live locked right
      rw [State.alignCorrect_of_lost (l := .down) gone] at run
      have lost := leaveLocked_breaks (u := s.atCorrect .down i) record (by simp [State.atCorrect]) (by simp [State.atCorrect])
        (by simp [State.atCorrect]) (by simp [State.atCorrect]) .search ((s.atCorrect .down i).rx.get .down).repeated
      generalize (s.atCorrect .down i).leaveLocked .down .search ((s.atCorrect .down i).rx.get .down).repeated = t at *
      exact ⟨t, run, lost⟩

end Sys2Proof.Machine

namespace Sys2Proof.Machine

/-! ### Reports (R167, R178, R179) -/

theorem foldl_min_spec (l : List Nat) : ∀ n, l.foldl min n ≤ n ∧ (∀ x ∈ l, l.foldl min n ≤ x) ∧
    (l.foldl min n = n ∨ l.foldl min n ∈ l) := by
  induction l with
  | nil => exact fun n => ⟨le_rfl, nofun, .inl rfl⟩
  | cons a l ih =>
    intro n
    obtain ⟨least, all, found⟩ := ih (min n a)
    refine ⟨least.trans (min_le_left _ _), fun x mem => ?_, ?_⟩
    · obtain rfl | mem := List.mem_cons.1 mem
      · exact least.trans (min_le_right _ _)
      · exact all x mem
    · obtain same | mem := found
      · rw [List.foldl_cons, same]
        obtain h | h := min_choice n a
        · exact .inl h
        · exact .inr (by rw [h]; exact List.mem_cons_self)
      · exact .inr (List.mem_cons_of_mem _ mem)

/-! #### Copies that stop waiting (R179) -/

section
variable {os : List Outstanding} {o : Outstanding}

/-- A report is found by its serial, where serials are told apart. -/
theorem find_serial (mem : o ∈ os) (apart : (os.map (·.serial)).Nodup) : os.find? (fun x => x.serial == o.serial) = some o := by
  induction os with
  | nil => cases mem
  | cons x os ih =>
    rw [List.map_cons, List.nodup_cons] at apart
    rw [List.find?_cons]
    obtain rfl | mem := List.mem_cons.1 mem
    · rw [beq_self_eq_true]
    · have other : (x.serial == o.serial) = false :=
        beq_eq_false_iff_ne.2 fun same => apart.1 (by rw [same]; exact List.mem_map_of_mem mem)
      rw [other]
      exact ih mem apart.2

theorem erase_serial (mem : o ∈ os) (apart : (os.map (·.serial)).Nodup) :
    os.eraseP (fun x => x.serial == o.serial) = os.filter (fun x => x.serial != o.serial) ∧
      (os.filter fun x => x.serial != o.serial).length + 1 = os.length := by
  have same : os.eraseP (fun x => x.serial == o.serial) = os.filter (fun x => x.serial != o.serial) := by
    clear mem
    induction os with
    | nil => rfl
    | cons x os ih =>
      rw [List.map_cons, List.nodup_cons] at apart
      by_cases here : x.serial = o.serial
      · have rest : os.filter (fun x => x.serial != o.serial) = os :=
          List.filter_eq_self.2 fun y mem => bne_iff_ne.2 fun eq =>
            apart.1 (by rw [here, ← eq]; exact List.mem_map_of_mem mem)
        simp [here, rest]
      · simp [here, ih apart.2]
  refine ⟨same, ?_⟩
  rw [← same, List.length_eraseP_of_mem (p := fun x => x.serial == o.serial) mem (beq_self_eq_true _)]
  have := List.length_pos_of_mem mem
  omega

end

/-- The other lane's copy of a report waits. -/
def Outstanding.other (o : Outstanding) : Lane → Bool
  | .down => o.waitUp | .up => o.waitDown

theorem Outstanding.without_waits (o : Outstanding) (l : Lane) (i : Bool) :
    ((o.without l i).waitDown || (o.without l i).waitUp) = o.other l ∧ (o.without l i).inserted = (o.inserted || i) := by
  cases l <;> simp [Outstanding.without, Outstanding.other]

section
variable {b : Balance} {l : Lane} {o : Outstanding} (mem : o ∈ b.outstanding) (apart : (b.outstanding.map (·.serial)).Nodup)
  (inserted : Bool)

include mem apart

theorem Balance.copyGone_of_waiting (waits : o.other l = true) :
    b.copyGone l o.serial inserted =
      { b with outstanding := b.outstanding.map fun x => if x.serial = o.serial then o.without l inserted else x } := by
  unfold Balance.copyGone
  dsimp only
  rw [find_serial mem apart]
  exact if_pos ((o.without_waits l inserted).1.trans waits)

theorem Balance.copyGone_of_sent (waits : o.other l = false) (some_ : o.inserted = true ∨ inserted = true) :
    b.copyGone l o.serial inserted =
      { b with
        b := b.b - 1, age := 0, fresh := false, forced := b.forced && decide (8 ≤ b.b - 1),
        outstanding := b.outstanding.filter fun x => x.serial != o.serial } := by
  obtain ⟨waiting, kept⟩ := o.without_waits l inserted
  have sent : (o.without l inserted).inserted = true := by rw [kept]; simpa using some_
  unfold Balance.copyGone
  dsimp only
  rw [find_serial mem apart]
  refine (if_neg (by rw [waiting, waits]; nofun)).trans ((if_pos sent).trans ?_)
  rw [(erase_serial mem apart).1]
  unfold Balance.sent
  simp only [← decide_not, not_lt]

theorem Balance.copyGone_of_superseded (waits : o.other l = false) (none : o.inserted = false) :
    b.copyGone l o.serial false = { b with outstanding := b.outstanding.filter fun x => x.serial != o.serial } := by
  obtain ⟨waiting, kept⟩ := o.without_waits l false
  have unsent : (o.without l false).inserted = false := by rw [kept, none]; rfl
  unfold Balance.copyGone
  dsimp only
  rw [find_serial mem apart]
  refine (if_neg (by rw [waiting, waits]; nofun)).trans ((if_neg (by rw [unsent]; nofun)).trans ?_)
  rw [(erase_serial mem apart).1]

end

/-! #### What a build offers (R42, R178) -/

/-- A POWER cell takes the place of the one nearest the head (R42). -/
theorem replacePower_first {a q : List Ctl} {old : Report} {k : Nat} (c : Ctl) (first : ∀ x n, Ctl.power x n ∉ a) :
    replacePower c (a ++ .power old k :: q) = some (a ++ c :: q, k) := by
  induction a with
  | nil => rfl
  | cons x a ih =>
    have rest := ih fun y n mem => first y n (List.mem_cons_of_mem _ mem)
    have other : ∀ y n, x ≠ .power y n := fun y n is => first y n (by rw [is]; exact List.mem_cons_self)
    rw [List.cons_append]
    unfold replacePower
    split
    · rename_i empty
      cases empty
    · rename_i same
      cases same
      exact absurd rfl (other _ _)
    · rename_i same
      cases same
      rw [rest]
      rfl

theorem offerFifo_of_silent {role : TxRole} (silent : role.sends = false) (q : List Ctl) (c : Ctl) :
    offerFifo role q c = { fifo := q, accepted := false, replaced := none } := if_pos silent

theorem offerFifo_of_full {role : TxRole} (sends : role.sends = true) {a q : List Ctl} {old r : Report} {k n : Nat}
    (first : ∀ x n, Ctl.power x n ∉ a) (full : a.length + q.length = 7) :
    offerFifo role (a ++ .power old k :: q) (.power r n) =
      { fifo := a ++ .power r n :: q, accepted := true, replaced := some k } := by
  unfold offerFifo
  rw [if_neg (by rw [sends]; nofun), if_neg (by rw [List.length_append, List.length_cons]; omega), replacePower_first _ first]

section
variable {s : State}

/-- The report that a build makes, as its cell. -/
abbrev State.reportCell (s : State) : Ctl := .power s.report s.balance.built

theorem State.buildReport_eq (s : State) :
    s.buildReport =
      { s with
        tx :=
          ⟨{ s.tx.down with fifo := (offerFifo s.tx.down.role s.tx.down.fifo s.reportCell).fifo },
            { s.tx.up with fifo := (offerFifo s.tx.up.role s.tx.up.fifo s.reportCell).fifo }⟩,
        power := { s.power with nextReport := s.power.nextReport + 1 },
        balance :=
          ((s.balance.join (offerFifo s.tx.down.role s.tx.down.fifo s.reportCell).accepted
              (offerFifo s.tx.up.role s.tx.up.fifo s.reportCell).accepted).replaced .down
            (offerFifo s.tx.down.role s.tx.down.fifo s.reportCell).replaced).replaced .up
            (offerFifo s.tx.up.role s.tx.up.fifo s.reportCell).replaced } := rfl

/-- A report joins each FIFO that its transmitter sends from, where they have room (R178). -/
theorem offerFifo_of_open {t : Tx} (room : t.fifo.length < 8) (c : Ctl) :
    offerFifo t.role t.fifo c =
      { fifo := if t.role.sends = true then t.fifo ++ [c] else t.fifo, accepted := t.role.sends, replaced := none } := by
  cases sends : t.role.sends with
  | true => exact offerFifo_of_room c sends room
  | false => exact offerFifo_of_silent sends _ _

theorem State.buildReport_of_room (room : ∀ l, (s.tx.get l).fifo.length < 8) (some_ : ∃ l, (s.tx.get l).role.sends = true) :
    s.buildReport =
      { s with
        tx :=
          ⟨{ s.tx.down with
              fifo := if s.tx.down.role.sends = true then s.tx.down.fifo ++ [s.reportCell] else s.tx.down.fifo },
            { s.tx.up with fifo := if s.tx.up.role.sends = true then s.tx.up.fifo ++ [s.reportCell] else s.tx.up.fifo }⟩,
        power := { s.power with nextReport := s.power.nextReport + 1 },
        balance :=
          { s.balance with
            event := false, built := s.balance.built + 1,
            outstanding := s.balance.outstanding ++
              [{ serial := s.balance.built, waitDown := s.tx.down.role.sends, waitUp := s.tx.up.role.sends,
                 inserted := false }] } } := by
  have joins : (s.tx.down.role.sends || s.tx.up.role.sends) = true := by
    obtain ⟨l, sends⟩ := some_
    cases l
    · rw [show s.tx.down.role.sends = true from sends]
      rfl
    · rw [show s.tx.up.role.sends = true from sends, Bool.or_true]
  rw [State.buildReport_eq, offerFifo_of_open (t := s.tx.down) (room .down),
    offerFifo_of_open (t := s.tx.up) (room .up)]
  unfold Balance.join Balance.replaced
  dsimp only
  rw [if_pos joins]

theorem State.buildReport_of_none (none : ∀ l, ¬(s.tx.get l).role.sends = true) :
    s.buildReport = { s with power := { s.power with nextReport := s.power.nextReport + 1 } } := by
  have down : s.tx.down.role.sends = false := Bool.eq_false_iff.2 (none .down)
  have up : s.tx.up.role.sends = false := Bool.eq_false_iff.2 (none .up)
  rw [State.buildReport_eq, offerFifo_of_silent down, offerFifo_of_silent up]
  rfl

/-- When a test builds a report (R178). -/
theorem State.reportDue_iff (s : State) :
    s.reportDue = true ↔ s.running ∧ ((s.balance.event = true ∧ -8 < s.balance.net) ∨
      (1 ≤ s.balance.net ∧ ∀ l, (s.tx.get l).role.sends = true → (s.tx.get l).sentThis = some .active)) := by
  have lanes : s.reportLanesActive = true ↔ ∀ l, (s.tx.get l).role.sends = true → (s.tx.get l).sentThis = some .active := by
    have lane (l : Lane) : (!s.reportLane l || s.laneActive l) = true ↔
        ((s.tx.get l).role.sends = true → (s.tx.get l).sentThis = some .active) := by
      unfold State.reportLane State.laneActive
      cases (s.tx.get l).role.sends <;> simp
    unfold State.reportLanesActive
    rw [Bool.and_eq_true, lane, lane]
    exact ⟨fun h l => by cases l; exacts [h.1, h.2], fun h => ⟨h .down, h .up⟩⟩
  unfold State.reportDue
  rw [Bool.and_eq_true, Bool.or_eq_true, Bool.and_eq_true, Bool.and_eq_true, lanes]
  simp only [decide_eq_true_eq]

end

end Sys2Proof.Machine

namespace Sys2Proof.Machine

/-! ### Tests, and fresh-pending (R178, R180) -/

section
variable {s : State}

theorem State.reportTest_of_room (due : s.reportDue = true) (room : ∀ l, (s.tx.get l).fifo.length < 8)
    (some_ : ∃ l, (s.tx.get l).role.sends = true) : s.reportTest = s.buildReport := by
  refine State.reportTest_of_due due (testsAfter_of_none_gone ?_)
  rw [State.buildReport_of_room room some_]
  simp

theorem State.reportTest_of_none (due : s.reportDue = true) (none : ∀ l, ¬(s.tx.get l).role.sends = true) :
    s.reportTest = s.buildReport := by
  refine State.reportTest_of_due due (testsAfter_of_none_gone ?_)
  rw [State.buildReport_of_none none]
  simp

/-- A test that is due, whose build brings one more that is not, is that build. -/
theorem State.reportTest_of_second (due : s.reportDue = true) (one : testsAfter s s.buildReport = 1)
    (done : s.buildReport.reportDue = false) : s.reportTest = s.buildReport := by
  simp [State.reportTest, State.reportTests, due, one, done]

/-- A report that takes the place of the POWER cell nearest the head of a full FIFO supersedes that cell's report (R42, R179). -/
theorem State.buildReport_of_full {a q : List Ctl} {old : Report} {k : Nat} (down : s.tx.down.role.sends = true)
    (up : s.tx.up.role.sends = false) (fifo : s.tx.down.fifo = a ++ .power old k :: q) (first : ∀ x n, Ctl.power x n ∉ a)
    (full : a.length + q.length = 7) (apart : (s.balance.outstanding.map (·.serial)).Nodup)
    (earlier : ∀ o ∈ s.balance.outstanding, o.serial < s.balance.built)
    (mem : { serial := k, waitDown := true, waitUp := false, inserted := false } ∈ s.balance.outstanding) :
    s.buildReport =
        { s with
          power := { s.power with nextReport := s.power.nextReport + 1 },
          tx := { s.tx with down := { s.tx.down with fifo := a ++ s.reportCell :: q } },
          balance :=
            { s.balance with
              event := false, built := s.balance.built + 1,
              outstanding := (s.balance.outstanding.filter fun o => o.serial != k) ++
                [{ serial := s.balance.built, waitDown := true, waitUp := false, inserted := false }] } } ∧
      (s.balance.outstanding.filter fun o => o.serial != k).length + 1 = s.balance.outstanding.length := by
  have lost := (erase_serial mem apart).2
  refine ⟨?_, lost⟩
  have joined : ((s.balance.join true false).outstanding.map (·.serial)).Nodup := by
    show (List.map Outstanding.serial (s.balance.outstanding ++ [_])).Nodup
    rw [List.map_append, List.nodup_append]
    refine ⟨apart, List.nodup_singleton _, fun x old_ y new => ?_⟩
    obtain ⟨o, there, rfl⟩ := List.mem_map.1 old_
    rw [List.map_singleton, List.mem_singleton] at new
    rw [new]
    exact Nat.ne_of_lt (earlier o there)
  have gone : (s.balance.join true false).copyGone .down k false = _ :=
    Balance.copyGone_of_superseded (o := { serial := k, waitDown := true, waitUp := false, inserted := false })
      (List.mem_append_left _ mem) joined rfl rfl
  have newest : (s.balance.built != k) = true := bne_iff_ne.2 (Nat.ne_of_gt (earlier _ mem))
  have kept : (s.balance.join true false).outstanding.filter (fun x => x.serial != k) =
      (s.balance.outstanding.filter fun o => o.serial != k) ++
        [{ serial := s.balance.built, waitDown := true, waitUp := false, inserted := false }] := by
    show (s.balance.outstanding ++ [_]).filter _ = _
    rw [List.filter_append, List.filter_cons, if_pos newest]
    rfl
  rw [State.buildReport_eq, fifo, offerFifo_of_full down first full, offerFifo_of_silent up]
  unfold Balance.replaced
  dsimp only
  rw [gone, kept]
  rfl

/-! #### What builds keep where no copy was inserted (R179, R180) -/

/-- No copy of a report outstanding was inserted, and the balance has b, age, forced need and fresh-pending of `c`. -/
structure Balance.Unsent (c b : Balance) : Prop where
  none : ∀ o ∈ b.outstanding, o.inserted = false
  value : b.b = c.b
  age : b.age = c.age
  forced : b.forced = c.forced
  fresh : b.fresh = c.fresh

namespace Balance.Unsent
variable {b c : Balance}

/-- The reports outstanding, the event and the serials may change. -/
theorem of_same {a : Balance} (h : c.Unsent b) (none : ∀ o ∈ a.outstanding, o.inserted = false)
    (same : a.b = b.b ∧ a.age = b.age ∧ a.forced = b.forced ∧ a.fresh = b.fresh) : c.Unsent a := by
  obtain ⟨value, age, forced, fresh⟩ := same
  exact ⟨none, value.trans h.value, age.trans h.age, forced.trans h.forced, fresh.trans h.fresh⟩

/-- A report none of whose copies was inserted is superseded, not sent (R179). -/
theorem copyGone (h : c.Unsent b) (l : Lane) (k : Nat) : c.Unsent (b.copyGone l k false) := by
  unfold Balance.copyGone
  dsimp only
  split
  · exact h
  · rename_i o found
    have unsent : (o.without l false).inserted = false := by
      rw [(o.without_waits l false).2, h.none o (List.mem_of_find?_eq_some found)]
      rfl
    split
    · refine h.of_same (fun x mem => ?_) ⟨rfl, rfl, rfl, rfl⟩
      obtain ⟨y, there, rfl⟩ := List.mem_map.1 mem
      split
      · exact unsent
      · exact h.none y there
    · rw [unsent]
      exact h.of_same (fun x mem => h.none x (List.mem_of_mem_eraseP mem)) ⟨rfl, rfl, rfl, rfl⟩

theorem replaced (h : c.Unsent b) (l : Lane) (k : Option Nat) : c.Unsent (b.replaced l k) := by
  cases k with
  | none => exact h
  | some k => exact h.copyGone l k

theorem join (h : c.Unsent b) (d u : Bool) : c.Unsent (b.join d u) := by
  unfold Balance.join
  split
  · refine h.of_same (fun o mem => ?_) ⟨rfl, rfl, rfl, rfl⟩
    obtain mem | mem := List.mem_append.1 mem
    · exact h.none o mem
    · rw [List.mem_singleton.1 mem]
  · exact h

theorem buildReport (s : State) (_ : s.reportDue = true) (h : c.Unsent s.balance) : c.Unsent s.buildReport.balance :=
  ((h.join _ _).replaced _ _).replaced _ _

theorem event (s : State) (h : c.Unsent s.balance) :
    c.Unsent (State.balance { s with balance := { s.balance with event := true } }) :=
  h.of_same h.none ⟨rfl, rfl, rfl, rfl⟩

theorem calling {s : State} (h : c.Unsent s.balance) {g : State → State} (same : (g s).balance = s.balance) :
    c.Unsent (s.calling g).balance :=
  State.calling_preserves (P := fun t => c.Unsent t.balance) buildReport event (by rw [same]; exact h)

theorem setFresh {s : State} (h : c.Unsent s.balance) : ({ c with fresh := true } : Balance).Unsent s.setFresh.balance :=
  State.callEvent_preserves (P := fun t => Balance.Unsent _ t.balance) buildReport event
    ⟨h.none, h.value, h.age, h.forced, rfl⟩

end Balance.Unsent

/-- A cell that moves its lane out of DEEP sets fresh-pending, and any other leaves it (R180). -/
theorem State.handAlign_fresh (h : s.balance.Unsent s.balance) (l : Lane) (r : Rx) (i : AlignInfo) :
    (s.handAlign l r i).balance.fresh = if leavesDeep r.inEffect i.lane then true else s.balance.fresh := by
  have before : s.balance.Unsent (s.beforeStatus l r i).balance := by simpa using h
  have status := before.calling (g := fun t => t.takeStatus l (statusOwner ((s.rx.get l).underDeep i) i.frame i.count) i.status)
    (by simp)
  rw [State.handAlign_eq]
  split
  · exact status.setFresh.fresh
  · exact status.fresh

theorem Quiet.step_of_deep {q : Quiet} (deep : q.lane = .deep) (n : BitVec 4) (o : Observed) :
    (q.step n o).lane = if o.need || o.hold then .waking else .deep := by
  unfold Quiet.step
  rw [if_pos deep]
  split
  · rfl
  · exact deep

/-- The machine of an ORIGIN after its cell is its step for that frame (R171). -/
theorem State.originAlign_quiet (s : State) (l : Lane) (q : Quiet) :
    ((s.originAlign l q).tx.get l).quiet =
      some (q.step (s.tx.get l).nextFrame.1 ((s.frameStarted l).observe l)) := by
  have put (p : Option Quiet) (t u : State) (d : Bool) (i : AlignInfo)
      (same : ((t.modTx l fun x => { x with quiet := p }).putAlign l d i).SameButFifo u) : (u.tx.get l).quiet = p := by
    rw [same l, State.putAlign_tx, PerLane.get_set_self]
    show ((t.modTx l fun x => { x with quiet := p }).tx.get l).quiet = p
    rw [State.modTx_tx, PerLane.get_set_self]
  unfold State.originAlign
  dsimp only
  split
  · exact put _ _ _ _ _ ((State.SameButFifo.refl _).setFresh.alignTest l)
  · exact put _ _ _ _ _ ((State.SameButFifo.refl _).alignTest l)

/-- An ORIGIN whose lane leaves DEEP sets fresh-pending (R180). -/
theorem State.originAlign_fresh (h : s.balance.Unsent s.balance) (l : Lane) {q : Quiet} (deep : q.lane = .deep) :
    (s.originAlign l q).balance.fresh =
      if (q.step (s.tx.get l).nextFrame.1 ((s.frameStarted l).observe l)).lane = .waking then true else s.balance.fresh := by
  have put (t : State) (k : Lane) (p : Quiet) (d : Bool) (i : AlignInfo) (same : t.balance = s.balance) :
      s.balance.Unsent ((t.modTx k fun x => { x with quiet := some p }).putAlign k d i).balance := by simpa [same] using h
  have started : ((((s.modTx l fun t => t.begin (s.tx.get l).nextFrame.1 (s.tx.get l).nextFrame.2).syncClock).consoleFrame l
      (s.tx.get l).nextFrame.1)).balance = s.balance := by simp
  have test {c : Balance} {t : State} (h : c.Unsent t.balance) : (t.alignTest l).balance.fresh = c.fresh :=
    (State.alignTest_preserves (P := fun u => c.Unsent u.balance) Balance.Unsent.buildReport l h).fresh
  unfold State.originAlign
  dsimp only
  split
  · rename_i wakes
    exact (test (put _ _ _ _ _ started).setFresh).trans (if_pos wakes.2).symm
  · rename_i stays
    exact (test (put _ _ _ _ _ started)).trans (if_neg fun wakes => stays ⟨deep, wakes⟩).symm

end

/-- Settles O47. -/
theorem reportsAreBuiltByTheBalance : Obligations.ReportsAreBuiltByTheBalance := by
  refine ⟨fun s => ?_, fun b l o inserted mem apart => ?_, fun l r k q s running sends sent opened free motion audio fifo => ?_,
    fun s none => ⟨fun l found i live locked right deep kept => ?_, fun l q live origin quiet deep => ?_, fun idle => ?_,
      fun running net room some_ => ?_⟩⟩
  · intro due r c reports append numbered drawn
    refine ⟨?_, fun idle => ?_, fun running isDue room some_ => ?_, fun running isDue none => ?_,
      fun a q old k running event net low down up fifo first full apart earlier mem => ?_⟩
    · obtain ⟨least, all, found⟩ := foldl_min_spec ((s.power.domains.filter fun d => d.state == .waiting).map (·.priority)) 8
      refine ⟨rfl, rfl, rfl, fun d mem waiting => ?_, least, fun below => ?_, rfl, rfl, rfl, ?_⟩
      · exact all _ (List.mem_map_of_mem (List.mem_filter.2 ⟨mem, by rw [waiting]; rfl⟩))
      · obtain same | mem := found
        · exact absurd same (Nat.ne_of_lt below)
        · obtain ⟨d, there, same⟩ := List.mem_map.1 mem
          obtain ⟨there, waiting⟩ := List.mem_filter.1 there
          exact ⟨d, there, eq_of_beq waiting, same⟩
      · show (s.station == .console && s.power.tripped) = true ↔ _
        rw [Bool.and_eq_true, beq_iff_eq]
    · exact State.reportTest_of_not_due (Bool.eq_false_iff.2 fun is => idle ((State.reportDue_iff s).1 is))
    · rw [State.reportTest_of_room ((State.reportDue_iff s).2 ⟨running, isDue⟩) room some_, State.buildReport_of_room room some_]
      rfl
    · rw [State.reportTest_of_none ((State.reportDue_iff s).2 ⟨running, isDue⟩) none, State.buildReport_of_none none]
    · have isDue := (State.reportDue_iff s).2 ⟨running, .inl ⟨event, net⟩⟩
      obtain ⟨made, lost⟩ :=
        State.buildReport_of_full down (Bool.eq_false_iff.2 up) fifo first full apart earlier mem
      have one : testsAfter s s.buildReport = 1 := by
        unfold testsAfter
        rw [if_neg (fun h => by rw [event] at h; cases h.1), made]
        simp only [List.length_append, List.length_singleton]
        omega
      have done : s.buildReport.reportDue = false := by
        refine Bool.eq_false_iff.2 fun again => ?_
        obtain ⟨-, ⟨is, -⟩ | ⟨is, -⟩⟩ := (State.reportDue_iff _).1 again
        · rw [made] at is
          cases is
        · rw [made] at is
          simp only [Balance.net, List.length_append, List.length_singleton] at is low
          omega
      exact (State.reportTest_of_second isDue one done).trans made
  · intro waits after others
    refine ⟨fun is => ?_, fun is some_ => ?_, fun is unsent none => ?_⟩
    · have other : o.other l = true := by cases l <;> exact is
      rw [Balance.copyGone_of_waiting mem apart inserted other]
      congr 1
      refine List.map_congr_left fun x there => ?_
      split
      · rename_i same
        rw [List.inj_on_of_nodup_map apart there mem same]
        cases l <;> rfl
      · rfl
    · have other : o.other l = false := by cases l <;> exact is
      exact ⟨Balance.copyGone_of_sent mem apart inserted other some_, (erase_serial mem apart).2⟩
    · have other : o.other l = false := by cases l <;> exact is
      rw [none]
      exact ⟨Balance.copyGone_of_superseded mem apart other unsent, (erase_serial mem apart).2⟩
  · intro c gone u
    have arbitrates := exec_idleSlotArbitration_of_open sends sent running opened free
    rw [State.winner_of_no_motion (fun h => h.2.2 motion), State.audioClass_of_no_audio (fun h => h.2 audio),
      State.controlClass_of_control fifo] at arbitrates
    have left : { (s.tx.get l).send c false with fifo := (s.tx.get l).fifo.tail } =
        { s.tx.get l with
          line := some c, crc := crcMore (s.tx.get l).crc (cellBytes c), sent := (s.tx.get l).sent + 1, train := 0,
          fifo := q } := by
      rw [fifo]
      rfl
    have sentCell : s.insert l (.control (.power r k)) =
        if gone.outstanding.length < s.balance.outstanding.length then u.reportTest else u := by
      show State.copyInserted { s with tx := s.tx.set l { (s.tx.get l).send c false with fifo := (s.tx.get l).fifo.tail } } l k = _
      rw [left]
      rfl
    refine ⟨fun left => arbitrates.trans ?_, fun stays => arbitrates.trans ?_⟩
    · exact congrArg _ (sentCell.trans (if_pos left))
    · exact congrArg _ (sentCell.trans (if_neg (Nat.not_lt.2 stays)))
  · have lost : hopLost ((s.rx.get l).hopHistory i.hop) = false := by
      unfold Rx.hopHistory
      rw [if_neg fun due => ((Rx.hopDue_iff locked).1 due).2 deep]
      exact kept
    have same : (s.atCorrect l i).balance = s.balance := by simp [State.atCorrect]
    have handed := State.handAlign_fresh (s := s.atCorrect l i) (by rw [same]; exact ⟨none, rfl, rfl, rfl, rfl⟩) l (s.rx.get l) i
    rw [deep, same] at handed
    refine ⟨_, (exec_expectedAlignmentCell_of_correct live locked right).trans
      (congrArg _ (State.alignCorrect_of_held lost)), fun woke => ?_, fun asleep => ?_⟩
    · exact handed.trans (if_pos (by simp [leavesDeep, woke]))
    · exact handed.trans (if_neg (by simp [leavesDeep, asleep]))
  · have after := State.originAlign_fresh ⟨none, rfl, rfl, rfl, rfl⟩ l deep
    have machine := s.originAlign_quiet l q
    have lane := Quiet.step_of_deep deep (s.tx.get l).nextFrame.1 ((s.frameStarted l).observe l)
    refine ⟨_, _, by rw [exec_alignmentCellSent_of_origin live origin, quiet]; rfl, machine, fun wakes => ?_, fun stays => ?_⟩
    · exact after.trans (if_pos wakes)
    · refine ⟨?_, after.trans (if_neg stays)⟩
      rw [lane] at stays ⊢
      split at stays
      · exact absurd rfl stays
      · rename_i quiet_
        exact if_neg quiet_
  · exact State.reportTest_of_not_running idle
  · have isDue : State.reportDue { s with balance := { s.balance with fresh := true, event := true } } = true :=
      (State.reportDue_iff _).2 ⟨running, .inl ⟨rfl, net⟩⟩
    have built : s.setFresh = _ := State.reportTest_of_room isDue room some_
    rw [built, State.buildReport_of_room (s := { s with balance := { s.balance with fresh := true, event := true } }) room some_]
    exact ⟨rfl, rfl, rfl, by simp⟩

end Sys2Proof.Machine

namespace Sys2Proof.Machine

/-! ### What the applied level leaves where it does not rise (R154) -/

section
variable {s : State}

theorem State.sensed_of_matching (h : s.SensorsMatch) : s.sensed = s.motion := by
  unfold State.sensed
  split
  · rename_i headset
    have matching := h headset
    split
    · rename_i on
      refine if_neg fun off => ?_
      rw [matching.1 off] at on
      cases on
    · rename_i off
      exact if_pos (matching.2 (by simpa using off))
  · rfl

/-- The supply level after the units followed: STRAP's is 0 where its offer is (R166). -/
theorem State.follow_supplyLevel (s : State) :
    s.follow.power.supplyLevel = if s.station = .strap ∧ s.follow.ownOffer = 0 then 0 else s.power.supplyLevel := by
  unfold State.follow
  have offer : s.followSensors.followDisplay.followSource.followSink.followOffer.ownOffer =
      s.followSensors.followDisplay.followSource.followSink.ownOffer :=
    State.ownOffer_congr (by simp) (by simp) (by simp) (by simp) (by simp) (by simp)
  rw [State.followOffer_power, offer]
  split
  · rename_i strap
    rw [if_pos ⟨by simpa using strap.1, strap.2⟩]
  · rename_i other
    rw [if_neg fun h => other ⟨by simpa using h.1, h.2⟩]
    simp [State.followSensors_domains]

/-- Where the sensors do not start, the units leave the domains and the offer (R123, R165). -/
theorem State.follow_ownOffer (h : ¬s.starts = true) : s.follow.ownOffer = s.ownOffer :=
  State.ownOffer_congr (by simp) (by simp) (by simp) (by simp) (by simp) (State.follow_domains_of_not_starts h)

/-- The supply level after the applied level was worked out afresh (R166). -/
theorem State.relevel_supplyLevel (s : State) :
    s.relevel.power.supplyLevel = s.power.supplyLevel ∨
      s.station = .strap ∧ s.relevel.ownOffer = 0 ∧ s.relevel.power.supplyLevel = 0 := by
  by_cases same : s.appliedLevel = s.power.applied
  · rw [State.relevel_of_same same]
    exact .inl rfl
  · have offer : s.relevel.ownOffer = (s.shedTo s.appliedLevel).ownOffer :=
      State.ownOffer_congr (by simp [State.shedTo]) (by simp [State.shedTo]) (by simp [State.shedTo])
        (by rw [State.relevel_power_of_changed same]) (by rw [State.relevel_power_of_changed same])
        (by rw [State.relevel_power_of_changed same])
    rw [offer, State.relevel_power_of_changed same]
    unfold State.shedTo
    rw [State.shedWhere_eq, State.follow_supplyLevel]
    split
    · rename_i strap
      exact .inr ⟨by simpa using strap.1, strap.2, rfl⟩
    · exact .inl (by simp)

/-- A level that allows whatever is ON sheds nothing (R154). -/
theorem shedDomains_of_allowed {a n : Nat} {ds : List Domain} (h : ∀ d ∈ ds, d.state = .on → d.priority < 8 - n) :
    shedDomains a n ds = ds := by
  unfold shedDomains
  split
  · rfl
  · refine (List.map_congr_left fun d mem => if_neg fun shed => ?_).trans (List.map_id ds)
    have := h d mem shed.1
    omega

theorem State.relevel_motion (h : s.SensorsMatch) (still : s.station = .headset → s.relevel.power.domains = s.power.domains) :
    s.relevel.motion = s.motion := by
  by_cases same : s.appliedLevel = s.power.applied
  · rw [State.relevel_of_same same]
  · have followed : s.relevel.motion = (s.shedTo s.appliedLevel).motion := by
      rw [State.relevel_of_changed same]
      simp
    rw [followed]
    unfold State.shedTo
    rw [State.shedWhere_eq, State.follow_motion, State.sensed_of_matching]
    · simp
    · intro headset
      have headset : s.station = .headset := by simpa using headset
      have shed := State.SensorsMatch.shed (s := s.modPower fun q => { q with applied := s.appliedLevel }) h
        fun d => decide (8 - s.appliedLevel ≤ d.priority)
      have domains : (s.relevel).power.domains =
          ((s.modPower fun q => { q with applied := s.appliedLevel }).changeDomains
            (shedIf fun d => decide (8 - s.appliedLevel ≤ d.priority))).power.domains := by
        rw [State.relevel_power_of_changed same, State.changeDomains_power]
        exact shed
      rw [State.domainOn_congr (domains.symm.trans (still headset))]
      simpa using h headset

/-- What falls silent leaves a state with its domains and its motion unit, and STRAP without an offer at level 0 (R154, R166). -/
structure State.Quieter (s t : State) : Prop where
  station : t.station = s.station
  cfg : t.cfg = s.cfg
  sup : t.sup = s.sup
  motion : t.motion = s.motion
  power : t.power = { s.power with supplyLevel := t.power.supplyLevel, applied := t.power.applied }
  level : t.power.supplyLevel = s.power.supplyLevel ∨ s.station = .strap ∧ s.ownOffer = 0 ∧ t.power.supplyLevel = 0

namespace State.Quieter
variable {t u : State}

theorem domains (h : s.Quieter t) : t.power.domains = s.power.domains := by rw [h.power]

theorem ownOffer (h : s.Quieter t) : t.ownOffer = s.ownOffer :=
  State.ownOffer_congr h.station h.cfg h.sup (by rw [h.power]) (by rw [h.power]) h.domains

theorem trans (h : s.Quieter t) (k : t.Quieter u) : s.Quieter u := by
  refine ⟨k.station.trans h.station, k.cfg.trans h.cfg, k.sup.trans h.sup, k.motion.trans h.motion, ?_, ?_⟩
  · rw [k.power, h.power]
  · obtain level | ⟨strap, offer, zero⟩ := k.level
    · rw [level]
      exact h.level
    · exact .inr ⟨h.station.symm.trans strap, h.ownOffer.symm.trans offer, zero⟩

theorem sensorsMatch (h : s.Quieter t) (matching : s.SensorsMatch) : t.SensorsMatch := fun headset => by
  rw [h.motion, State.domainOn_congr h.domains]
  exact matching (h.station.symm.trans headset)

end State.Quieter

/-- An applied level that does not rise sheds nothing (R154). -/
theorem State.relevel_quieter (allowed : ∀ d ∈ s.power.domains, d.state = .on → d.priority < 8 - s.power.applied)
    (matching : s.SensorsMatch) (falls : s.appliedLevel ≤ s.power.applied) : s.Quieter s.relevel := by
  have stands : s.relevel.power.domains = s.power.domains := by
    rw [matching.relevel_shedDomains]
    refine shedDomains_of_allowed fun d mem on => ?_
    have := allowed d mem on
    omega
  have offer : s.relevel.ownOffer = s.ownOffer :=
    State.ownOffer_congr (by simp) (by simp) (by simp) (by simp) (by simp) stands
  refine ⟨by simp, by simp, by simp, State.relevel_motion matching fun _ => stands, ?_, ?_⟩
  · rw [State.relevel_power, stands]
  · rw [← offer]
    exact s.relevel_supplyLevel

/-! ### The entries' ages (R157) -/

/-- An entry falls silent at this boundary (R157). -/
def State.Silences (s : State) (x : Station) : Prop := x ≠ s.station ∧ (s.views.get x).state = .heard ∧ 9 ≤ (s.views.get x).age

/-- An entry after it aged (R157); the own entry is live. -/
def State.agedView (s : State) (x : Station) : View :=
  if x = s.station ∨ (s.views.get x).state = .unknown then s.views.get x
  else
    { s.views.get x with
      age := min ((s.views.get x).age + 1) 255,
      state := if (s.views.get x).state = .heard ∧ 9 ≤ (s.views.get x).age then .silent else (s.views.get x).state }

/-- The state with one entry aged. -/
def State.withAged (s : State) (x : Station) : State := { s with views := s.views.set x (s.agedView x) }

theorem State.ageEntry_of_silences {x : Station} (h : s.Silences x) : s.ageEntry x = (s.withAged x).relevel := by
  obtain ⟨other, heard, old⟩ := h
  have known : ¬(x = s.station ∨ (s.views.get x).state = .unknown) := by
    rintro (own | unknown)
    · exact other own
    · rw [heard] at unknown
      cases unknown
  have ten : 10 ≤ min ((s.views.get x).age + 1) 255 := by omega
  unfold State.ageEntry
  dsimp only
  rw [if_neg known, if_pos ⟨heard, ten⟩]
  unfold State.silence State.withAged State.agedView
  rw [if_neg known, if_pos ⟨heard, old⟩]
  simp [Nat.max_eq_left ten]

theorem State.ageEntry_of_not_silences {x : Station} (h : ¬s.Silences x) : s.ageEntry x = s.withAged x := by
  unfold State.ageEntry State.withAged State.agedView
  dsimp only
  split
  · simp
  · rename_i known
    rw [not_or] at known
    have young : ¬((s.views.get x).state = .heard ∧ 10 ≤ min ((s.views.get x).age + 1) 255) := fun both =>
      h ⟨known.1, both.1, by omega⟩
    rw [if_neg young, if_neg fun both => h ⟨known.1, both.1, both.2⟩]

theorem State.ageEntry_views (s : State) (x : Station) : (s.ageEntry x).views = s.views.set x (s.agedView x) := by
  by_cases h : s.Silences x
  · rw [State.ageEntry_of_silences h]
    simp [State.withAged]
  · rw [State.ageEntry_of_not_silences h]
    rfl

theorem State.agedView_congr {t : State} {x : Station} (station : t.station = s.station)
    (view : t.views.get x = s.views.get x) : t.agedView x = s.agedView x := by
  unfold State.agedView
  rw [station, view]

/-- Every entry ages once (R157). -/
theorem State.ageViews_get (s : State) (x : Station) : s.ageViews.views.get x = s.agedView x := by
  unfold State.ageViews
  cases x <;> simp [State.ageEntry_views, PerStation.get_set, State.agedView]

/-- Where no entry falls silent the ages are all that changes (R157). -/
theorem State.ageViews_of_none (h : ∀ x, ¬s.Silences x) : s.ageViews = { s with views := s.ageViews.views } := by
  have step (v : PerStation View) (y : Station) (fresh : v.get y = s.views.get y) :
      State.ageEntry { s with views := v } y = { s with views := v.set y (s.agedView y) } := by
    have same : State.agedView { s with views := v } y = s.agedView y := State.agedView_congr (s := s) rfl fresh
    rw [State.ageEntry_of_not_silences fun silences => h y ?_]
    · unfold State.withAged
      rw [same]
    · unfold State.Silences at silences ⊢
      rwa [fresh] at silences
  have all : s.ageViews = { s with
      views := (((s.views.set .console (s.agedView .console)).set .pod (s.agedView .pod)).set .headset
        (s.agedView .headset)).set .strap (s.agedView .strap) } := by
    unfold State.ageViews
    rw [show s.ageEntry .console = _ from step s.views .console rfl, step (s.views.set .console (s.agedView .console)) .pod rfl,
      step ((s.views.set .console (s.agedView .console)).set .pod (s.agedView .pod)) .headset rfl,
      step (((s.views.set .console (s.agedView .console)).set .pod (s.agedView .pod)).set .headset (s.agedView .headset))
        .strap rfl]
  rw [all]

/-- An entry that falls silent raises no level (R154, R157). -/
theorem State.ShedLevelHolds.silence_falls (h : s.ShedLevelHolds) {x : Station} (silences : s.Silences x) :
    (s.withAged x).appliedLevel ≤ s.power.applied := by
  have silent : ((s.withAged x).views.get x).state = .silent := by
    unfold State.withAged State.agedView
    rw [PerStation.get_set_self, if_neg, if_pos ⟨silences.2.1, silences.2.2⟩]
    rintro (own | unknown)
    · exact silences.1 own
    · rw [silences.2.1] at unknown
      cases unknown
  have level (y : Station) : (s.withAged x).levelOf y ≤ s.levelOf y := by
    by_cases same : y = x
    · unfold State.levelOf
      rw [show (s.withAged x).station = s.station from rfl, show (s.withAged x).power = s.power from rfl]
      split
      · exact Nat.le_refl _
      · rw [same, silent, if_neg (by simp)]
        exact Nat.zero_le _
    · have view : (s.withAged x).views.get y = s.views.get y := by
        unfold State.withAged
        rw [PerStation.get_set, if_neg same]
      unfold State.levelOf
      rw [view]
      exact Nat.le_refl _
  rw [h.applied]
  exact max_le_max (level _) (level _)

theorem State.ShedLevelHolds.ageEntry_quieter (h : s.ShedLevelHolds) (matching : s.SensorsMatch) (x : Station) :
    s.Quieter (s.ageEntry x) := by
  by_cases silences : s.Silences x
  · rw [State.ageEntry_of_silences silences]
    have quieter := State.relevel_quieter (s := s.withAged x) h.allowed matching (h.silence_falls silences)
    exact ⟨quieter.station, quieter.cfg, quieter.sup, quieter.motion, quieter.power, quieter.level⟩
  · rw [State.ageEntry_of_not_silences silences]
    exact ⟨rfl, rfl, rfl, rfl, rfl, .inl rfl⟩

/-- In states in which the power rules hold silence sheds nothing (R154, R157). -/
theorem State.ShedLevelHolds.ageViews_quieter (h : s.ShedLevelHolds) (live : s.live) (matching : s.SensorsMatch) :
    s.Quieter s.ageViews := by
  have step (t : State) (x : Station) (all : t.live ∧ t.ShedLevelHolds ∧ s.Quieter t) :
      (t.ageEntry x).live ∧ (t.ageEntry x).ShedLevelHolds ∧ s.Quieter (t.ageEntry x) := by
    obtain ⟨live, holds, quieter⟩ := all
    exact ⟨by simpa [State.live] using live, holds.ageEntry live x,
      quieter.trans (holds.ageEntry_quieter (quieter.sensorsMatch matching) x)⟩
  exact (step _ .strap (step _ .headset (step _ .pod (step s .console ⟨live, h, rfl, rfl, rfl, rfl, rfl, .inl rfl⟩)))).2.2

end

end Sys2Proof.Machine

namespace Sys2Proof.Machine

/-! ### The supply levels' step (R162, R163, R166) -/

section
variable {s : State}

/-- The own supply level after its step (R162, R166). -/
def State.nextLevel (s : State) : Nat :=
  match s.station with
  | .console =>
    if s.power.tripWait = 0 ∧ s.power.switchClosed = true then levelStep s.power.supplyLevel s.power.p s.supplyLimit
    else s.power.supplyLevel
  | .strap => if s.ownOffer = 0 then 0 else levelStep s.power.supplyLevel s.power.p s.ownOffer
  | .pod | .headset => s.power.supplyLevel

/-- The trip wait ends at this boundary (R163). -/
def State.recloses (s : State) : Bool := decide (s.station = .console ∧ s.power.tripWait = 1)

theorem State.supplyStep_of_peripheral (h : s.station = .pod ∨ s.station = .headset) : s.supplyStep = s := by
  unfold State.supplyStep
  obtain pod | headset := h
  · rw [pod]
  · rw [headset]

theorem State.supplyStep_of_waiting (console : s.station = .console) (waits : 0 < s.power.tripWait) :
    s.supplyStep = s.countTrip := by
  unfold State.supplyStep
  rw [console]
  exact if_pos waits

theorem State.supplyStep_of_open (console : s.station = .console) (none : s.power.tripWait = 0)
    (opened : ¬s.power.switchClosed = true) : s.supplyStep = s := by
  unfold State.supplyStep
  rw [console]
  exact (if_neg (by omega)).trans (if_neg opened)

/-- Where the step sets the supply level (R162, R166). -/
def State.Levels (s : State) : Prop :=
  s.station = .console ∧ s.power.tripWait = 0 ∧ s.power.switchClosed = true ∨ s.station = .strap

theorem State.supplyStep_of_levels (h : s.Levels) : s.supplyStep = s.setLevel s.nextLevel := by
  unfold State.supplyStep State.nextLevel
  obtain ⟨console, none, closed⟩ | strap := h
  · rw [console]
    dsimp only
    rw [if_neg (by omega), if_pos closed, if_pos ⟨none, closed⟩]
  · rw [strap]
    dsimp only
    split <;> rfl

theorem State.supplyStep_cases (s : State) :
    (s.supplyStep = s ∧ s.nextLevel = s.power.supplyLevel ∧ s.recloses = false) ∨
      (s.station = .console ∧ 0 < s.power.tripWait ∧ s.supplyStep = s.countTrip ∧ s.nextLevel = s.power.supplyLevel) ∨
      (s.Levels ∧ s.recloses = false) := by
  cases station : s.station with
  | console =>
    by_cases waits : 0 < s.power.tripWait
    · refine .inr (.inl ⟨rfl, waits, State.supplyStep_of_waiting station waits, ?_⟩)
      unfold State.nextLevel
      rw [station]
      exact if_neg fun h => by omega
    · have none : s.power.tripWait = 0 := by omega
      have stays : s.recloses = false := by
        unfold State.recloses
        rw [none]
        exact decide_eq_false (by simp)
      by_cases closed : s.power.switchClosed = true
      · exact .inr (.inr ⟨.inl ⟨station, none, closed⟩, stays⟩)
      · refine .inl ⟨State.supplyStep_of_open station none closed, ?_, stays⟩
        unfold State.nextLevel
        rw [station]
        exact if_neg fun h => closed h.2
  | pod =>
    refine .inl ⟨State.supplyStep_of_peripheral (.inl station), ?_, ?_⟩
    · unfold State.nextLevel
      rw [station]
    · simp [State.recloses, station]
  | headset =>
    refine .inl ⟨State.supplyStep_of_peripheral (.inr station), ?_, ?_⟩
    · unfold State.nextLevel
      rw [station]
    · simp [State.recloses, station]
  | strap => exact .inr (.inr ⟨.inr station, by simp [State.recloses, station]⟩)

/-- The trip wait's step changes the switch and its counts alone in the power unit (R163). -/
theorem State.countTrip_power (s : State) :
    s.countTrip.power =
      { s.power with
        tripWait := s.power.tripWait - 1,
        switchClosed := s.power.switchClosed || decide (s.power.tripWait - 1 = 0),
        tripped := s.power.tripped && !decide (s.power.tripWait - 1 = 0) } := by
  unfold State.countTrip
  dsimp only
  split
  · rename_i ends
    rw [State.reclose_power]
    simp [State.modPower, ends]
  · rename_i runs
    simp [State.modPower, runs]

/-! #### A level that is set (R154) -/

theorem State.setLevel_eq (s : State) (n : Nat) : s.setLevel n = (s.modPower fun p => { p with supplyLevel := n }).relevel := rfl

theorem State.setLevel_power (s : State) (n : Nat) :
    (s.setLevel n).power =
      { s.power with
        domains := (s.setLevel n).power.domains, supplyLevel := (s.setLevel n).power.supplyLevel,
        applied := (s.setLevel n).power.applied } := by
  rw [State.setLevel_eq, State.relevel_power]
  rfl

/-- STRAP's offer stands while its level is set, where there is one (R165). -/
theorem State.setLevel_ownOffer (strap : s.station = .strap) (offers : s.ownOffer ≠ 0) (n : Nat) :
    (s.setLevel n).ownOffer = s.ownOffer := by
  rw [State.ownOffer_of_strap strap] at offers ⊢
  rw [State.ownOffer_of_strap (by simpa using strap), State.setLevel_power]
  have charger : s.power.battery = true ∧ s.domainOn 1 = false := by
    by_contra no
    exact offers (if_neg no)
  have matching : (s.modPower fun p => { p with supplyLevel := n }).SensorsMatch :=
    State.sensorsMatch_of_ne (by simp [State.modPower, strap])
  have off : (s.setLevel n).domainOn 1 = false := by
    refine Bool.eq_false_iff.2 fun on => ?_
    unfold State.domainOn at on
    obtain ⟨d, mem, is⟩ := List.any_eq_true.1 on
    rw [Bool.and_eq_true, beq_iff_eq, beq_iff_eq] at is
    obtain ⟨⟨e, was, number, state⟩, -⟩ := State.relevel_on mem is.2
    have before : s.domainOn 1 = true :=
      List.any_eq_true.2 ⟨e, was, by rw [Bool.and_eq_true, beq_iff_eq, beq_iff_eq]; exact ⟨number.trans is.1, state⟩⟩
    rw [charger.2] at before
    cases before
  rw [off, charger.2]
  simp

theorem State.setLevel_supplyLevel {n : Nat} (none : s.station = .strap → s.ownOffer = 0 → n = 0) :
    (s.setLevel n).power.supplyLevel = n := by
  rw [State.setLevel_eq]
  obtain level | ⟨strap, offer, zero⟩ := (s.modPower fun p => { p with supplyLevel := n }).relevel_supplyLevel
  · exact level
  · have strap : s.station = .strap := strap
    rw [zero]
    by_cases offers : s.ownOffer = 0
    · exact (none strap offers).symm
    · rw [← State.setLevel_eq, State.setLevel_ownOffer strap offers] at offer
      exact absurd offer offers

theorem State.nextLevel_of_strap (strap : s.station = .strap) (none : s.ownOffer = 0) : s.nextLevel = 0 := by
  unfold State.nextLevel
  rw [strap]
  exact if_pos none

/-- The supply level after the step (R162, R166). -/
theorem State.supplyStep_supplyLevel (s : State) : s.supplyStep.power.supplyLevel = s.nextLevel := by
  obtain ⟨same, next, -⟩ | ⟨-, -, waits, next⟩ | ⟨levels, -⟩ := s.supplyStep_cases
  · rw [same, next]
  · rw [waits, next, State.countTrip_power]
  · rw [State.supplyStep_of_levels levels]
    exact State.setLevel_supplyLevel fun strap none => State.nextLevel_of_strap strap none

/-- What the step leaves in the power unit, and the switch it closes (R163). -/
theorem State.supplyStep_power (s : State) :
    s.supplyStep.power.droop = s.power.droop ∧ s.supplyStep.power.rail = s.power.rail ∧
      s.supplyStep.power.battery = s.power.battery ∧
      s.supplyStep.power.switchClosed = (s.power.switchClosed || s.recloses) := by
  obtain ⟨same, -, stays⟩ | ⟨console, waits, counts, -⟩ | ⟨levels, stays⟩ := s.supplyStep_cases
  · rw [same, stays, Bool.or_false]
    exact ⟨rfl, rfl, rfl, rfl⟩
  · rw [counts, State.countTrip_power]
    refine ⟨rfl, rfl, rfl, ?_⟩
    unfold State.recloses
    have ends : s.power.tripWait - 1 = 0 ↔ s.power.tripWait = 1 := by omega
    simp only [ends, console, true_and]
  · rw [State.supplyStep_of_levels levels, State.setLevel_power, stays, Bool.or_false]
    exact ⟨rfl, rfl, rfl, rfl⟩

/-- In states in which the power rules hold the step sheds what the new level does not allow, and moves no motion unit (R154). -/
theorem State.ShedLevelHolds.supplyStep_sheds (h : s.ShedLevelHolds) (live : s.live) :
    s.supplyStep.power.domains =
        s.power.domains.map (shedIf fun d => decide (8 - s.supplyStep.appliedLevel ≤ d.priority)) ∧
      s.supplyStep.power.applied = s.supplyStep.appliedLevel ∧ s.supplyStep.motion = s.motion := by
  have after := h.supplyStep live
  have applied := after.applied
  have unshed (level : s.supplyStep.power.applied = s.power.applied) :
      s.power.domains.map (shedIf fun d => decide (8 - s.supplyStep.power.applied ≤ d.priority)) = s.power.domains := by
    refine (List.map_congr_left fun d mem => if_neg fun shed => ?_).trans (List.map_id _)
    have := h.allowed d mem shed.1
    have := of_decide_eq_true shed.2
    omega
  obtain ⟨same, -, -⟩ | ⟨-, -, counts, -⟩ | ⟨levels, -⟩ := s.supplyStep_cases
  · rw [← applied, unshed (by rw [same])]
    exact ⟨by rw [same], rfl, by rw [same]⟩
  · have power : s.supplyStep.power = s.countTrip.power := by rw [counts]
    rw [State.countTrip_power] at power
    rw [← applied, unshed (by rw [power])]
    exact ⟨by rw [power], rfl, by rw [counts]; simp⟩
  · have other : s.station ≠ .headset := by
      obtain ⟨console, -⟩ | strap := levels
      · rw [console]
        nofun
      · rw [strap]
        nofun
    have matching : (s.modPower fun p => { p with supplyLevel := s.nextLevel }).SensorsMatch := State.sensorsMatch_of_ne other
    have level : (s.modPower fun p => { p with supplyLevel := s.nextLevel }).appliedLevel = s.supplyStep.appliedLevel :=
      (State.appliedLevel_congr (by simp [State.modPower]) (by simp [State.modPower]) (by simp [State.modPower])
        (s.supplyStep_supplyLevel.trans rfl)).symm
    refine ⟨?_, applied, ?_⟩
    · have domains : s.supplyStep.power.domains =
          (s.modPower fun p => { p with supplyLevel := s.nextLevel }).relevel.power.domains := by
        rw [State.supplyStep_of_levels levels, State.setLevel_eq]
      rw [domains, matching.relevel, level]
      split
      · rename_i same
        exact (by rw [← applied] at same ⊢; exact (unshed same).symm)
      · rfl
    · rw [State.supplyStep_of_levels levels, State.setLevel_eq, State.relevel_motion matching fun headset => absurd headset other]
      rfl

end

end Sys2Proof.Machine

namespace Sys2Proof.Machine

/-! ### What an admission looks at (R159, R160) -/

section
variable {s t : State}

/-- The views of two states agree but for the ages. -/
def State.SeenAs (s t : State) : Prop :=
  ∀ x, (t.views.get x).state = (s.views.get x).state ∧ (t.views.get x).report = (s.views.get x).report

/-- Two states in which the admission test finds the same (R159, R160). -/
structure State.AdmitsAs (s t : State) : Prop where
  station : t.station = s.station
  cfg : t.cfg = s.cfg
  stations : t.stations = s.stations
  views : s.SeenAs t
  domains : t.power.domains = s.power.domains
  applied : t.power.applied = s.power.applied
  rail : t.power.rail = s.power.rail
  offer : t.ownOffer = s.ownOffer
  motion : t.motion = s.motion
  clock : t.clock = s.clock
  settled : t.settled = s.settled

namespace State.AdmitsAs

theorem admissible (h : s.AdmitsAs t) (d : Domain) : t.admissible d = true ↔ s.admissible d = true := by
  have others : t.otherStations = s.otherStations := by
    unfold State.otherStations
    rw [h.station]
  have state (x : Station) := (h.views x).1
  have report (x : Station) := (h.views x).2
  have offers : t.offersCounted = s.offersCounted := by
    simp only [State.offersCounted_eq, others, h.offer, h.stations, state, report]
  have draws : t.drawsCounted = s.drawsCounted := by
    simp only [State.drawsCounted_eq, others, h.domains, state, report]
  have ahead : t.waitingAhead d.priority = s.waitingAhead d.priority := by
    simp only [State.waitingAhead_eq, others, h.station, state, report]
  rw [State.admissible_iff, State.admissible_iff, h.applied, h.cfg, h.rail, offers, draws, ahead]

/-- The same admission is made in both (R159). -/
theorem admission (h : s.AdmitsAs t) :
    t.admission.power.domains = s.admission.power.domains ∧ t.admission.motion = s.admission.motion := by
  cases pick : candidate s.power.domains with
  | none =>
    rw [State.admission_of_none pick, State.admission_of_none (by rw [h.domains, pick])]
    exact ⟨h.domains, h.motion⟩
  | some d =>
    have pick' : candidate t.power.domains = some d := by rw [h.domains, pick]
    by_cases fits : s.admissible d = true
    · rw [State.admission_of_admitted pick fits, State.admission_of_admitted pick' ((h.admissible d).2 fits)]
      have domains : (t.changeDomains (admitOn d.number)).power.domains = (s.changeDomains (admitOn d.number)).power.domains := by
        rw [State.changeDomains_power, State.changeDomains_power, h.domains]
      have station : (t.changeDomains (admitOn d.number)).station = (s.changeDomains (admitOn d.number)).station := by
        simpa using h.station
      have motion : (t.changeDomains (admitOn d.number)).motion = (s.changeDomains (admitOn d.number)).motion := by
        simpa using h.motion
      have on := State.domainOn_congr domains 2
      rw [State.follow_domains, State.follow_domains, State.follow_motion, State.follow_motion]
      unfold State.starts State.wearLinked State.sensed
      rw [domains, station, motion, on]
      have clock : (t.changeDomains (admitOn d.number)).clock = (s.changeDomains (admitOn d.number)).clock := by
        simpa using h.clock
      have settled : (t.changeDomains (admitOn d.number)).settled = (s.changeDomains (admitOn d.number)).settled := by
        have kept (u : State) : (u.changeDomains (admitOn d.number)).settled = u.settled := by simp [State.settled, State.live]
        rw [kept, kept, h.settled]
      have cfg : (t.changeDomains (admitOn d.number)).cfg = (s.changeDomains (admitOn d.number)).cfg := by
        simpa using h.cfg
      rw [clock, settled, cfg]
      exact ⟨rfl, rfl⟩
    · rw [State.admission_of_refused pick fits, State.admission_of_refused pick' fun is => fits ((h.admissible d).1 is)]
      exact ⟨h.domains, h.motion⟩

end State.AdmitsAs

/-! #### The notice of an admission (R153) -/

/-- A DOMAIN_STATE notice of a domain and a code waits. -/
def State.DomainPosted (s : State) (m n : Nat) : Prop :=
  ∃ x ∈ s.notices, x.kind = .domainState ∧ x.subject = .domain m ∧ x.value = BitVec.ofNat 32 n

theorem State.DomainPosted.post {m n : Nat} (h : s.DomainPosted m n) {k : NoticeKind} {y : Subject} {v : Nat}
    (other : y = .domain m → k = .domainState ∧ v = n) : (s.post k y v).DomainPosted m n := by
  by_cases live : s.live
  · by_cases same : y = .domain m
    · obtain ⟨kind, value⟩ := other same
      obtain ⟨x, mem, is, subject, is_value⟩ := State.exists_posted live k y v
      exact ⟨x, mem, is.trans kind, subject.trans same, by rw [is_value, value]⟩
    · obtain ⟨x, mem, kind, subject, value⟩ := h
      rw [State.post_of_live live]
      exact ⟨x, mem_putNotice_of_ne mem (by rw [subject]; exact Ne.symm same), kind, subject, value⟩
  · have same : s.post k y v = s := by
      unfold State.post
      rw [if_neg live]
    rw [same]
    exact h

section
variable {f : Domain → Domain} {m : Nat} {x : DomainState}

theorem State.DomainPosted.postDomains (ds : List Domain)
    (only : ∀ e ∈ ds, (f e).number = m → (f e).state ≠ e.state → (f e).state = x) :
    ∀ t : State, t.DomainPosted m x.code → (t.postDomains ds (ds.map f)).DomainPosted m x.code := by
  induction ds with
  | nil => exact fun t h => h
  | cons e ds ih =>
    intro t h
    rw [List.map_cons]
    unfold State.postDomains
    refine ih (fun e mem => only e (List.mem_cons_of_mem _ mem)) _ ?_
    split
    · exact h
    · rename_i changed
      exact h.post fun same => ⟨rfl, by rw [only e List.mem_cons_self (Subject.domain.inj same) changed]⟩

/-- A change of domains that moves the domains of a number to one state leaves a notice of it (R153). -/
theorem State.postDomains_posts {ds : List Domain} {d : Domain} (mem : d ∈ ds) (number : (f d).number = m)
    (state : (f d).state = x) (changed : (f d).state ≠ d.state)
    (only : ∀ e ∈ ds, (f e).number = m → (f e).state ≠ e.state → (f e).state = x) :
    ∀ t : State, t.live → (t.postDomains ds (ds.map f)).DomainPosted m x.code := by
  induction ds with
  | nil => cases mem
  | cons e ds ih =>
    intro t live
    have rest := fun e mem => only e (List.mem_cons_of_mem _ mem)
    rw [List.map_cons]
    unfold State.postDomains
    obtain rfl | mem := List.mem_cons.1 mem
    · rw [if_neg changed, number, state]
      exact State.DomainPosted.postDomains ds rest _ (State.exists_posted live _ _ _)
    · refine ih mem rest _ ?_
      split
      · exact live
      · simpa [State.live] using live

theorem State.DomainPosted.changeDomains (h : s.DomainPosted m x.code)
    (only : ∀ e ∈ s.power.domains, (f e).number = m → (f e).state ≠ e.state → (f e).state = x) :
    (s.changeDomains f).DomainPosted m x.code := State.DomainPosted.postDomains _ only _ h

theorem State.DomainPosted.motionTo (h : s.DomainPosted m x.code) (g : Motion → Motion) : (s.motionTo g).DomainPosted m x.code :=
  State.DomainPosted.post (s := { s with motion := g s.motion }) h nofun

/-- The wear link's write leaves the notice of another domain than the display (R123). -/
theorem State.DomainPosted.wearLink (h : s.DomainPosted m x.code) (other : m ≠ 1) (v : Bool) :
    (s.wearLink v).DomainPosted m x.code := by
  unfold State.wearLink
  split
  · have linked : (s.changeDomains (wantOf 1 v)).DomainPosted m x.code := by
      refine h.changeDomains fun e _ number changed => absurd ?_ changed
      rw [wantOf_number] at number
      rw [wantOf_eq, if_neg fun h => other (number.symm.trans h.1)]
    unfold State.DomainPosted at linked ⊢
    simpa using linked
  · exact h

theorem State.DomainPosted.lowerLevel (h : s.DomainPosted m x.code) : s.lowerLevel.DomainPosted m x.code := by
  unfold State.lowerLevel
  split
  · exact h
  · exact State.DomainPosted.post (s := { s with power := { s.power with applied := s.appliedLevel } }) h nofun

theorem State.DomainPosted.followSensors (h : s.DomainPosted m x.code) (apart : s.starts = true → m ≠ 1) :
    s.followSensors.DomainPosted m x.code := by
  by_cases starts : s.starts = true
  · rw [State.followSensors_of_starts starts]
    exact (h.motionTo _).wearLink (apart starts) _
  · have kept : ¬(s.station = .headset ∧ s.domainOn 2 = true ∧ s.motion.state = .off) := fun h => starts ((s.starts_iff).2 h)
    unfold State.followSensors
    split
    · exact h
    · rename_i headset
      split
      · rename_i on
        rw [if_pos fun off => kept ⟨not_not.1 headset, on, off⟩]
        exact h
      · split
        · exact h
        · exact h.motionTo _

/-- What follows the domains leaves the notice of a domain, but where the wear link writes that domain (R123). -/
theorem State.DomainPosted.follow (h : s.DomainPosted m x.code) (apart : s.starts = true → m ≠ 1) :
    s.follow.DomainPosted m x.code := by
  have units : s.followSensors.followDisplay.followSource.followSink.DomainPosted m x.code := by
    have sensors := h.followSensors apart
    unfold State.DomainPosted at sensors ⊢
    simpa using sensors
  unfold State.follow State.followOffer
  split
  · refine State.DomainPosted.lowerLevel ?_
    exact units
  · exact units

end

end

end Sys2Proof.Machine

namespace Sys2Proof.Machine

/-! ### The power RI boundary whole (R156) -/

section
variable {s : State}

/-- A test for a report spends report numbers alone in the power unit (R178). -/
theorem State.reportTest_power (s : State) :
    s.reportTest.power = { s.power with nextReport := s.reportTest.power.nextReport } :=
  State.reportTest_preserves (P := fun t => t.power = { s.power with nextReport := t.power.nextReport })
    (fun t _ h => by rw [State.buildReport_power, h]) rfl

theorem State.balanceStep_power (s : State) :
    s.balanceStep.power = { s.power with nextReport := s.balanceStep.power.nextReport } := by
  unfold State.balanceStep
  dsimp only
  split
  · exact State.callEvent_preserves (P := fun t => t.power = { s.power with nextReport := t.power.nextReport })
      (fun t _ h => by rw [State.buildReport_power, h]) (fun t h => h) rfl
  · rfl

/-- The state in which the admission test of a boundary is made: aged, stepped, the droop mark cleared (R156). -/
def State.prepared (s : State) : State :=
  ((s.calling State.ageViews).calling State.supplyStep).modPower fun p => { p with droop := false }

/-- What a boundary leaves in the power unit, but for the number of the next report (R156). -/
def State.admitted (s : State) : State := if s.running then s.prepared.admission else s.prepared

/-- The state after a boundary (R156). -/
def State.afterBoundary (s : State) : State :=
  if s.powerSteps.running then s.powerSteps.balanceStep.reportTest else s.powerSteps

theorem exec_powerRiBoundary (live : s.live) : exec .powerRiBoundary s = .next s.afterBoundary := by
  refine (if_pos live).trans ?_
  unfold State.afterBoundary
  split <;> rfl

theorem State.prepared_running (s : State) : s.prepared.running ↔ s.running := by simp [State.prepared, State.running]

theorem State.powerSteps_running (s : State) : s.powerSteps.running ↔ s.running := by simp [State.running]

theorem State.powerSteps_eq (s : State) :
    s.powerSteps = if s.prepared.running then s.prepared.calling State.admission else s.prepared := rfl

theorem State.powerSteps_of_running (running : s.running) : s.powerSteps = s.prepared.calling State.admission := by
  rw [State.powerSteps_eq, if_pos (s.prepared_running.2 running)]

theorem State.powerSteps_of_not_running (idle : ¬s.running) : s.powerSteps = s.prepared := by
  rw [State.powerSteps_eq, if_neg fun running => idle (s.prepared_running.1 running)]

theorem State.afterBoundary_power (s : State) :
    s.afterBoundary.power = { s.admitted.power with nextReport := s.afterBoundary.power.nextReport } := by
  unfold State.afterBoundary State.admitted
  by_cases running : s.running
  · rw [if_pos (s.powerSteps_running.2 running), if_pos running, State.reportTest_power, State.balanceStep_power,
      State.powerSteps_of_running running, State.calling_power]
  · rw [if_neg fun h => running (s.powerSteps_running.1 h), if_neg running, State.powerSteps_of_not_running running]

theorem State.afterBoundary_motion (s : State) : s.afterBoundary.motion = s.admitted.motion := by
  unfold State.afterBoundary State.admitted
  by_cases running : s.running
  · rw [if_pos (s.powerSteps_running.2 running), if_pos running, State.powerSteps_of_running running]
    simp
  · rw [if_neg fun h => running (s.powerSteps_running.1 h), if_neg running, State.powerSteps_of_not_running running]

theorem State.afterBoundary_keeps (s : State) :
    s.afterBoundary.station = s.station ∧ s.afterBoundary.cfg = s.cfg ∧ s.afterBoundary.sup = s.sup ∧
      s.afterBoundary.stations = s.stations ∧ s.afterBoundary.rx = s.rx ∧ s.afterBoundary.views = s.ageViews.views := by
  unfold State.afterBoundary
  by_cases running : s.running
  · rw [if_pos (s.powerSteps_running.2 running), State.powerSteps_of_running running]
    simp [State.prepared]
  · rw [if_neg fun h => running (s.powerSteps_running.1 h), State.powerSteps_of_not_running running]
    simp [State.prepared]

/-! #### What stands while the entries age -/

theorem State.ageEntry_power (s : State) (x : Station) :
    (s.ageEntry x).power =
        { s.power with
          domains := (s.ageEntry x).power.domains, supplyLevel := (s.ageEntry x).power.supplyLevel,
          applied := (s.ageEntry x).power.applied } ∧
      (s.station ≠ .strap → (s.ageEntry x).power.supplyLevel = s.power.supplyLevel) := by
  by_cases silences : s.Silences x
  · rw [State.ageEntry_of_silences silences]
    refine ⟨?_, fun other => ?_⟩
    · rw [State.relevel_power]
      rfl
    · exact State.relevel_supplyLevel_of_ne_strap (s := s.withAged x) other
  · rw [State.ageEntry_of_not_silences silences]
    exact ⟨rfl, fun _ => rfl⟩

theorem State.ageViews_power (s : State) :
    s.ageViews.power =
        { s.power with
          domains := s.ageViews.power.domains, supplyLevel := s.ageViews.power.supplyLevel,
          applied := s.ageViews.power.applied } ∧
      (s.station ≠ .strap → s.ageViews.power.supplyLevel = s.power.supplyLevel) := by
  have step (t : State) (x : Station)
      (h : t.power =
          { s.power with domains := t.power.domains, supplyLevel := t.power.supplyLevel, applied := t.power.applied } ∧
        (s.station ≠ .strap → t.power.supplyLevel = s.power.supplyLevel) ∧ t.station = s.station) :
      (t.ageEntry x).power =
          { s.power with
            domains := (t.ageEntry x).power.domains, supplyLevel := (t.ageEntry x).power.supplyLevel,
            applied := (t.ageEntry x).power.applied } ∧
        (s.station ≠ .strap → (t.ageEntry x).power.supplyLevel = s.power.supplyLevel) ∧ (t.ageEntry x).station = s.station := by
    obtain ⟨power, level, station⟩ := h
    obtain ⟨aged, same⟩ := t.ageEntry_power x
    refine ⟨?_, fun other => (same (by rw [station]; exact other)).trans (level other), by simpa using station⟩
    rw [aged, power]
  obtain ⟨power, level, -⟩ :=
    step _ .strap (step _ .headset (step _ .pod (step s .console ⟨rfl, fun _ => rfl, rfl⟩)))
  exact ⟨power, level⟩

/-! #### What an admission leaves -/

theorem State.admission_cases (s : State) :
    s.admission = s ∨ ∃ n, s.admission = (s.changeDomains (admitOn n)).follow := by
  cases pick : candidate s.power.domains with
  | none => exact .inl (State.admission_of_none pick)
  | some d =>
    by_cases fits : s.admissible d = true
    · exact .inr ⟨_, State.admission_of_admitted pick fits⟩
    · exact .inl (State.admission_of_refused pick fits)

theorem State.admission_power (s : State) :
    s.admission.power =
      { s.power with
        domains := s.admission.power.domains, supplyLevel := s.admission.power.supplyLevel,
        applied := s.admission.power.applied } := by
  obtain same | ⟨n, admits⟩ := s.admission_cases
  · rw [same]
  · rw [admits, State.follow_power, State.changeDomains_power]

/-- The supply level after an admission (R166). -/
theorem State.admission_supplyLevel (s : State) :
    s.admission = s ∨
      s.admission.power.supplyLevel =
        if s.station = .strap ∧ s.admission.ownOffer = 0 then 0 else s.power.supplyLevel := by
  obtain same | ⟨n, admits⟩ := s.admission_cases
  · exact .inl same
  · rw [admits, State.follow_supplyLevel]
    exact .inr (by simp)

/-! #### The prepared state, field by field -/

/-- The state with the entries aged and the calls of that made. -/
def State.called (s : State) : State := s.calling State.ageViews

theorem State.called_power (s : State) :
    s.called.power =
      { s.power with
        domains := s.ageViews.power.domains, supplyLevel := s.ageViews.power.supplyLevel, applied := s.ageViews.power.applied,
        nextReport := s.called.power.nextReport } := by
  unfold State.called
  rw [State.calling_power, s.ageViews_power.1]

theorem State.called_ownOffer (domains : s.ageViews.power.domains = s.power.domains) : s.called.ownOffer = s.ownOffer := by
  have power := s.called_power
  rw [domains] at power
  exact State.ownOffer_congr (by simp [State.called]) (by simp [State.called]) (by simp [State.called]) (by rw [power])
    (by rw [power]) (by rw [power])

theorem State.prepared_eq (s : State) :
    s.prepared = (s.called.calling State.supplyStep).modPower fun p => { p with droop := false } := rfl

theorem State.prepared_power (s : State) :
    s.prepared.power =
      { s.called.supplyStep.power with droop := false, nextReport := s.prepared.power.nextReport } := by
  have calls := s.called.calling_power State.supplyStep
  rw [State.prepared_eq]
  generalize s.called.calling State.supplyStep = t at calls
  rw [State.modPower_power]
  conv_lhs => rw [calls]

theorem State.prepared_supplyLevel (s : State) : s.prepared.power.supplyLevel = s.called.nextLevel := by
  rw [State.prepared_power, ← State.supplyStep_supplyLevel]

theorem State.nextLevel_congr {t : State} (station : t.station = s.station) (sup : t.sup = s.sup)
    (wait : t.power.tripWait = s.power.tripWait) (switch : t.power.switchClosed = s.power.switchClosed)
    (p : t.power.p = s.power.p) (offer : t.ownOffer = s.ownOffer)
    (level : t.power.supplyLevel = s.power.supplyLevel ∨ s.station = .strap ∧ s.ownOffer = 0) : t.nextLevel = s.nextLevel := by
  unfold State.nextLevel State.supplyLimit
  rw [station, sup, wait, switch, p, offer]
  obtain level | ⟨strap, none⟩ := level
  · rw [level]
  · rw [strap]
    dsimp only
    rw [if_pos none, if_pos none]

/-- The level's step is the one of the state that the boundary found (R162, R166). -/
theorem State.called_nextLevel (domains : s.ageViews.power.domains = s.power.domains)
    (level : s.ageViews.power.supplyLevel = s.power.supplyLevel ∨ s.station = .strap ∧ s.ownOffer = 0) :
    s.called.nextLevel = s.nextLevel := by
  have power := s.called_power
  exact State.nextLevel_congr (by simp [State.called]) (by simp [State.called]) (by rw [power]) (by rw [power]) (by rw [power])
    (State.called_ownOffer domains) (by rw [power]; exact level)

theorem State.called_nextLevel_of_console (console : s.station = .console) : s.called.nextLevel = s.nextLevel := by
  have power := s.called_power
  have other : s.station ≠ .strap := by rw [console]; nofun
  have level : s.called.power.supplyLevel = s.power.supplyLevel := by
    rw [power]
    exact s.ageViews_power.2 other
  unfold State.nextLevel State.supplyLimit
  rw [show s.called.station = s.station by simp [State.called], console, show s.called.sup = s.sup by simp [State.called], level,
    power]

theorem State.admitted_views (s : State) : s.admitted.views = s.ageViews.views := by
  unfold State.admitted
  split <;> simp [State.prepared]

/-! #### The balance (R177) -/

/-- The balance after its step (R177). -/
def Balance.stepped (b : Balance) : Balance :=
  { b with b := if b.b < 8 then b.b + 1 else b.b, forced := b.forced || !decide (b.b < 8), age := min (b.age + 1) 8 }

theorem State.balanceStep_eq (s : State) :
    s.balanceStep =
      if s.balance.age = 7 then State.callEvent { s with balance := s.balance.stepped }
      else { s with balance := s.balance.stepped } := rfl

theorem Balance.Unsent.stepped {b c : Balance} (h : c.Unsent b) : c.stepped.Unsent b.stepped := by
  obtain ⟨none, value, age, forced, fresh⟩ := h
  unfold Balance.stepped
  rw [value, age, forced]
  exact ⟨none, rfl, rfl, rfl, fresh⟩

theorem Balance.Unsent.balanceStep {c : Balance} (h : c.Unsent s.balance.stepped) :
    c.Unsent s.balanceStep.reportTest.balance := by
  refine State.reportTest_preserves (P := fun t => c.Unsent t.balance) Balance.Unsent.buildReport ?_
  rw [State.balanceStep_eq]
  split
  · exact State.callEvent_preserves (P := fun t => c.Unsent t.balance) Balance.Unsent.buildReport Balance.Unsent.event h
  · exact h

/-- Where no copy was inserted of a report outstanding the boundary steps the balance, and its tests leave that (R177, R178). -/
theorem State.afterBoundary_unsent (running : s.running) (none : ∀ o ∈ s.balance.outstanding, o.inserted = false) :
    s.balance.stepped.Unsent s.afterBoundary.balance := by
  have start : s.balance.Unsent s.balance := ⟨none, rfl, rfl, rfl, rfl⟩
  have prepared : s.balance.Unsent s.prepared.balance := by
    have called : s.balance.Unsent s.called.balance := start.calling (by simp)
    have calls : s.balance.Unsent (s.called.calling State.supplyStep).balance := called.calling (by simp)
    rw [State.prepared_eq]
    generalize s.called.calling State.supplyStep = t at calls
    exact calls
  have admitted : s.balance.Unsent s.powerSteps.balance := by
    rw [State.powerSteps_of_running running]
    exact prepared.calling (by simp)
  unfold State.afterBoundary
  rw [if_pos (s.powerSteps_running.2 running)]
  exact admitted.stepped.balanceStep

/-- Before RUNNING the balance does not step (R177). -/
theorem State.afterBoundary_idle (idle : ¬s.running) :
    s.afterBoundary.balance.b = s.balance.b ∧ s.afterBoundary.balance.age = s.balance.age := by
  have calls (t : State) (g : State → State) (start : (g t).start = t.start) (balance : (g t).balance = t.balance)
      (h : ¬t.running ∧ t.balance.b = s.balance.b ∧ t.balance.age = s.balance.age) :
      ¬(t.calling g).running ∧ (t.calling g).balance.b = s.balance.b ∧ (t.calling g).balance.age = s.balance.age := by
    refine State.calling_preserves (P := fun t => ¬t.running ∧ t.balance.b = s.balance.b ∧ t.balance.age = s.balance.age)
      (fun u due h => absurd ((State.reportDue_iff u).1 due).1 h.1) (fun u h => h) ?_
    rw [balance]
    refine ⟨?_, h.2⟩
    unfold State.running
    rw [start]
    exact h.1
  have called := calls s State.ageViews (by simp) (by simp) ⟨idle, rfl, rfl⟩
  have prepared := calls s.called State.supplyStep (by simp) (by simp) called
  unfold State.afterBoundary
  rw [if_neg fun h => idle (s.powerSteps_running.1 h), State.powerSteps_of_not_running idle, State.prepared_eq]
  generalize s.called.calling State.supplyStep = t at prepared
  exact prepared.2

/-! #### The domains where the power rules hold -/

/-- In states in which the power rules hold a boundary prepares the domains by the level that results (R154, R156). -/
theorem State.ShedLevelHolds.prepared_facts (h : s.ShedLevelHolds) (live : s.live) (matching : s.SensorsMatch) :
    s.prepared.power.domains =
        s.power.domains.map (shedIf fun d => decide (8 - s.prepared.power.applied ≤ d.priority)) ∧
      s.prepared.power.applied = s.prepared.appliedLevel ∧ s.prepared.motion = s.motion ∧
      s.prepared.power.supplyLevel = s.nextLevel ∧ s.prepared.power.rail = s.power.rail ∧
      s.prepared.power.battery = s.power.battery ∧
      s.prepared.power.switchClosed = (s.power.switchClosed || s.recloses) := by
  have quieter := h.ageViews_quieter live matching
  have called : s.called.ShedLevelHolds := State.ShedLevelHolds.calling (h.ageViews live)
  have power := s.called_power
  rw [quieter.domains] at power
  obtain ⟨domains, applied, motion⟩ := called.supplyStep_sheds (by simpa [State.called, State.live] using live)
  obtain ⟨-, rail, battery, switch⟩ := s.called.supplyStep_power
  have stepped := s.prepared_power
  have level : s.prepared.appliedLevel = s.called.supplyStep.appliedLevel :=
    State.appliedLevel_congr (by simp [State.prepared, State.called]) (by simp [State.prepared, State.called])
      (by simp [State.prepared, State.called]) (by rw [stepped])
  have recloses : s.called.recloses = s.recloses := by
    unfold State.recloses
    rw [show s.called.station = s.station by simp [State.called], power]
  have still : s.called.motion = s.motion := (show s.called.motion = s.ageViews.motion by simp [State.called]).trans quieter.motion
  rw [power] at domains rail battery switch
  rw [recloses] at switch
  rw [level, stepped]
  refine ⟨?_, applied, (show s.prepared.motion = _ by simp [State.prepared, State.called]).trans (motion.trans still), ?_, rail,
    battery, switch⟩
  · rw [domains, applied]
  · rw [State.supplyStep_supplyLevel]
    refine State.called_nextLevel quieter.domains ?_
    obtain level | ⟨strap, offer, -⟩ := quieter.level
    · exact .inl level
    · exact .inr ⟨strap, offer⟩

/-! #### What the admission leaves of the prepared state -/

theorem State.admitted_of_running (running : s.running) : s.admitted = s.prepared.admission := if_pos running

theorem State.admitted_of_not_running (idle : ¬s.running) : s.admitted = s.prepared := if_neg idle

theorem State.prepared_station (s : State) : s.prepared.station = s.station := by simp [State.prepared]

theorem State.admitted_power (s : State) :
    s.admitted.power =
      { s.prepared.power with
        domains := s.admitted.power.domains, supplyLevel := s.admitted.power.supplyLevel,
        applied := s.admitted.power.applied } := by
  by_cases running : s.running
  · rw [State.admitted_of_running running, State.admission_power]
  · rw [State.admitted_of_not_running running]

theorem State.admitted_supplyLevel (s : State) :
    s.admitted = s.prepared ∨
      s.admitted.power.supplyLevel =
        if s.station = .strap ∧ s.admitted.ownOffer = 0 then 0 else s.prepared.power.supplyLevel := by
  by_cases running : s.running
  · rw [State.admitted_of_running running, ← State.prepared_station]
    exact State.admission_supplyLevel _
  · exact .inl (State.admitted_of_not_running running)

theorem State.admitted_supplyLevel_of_console (console : s.station = .console) :
    s.admitted.power.supplyLevel = s.nextLevel := by
  rw [← State.called_nextLevel_of_console console, ← State.prepared_supplyLevel]
  obtain same | level := s.admitted_supplyLevel
  · rw [same]
  · rw [level, if_neg (by rw [console]; simp)]

/-- CONSOLE's trip wait steps at a boundary (R163). -/
theorem State.prepared_trip (console : s.station = .console) (waits : 0 < s.power.tripWait) :
    s.prepared.power.tripWait = s.power.tripWait - 1 ∧
      s.prepared.power.switchClosed = (s.power.switchClosed || decide (s.power.tripWait - 1 = 0)) ∧
      s.prepared.power.tripped = (s.power.tripped && !decide (s.power.tripWait - 1 = 0)) := by
  have called := s.called_power
  have wait : s.called.power.tripWait = s.power.tripWait := by rw [called]
  have counts : s.called.supplyStep = s.called.countTrip :=
    State.supplyStep_of_waiting (by simpa [State.called] using console) (by rw [wait]; exact waits)
  rw [State.prepared_power, counts, State.countTrip_power, called]
  exact ⟨rfl, rfl, rfl⟩

theorem State.afterBoundary_supply (s : State) :
    s.afterBoundary.power.tripWait = s.prepared.power.tripWait ∧
      s.afterBoundary.power.switchClosed = s.prepared.power.switchClosed ∧
      s.afterBoundary.power.tripped = s.prepared.power.tripped ∧
      s.afterBoundary.power.droop = s.prepared.power.droop ∧
      s.afterBoundary.power.domains = s.admitted.power.domains ∧
      s.afterBoundary.power.supplyLevel = s.admitted.power.supplyLevel := by
  have admitted := s.admitted_power
  rw [State.afterBoundary_power]
  refine ⟨?_, ?_, ?_, ?_, rfl, rfl⟩ <;> rw [admitted]

theorem State.afterBoundary_ownOffer (s : State) : s.afterBoundary.ownOffer = s.admitted.ownOffer := by
  obtain ⟨station, cfg, sup, -, -, -⟩ := s.afterBoundary_keeps
  have power := s.afterBoundary_power
  have kept : s.admitted.station = s.station ∧ s.admitted.cfg = s.cfg ∧ s.admitted.sup = s.sup := by
    unfold State.admitted
    split <;> simp [State.prepared]
  obtain ⟨station', cfg', sup'⟩ := kept
  exact State.ownOffer_congr (station.trans station'.symm) (cfg.trans cfg'.symm) (sup.trans sup'.symm) (by rw [power])
    (by rw [power]) (by rw [power])

/-- The admission test finds in the prepared state what it finds in the state with its views, levels, switch and domains. -/
theorem State.prepared_admitsAs_with (s : State) {v : PerStation View} {ds : List Domain} {a : Nat} {closed : Bool}
    (views : s.prepared.views = v) (domains : ds = s.prepared.power.domains) (applied : s.prepared.power.applied = a)
    (rail : s.prepared.power.rail = s.power.rail) (battery : s.prepared.power.battery = s.power.battery)
    (switch : s.prepared.power.switchClosed = closed) (motion : s.prepared.motion = s.motion) (n : Nat) :
    State.AdmitsAs
      { s with
        views := v,
        power :=
          { s.power with supplyLevel := n, applied := a, droop := false, switchClosed := closed, domains := ds } }
      s.prepared := by
  have station := s.prepared_station
  have cfg : s.prepared.cfg = s.cfg := by simp [State.prepared]
  have stations : s.prepared.stations = s.stations := by simp [State.prepared]
  have clock : s.prepared.clock = s.clock := by simp [State.prepared]
  have sup : s.prepared.sup = s.sup := by simp [State.prepared]
  have settled : s.prepared.settled = s.settled := by simp [State.prepared, State.settled, State.live]
  generalize s.prepared = p at *
  subst views domains
  exact ⟨station, cfg, stations, fun _ => ⟨rfl, rfl⟩, rfl, applied, rail, State.ownOffer_congr station cfg sup switch battery rfl,
    motion, clock, settled⟩

/-! #### A boundary at which no entry falls silent -/

theorem State.not_silences (young : ∀ x, x ≠ s.station → (s.views.get x).state = .heard → (s.views.get x).age < 9) (x : Station) :
    ¬s.Silences x := fun h => absurd (young x h.1 h.2.1) (not_lt.2 h.2.2)

theorem State.ageViews_young (young : ∀ x, ¬s.Silences x) :
    s.ageViews.power = s.power ∧ s.ageViews.motion = s.motion ∧ s.called.ownOffer = s.ownOffer ∧
      s.called.nextLevel = s.nextLevel := by
  have aged := State.ageViews_of_none young
  have power : s.ageViews.power = s.power := by rw [aged]
  refine ⟨power, by rw [aged], State.called_ownOffer (by rw [power]), State.called_nextLevel (by rw [power]) (.inl (by rw [power]))⟩

/-- STRAP's level where no entry falls silent (R166). -/
theorem State.admitted_supplyLevel_of_strap (strap : s.station = .strap) (young : ∀ x, ¬s.Silences x) :
    s.admitted.power.supplyLevel = if s.admitted.ownOffer = 0 ∨ s.ownOffer = 0 then 0 else s.nextLevel := by
  obtain ⟨-, -, offer, next⟩ := State.ageViews_young young
  have level : s.prepared.power.supplyLevel = s.nextLevel := s.prepared_supplyLevel.trans next
  have strap' : s.called.station = .strap := by simpa [State.called] using strap
  by_cases none : s.ownOffer = 0
  · have zero : s.nextLevel = 0 := State.nextLevel_of_strap strap none
    rw [if_pos (.inr none)]
    obtain same | after := s.admitted_supplyLevel
    · rw [same, level, zero]
    · rw [after, level, zero, ite_self]
  · have stands : s.prepared.ownOffer ≠ 0 := by
      have set := State.setLevel_ownOffer strap' (by rw [offer]; exact none) s.called.nextLevel
      rw [← State.supplyStep_of_levels (.inr strap'), offer] at set
      have power := s.prepared_power
      have same : s.prepared.ownOffer = s.called.supplyStep.ownOffer :=
        State.ownOffer_congr (by simp [State.prepared, State.called]) (by simp [State.prepared, State.called])
          (by simp [State.prepared, State.called]) (by rw [power]) (by rw [power]) (by rw [power])
      rw [same, set]
      exact none
    obtain same | after := s.admitted_supplyLevel
    · rw [same, level, if_neg (not_or.2 ⟨stands, none⟩)]
    · rw [after, level]
      exact if_congr (by simp [strap, none]) rfl rfl

/-- POD and HEADSET, where no entry falls silent, make the admission test of the state as it was (R156). -/
theorem State.prepared_admitsAs (peripheral : s.station = .pod ∨ s.station = .headset) (young : ∀ x, ¬s.Silences x) :
    s.AdmitsAs s.prepared := by
  obtain ⟨aged, motion, offer, -⟩ := State.ageViews_young young
  have called := s.called_power
  rw [aged] at called
  have still : s.called.supplyStep = s.called :=
    State.supplyStep_of_peripheral (by simpa [State.called] using peripheral)
  have power := s.prepared_power
  rw [still, called] at power
  have views : s.prepared.views = s.ageViews.views := by simp [State.prepared]
  refine ⟨by simp [State.prepared], by simp [State.prepared], by simp [State.prepared], fun x => ?_, by rw [power], by rw [power],
    by rw [power], ?_, ?_, by simp [State.prepared], by simp [State.prepared, State.settled, State.live]⟩
  · rw [views, State.ageViews_get]
    unfold State.agedView
    split
    · exact ⟨rfl, rfl⟩
    · rename_i known
      exact ⟨if_neg fun h => young x ⟨fun own => known (.inl own), h.1, h.2⟩, rfl⟩
  · exact State.ownOffer_congr (by simp [State.prepared]) (by simp [State.prepared]) (by simp [State.prepared]) (by rw [power])
      (by rw [power]) (by rw [power])
  · have kept : s.prepared.motion = s.called.supplyStep.motion := by simp [State.prepared, State.called]
    rw [kept, still, ← motion]
    simp [State.called]

end

/-- Settles O46. -/
theorem powerBoundaryAgesStepsAndBalances : Obligations.PowerBoundaryAgesStepsAndBalances := by
  intro s live stepped
  have step := exec_powerRiBoundary live
  obtain ⟨station, cfg, sup, stations, rx, views⟩ := s.afterBoundary_keeps
  obtain ⟨wait, switch, tripped, droop, domains, level⟩ := s.afterBoundary_supply
  have view (x : Station) : s.afterBoundary.views.get x = s.agedView x := by rw [views, State.ageViews_get]
  refine ⟨⟨_, step, ?_, stations, rx, fun x other known => ?_, fun x other heard => ?_, fun x own => ?_, fun console none closed => ?_,
    fun console waits => ?_, fun console last => ?_, fun young => ⟨fun strap => ?_, fun running peripheral => ?_⟩,
    fun holds matching => ?_, fun running none => ?_, fun idle => ?_⟩, fun running age net room some_ => ?_, fun none => ?_,
    fun i d here waiting first => ?_⟩
  · exact droop.trans (by rw [State.prepared_power])
  · rw [view]
    unfold State.agedView
    rw [if_neg (by rintro (own | unknown); exacts [other own, known unknown])]
    exact ⟨rfl, rfl⟩
  · rw [view]
    unfold State.agedView
    rw [if_neg (by rintro (own | unknown); exacts [other own, by rw [heard] at unknown; cases unknown])]
    simp only [heard, true_and]
  · rw [view]
    exact if_pos own
  · refine (level.trans (State.admitted_supplyLevel_of_console console)).trans ?_
    unfold State.nextLevel
    rw [console]
    exact if_pos ⟨none, closed⟩
  · have positive : 0 < s.power.tripWait := by omega
    have runs : ¬s.power.tripWait - 1 = 0 := by omega
    obtain ⟨counts, closed, -⟩ := State.prepared_trip console positive
    rw [decide_eq_false runs, Bool.or_false] at closed
    refine ⟨wait.trans counts, switch.trans closed, (level.trans (State.admitted_supplyLevel_of_console console)).trans ?_⟩
    unfold State.nextLevel
    rw [console]
    exact if_neg fun h => by omega
  · obtain ⟨-, closed, clears⟩ := State.prepared_trip console (by omega)
    rw [last] at closed clears
    exact ⟨switch.trans (closed.trans (by simp)), tripped.trans (clears.trans (by simp))⟩
  · rw [State.afterBoundary_ownOffer]
    refine (level.trans (State.admitted_supplyLevel_of_strap strap (State.not_silences young))).trans ?_
    unfold State.nextLevel
    rw [strap]
    dsimp only
    split
    · rfl
    · rename_i offers
      rw [if_neg fun none => offers (.inr none)]
      rfl
  · obtain ⟨same, motion⟩ := (State.prepared_admitsAs peripheral (State.not_silences young)).admission
    rw [domains, State.afterBoundary_motion, State.admitted_of_running running]
    exact ⟨same, motion⟩
  · intro offer level counted applied recloses before
    obtain ⟨shed, applies, motion, supply, rail, battery, closes⟩ := holds.prepared_facts live matching
    have level_eq : level = s.nextLevel := by
      show (match s.station with | .console => _ | .strap => _ | .pod | .headset => _) = _
      unfold State.nextLevel
      cases station : s.station <;> rfl
    have seen : s.prepared.views = s.afterBoundary.views := by
      rw [views]
      simp [State.prepared]
    have counted_eq (x : Station) : counted x = s.prepared.levelOf x := by
      unfold State.levelOf
      rw [supply, s.prepared_station, seen, show s.prepared.stations = s.stations by simp [State.prepared], ← level_eq]
      exact if_congr eq_comm rfl rfl
    have applied_eq : applied = s.prepared.power.applied := by
      show max (counted .console) (counted .strap) = _
      rw [applies, counted_eq, counted_eq]
      rfl
    have domains_eq : s.prepared.power.domains = before.power.domains := by
      rw [shed, ← applied_eq]
      exact List.map_congr_left fun d _ => shedIf_decide _ d
    have alike : before.AdmitsAs s.prepared :=
      s.prepared_admitsAs_with seen domains_eq.symm applied_eq.symm rail battery closes motion level
    refine ⟨fun running => ?_, fun idle => ?_⟩
    · rw [domains, State.admitted_of_running running]
      exact alike.admission.1
    · rw [domains, State.admitted_of_not_running idle]
      exact domains_eq
  · obtain ⟨-, value, age, forced, -⟩ := State.afterBoundary_unsent running none
    refine ⟨value, forced.trans ?_, age⟩
    show (s.balance.forced || !decide (s.balance.b < 8)) = _
    rw [← decide_not]
    simp only [not_lt]
  · exact State.afterBoundary_idle idle
  · have isDue : State.reportDue { s with balance := { s.balance.stepped with event := true } } = true :=
      (State.reportDue_iff _).2 ⟨running, .inl ⟨rfl, net⟩⟩
    have built := (State.reportTest_of_room isDue (fun l => Nat.lt_succ_of_le (room l)) some_).trans
      (State.buildReport_of_room (fun l => Nat.lt_succ_of_le (room l)) some_)
    have called : s.balanceStep = State.reportTest { s with balance := { s.balance.stepped with event := true } } :=
      s.balanceStep_eq.trans (if_pos age)
    refine ⟨_, (if_pos ⟨running, age⟩).trans (congrArg _ (called.trans built)), ?_, rfl, rfl, rfl, by simp [Balance.stepped], rfl, rfl⟩
    show min (s.balance.age + 1) 8 = 8
    omega
  · exact State.admission_of_none (candidate_of_no_waiting none)
  · have pick := candidate_of_first here waiting first
    intro others view offers draws ahead admitted
    have fits : s.admissible d = true ↔ admitted := by
      rw [State.admissible_iff, State.offersCounted_eq, State.drawsCounted_eq, State.waitingAhead_eq]
      exact Iff.rfl
    refine ⟨fun refused => State.admission_of_refused pick fun is => refused (fits.1 is), fun is matching => ?_⟩
    have is := fits.2 is
    refine ⟨fun j e at_ apart => State.admission_get matching pick is at_ apart, fun live alone => ?_⟩
    rw [State.admission_of_admitted pick is]
    have mem := List.mem_of_getElem? here
    have on : (admitOn d.number d).state = .on := by simp [admitOn]
    have posted : (s.changeDomains (admitOn d.number)).DomainPosted d.number DomainState.on.code :=
      State.postDomains_posts mem (admitOn_number _ _) on (by rw [on, waiting]; nofun)
        (fun e there number _ => by rw [alone e there ((admitOn_number _ e).symm.trans number), on]) _ live
    exact posted.follow fun starts => by rw [(State.SensorsMatch.starts_of_admitOn matching starts).2]; decide

end Sys2Proof.Machine

namespace Sys2Proof.Machine

/-! ### The own status byte, bit by bit (R5, R62, R63, R181) -/

theorem bit_le_one (b : Bool) : bit b ≤ 1 := by cases b <;> decide

/-- A byte of eight flags, the first one highest. -/
theorem flags_getLsbD (a b c d e f g h : Bool) (k : Nat) :
    (BitVec.ofNat 8
        (bit a * 128 + bit b * 64 + bit c * 32 + bit d * 16 + bit e * 8 + bit f * 4 + bit g * 2 + bit h)).getLsbD k = true ↔
      k = 7 ∧ a = true ∨ k = 6 ∧ b = true ∨ k = 5 ∧ c = true ∨ k = 4 ∧ d = true ∨ k = 3 ∧ e = true ∨ k = 2 ∧ f = true ∨
        k = 1 ∧ g = true ∨ k = 0 ∧ h = true := by
  have := bit_le_one a
  have := bit_le_one b
  have := bit_le_one c
  have := bit_le_one d
  have := bit_le_one e
  have := bit_le_one f
  have := bit_le_one g
  have := bit_le_one h
  rw [BitVec.getLsbD_ofNat, Bool.and_eq_true, decide_eq_true_iff, Nat.testBit_eq_decide_div_mod_eq, decide_eq_true_iff]
  have flag (x : Bool) : x = true ↔ bit x = 1 := by cases x <;> decide
  simp only [flag]
  by_cases small : k < 8
  · interval_cases k <;> omega
  · omega

/-- A record has a cell to send: one of its queue, or END (R39, R51, R98). -/
theorem Paced.hasCell_iff (p : Paced) :
    p.hasCell = true ↔ (∃ r ∈ p.queue, r.sent < r.total) ∨ (p.state = .draining ∧ p.queue = []) := by
  have left (q : List SliceRec) : 0 < cellsLeft q ↔ ∃ r ∈ q, r.sent < r.total := by
    induction q with
    | nil => simp [cellsLeft]
    | cons r q ih =>
      simp only [cellsLeft_cons, List.mem_cons, exists_eq_or_imp, ← ih]
      omega
  unfold Paced.hasCell Paced.owesEnd
  rw [Bool.or_eq_true, decide_eq_true_iff, left]
  simp

theorem exists_eye {P : Eye → Prop} : (∃ e, P e) ↔ P .left ∨ P .right :=
  ⟨fun ⟨e, h⟩ => by cases e; exacts [.inl h, .inr h], fun h => h.elim (⟨_, ·⟩) (⟨_, ·⟩)⟩

section
variable (s : State)

/-- A paced flow is open (R53). -/
theorem State.pacedOpen_iff (e : Eye) :
    s.pacedOpen e = true ↔ (s.paced.get e).state ≠ .idle ∨
      ∃ n, (s.paced.get e).idleSince = some n ∧ (s.tx.down.count - n).toNat < (s.params e).idleReset := by
  unfold State.pacedOpen
  dsimp only
  cases state : (s.paced.get e).state with
  | idle =>
    cases since : (s.paced.get e).idleSince with
    | none => simp
    | some n => simp
  | _ => simp

theorem sourceLane_eq (x : Station) : sourceLane x = if x = .console then .down else .up := by cases x <;> rfl

/-- The need flag of a lane (R62). -/
theorem State.need_iff (l : Lane) :
    s.need l = true ↔
      (s.tx.get l).fifo ≠ [] ∨ (l = .up ∧ s.station = .headset ∧ s.motion.queue ≠ []) ∨
        (l = sourceLane s.station ∧ s.audio.source.queue ≠ []) ∨
        (l = .down ∧ s.station = .console ∧ ∃ e, (s.paced.get e).hasCell = true) ∨
        (s.balance.forced = true ∧ (s.tx.get l).role.sends = true) := by
  unfold State.need State.reportLane
  rw [exists_eye]
  simp only [Bool.or_eq_true, Bool.and_eq_true, Bool.not_eq_true', List.isEmpty_eq_false_iff, beq_iff_eq, or_assoc, and_assoc,
    PerEye.get]

/-- The hold flag of a lane (R63). -/
theorem State.hold_iff (l : Lane) :
    s.hold l = true ↔
      (l = .down ∧ s.station = .console ∧ ∃ e, s.pacedOpen e = true) ∨
        (l = sourceLane s.station ∧ s.audio.source.opened = true) ∨
        (l = .up ∧ s.station = .headset ∧ s.motion.state ≠ .off) := by
  unfold State.hold
  rw [exists_eye]
  simp only [Bool.or_eq_true, Bool.and_eq_true, beq_iff_eq, bne_iff_ne, or_assoc, and_assoc]

theorem State.shedActive_iff : s.shedActive = true ↔ 0 < s.power.applied ∨ ∃ d ∈ s.power.domains, d.state = .shed := by
  unfold State.shedActive
  simp

/-! #### What a frame start leaves of the transmitter (R3, R69, R87) -/

/-- The fields of a transmitter that a frame start's credit and probes leave: all but its FIFO, its train and the gap owed. -/
def Tx.SameFrame (t u : Tx) : Prop := u = { t with fifo := u.fifo, train := u.train, gapOwed := u.gapOwed }

theorem Tx.SameFrame.refl (t : Tx) : t.SameFrame t := rfl

theorem Tx.SameFrame.trans {t u v : Tx} (h : t.SameFrame u) (k : u.SameFrame v) : t.SameFrame v := by
  unfold Tx.SameFrame at *
  rw [k, h]

theorem State.SameButFifo.sameFrame {s t : State} (h : s.SameButFifo t) (l : Lane) : (s.tx.get l).SameFrame (t.tx.get l) := by
  rw [h l]
  rfl

variable {s} in
theorem State.setRate_sameFrame (e : Eye) (a : Nat) (l : Lane) : (s.tx.get l).SameFrame ((s.setRate e a).tx.get l) := by
  unfold State.setRate
  dsimp only
  split
  · exact .refl _
  · rw [State.post_tx, State.modTx_tx, State.modPaced_tx, PerLane.get_set]
    split
    · rename_i down
      subst down
      unfold Tx.bandChange
      split <;> rfl
    · exact .refl _

theorem State.probeCheck_sameFrame (e : Eye) (l : Lane) : (s.tx.get l).SameFrame ((s.probeCheck e).tx.get l) := by
  obtain same | queued := s.probeCheck_cases e
  · rw [same]
    exact .refl _
  · rw [queued, State.queueProbe_eq, State.modPaced_tx]
    have fade : (s.tx.get l).SameFrame ((s.fade e).tx.get l) := by
      unfold State.fade
      split
      · exact State.setRate_sameFrame e _ l
      · exact .refl _
    exact fade.trans (((State.SameButFifo.refl _).offerTo .headset _).sameFrame l)

theorem State.consoleFrame_sameFrame (l : Lane) (f : BitVec 4) (k : Lane) :
    (s.tx.get k).SameFrame ((s.consoleFrame l f).tx.get k) := by
  have accrued : s.accrueAll.tx = s.tx := by rw [State.accrueAll_eq]
  unfold State.consoleFrame
  split
  · dsimp only
    split
    · have checked := (s.accrueAll.probeCheck_sameFrame .left k).trans ((s.accrueAll.probeCheck .left).probeCheck_sameFrame .right k)
      rwa [accrued] at checked
    · rw [accrued]
      exact .refl _
  · exact .refl _

/-! #### The clock does not enter the status byte -/

/-- The state with another clock, and the notices that stand then. -/
def State.timed (s : State) (t : Count32) (p : Pulses) (ns : List Notice) : State :=
  { s with clock := t, pulses := p, notices := ns }

variable (t : Count32) (p : Pulses)

theorem State.post_timed (ns : List Notice) (k : NoticeKind) (x : Subject) (n : Nat) :
    ∃ ns', (s.timed t p ns).post k x n = (s.post k x n).timed t p ns' := by
  by_cases live : s.live
  · rw [State.post_of_live live, State.post_of_live (s := s.timed t p ns) live]
    exact ⟨_, rfl⟩
  · unfold State.post
    rw [if_neg live, if_neg (show ¬(s.timed t p ns).live from live)]
    exact ⟨_, rfl⟩

theorem State.modPaced_timed (ns : List Notice) (e : Eye) (f : Paced → Paced) :
    (s.timed t p ns).modPaced e f = (s.modPaced e f).timed t p ns := rfl

theorem State.modTx_timed (ns : List Notice) (l : Lane) (f : Tx → Tx) :
    (s.timed t p ns).modTx l f = (s.modTx l f).timed t p ns := rfl

theorem State.setRate_timed (ns : List Notice) (e : Eye) (a : Nat) :
    ∃ ns', (s.timed t p ns).setRate e a = (s.setRate e a).timed t p ns' := by
  unfold State.setRate
  dsimp only
  rw [show (s.timed t p ns).params e = s.params e from rfl, show (s.timed t p ns).paced = s.paced from rfl]
  split
  · exact ⟨_, rfl⟩
  · rw [State.modPaced_timed, State.modTx_timed]
    exact State.post_timed _ t p ns _ _ _

theorem State.fade_timed (ns : List Notice) (e : Eye) : ∃ ns', (s.timed t p ns).fade e = (s.fade e).timed t p ns' := by
  unfold State.fade
  rw [show (s.timed t p ns).params e = s.params e from rfl, show (s.timed t p ns).paced = s.paced from rfl]
  split
  · exact State.setRate_timed s t p ns e _
  · exact ⟨_, rfl⟩

theorem State.offerTo_timed (ns : List Notice) (x : Station) (c : Ctl) :
    (s.timed t p ns).offerTo x c = (s.offerTo x c).timed t p ns := by
  unfold State.offerTo
  rw [show (s.timed t p ns).station = s.station from rfl]
  split <;> rfl

theorem State.probeCheck_timed (ns : List Notice) (e : Eye) :
    ∃ ns', (s.timed t p ns).probeCheck e = (s.probeCheck e).timed t p ns' := by
  unfold State.probeCheck
  rw [show (s.timed t p ns).paced = s.paced from rfl, show (s.timed t p ns).probeDue e = s.probeDue e from rfl]
  split
  · obtain ⟨ns', fades⟩ := s.fade_timed t p ns e
    rw [State.queueProbe_eq, State.queueProbe_eq, fades, State.offerTo_timed]
    exact ⟨ns', rfl⟩
  · exact ⟨_, rfl⟩

theorem State.consoleFrame_timed (ns : List Notice) (l : Lane) (f : BitVec 4) :
    ∃ ns', (s.timed t p ns).consoleFrame l f = (s.consoleFrame l f).timed t p ns' := by
  have accrued : (s.timed t p ns).accrueAll = s.accrueAll.timed t p ns := by
    by_cases here : s.station = .console ∧ s.running
    · unfold State.accrueAll
      rw [if_pos here, if_pos (show (s.timed t p ns).station = .console ∧ (s.timed t p ns).running from here)]
      rfl
    · unfold State.accrueAll
      rw [if_neg here, if_neg (show ¬((s.timed t p ns).station = .console ∧ (s.timed t p ns).running) from here)]
  unfold State.consoleFrame
  rw [show (s.timed t p ns).station = s.station from rfl]
  by_cases here : s.station = .console ∧ l = .down ∧ s.running
  · rw [if_pos here, if_pos (show s.station = .console ∧ l = .down ∧ (s.timed t p ns).running from here), accrued]
    dsimp only
    split
    · obtain ⟨ns₁, left⟩ := s.accrueAll.probeCheck_timed t p ns .left
      rw [left]
      exact State.probeCheck_timed _ t p ns₁ .right
    · exact ⟨_, rfl⟩
  · rw [if_neg here, if_neg (show ¬(s.station = .console ∧ l = .down ∧ (s.timed t p ns).running) from here)]
    exact ⟨_, rfl⟩

theorem State.syncClock_eq : s.syncClock = s.timed s.syncClock.clock s.syncClock.pulses s.notices :=
  State.eq_of_fields (by simp [State.timed])

/-- The clock that a frame start synchronises does not enter the status byte. -/
theorem State.consoleFrame_syncClock_statusByte (l : Lane) (f : BitVec 4) :
    (s.syncClock.consoleFrame l f).statusByte = (s.consoleFrame l f).statusByte := by
  obtain ⟨ns, same⟩ := s.consoleFrame_timed s.syncClock.clock s.syncClock.pulses s.notices l f
  rw [State.syncClock_eq, same]
  rfl

end

end Sys2Proof.Machine

namespace Sys2Proof.Machine

/-! ### The alignment cell of a transmitter of its own timing (R3 to R6) -/

section
variable {s : State} {l : Lane}

/-- The own status byte, bit by bit (R5). -/
theorem State.statusByte_bits (s : State) :
    (s.statusByte.getLsbD 7 = true ↔ s.live) ∧ (s.statusByte.getLsbD 6 = true ↔ s.need .down = true) ∧
      (s.statusByte.getLsbD 5 = true ↔ s.hold .down = true) ∧ (s.statusByte.getLsbD 4 = true ↔ s.need .up = true) ∧
      (s.statusByte.getLsbD 3 = true ↔ s.hold .up = true) ∧ (s.statusByte.getLsbD 2 = true ↔ 1 ≤ s.balance.b) ∧
      (s.statusByte.getLsbD 1 = true ↔ s.balance.fresh = true) ∧ (s.statusByte.getLsbD 0 = true ↔ s.shedActive = true) := by
  have flag (k : Nat) : s.statusByte.getLsbD k = true ↔ _ := flags_getLsbD _ _ _ _ _ _ _ _ k
  refine ⟨(flag 7).trans ?_, (flag 6).trans ?_, (flag 5).trans ?_, (flag 4).trans ?_, (flag 3).trans ?_, (flag 2).trans ?_,
    (flag 1).trans ?_, (flag 0).trans ?_⟩ <;> simp

/-- The frame number and count of a transmitter's next own frame (R3, R19). -/
theorem Tx.nextFrame_eq (x : Tx) :
    x.nextFrame.1 = (if x.begun = false ∨ (x.role = .origin ∧ x.sentThis = some .deep) then 0 else x.frame + 1) ∧
      x.nextFrame.2 = if x.begun = true ∧ x.nextFrame.1 = 0 then x.count + 1 else x.count := by
  unfold Tx.nextFrame
  cases begun : x.begun <;> simp

/-- What an alignment cell leaves of its transmitter, whatever is offered to its FIFO then (R2, R6). -/
theorem State.putAlign_sent {u : State} {d : Bool} {i : AlignInfo} (same : (s.putAlign l d i).SameButFifo u) :
    u.tx.get l =
      { (s.tx.get l).sendAlign (s.fillStatus d { i with hop := (s.tx.get l).hopCheck })
          (alignCell s.station (s.fillStatus d { i with hop := (s.tx.get l).hopCheck })) with
        fifo := (u.tx.get l).fifo } := by
  have sent := same l
  rwa [State.putAlign_tx, PerLane.get_set_self] at sent

/-- The status byte that a cell carries: this station's own in its own position (R5). -/
theorem State.fillStatus_eq (s : State) (d : Bool) (i : AlignInfo) :
    s.fillStatus d i =
      { i with status := if statusOwner d i.frame i.count = s.station then s.statusByte else i.status } := by
  unfold State.fillStatus
  split <;> rfl

/-- What the origin of a lane observes (R171). -/
theorem State.observe_eq (s : State) (l : Lane) :
    let reads (k : Nat) : Bool :=
      s.statusByte.getLsbD k || [Station.console, .pod, .headset, .strap].any fun y =>
        y != s.station && (s.stations.get y).present && (s.stations.get y).status.getLsbD k
    s.observe l = { need := reads (needBit l), hold := reads (holdBit l), reports := reads 2 || reads 1 } := by
  have read (f : Byte → Bool) : s.observedBytes.any f =
      (f s.statusByte || [Station.console, .pod, .headset, .strap].any fun y =>
        y != s.station && (s.stations.get y).present && f (s.stations.get y).status) := by
    unfold State.observedBytes
    rw [List.any_cons, List.any_map, List.any_filter]
    rfl
  have two (f g : Byte → Bool) : (s.observedBytes.any fun b => f b || g b) = (s.observedBytes.any f || s.observedBytes.any g) := by
    rw [Bool.eq_iff_iff]
    simp only [List.any_eq_true, Bool.or_eq_true, and_or_left, exists_or]
  intro reads
  unfold State.observe State.observesNeed State.observesHold State.observesReports
  rw [read, read, two, read, read]

/-! #### A cell without a machine: provisional origin and SUBSTITUTE -/

/-- The cell of a provisional origin or a SUBSTITUTE (R4). -/
def State.ownInfo (s : State) (l : Lane) (fault : Bool) : AlignInfo :=
  (s.modTx l fun t => t.begin (s.tx.get l).nextFrame.1 (s.tx.get l).nextFrame.2).fillStatus false
    { frame := (s.tx.get l).nextFrame.1, origin := s.station, lane := .active, fault := fault,
      count := (s.tx.get l).nextFrame.2, status := 0, hop := (s.tx.get l).hopCheck }

theorem State.ownAlign_tx (s : State) (l : Lane) (fault : Bool) :
    (s.ownAlign l fault).tx.get l =
      { ((s.tx.get l).begin (s.tx.get l).nextFrame.1 (s.tx.get l).nextFrame.2).sendAlign (s.ownInfo l fault)
          (alignCell s.station (s.ownInfo l fault)) with
        fifo := ((s.ownAlign l fault).tx.get l).fifo } := by
  have sent := State.putAlign_sent
    (s := s.modTx l fun t => t.begin (s.tx.get l).nextFrame.1 (s.tx.get l).nextFrame.2) (l := l) (d := false)
    (i := { frame := (s.tx.get l).nextFrame.1, origin := s.station, lane := .active, fault := fault,
            count := (s.tx.get l).nextFrame.2, status := 0, hop := 0 })
    ((State.SameButFifo.refl _).alignTest l)
  rw [State.modTx_tx, PerLane.get_set_self] at sent
  exact sent

/-! #### The cell of an ORIGIN -/

theorem State.begun_tx (s : State) (l : Lane) :
    (s.begun l).tx.get l = (s.tx.get l).begin (s.tx.get l).nextFrame.1 (s.tx.get l).nextFrame.2 := by
  unfold State.begun
  rw [State.syncClock_tx, State.modTx_tx, PerLane.get_set_self]

/-- The machine of an ORIGIN at its frame start (R171). -/
def State.stepped (s : State) (l : Lane) (q : Quiet) : Quiet :=
  q.step (s.tx.get l).nextFrame.1 ((s.frameStarted l).observe l)

/-- The cell of an ORIGIN (R4). -/
def State.originInfo (s : State) (l : Lane) (q : Quiet) : AlignInfo :=
  (s.frameStarted l).fillStatus ((s.tx.get l).sentThis == some .deep)
    { frame := (s.tx.get l).nextFrame.1, origin := s.station, lane := (s.stepped l q).lane, fault := false,
      count := (s.tx.get l).nextFrame.2, status := 0, hop := (s.tx.get l).hopCheck }

/-- The machine of an ORIGIN does not enter the status byte. -/
theorem State.modQuiet_fillStatus (s : State) (l : Lane) (p : Option Quiet) (d : Bool) (i : AlignInfo) :
    (s.modTx l fun t => { t with quiet := p }).fillStatus d i = s.fillStatus d i := by
  cases l <;> rfl

theorem State.originAlign_tx (s : State) (l : Lane) (q : Quiet) :
    ∃ t : Tx, (s.tx.get l).SameFrame t ∧
      (s.originAlign l q).tx.get l =
        { (t.begin (s.tx.get l).nextFrame.1 (s.tx.get l).nextFrame.2).sendAlign (s.originInfo l q)
            (alignCell s.station (s.originInfo l q)) with
          quiet := some (s.stepped l q), fifo := ((s.originAlign l q).tx.get l).fifo } := by
  obtain ⟨fifo, train, gap, same⟩ : ∃ q n g, (s.frameStarted l).tx.get l =
      { (s.tx.get l).begin (s.tx.get l).nextFrame.1 (s.tx.get l).nextFrame.2 with fifo := q, train := n, gapOwed := g } := by
    have same := (s.begun l).consoleFrame_sameFrame l (s.tx.get l).nextFrame.1 l
    rw [State.begun_tx] at same
    exact ⟨_, _, _, same⟩
  have station : (s.frameStarted l).station = s.station := by simp [State.frameStarted]
  have sent (u : State)
      (h : (((s.frameStarted l).modTx l fun t => { t with quiet := some (s.stepped l q) }).putAlign l
        ((s.tx.get l).sentThis == some .deep)
        { frame := (s.tx.get l).nextFrame.1, origin := s.station, lane := (s.stepped l q).lane, fault := false,
          count := (s.tx.get l).nextFrame.2, status := 0, hop := 0 }).SameButFifo u) :
      u.tx.get l =
        { (({ s.tx.get l with fifo := fifo, train := train, gapOwed := gap } : Tx).begin (s.tx.get l).nextFrame.1
            (s.tx.get l).nextFrame.2).sendAlign (s.originInfo l q) (alignCell s.station (s.originInfo l q)) with
          quiet := some (s.stepped l q), fifo := (u.tx.get l).fifo } := by
    have sent := State.putAlign_sent h
    rw [State.modQuiet_fillStatus, State.modTx_tx, PerLane.get_set_self, State.modTx_station, station, same] at sent
    exact sent
  refine ⟨{ s.tx.get l with fifo := fifo, train := train, gapOwed := gap }, rfl, sent _ ?_⟩
  unfold State.originAlign
  dsimp only
  split
  · exact (State.SameButFifo.refl _).setFresh.alignTest l
  · exact (State.SameButFifo.refl _).alignTest l

theorem exec_alignmentCellSent_of_own {fault : Bool} (live : s.live)
    (own : (s.tx.get l).role = .provisional ∧ fault = false ∨
      (s.tx.get l).role = .substitute ∧ (s.tx.get l).carry = none ∧ fault = true) :
    exec (.alignmentCellSent l) s = .next (s.ownAlign l fault) := by
  show execAlignmentCellSent l s = _
  unfold execAlignmentCellSent
  dsimp only
  rw [if_pos live]
  obtain ⟨role, rfl⟩ | ⟨role, carry, rfl⟩ := own
  · rw [role]
  · rw [role, carry]

/-- The state at the frame start of an ORIGIN, the clock apart (R3, R67, R69). -/
theorem State.frameStarted_statusByte (s : State) (l : Lane) :
    (s.frameStarted l).statusByte =
      ((s.modTx l fun t => t.begin (s.tx.get l).nextFrame.1 (s.tx.get l).nextFrame.2).consoleFrame l
        (s.tx.get l).nextFrame.1).statusByte := State.consoleFrame_syncClock_statusByte _ l _

end

/-- Settles O14. -/
theorem ownFramesCarryTheirAlignmentCell : Obligations.OwnFramesCarryTheirAlignmentCell := by
  refine ⟨fun s => ?_, fun l s live => ?_⟩
  · intro paced opened toSend audioLane need hold b
    have lane : sourceLane s.station = audioLane := sourceLane_eq _
    have send (e : Eye) : (s.paced.get e).hasCell = true ↔ toSend e := Paced.hasCell_iff _
    have opens (e : Eye) : s.pacedOpen e = true ↔ opened e := s.pacedOpen_iff e
    have needs (l : Lane) : s.need l = true ↔ need l := by
      rw [State.need_iff, lane]
      simp only [send]
      exact Iff.rfl
    have holds (l : Lane) : s.hold l = true ↔ hold l := by
      rw [State.hold_iff, lane]
      simp only [opens]
      exact Iff.rfl
    obtain ⟨present, needDown, holdDown, needUp, holdUp, owed, fresh, shed⟩ := s.statusByte_bits
    exact ⟨present, needDown.trans (needs _), holdDown.trans (holds _), needUp.trans (needs _), holdUp.trans (holds _), owed,
      fresh, shed.trans s.shedActive_iff⟩
  · intro x own
    obtain ⟨frame, count⟩ := x.nextFrame_eq
    by_cases origin : x.role = .origin
    · obtain ⟨y, same, tx⟩ := s.originAlign_tx l (x.quiet.getD Quiet.start)
      obtain ⟨fifo, train, gap, rfl⟩ : ∃ q n g, y = { x with fifo := q, train := n, gapOwed := g } := ⟨_, _, _, same⟩
      refine ⟨_, s.originInfo l (x.quiet.getD Quiet.start), exec_alignmentCellSent_of_origin live origin, ?_⟩
      have info : s.originInfo l (x.quiet.getD Quiet.start) = _ := State.fillStatus_eq _ _ _
      have station : (s.frameStarted l).station = s.station := by simp [State.frameStarted]
      have machine : s.stepped l (x.quiet.getD Quiet.start) = _ :=
        congrArg ((x.quiet.getD Quiet.start).step x.nextFrame.1) ((s.frameStarted l).observe_eq l)
      rw [station, s.frameStarted_statusByte, show (s.frameStarted l).stations = s.stations by simp [State.frameStarted, State.begun]]
        at machine
      rw [station, s.frameStarted_statusByte] at info
      have rest : (s.originAlign l (x.quiet.getD Quiet.start)).rx = s.rx ∧
        (s.originAlign l (x.quiet.getD Quiet.start)).seqs = s.seqs := by simp
      generalize s.originAlign l (x.quiet.getD Quiet.start) = t at *
      generalize s.originInfo l (x.quiet.getD Quiet.start) = i at *
      generalize s.stepped l (x.quiet.getD Quiet.start) = q at *
      subst info
      rw [tx]
      refine ⟨rfl, frame, count, rfl, by rw [origin]; rfl, fun no => absurd origin no, fun _ => ⟨?_, ?_⟩, ?_,
        ⟨fun other => ?_, fun mine => ?_⟩, rfl, rfl, rfl, rfl, rfl, rfl, rfl, rest⟩
      · rw [machine]
        cases l <;> rfl
      · rw [machine]
        cases l <;> rfl
      · rfl
      · refine if_neg fun mine => other (Eq.trans ?_ mine)
        unfold statusOwner
        congr 1
        simp only [origin, true_and, beq_iff_eq]
        rfl
      · rw [if_pos origin]
        refine if_pos (Eq.trans ?_ mine)
        unfold statusOwner
        congr 1
        simp only [origin, true_and, beq_iff_eq]
        rfl
    · obtain ⟨fault, plain, is⟩ : ∃ fault, (x.role = .provisional ∧ fault = false ∨
          x.role = .substitute ∧ x.carry = none ∧ fault = true) ∧ (x.role == .substitute) = fault := by
        obtain is | role | ⟨role, carry⟩ := own
        · exact absurd is origin
        · exact ⟨false, .inl ⟨role, rfl⟩, by rw [role]; rfl⟩
        · exact ⟨true, .inr ⟨role, carry, rfl⟩, by rw [role]; rfl⟩
      have tx := s.ownAlign_tx l fault
      have info : s.ownInfo l fault = _ := State.fillStatus_eq _ _ _
      have rest : (s.ownAlign l fault).rx = s.rx ∧ (s.ownAlign l fault).seqs = s.seqs := by simp
      refine ⟨_, s.ownInfo l fault, exec_alignmentCellSent_of_own live plain, ?_⟩
      generalize s.ownAlign l fault = t at *
      generalize s.ownInfo l fault = i at *
      subst info
      have owner : (if x.role = .origin ∧ x.sentThis = some .deep then x.nextFrame.2.toNat else x.nextFrame.1.toNat) =
          x.nextFrame.1.toNat := if_neg fun h => origin h.1
      rw [tx]
      refine ⟨rfl, frame, count, rfl, is.symm, fun _ => rfl, fun no => absurd no origin, rfl,
        ⟨fun other => if_neg fun mine => other (Eq.trans (congrArg stationOf owner) mine), fun mine => ?_⟩, rfl, rfl, rfl, rfl,
        rfl, rfl, rfl, rest⟩
      rw [if_neg origin]
      exact if_pos (Eq.trans (congrArg stationOf owner).symm mine)

end Sys2Proof.Machine

namespace Sys2Proof.Machine

/-! ### A repeated alignment cell (R4 to R6, R15, R16) -/

section
variable {s : State} {l : Lane}

/-- The cell that a repeated alignment cell is sent as (R4 to R6). -/
def State.repeatInfo (s : State) (l : Lane) (d : Bool) (i : AlignInfo) : AlignInfo :=
  { i with
    hop := (s.tx.get l).hopCheck, status := if statusOwner d i.frame i.count = s.station then s.statusByte else i.status }

theorem State.repeatAlign_tx (s : State) (l : Lane) (d : Bool) (i : AlignInfo) :
    (s.repeatAlign l d i).tx.get l =
      { (s.tx.get l).sendAlign (s.repeatInfo l d i) (alignCell s.station (s.repeatInfo l d i)) with
        fifo := ((s.repeatAlign l d i).tx.get l).fifo } := by
  have sent := State.putAlign_sent (s := s) (l := l) (d := d) (i := i) ((State.SameButFifo.refl _).alignTest l)
  rw [State.fillStatus_eq] at sent
  exact sent

theorem exec_alignmentCellSent_of_repeating {i : AlignInfo} (live : s.live) (role : (s.tx.get l).role = .repeating)
    (held : (s.rx.get l).repeated = some i) :
    exec (.alignmentCellSent l) s = .next (s.repeatAlign l ((s.rx.get l).underDeep i) i) := by
  show execAlignmentCellSent l s = _
  unfold execAlignmentCellSent
  dsimp only
  rw [if_pos live, role, held]

theorem exec_alignmentCellSent_of_owing {i : AlignInfo} (live : s.live) (role : (s.tx.get l).role = .substitute)
    (owed : (s.tx.get l).carry = some i) :
    exec (.alignmentCellSent l) s = .next (s.repeatAlign l ((s.tx.get l).carryDeep i) i) := by
  show execAlignmentCellSent l s = _
  unfold execAlignmentCellSent
  dsimp only
  rw [if_pos live, role]
  dsimp only
  rw [owed]

end

/-- The position of a frame-0 cell that was sent under DEEP (R5). -/
theorem statusOwner_eq {d : Bool} {P : Prop} [Decidable P] (h : d = true ↔ P) (frame : BitVec 4) (count : Count32) :
    statusOwner d frame count = stationOf (if P then count.toNat else frame.toNat) := by
  unfold statusOwner
  rw [if_congr h rfl rfl]

/-- Settles O15. -/
theorem repeatingCopiesTheAlignmentCell : Obligations.RepeatingCopiesTheAlignmentCell := by
  refine ⟨fun l s i live role info => ?_, fun l s i live role owed => ?_⟩
  · obtain ⟨k, held, copied⟩ : ∃ k, (s.rx.get l).repeated = some k ∧ k = { i with
        status := if (s.rx.get l).infoOk then i.status
          else ((s.rx.get l).bytes.get (statusOwner ((s.rx.get l).underDeep i) i.frame i.count)).getD 0 } := by
      refine ⟨_, ?_, rfl⟩
      unfold Rx.repeated
      rw [info]
      rfl
    have tx := s.repeatAlign_tx l ((s.rx.get l).underDeep k) k
    have rest : (s.repeatAlign l ((s.rx.get l).underDeep k) k).rx = s.rx ∧
      (s.repeatAlign l ((s.rx.get l).underDeep k) k).seqs = s.seqs ∧
      (s.repeatAlign l ((s.rx.get l).underDeep k) k).paced = s.paced := by simp
    refine ⟨_, s.repeatInfo l ((s.rx.get l).underDeep k) k, exec_alignmentCellSent_of_repeating live role held, ?_⟩
    generalize s.repeatAlign l ((s.rx.get l).underDeep k) k = t at *
    have deep : (s.rx.get l).underDeep i = true ↔ i.frame = 0 ∧ ((s.rx.get l).payloadState = some .deep ∨ i.lane = .deep) := by
      unfold Rx.underDeep
      simp
    have owner := statusOwner_eq deep i.frame i.count
    rw [owner] at copied
    have status : (s.repeatInfo l ((s.rx.get l).underDeep k) k).status =
        if statusOwner ((s.rx.get l).underDeep i) i.frame i.count = s.station then s.statusByte else k.status := by
      rw [copied]
      rfl
    rw [owner] at status
    rw [tx]
    refine ⟨rfl, ?_, ?_, ?_, ?_, ?_, rfl, ⟨fun mine => ?_, fun other ok => ?_, fun other wrong => ?_⟩, role, rest⟩
    · rw [copied]
      rfl
    · rw [copied]
      rfl
    · rw [copied]
      rfl
    · rw [copied]
      rfl
    · rw [copied]
      rfl
    · exact status.trans (if_pos mine)
    · refine (status.trans (if_neg other)).trans ?_
      rw [copied]
      exact if_pos ok
    · refine (status.trans (if_neg other)).trans ?_
      rw [copied]
      exact if_neg (by rw [wrong]; exact Bool.false_ne_true)
  · intro x deep owner j
    have tx := s.repeatAlign_tx l (x.carryDeep i) i
    have is : x.carryDeep i = true ↔ deep := by
      unfold Tx.carryDeep
      simp [deep]
    have info : s.repeatInfo l (x.carryDeep i) i = j := by
      unfold State.repeatInfo
      rw [statusOwner_eq is]
      rfl
    have rest : (s.repeatAlign l (x.carryDeep i) i).rx = s.rx ∧ (s.repeatAlign l (x.carryDeep i) i).seqs = s.seqs ∧
      (s.repeatAlign l (x.carryDeep i) i).paced = s.paced := by simp
    refine ⟨_, exec_alignmentCellSent_of_owing live role owed, ?_, rest⟩
    rw [info] at tx
    exact tx

end Sys2Proof.Machine

namespace Sys2Proof.Machine

/-! ### Records and units follow domain and clock (R55, R57, R108, R132, R135) -/

section
variable {s : State}

theorem Eye.flow_ne {e k : Eye} (h : e ≠ k) : Eye.flow e ≠ Eye.flow k := by
  cases e <;> cases k <;> first | exact absurd rfl h | decide

theorem State.listenEye_eq (s : State) (e : Eye) :
    s.listenEye e =
      { s with
        eyes := s.eyes.set e (s.eyes.get e).listen, dst := s.dst.set (Eye.flow e) (some ⟨.listening, none⟩) } := rfl

theorem State.holdEye_eq (s : State) (e : Eye) :
    s.holdEye e =
      { s with
        eyes := s.eyes.set e (s.eyes.get e).hold, dst := s.dst.set (Eye.flow e) (some ⟨.holding, none⟩) } := rfl

/-- One eye's record and state after it followed the display domain (R57, R108). -/
def EyeFollows (on : Bool) (d : Option DstRec) (e : EyeDst) (d' : Option DstRec) (e' : EyeDst) : Prop :=
  ((d.map fun x => x.state) = some .listening → on = false → d' = some ⟨.holding, none⟩ ∧ e' = e.hold) ∧
    ((d.map fun x => x.state) = some .holding → on = true → d' = some ⟨.listening, none⟩ ∧ e' = e.listen) ∧
    ((d.map fun x => x.state) ≠ some .listening ∨ on = true → (d.map fun x => x.state) ≠ some .holding ∨ on = false →
      d' = d ∧ e' = e)

theorem State.followEye_follows (s : State) (e : Eye) :
    EyeFollows (s.domainOn 1) (s.dst.get (Eye.flow e)) (s.eyes.get e) ((s.followEye e).dst.get (Eye.flow e))
      ((s.followEye e).eyes.get e) := by
  unfold EyeFollows State.followEye
  cases record : s.dst.get (Eye.flow e) with
  | none => simp [record]
  | some d =>
    obtain ⟨state, n⟩ := d
    cases state with
    | closed => simp [record]
    | listening =>
      cases on : s.domainOn 1 with
      | true => simp [record]
      | false => simp [State.holdEye_eq]
    | holding =>
      cases on : s.domainOn 1 with
      | true => simp [State.listenEye_eq]
      | false => simp [record]

theorem State.followEye_other (s : State) {e k : Eye} (h : k ≠ e) :
    (s.followEye e).eyes.get k = s.eyes.get k ∧ (s.followEye e).dst.get (Eye.flow k) = s.dst.get (Eye.flow k) := by
  refine ⟨?_, s.followEye_dst_of_ne (Eye.flow_ne h)⟩
  unfold State.followEye
  split
  · split <;> simp [State.holdEye_eq, h]
  · split <;> simp [State.listenEye_eq, h]
  · rfl

theorem State.followDisplay_eq (s : State) :
    s.followDisplay = { s with dst := s.followDisplay.dst, eyes := s.followDisplay.eyes } :=
  State.eq_of_fields (by simp)

/-- Both records of HEADSET follow the display domain (R57, R108). -/
theorem State.followDisplay_follows (headset : s.station = .headset) (e : Eye) :
    EyeFollows (s.domainOn 1) (s.dst.get (Eye.flow e)) (s.eyes.get e) (s.followDisplay.dst.get (Eye.flow e))
      (s.followDisplay.eyes.get e) := by
  have both : s.followDisplay = (s.followEye .left).followEye .right := if_pos headset
  rw [both]
  cases e with
  | left =>
    obtain ⟨eyes, dst⟩ := (s.followEye .left).followEye_other (e := .right) (k := .left) (by decide)
    rw [eyes, dst]
    exact s.followEye_follows .left
  | right =>
    have follows := (s.followEye .left).followEye_follows .right
    obtain ⟨eyes, dst⟩ := s.followEye_other (e := .left) (k := .right) (by decide)
    have on : (s.followEye .left).domainOn 1 = s.domainOn 1 := State.domainOn_congr (by simp) 1
    rwa [eyes, dst, on] at follows

/-- The source is open by holding, clock and domain (R55). -/
theorem State.sourceOpen_eq (s : State) :
    s.sourceOpen = decide ((s.station = .console ∨ s.audioStation = s.station) ∧ s.audio.clock = true ∧
      s.domainOn (sourceDomain s.station) = true) := by
  rw [Bool.eq_iff_iff]
  unfold State.sourceOpen State.holdsSource State.isAudio
  simp [and_assoc]

/-- The sink is out of MUTED by record and domain (R135). -/
theorem State.sinkAwake_iff (s : State) :
    s.sinkAwake = true ↔
      ((s.dst.get (sinkFlow s.station)).map fun x => x.state) = some .listening ∧ s.domainOn (sinkDomain s.station) = true := by
  unfold State.sinkAwake State.listening
  rw [Bool.and_eq_true]
  refine and_congr_left fun _ => ?_
  cases s.dst.get (sinkFlow s.station) with
  | none => simp
  | some d => simp

/-! ### The records leave CLOSED (R57, R108) -/

/-- The record of an eye as the node enters RUNNING (R57, R108). -/
def EyeDst.opened (e : EyeDst) (on : Bool) : EyeDst := if on then e.listen else e.hold

theorem State.openEye_eq (s : State) (e : Eye) :
    s.openEye e =
      { s with
        dst := s.dst.set (Eye.flow e)
          ((s.dst.get (Eye.flow e)).map fun _ => ⟨if s.domainOn 1 then .listening else .holding, none⟩),
        eyes := s.eyes.set e
          (if (s.dst.get (Eye.flow e)).isSome then (s.eyes.get e).opened (s.domainOn 1) else s.eyes.get e) } := by
  unfold State.openEye EyeDst.opened
  cases record : s.dst.get (Eye.flow e) with
  | none =>
    have same : s.dst.set (Eye.flow e) none = s.dst := by rw [← record, PerFlow.set_get]
    simp [same]
  | some d =>
    dsimp only
    split <;> rfl

theorem State.openRecord_eq (s : State) (f : FlowId) :
    s.openRecord f = { s with dst := s.dst.set f ((s.dst.get f).map fun _ => ⟨.listening, none⟩) } := by
  unfold State.openRecord
  cases record : s.dst.get f with
  | none =>
    have same : s.dst.set f none = s.dst := by rw [← record, PerFlow.set_get]
    rw [Option.map_none, same]
  | some d => rfl

/-- The records that the station holds, out of CLOSED (R57). -/
def openedDst (on : Bool) (dst : PerFlow (Option DstRec)) : PerFlow (Option DstRec) :=
  let paced (d : Option DstRec) := d.map fun _ => (⟨if on then .listening else .holding, none⟩ : DstRec)
  let other (d : Option DstRec) := d.map fun _ => (⟨.listening, none⟩ : DstRec)
  { pictureL := paced dst.pictureL, pictureR := paced dst.pictureR, motion := other dst.motion,
    audioOut := other dst.audioOut, audioIn := other dst.audioIn }

/-- The eyes whose record the station holds, out of CLOSED (R108). -/
def openedEyes (on : Bool) (dst : PerFlow (Option DstRec)) (eyes : PerEye EyeDst) : PerEye EyeDst :=
  { left := if dst.pictureL.isSome then eyes.left.opened on else eyes.left,
    right := if dst.pictureR.isSome then eyes.right.opened on else eyes.right }

theorem State.openRecords_eq (s : State) :
    s.openRecords =
      State.followSink
        { s with
          dst := openedDst (s.domainOn 1) s.dst, eyes := openedEyes (s.domainOn 1) s.dst s.eyes } := by
  unfold State.openRecords
  congr 1
  rw [State.openEye_eq s .left, State.openEye_eq _ .right, State.openRecord_eq _ .motion, State.openRecord_eq _ .audioOut,
    State.openRecord_eq _ .audioIn]
  unfold State.domainOn
  dsimp only
  congr 1

/-! ### Entry to RUNNING (R201) -/

/-- The state in which the event report of RUNNING is tested for (R178, R201). -/
def State.entered (s : State) : State :=
  { s with
    start := .running, dst := openedDst (s.domainOn 1) s.dst, eyes := openedEyes (s.domainOn 1) s.dst s.eyes,
    audio := (State.followSink { s with dst := openedDst (s.domainOn 1) s.dst }).audio,
    notices := (State.post { s with start := .running } .resetCause .reset s.cause.code).notices,
    balance := { s.balance with event := true } }

theorem State.openRecords_fields (s : State) :
    s.openRecords =
      { s with
        dst := openedDst (s.domainOn 1) s.dst, eyes := openedEyes (s.domainOn 1) s.dst s.eyes,
        audio := (State.followSink { s with dst := openedDst (s.domainOn 1) s.dst }).audio } := by
  rw [State.openRecords_eq, State.followSink_eq, State.followSink_eq]
  rfl

theorem State.followSink_audio_congr {t : State} (station : t.station = s.station) (dst : t.dst = s.dst)
    (domains : t.power.domains = s.power.domains) (audio : t.audio = s.audio) : t.followSink.audio = s.followSink.audio := by
  have awake : t.sinkAwake = s.sinkAwake := by
    simp only [State.sinkAwake, State.listening, State.domainOn, station, dst, domains]
  rw [State.followSink_eq, State.followSink_eq, awake, audio]

theorem State.enterRunning_eq (s : State) : s.enterRunning = s.entered.reportTest.startSurveys := by
  have posted : State.post { s with start := .running } .resetCause .reset s.cause.code =
      { s with
        start := .running,
        notices := (State.post { s with start := .running } .resetCause .reset s.cause.code).notices } := by
    rw [State.post_of_live (s := { s with start := .running }) (.inr rfl)]
  unfold State.enterRunning State.callEvent State.entered
  rw [posted]
  generalize (State.post { s with start := .running } .resetCause .reset s.cause.code).notices = ns
  have on : State.domainOn { s with start := .running, notices := ns } 1 = s.domainOn 1 := rfl
  have audio : (State.followSink
        { ({ s with start := .running, notices := ns } : State) with dst := openedDst (s.domainOn 1) s.dst }).audio =
      (State.followSink { s with dst := openedDst (s.domainOn 1) s.dst }).audio :=
    State.followSink_audio_congr rfl rfl rfl rfl
  rw [State.openRecords_fields, on]
  dsimp only at audio ⊢
  rw [audio]

/-! #### The surveys start (R115, R116, R118) -/

/-- A survey that starts for a station that is present (R115, R116). -/
theorem State.surveyPresent_eq {y : Station} (console : s.station = .console) (running : s.running) (other : y ≠ .console) :
    s.surveyPresent y =
      if (s.stations.get y).present then
        { s with
          tokens := s.tokens + 1, tx := { s.tx with down := s.tx.down.joined (.echo y (s.tokens + 1)) },
          surveys := s.surveys.set y
            { s.surveys.get y with
              state := .sending, token := s.tokens + 1, failed := 0, unknown := false,
              discarded := !decide (s.tx.down.role.sends = true ∧ s.tx.down.fifo.length < 8) } }
      else s := by
  have starts : s.startSurvey y = (s.modSurvey y fun v => { v with failed := 0, unknown := false }).beginAttempt y :=
    if_pos ⟨console, running, other⟩
  unfold State.surveyPresent
  refine if_congr Iff.rfl ?_ rfl
  rw [starts, State.beginAttempt_eq (s := s.modSurvey y _) console other]
  unfold State.modSurvey
  dsimp only
  rw [PerStation.set_set, PerStation.get_set_self]
  rfl

/-- The survey of a station and the tokens as the surveys start (R115). -/
theorem State.surveyPresent_get {y : Station} (console : s.station = .console) (running : s.running) (other : y ≠ .console)
    (x : Station) :
    (s.surveyPresent y).tokens = s.tokens + (if (s.stations.get y).present then 1 else 0) ∧
      (x ≠ y ∨ (s.stations.get y).present = false → (s.surveyPresent y).surveys.get x = s.surveys.get x) ∧
      (x = y → (s.stations.get y).present = true →
        ((s.surveyPresent y).surveys.get x).state = .sending ∧ ((s.surveyPresent y).surveys.get x).failed = 0 ∧
          ((s.surveyPresent y).surveys.get x).unknown = false ∧
          ((s.surveyPresent y).surveys.get x).token = s.tokens + 1) := by
  rw [State.surveyPresent_eq console running other]
  cases present : (s.stations.get y).present with
  | false => simp
  | true =>
    refine ⟨rfl, fun apart => ?_, fun same _ => ?_⟩
    · have apart : x ≠ y := apart.resolve_right (by simp)
      simp [PerStation.get_set, apart]
    · subst same
      simp

end

end Sys2Proof.Machine

namespace Sys2Proof.Machine

section
variable {s : State}

/-- A record that is out of CLOSED, by its flow (R57). -/
theorem openedDst_get (on : Bool) (dst : PerFlow (Option DstRec)) (f : FlowId) :
    (openedDst on dst).get f =
      (dst.get f).map fun _ => ⟨if f = .pictureL ∨ f = .pictureR then (if on then .listening else .holding) else .listening, none⟩ := by
  cases f <;> rfl

theorem openedEyes_get (on : Bool) (dst : PerFlow (Option DstRec)) (eyes : PerEye EyeDst) (e : Eye) :
    (openedEyes on dst eyes).get e = if (dst.get (Eye.flow e)).isSome then (eyes.get e).opened on else eyes.get e := by
  cases e <;> rfl

theorem exec_ends_linking {c : Instr} (linking : s.start = .linking) (roles : s.settledRoles = true)
    (ends : c = .linkingTimeout ∨ (c = .endOfLinking ∧ ∀ l, s.inUse l = true → (s.rx.get l).state = .locked)) :
    exec c s = .next s.enterRunning := by
  obtain rfl | ⟨rfl, locked⟩ := ends
  · exact if_pos ⟨linking, roles⟩
  · have ready (l : Lane) : s.laneReady l = true := by
      unfold State.laneReady
      cases used : s.inUse l with
      | false => rfl
      | true =>
        rw [locked l used]
        rfl
    have linked : s.linked = true := by
      unfold State.linked
      rw [ready, ready]
      rfl
    exact if_pos ⟨linking, roles, linked⟩

theorem State.enterRunning_fields (s : State) :
    s.enterRunning.dst = s.entered.dst ∧ s.enterRunning.eyes = s.entered.eyes ∧ s.enterRunning.audio = s.entered.audio ∧
      s.enterRunning.notices = s.entered.notices := by
  rw [State.enterRunning_eq]
  simp

theorem State.startSurveys_of_console (console : s.station = .console) :
    s.startSurveys = ((s.surveyPresent .pod).surveyPresent .headset).surveyPresent .strap := if_pos console

/-- CONSOLE's surveys as they start: of every station present, with a token of its own (R115, R116). -/
theorem State.startSurveys_get (console : s.station = .console) (running : s.running) {y : Station} (other : y ≠ .console) :
    ((s.stations.get y).present = true →
        (s.startSurveys.surveys.get y).state = .sending ∧ (s.startSurveys.surveys.get y).failed = 0 ∧
          (s.startSurveys.surveys.get y).unknown = false ∧ (s.startSurveys.surveys.get y).token ≠ s.tokens) ∧
      ((s.stations.get y).present = false → s.startSurveys.surveys.get y = s.surveys.get y) := by
  rw [State.startSurveys_of_console console]
  have running' (t : State) (start : t.start = s.start) : t.running := start.trans running
  obtain ⟨tokens, first, pod⟩ := State.surveyPresent_get (y := .pod) console running (by decide) y
  obtain ⟨tokens', second, headset⟩ := State.surveyPresent_get (s := s.surveyPresent .pod) (y := .headset) (by simpa using console)
    (running' _ (by simp)) (by decide) y
  obtain ⟨-, third, strap⟩ := State.surveyPresent_get (s := (s.surveyPresent .pod).surveyPresent .headset) (y := .strap)
    (by simpa using console) (running' _ (by simp)) (by decide) y
  simp only [State.surveyPresent_keeps] at second headset third strap tokens'
  rw [tokens', tokens] at strap
  rw [tokens] at headset
  cases y with
  | console => exact absurd rfl other
  | pod =>
    rw [third (.inl (by decide)), second (.inl (by decide))]
    refine ⟨fun present => ?_, fun absent => first (.inr absent)⟩
    obtain ⟨state, failed, unknown, token⟩ := pod rfl present
    refine ⟨state, failed, unknown, ?_⟩
    rw [token]
    bv_omega
  | headset =>
    rw [third (.inl (by decide))]
    refine ⟨fun present => ?_, fun absent => (second (.inr absent)).trans (first (.inl (by decide)))⟩
    obtain ⟨state, failed, unknown, token⟩ := headset rfl present
    refine ⟨state, failed, unknown, ?_⟩
    rw [token]
    split <;> bv_omega
  | strap =>
    refine ⟨fun present => ?_, fun absent =>
      (third (.inr absent)).trans ((second (.inl (by decide))).trans (first (.inl (by decide))))⟩
    obtain ⟨state, failed, unknown, token⟩ := strap rfl present
    refine ⟨state, failed, unknown, ?_⟩
    rw [token]
    split <;> split <;> bv_omega

end

/-- Settles O8. -/
theorem linkingEndsInRunning : Obligations.LinkingEndsInRunning := by
  refine ⟨fun c s linking roles ends => ?_, fun s => ?_, fun s => ?_⟩
  · obtain ⟨dst, eyes, audio, notices⟩ := s.enterRunning_fields
    have record (f : FlowId) : s.enterRunning.dst.get f = _ :=
      (congrArg (PerFlow.get · f) dst).trans (openedDst_get (s.domainOn 1) s.dst f)
    refine ⟨_, exec_ends_linking linking roles ends, ?_, fun f d is => ?_, fun f => ?_, fun e d is => ⟨?_, ?_⟩, fun e none => ?_,
      fun f mem d is => ?_, ?_, ?_, by simp, by simp, by simp, by simp, by simp, ?_⟩
    · rw [State.enterRunning_eq]
      simp [State.entered]
    · rw [record] at is
      obtain ⟨c, -, rfl⟩ := Option.map_eq_some_iff.1 is
      refine ⟨?_, rfl⟩
      dsimp only
      split
      · split <;> nofun
      · nofun
    · rw [record, Option.isSome_map]
    · rw [record] at is
      obtain ⟨c, -, rfl⟩ := Option.map_eq_some_iff.1 is
      exact if_pos (by cases e <;> decide)
    · rw [record] at is
      obtain ⟨c, was, -⟩ := Option.map_eq_some_iff.1 is
      rw [eyes]
      refine (openedEyes_get _ _ _ e).trans ?_
      rw [was]
      unfold EyeDst.opened EyeDst.listen EyeDst.hold
      simp only [Option.isSome_some, if_true]
      split <;> rfl
    · rw [eyes]
      refine (openedEyes_get _ _ _ e).trans ?_
      rw [none]
      rfl
    · rw [record] at is
      obtain ⟨c, -, rfl⟩ := Option.map_eq_some_iff.1 is
      exact if_neg (by rintro (rfl | rfl) <;> simp at mem)
    · rw [audio, dst]
      rfl
    · rw [notices]
      exact State.exists_posted (s := { s with start := .running }) (.inr rfl) _ _ _
    · intro push survey entered called
      have same : entered = s.entered := by
        show ({ s with start := _, dst := _, eyes := _, audio := _, notices := _, balance := _ } : State) = _
        rw [dst, eyes, audio, notices]
        rfl
      have is : s.enterRunning = called.startSurveys := by
        show _ = entered.reportTest.startSurveys
        rw [same, State.enterRunning_eq]
      have station : called.station = s.station := by
        show entered.reportTest.station = _
        simp [entered]
      have running : called.running := by
        show entered.reportTest.start = _
        simp [entered]
      have stations : called.stations = s.stations := by
        show entered.reportTest.stations = _
        simp [entered]
      have kept : called.surveys = s.surveys ∧ called.tokens = s.tokens := by
        show entered.reportTest.surveys = _ ∧ entered.reportTest.tokens = _
        simp [entered]
      obtain ⟨surveys, tokens⟩ := kept
      generalize called = t at *
      have step (x : State) (y : Station) (console : x.station = .console) (running : x.running) (other : y ≠ .console) :
          survey x y = x.surveyPresent y := (State.surveyPresent_eq console running other).symm
      rw [is]
      refine ⟨fun console => ?_, fun other => ?_, fun console y other => ?_, fun other => ?_⟩
      · have here := station.trans console
        have run (x : State) (start : x.start = t.start) : x.running := start.trans running
        rw [State.startSurveys_of_console here]
        show _ = survey (survey (survey t .pod) .headset) .strap
        rw [step t .pod here running (by decide), step _ .headset (by simpa using here) (run _ (by simp)) (by decide),
          step _ .strap (by simpa using here) (run _ (by simp)) (by decide)]
      · have away : t.station ≠ .console := by rw [station]; exact other
        unfold State.startSurveys State.offerResurvey
        rw [if_neg away, if_neg away, State.offerTo_console away (by nofun)]
        rfl
      · have starts := State.startSurveys_get (station.trans console) running other
        rwa [stations, surveys, tokens] at starts
      · have away : t.station ≠ .console := by rw [station]; exact other
        unfold State.startSurveys State.offerResurvey
        rw [if_neg away, if_neg away, ← surveys, ← tokens]
        simp
  · have follows (headset : s.station = .headset) := State.followDisplay_follows headset
    refine ⟨fun other => if_neg other, s.followDisplay_eq, fun f mem => ?_, fun headset e => ?_⟩
    · refine s.followDisplay_dst_of_ne fun e same => ?_
      subst same
      cases e <;> simp [Eye.flow] at mem
    · exact follows headset e
  · intro a holds sourceOn opened sinkOn record awake
    have opens : s.sourceOpen = opened := by
      rw [State.sourceOpen_eq]
      have on : s.domainOn (sourceDomain s.station) = sourceOn := by
        show _ = s.domainOn _
        cases s.station <;> rfl
      rw [on]
    have wakes : s.sinkAwake = true ↔ awake := by
      rw [State.sinkAwake_iff]
      have on : s.domainOn (sinkDomain s.station) = sinkOn := by
        show _ = s.domainOn _
        cases s.station <;> rfl
      have flow : s.dst.get (sinkFlow s.station) = record := by
        show _ = s.dst.get _
        cases s.station <;> rfl
      rw [on, flow]
    rw [State.followSource_eq, State.followSink_eq, opens]
    refine ⟨fun same => ?_, fun changes => ?_, fun up muted => ?_, fun down loud => ?_, fun same => ?_⟩
    · unfold Source.follow
      rw [if_pos same]
    · unfold Source.follow
      rw [if_neg changes]
    · unfold Sink.follow
      rw [if_pos (wakes.2 up), if_pos muted]
      rfl
    · unfold Sink.follow
      rw [if_neg fun up => down (wakes.1 up), if_neg loud]
      rfl
    · unfold Sink.follow
      by_cases up : s.sinkAwake = true
      · rw [if_pos up, if_neg (same.1 (wakes.1 up))]
      · rw [if_neg up, if_pos (not_not.1 fun loud => up (wakes.2 (same.2 loud)))]

end Sys2Proof.Machine

namespace Sys2Proof.Machine

/-! ### Roles settle (R20) -/

namespace State.SameButFifo

theorem surveyPresent {s t : State} (h : s.SameButFifo t) (x : Station) : s.SameButFifo (t.surveyPresent x) := by
  unfold State.surveyPresent
  split
  · exact h.startSurvey x
  · exact h

/-- Entry to RUNNING changes no transmitter but for its FIFO (R201). -/
theorem enterRunning (s : State) : s.SameButFifo s.enterRunning := by
  have called : s.SameButFifo s.entered.reportTest :=
    State.reportTest_preserves State.SameButFifo.buildReport ((State.SameButFifo.refl s).of_tx rfl)
  rw [State.enterRunning_eq]
  unfold State.startSurveys State.offerResurvey
  split
  · exact ((called.surveyPresent _).surveyPresent _).surveyPresent _
  · exact called.offerTo _ _

end State.SameButFifo

section
variable {s : State}

/-- A transmitter that waits to be REPEATING, as roles settle (R20). -/
def Tx.settling (t : Tx) (ready : Bool) : Tx := if ready then { t with follows := true } else t.substitute none

theorem State.toRepeating_of_ready {l : Lane} (ready : (s.rx.get l).state = .locked) :
    s.toRepeating l = s.modTx l fun t => { t with follows := true } := if_pos ready

theorem State.toRepeating_of_not_ready {l : Lane} (lost : (s.rx.get l).state ≠ .locked) :
    s.toRepeating l = (s.modTx l fun t => t.substitute none).postLane l := if_neg lost

theorem State.toRepeating_eq (s : State) (l : Lane) :
    s.toRepeating l =
      { s with
        tx := s.tx.set l ((s.tx.get l).settling (decide ((s.rx.get l).state = .locked))),
        notices := (s.toRepeating l).notices } := by
  by_cases ready : (s.rx.get l).state = .locked
  · rw [State.toRepeating_of_ready ready, decide_eq_true ready]
    rfl
  · rw [State.toRepeating_of_not_ready ready, decide_eq_false ready]
    exact State.eq_of_fields (by simp [State.modTx, Tx.settling])

/-- The receivers as roles settle: a far-side one that is not in use goes to DARK (R20, R21). -/
theorem State.settleRoles_rx (s : State) :
    s.settleRoles.settledRoles = true ∧
      s.settleRoles.rx = if s.farNeighbour then s.rx else { s.rx with up := s.rx.up.clear .dark } := by
  have step (t : State) (l : Lane) : (t.toRepeating l).settledRoles = t.settledRoles ∧ (t.toRepeating l).rx = t.rx := by
    rw [State.toRepeating_eq]
    exact ⟨rfl, rfl⟩
  unfold State.settleRoles
  dsimp only
  by_cases far : s.farNeighbour = true
  · rw [if_pos far, if_pos far, if_pos far]
    split
    · exact ⟨rfl, rfl⟩
    · rw [(step _ _).1, (step _ _).1, (step _ _).2, (step _ _).2]
      exact ⟨rfl, rfl⟩
  · rw [if_neg far, if_neg far, if_neg far]
    split <;> exact ⟨rfl, rfl⟩

theorem State.settleRoles_of_console (console : s.station = .console) :
    s.settleRoles.tx = { s.tx with down := s.tx.down.toOrigin } := by
  unfold State.settleRoles
  rw [if_pos console]
  split <;> rfl

theorem State.settleRoles_of_end (other : s.station ≠ .console) (last : s.farNeighbour = false) :
    s.settleRoles.tx = ⟨s.tx.down.toTerminal, s.tx.up.toOrigin⟩ := by
  unfold State.settleRoles
  rw [if_neg other, if_neg (by rw [last]; exact Bool.false_ne_true)]
  rfl

theorem State.settleRoles_of_middle (other : s.station ≠ .console) (far : s.farNeighbour = true) :
    s.settleRoles = (State.toRepeating { s with settledRoles := true } .down).toRepeating .up := by
  unfold State.settleRoles
  rw [if_neg other, if_pos far]

theorem State.settleRoles_tx_of_middle (other : s.station ≠ .console) (far : s.farNeighbour = true) (l : Lane) :
    s.settleRoles.tx.get l = (s.tx.get l).settling (decide ((s.rx.get l).state = .locked)) := by
  rw [State.settleRoles_of_middle other far, State.toRepeating_eq, State.toRepeating_eq]
  cases l <;> rfl

/-- A transmitter that becomes SUBSTITUTE as roles settle posts LANE_STATE (R13, R20). -/
theorem State.settleRoles_posts (live : s.live) (other : s.station ≠ .console) (far : s.farNeighbour = true) {l : Lane}
    (lost : (s.rx.get l).state ≠ .locked) :
    ∃ n ∈ s.settleRoles.notices, n.kind = .laneState ∧ n.subject = .lane l ∧
      n.value = BitVec.ofNat 32 (RxState.code (s.rx.get l).state * 16 + 2) := by
  have posts (t : State) (alive : t.live) (rx : t.rx = s.rx) : ∃ n ∈ (t.toRepeating l).notices, n.kind = .laneState ∧
      n.subject = .lane l ∧ n.value = BitVec.ofNat 32 (RxState.code (s.rx.get l).state * 16 + 2) := by
    rw [State.toRepeating_of_not_ready (by rw [rx]; exact lost)]
    obtain ⟨n, mem, kind, subject, value⟩ := State.postLane_posts (s := t.modTx l fun t => t.substitute none) alive l
    refine ⟨n, mem, kind, subject, value.trans ?_⟩
    rw [State.modTx_tx, PerLane.get_set_self, State.modTx_rx, rx]
    rfl
  have stays (t : State) (alive : t.live) {n : Notice} (mem : n ∈ t.notices) {k : Lane} (apart : n.subject ≠ .lane k) :
      n ∈ (t.toRepeating k).notices := by
    unfold State.toRepeating
    split
    · exact mem
    · unfold State.postLane
      rw [State.post_of_live (s := t.modTx k fun t => t.substitute none) alive]
      exact mem_putNotice_of_ne mem apart
  rw [State.settleRoles_of_middle other far]
  cases l with
  | down =>
    obtain ⟨n, mem, kind, subject, value⟩ := posts { s with settledRoles := true } live rfl
    exact ⟨n, stays _ (by rw [State.toRepeating_eq]; exact live) mem (by rw [subject]; nofun), kind, subject, value⟩
  | up =>
    refine posts _ ?_ ?_
    · rw [State.toRepeating_eq]
      exact live
    · rw [State.toRepeating_eq]

/-- LINKING ends with the settling of roles where every receiver in use is LOCKED (R201). -/
theorem State.settleRoles_linked (s : State) :
    s.settleRoles.linked = true ↔
      ¬((s.station ≠ .console ∧ ¬(s.rx.get .down).state = .locked) ∨
        (s.farNeighbour = true ∧ ¬(s.rx.get .up).state = .locked)) := by
  obtain ⟨settled, rx⟩ := s.settleRoles_rx
  have station : s.settleRoles.station = s.station := by simp
  have far : s.settleRoles.farNeighbour = s.farNeighbour := by simp
  have down : s.settleRoles.rx.get .down = s.rx.get .down := by
    rw [rx]
    split <;> rfl
  unfold State.linked State.laneReady State.inUse
  dsimp only
  rw [settled, station, far, down]
  by_cases neighbour : s.farNeighbour = true
  · rw [rx, if_pos neighbour]
    simp [neighbour, imp_iff_not_or]
  · simp [neighbour, imp_iff_not_or]

end

/-- Settles O7. -/
theorem rolesSettleByTheFarNeighbour : Obligations.RolesSettleByTheFarNeighbour := by
  intro s linking unsettled
  have runs : exec .rolesSettle s =
      .next (if s.settleRoles.linked then s.settleRoles.enterRunning else s.settleRoles) := if_pos ⟨linking, unsettled⟩
  obtain ⟨settled, rx⟩ := s.settleRoles_rx
  have u_eq : s.settleRoles =
      { s with settledRoles := true, rx := s.settleRoles.rx, tx := s.settleRoles.tx, notices := s.settleRoles.notices } :=
    State.eq_of_fields (by simp [settled])
  have linked := s.settleRoles_linked
  have live : s.live := .inl linking
  have posts := State.settleRoles_posts (s := s) live
  have console := State.settleRoles_of_console (s := s)
  have last := State.settleRoles_of_end (s := s)
  have middle := State.settleRoles_tx_of_middle (s := s)
  have start : s.settleRoles.start = .linking := by simp [linking]
  obtain ⟨t, ends, stays, same⟩ : ∃ t, exec .rolesSettle s = .next t ∧
      (s.settleRoles.linked = false → t = s.settleRoles) ∧
      (s.settleRoles.linked = true → t = s.settleRoles.enterRunning) := by
    refine ⟨_, runs, fun no => ?_, fun yes => ?_⟩
    · rw [no]
      rfl
    · rw [yes]
      rfl
  have fifos : s.settleRoles.SameButFifo t := by
    cases is : s.settleRoles.linked with
    | false =>
      rw [stays is]
      exact .refl _
    | true =>
      rw [same is]
      exact .enterRunning _
  have kept : t.rx = s.settleRoles.rx ∧ t.settledRoles = true ∧ t.farNeighbour = s.farNeighbour := by
    cases is : s.settleRoles.linked with
    | false =>
      rw [stays is]
      exact ⟨rfl, settled, by simp⟩
    | true =>
      rw [same is]
      exact ⟨by simp, by simp [settled], by simp⟩
  obtain ⟨rx', settled', far'⟩ := kept
  have tx (l : Lane) : t.tx.get l = { s.settleRoles.tx.get l with fifo := (t.tx.get l).fifo } := fifos l
  have running : s.settleRoles.linked = true → t.start = .running ∧ exec .endOfLinking s.settleRoles = .next t := fun is => by
    refine ⟨?_, ?_⟩
    · rw [same is, State.enterRunning_eq]
      simp [State.entered]
    · rw [same is]
      exact if_pos ⟨start, settled, is⟩
  generalize s.settleRoles = u at *
  refine ⟨u, t, ends, u_eq, ?_, fun far => ?_, fun near => ?_, ⟨fun waits => ?_, fun ready => running (linked.2 ready),
    fun is => ?_, fun other near => ?_, fun other far l => ⟨fun ready => ?_, fun lost => ⟨?_, ?_⟩⟩⟩, settled', far', fun is => ?_,
    fun other near => ?_,
    fun other far l => ⟨fun ready => ?_, fun lost => ?_⟩, fun near => ?_, fun l => ?_⟩
  · rw [rx]
    split <;> rfl
  · rw [rx, if_pos far]
  · rw [rx, if_neg (by rw [near]; exact Bool.false_ne_true)]
    rfl
  · have waiting : u.linked = false := Bool.eq_false_iff.2 fun is => linked.1 is waits
    rw [stays waiting]
    exact ⟨rfl, start⟩
  · rw [console is]
    rfl
  · rw [last other near]
    rfl
  · rw [middle other far, decide_eq_true ready]
    rfl
  · rw [middle other far, decide_eq_false lost]
    rfl
  · have waiting : u.linked = false := Bool.eq_false_iff.2 fun is => linked.1 is ?_
    · rw [stays waiting]
      exact posts other far lost
    · cases l with
      | down => exact .inl ⟨other, lost⟩
      | up => exact .inr ⟨far, lost⟩
  · have down := tx .down
    have up := tx .up
    have settles := console is
    refine ⟨?_, ?_, Quiet.start, ?_, rfl⟩
    · exact (congrArg Tx.role down).trans (by rw [settles]; rfl)
    · exact (congrArg Tx.role up).trans (by rw [settles]; rfl)
    · exact (congrArg Tx.quiet down).trans (by rw [settles]; rfl)
  · have settles := last other near
    refine ⟨?_, ?_, Quiet.start, ?_, rfl⟩
    · exact (congrArg Tx.role (tx .down)).trans (by rw [settles]; rfl)
    · exact (congrArg Tx.role (tx .up)).trans (by rw [settles]; rfl)
    · exact (congrArg Tx.quiet (tx .up)).trans (by rw [settles]; rfl)
  · have settles := middle other far l
    rw [decide_eq_true ready] at settles
    exact ⟨(congrArg Tx.role (tx l)).trans (by rw [settles]; rfl), (congrArg Tx.follows (tx l)).trans (by rw [settles]; rfl)⟩
  · have settles := middle other far l
    rw [decide_eq_false lost] at settles
    exact (congrArg Tx.role (tx l)).trans (by rw [settles]; rfl)
  · rw [rx', rx, if_neg (by rw [near]; exact Bool.false_ne_true)]
    rfl
  · have same : (u.tx.get l).count = (s.tx.get l).count ∧ (u.tx.get l).frame = (s.tx.get l).frame := by
      by_cases is : s.station = .console
      · rw [console is]
        cases l <;> exact ⟨rfl, rfl⟩
      · by_cases far : s.farNeighbour = true
        · rw [middle is far]
          unfold Tx.settling
          split <;> exact ⟨rfl, rfl⟩
        · rw [last is (by simpa using far)]
          cases l <;> exact ⟨rfl, rfl⟩
    exact ⟨(congrArg Tx.count (tx l)).trans same.1, (congrArg Tx.frame (tx l)).trans same.2⟩

end Sys2Proof.Machine

namespace Sys2Proof.Machine

/-! ### Presence in the station table (R22, R23) -/

section
variable {s : State}

/-! #### Notices of another subject stay waiting (R185) -/

/-- The subjects of the notices that a change of the domains or of the applied level posts (R121, R153, R154). -/
def Subject.ofPower : Subject → Bool
  | .domain _ | .supply | .flow .motion => true
  | _ => false

section
variable {n : Notice} (other : n.subject.ofPower = false)
include other

theorem Notice.not_domain (m : Nat) : n.subject ≠ .domain m := fun h => by simp [h, Subject.ofPower] at other

theorem Notice.not_supply : n.subject ≠ .supply := fun h => by simp [h, Subject.ofPower] at other

theorem Notice.not_motion : n.subject ≠ .flow .motion := fun h => by simp [h, Subject.ofPower] at other

theorem State.mem_motionTo (h : n ∈ s.notices) (f : Motion → Motion) : n ∈ (s.motionTo f).notices :=
  State.mem_post (s := { s with motion := f s.motion }) h (n.not_motion other) _ _

theorem State.mem_followSensors (h : n ∈ s.notices) : n ∈ s.followSensors.notices := by
  have linked (f : Motion → Motion) (v : Bool) : n ∈ ((s.motionTo f).wearLink v).notices :=
    State.mem_wearLink (State.mem_motionTo other h f) (n.not_domain other) v
  unfold State.followSensors
  split
  · exact h
  · split
    · split
      · exact h
      · split
        · exact linked _ _
        · exact linked _ _
    · split
      · exact h
      · exact State.mem_motionTo other h _

theorem State.mem_lowerLevel (h : n ∈ s.notices) : n ∈ s.lowerLevel.notices := by
  unfold State.lowerLevel
  split
  · exact h
  · exact State.mem_post (s := { s with power := { s.power with applied := s.appliedLevel } }) h (n.not_supply other) _ _

theorem State.mem_followOffer (h : n ∈ s.notices) : n ∈ s.followOffer.notices := by
  unfold State.followOffer
  split
  · exact State.mem_lowerLevel (s := { s with power := { s.power with supplyLevel := 0 } }) other h
  · exact h

theorem State.mem_follow (h : n ∈ s.notices) : n ∈ s.follow.notices :=
  State.mem_followOffer other (by simpa using State.mem_followSensors other h)

/-- A fresh look at the applied level leaves the notices of other subjects (R154, R185). -/
theorem State.mem_relevel (h : n ∈ s.notices) : n ∈ s.relevel.notices := by
  unfold State.relevel
  dsimp only
  split
  · exact h
  · refine State.mem_post ?_ (n.not_supply other) _ _
    exact State.mem_follow other
      (State.mem_changeDomains (s := { s with power := { s.power with applied := s.appliedLevel } }) h (n.not_domain other) _)

end

/-! #### The entry that becomes present or absent (R22, R23) -/

theorem State.becomePresent_stations (s : State) (x : Station) :
    (s.becomePresent x).stations = s.stations.set x { s.stations.get x with present := true } := by
  simp [State.becomePresent]

theorem State.becomeAbsent_stations (s : State) (x : Station) :
    (s.becomeAbsent x).stations = s.stations.set x { s.stations.get x with present := false, delay := none } := by
  simp [State.becomeAbsent]

theorem State.becomePresent_posts (live : s.live) (x : Station) :
    ∃ n ∈ (s.becomePresent x).notices, n.kind = .stationPresent ∧ n.subject = .station x := by
  obtain ⟨n, waits, kind, subject, -⟩ :=
    State.exists_posted (s := s.modStation x fun v => { v with present := true }) live .stationPresent (.station x) 0
  refine ⟨n, ?_, kind, subject⟩
  have stays := State.mem_relevel (by rw [subject]; rfl) waits
  simpa [State.becomePresent] using stays

theorem State.becomeAbsent_posts (live : s.live) (x : Station) :
    ∃ n ∈ (s.becomeAbsent x).notices, n.kind = .stationAbsent ∧ n.subject = .station x := by
  obtain ⟨n, waits, kind, subject, -⟩ :=
    State.exists_posted (s := (s.modStation x fun v => { v with present := false, delay := none }).modSurvey x Survey.abandon)
      live .stationAbsent (.station x) 0
  refine ⟨n, ?_, kind, subject⟩
  have stays := State.mem_relevel (by rw [subject]; rfl) waits
  simpa [State.becomeAbsent] using stays

/-- The notice of one station stays waiting where another becomes absent (R185). -/
theorem State.mem_becomeAbsent {n : Notice} {x y : Station} (h : n ∈ s.notices) (subject : n.subject = .station x) (other : x ≠ y) :
    n ∈ (s.becomeAbsent y).notices := by
  have posted := State.mem_post
    (s := (s.modStation y fun v => { v with present := false, delay := none }).modSurvey y Survey.abandon) h
    (subject := .station y) (by rw [subject]; exact fun e => other (Subject.station.inj e)) .stationAbsent 0
  have stays := State.mem_relevel (by rw [subject]; rfl) posted
  simpa [State.becomeAbsent] using stays

/-! #### The entries of a lane long out of LOCKED (R23) -/

/-- An entry that its receiver has long not fed (R23). -/
def StationEntry.timedOut (v : StationEntry) : StationEntry :=
  { v with status := 0, present := false, delay := if v.present then none else v.delay }

theorem State.timeoutEntry_stations (s : State) (l : Lane) (x : Station) :
    (s.timeoutEntry l x).stations =
      if feeds s.station l x = true then s.stations.set x (s.stations.get x).timedOut else s.stations := by
  unfold State.timeoutEntry
  by_cases fed : feeds s.station l x = true
  · rw [if_neg (by rw [fed]; nofun), if_pos fed]
    dsimp only
    split
    · rename_i present
      rw [State.becomeAbsent_stations]
      simp [State.modStation, StationEntry.timedOut, present]
    · rename_i absent
      simp [State.modStation, StationEntry.timedOut, absent]
  · rw [if_pos (Bool.eq_false_iff.2 fed), if_neg fed]

theorem State.timeoutEntry_get (s : State) (l : Lane) (x y : Station) :
    (s.timeoutEntry l x).stations.get y =
      if y = x ∧ feeds s.station l x = true then (s.stations.get y).timedOut else s.stations.get y := by
  rw [State.timeoutEntry_stations]
  by_cases fed : feeds s.station l x = true
  · by_cases same : y = x
    · rw [if_pos fed, if_pos ⟨same, fed⟩, same]
      simp
    · rw [if_pos fed, if_neg fun h => same h.1]
      simp [PerStation.get_set, same]
  · rw [if_neg fed, if_neg fun h => fed h.2]

theorem State.timeoutLane_get (s : State) (l : Lane) (x : Station) :
    (s.timeoutLane l).stations.get x =
      if feeds s.station l x = true then (s.stations.get x).timedOut else s.stations.get x := by
  unfold State.timeoutLane
  simp only [State.timeoutEntry_get, State.timeoutEntry_keeps]
  cases x <;> simp

end

end Sys2Proof.Machine

namespace Sys2Proof.Machine

/-! ### One slot of the local reference (R112, R124, R187, R195) -/

section
variable {s : State}

/-! #### The clock and the pulses (R112, R113, R187) -/

/-- What the clock reads after a slot: a free-running one goes on by one (R112, R113). -/
def State.tickTime (s : State) : Count32 := if s.station = .console ∨ s.following = true then s.laneTime else s.clock + 1

theorem State.tickClock_eq (s : State) : s.tickClock = s.setClock s.tickTime := by
  unfold State.tickClock State.tickTime State.syncClock
  split <;> rfl

/-- A pulse timer after the clock has moved to `c` (R187). -/
def State.pulsed (s : State) (c : Count32) (f : OutFn) (left : Nat) : Nat :=
  if f = .superframePulse ∧ c ≠ s.clock ∧ c.toNat % 1024 = 0 then 64 else left

theorem State.setClock_of_live (live : s.live) (c : Count32) :
    s.setClock c =
      { s with clock := c, pulses := ⟨s.pulsed c s.cfg.outA s.pulses.a, s.pulsed c s.cfg.outB s.pulses.b⟩ } := by
  unfold State.setClock State.pulsed
  dsimp only
  by_cases lands : c ≠ s.clock ∧ c.toNat % 1024 = 0
  · rw [if_pos ⟨lands.1, lands.2, live⟩]
    simp only [lands.1, lands.2, ne_eq, not_false_eq_true, and_self, and_true, State.startPulse]
  · rw [if_neg fun h => lands ⟨h.1, h.2.1⟩, if_neg fun h => lands h.2, if_neg fun h => lands h.2]

/-! #### The silence count and the relay wait (R124, R195) -/

theorem State.tickSilence_of_other (h : s.station ≠ .headset ∨ s.motion.state ≠ .sampling) : s.tickSilence = s :=
  if_neg fun both => h.elim (fun h => h both.1) fun h => h both.2

theorem State.tickSilence_of_early (headset : s.station = .headset) (sampling : s.motion.state = .sampling)
    (early : s.motion.silence + 1 < silenceThreshold s.cfg.motionRate) :
    s.tickSilence = { s with motion := { s.motion with silence := s.motion.silence + 1 } } := by
  unfold State.tickSilence
  rw [if_pos ⟨headset, sampling⟩, if_neg (not_le.2 early)]

theorem State.tickSilence_of_end (headset : s.station = .headset) (sampling : s.motion.state = .sampling)
    (ends : s.motion.silence + 1 = silenceThreshold s.cfg.motionRate) :
    s.tickSilence =
      ({ s with motion := { s.motion with silence := silenceThreshold s.cfg.motionRate } } : State).post .sensorSilent
        (.flow .motion) (motionHz s.cfg.motionRate) := by
  unfold State.tickSilence State.sensorSilent
  rw [if_pos ⟨headset, sampling⟩, if_pos ends.ge, if_pos ⟨sampling, by omega⟩]

theorem State.tickSilence_of_past (past : silenceThreshold s.cfg.motionRate ≤ s.motion.silence) : s.tickSilence = s := by
  have silent : s.sensorSilent = s := if_neg fun h => absurd h.2 (not_lt.2 past)
  unfold State.tickSilence
  rw [if_pos (show silenceThreshold s.cfg.motionRate ≤ s.motion.silence + 1 by omega), silent, ite_self]

theorem State.tickSilence_eq (s : State) :
    s.tickSilence = { s with motion := s.tickSilence.motion, notices := s.tickSilence.notices } :=
  State.eq_of_fields (by simp)

theorem State.tickRelay_of_other (h : s.service.holder.state ≠ .outstanding) : s.tickRelay = s := if_neg h

theorem State.tickRelay_of_early (outstanding : s.service.holder.state = .outstanding) (early : 2 ≤ s.service.holder.wait) :
    s.tickRelay = s.modHolder fun h => { h with wait := s.service.holder.wait - 1 } := by
  unfold State.tickRelay
  rw [if_pos outstanding]
  dsimp only
  rw [if_neg (by omega)]

theorem State.relayTimeout_of_outstanding (outstanding : s.service.holder.state = .outstanding) :
    s.relayTimeout =
      (s.modHolder fun h => { h with state := .idle, wait := 0, count := none, parts := [] }).post .relayTimeout .relay
        s.service.holder.noticeValue := if_pos outstanding

theorem State.tickRelay_of_end (outstanding : s.service.holder.state = .outstanding) (ends : s.service.holder.wait ≤ 1) :
    s.tickRelay =
      (s.modHolder fun h => { h with state := .idle, wait := 0, count := none, parts := [] }).post .relayTimeout .relay
        s.service.holder.noticeValue := by
  unfold State.tickRelay
  rw [if_pos outstanding]
  dsimp only
  rw [if_pos (by omega)]
  exact State.relayTimeout_of_outstanding (s := s.modHolder fun h => { h with wait := s.service.holder.wait - 1 }) outstanding

theorem State.tickRelay_eq (s : State) :
    s.tickRelay = { s with service := s.tickRelay.service, notices := s.tickRelay.notices } :=
  State.eq_of_fields (by simp)

/-- A relay that times out leaves the notices of other subjects (R185, R195). -/
theorem State.mem_tickRelay {n : Notice} (h : n ∈ s.notices) (other : n.subject ≠ .relay) : n ∈ s.tickRelay.notices := by
  by_cases outstanding : s.service.holder.state = .outstanding
  · by_cases early : 2 ≤ s.service.holder.wait
    · rw [State.tickRelay_of_early outstanding early]
      exact h
    · rw [State.tickRelay_of_end outstanding (by omega)]
      exact State.mem_post (s := s.modHolder fun h => { h with state := .idle, wait := 0, count := none, parts := [] }) h other _ _
  · rw [State.tickRelay_of_other outstanding]
    exact h

/-! #### The parts of a slot -/

/-- The state with the timings and pulses moved on by a slot (R3, R8, R9, R187). -/
def State.slotBegun (s : State) : State :=
  { s with
    localSlot := s.localSlot + 1, pulses := s.pulses.tick, rx := ⟨s.rx.down.tick, s.rx.up.tick⟩,
    tx := ⟨s.tx.down.tick, s.tx.up.tick⟩ }

/-- The state with the clock moved on too, before the counts that end in the slot (R112). -/
def State.slotTimed (s : State) : State := s.slotBegun.tickClock

/-- The state with the entries of lanes long lost absent (R23). -/
def State.slotTabled (s : State) : State := (s.slotTimed.tickTable s.rx.down .down).tickTable s.rx.up .up

theorem State.tick_of_live (live : s.live) : s.tick = s.slotTabled.tickSilence.tickRelay := if_pos live

/-- This slot is the 65 536th of the receiver out of LOCKED (R23). -/
def State.lastOut (s : State) (l : Lane) : Prop := (s.rx.get l).state ≠ .locked ∧ (s.rx.get l).outOfLock = 65535

theorem State.tickTable_of_lastOut {t : State} {l : Lane} (h : s.lastOut l) :
    t.tickTable (s.rx.get l) l = t.calling fun u => u.timeoutLane l := if_pos ⟨h.2, h.1⟩

theorem State.tickTable_of_not_lastOut {t : State} {l : Lane} (h : ¬s.lastOut l) : t.tickTable (s.rx.get l) l = t :=
  if_neg fun both => h ⟨both.2, both.1⟩

open Classical in
theorem State.tickTable_get (t : State) (l : Lane) (x : Station) :
    (t.tickTable (s.rx.get l) l).stations.get x =
      if s.lastOut l ∧ feeds t.station l x = true then (t.stations.get x).timedOut else t.stations.get x := by
  by_cases last : s.lastOut l
  · rw [State.tickTable_of_lastOut last, show (t.calling fun u => u.timeoutLane l).stations = (t.timeoutLane l).stations by simp,
      State.timeoutLane_get]
    exact if_congr ⟨fun h => ⟨last, h⟩, And.right⟩ rfl rfl
  · rw [State.tickTable_of_not_lastOut last, if_neg fun h => last h.1]

theorem State.SameButFifo.tickTable {t : State} (h : s.SameButFifo t) (r : Rx) (l : Lane) : s.SameButFifo (t.tickTable r l) := by
  unfold State.tickTable
  split
  · exact State.SameButFifo.calling (h.of_tx (by simp))
  · exact h

theorem State.slotTabled_of_none (none : ∀ l, ¬s.lastOut l) : s.slotTabled = s.slotTimed := by
  unfold State.slotTabled
  rw [show s.rx.down = s.rx.get .down from rfl, show s.rx.up = s.rx.get .up from rfl,
    State.tickTable_of_not_lastOut (none .down), State.tickTable_of_not_lastOut (none .up)]

/-! #### What a slot leaves (R23) -/

theorem feeds_one_lane {o x : Station} {l k : Lane} (h : feeds o l x = true) (other : k ≠ l) : feeds o k x = false := by
  revert h other
  cases l <;> cases k <;> cases o <;> cases x <;> decide

theorem State.slotTabled_get_of_last {l : Lane} (last : s.lastOut l) {x : Station} (fed : feeds s.station l x = true) :
    (s.slotTabled.stations.get x).present = false ∧ (s.slotTabled.stations.get x).status = 0 := by
  have station : s.slotTimed.station = s.station := by simp [State.slotTimed, State.slotBegun]
  unfold State.slotTabled
  rw [show s.rx.down = s.rx.get .down from rfl, show s.rx.up = s.rx.get .up from rfl, State.tickTable_get, State.tickTable_get,
    (State.tickTable_keeps _ _ _).2.2.1, station]
  cases l with
  | down =>
    rw [if_neg fun h => by rw [feeds_one_lane (k := .up) fed nofun] at h; exact Bool.false_ne_true h.2, if_pos ⟨last, fed⟩]
    exact ⟨rfl, rfl⟩
  | up =>
    rw [if_pos ⟨last, fed⟩]
    exact ⟨rfl, rfl⟩

theorem State.slotTabled_get_of_other {x : Station} (other : ∀ l, feeds s.station l x = true → ¬s.lastOut l) :
    s.slotTabled.stations.get x = s.stations.get x := by
  have station : s.slotTimed.station = s.station := by simp [State.slotTimed, State.slotBegun]
  have stations : s.slotTimed.stations = s.stations := by simp [State.slotTimed, State.slotBegun]
  unfold State.slotTabled
  rw [show s.rx.down = s.rx.get .down from rfl, show s.rx.up = s.rx.get .up from rfl, State.tickTable_get, State.tickTable_get,
    (State.tickTable_keeps _ _ _).2.2.1, station, stations, if_neg fun h => other .up h.2 h.1,
    if_neg fun h => other .down h.2 h.1]

theorem State.slotTimed_eq (live : s.live) :
    s.slotTimed =
      { s.slotBegun with
        clock := s.slotBegun.tickTime,
        pulses :=
          ⟨s.pulsed s.slotBegun.tickTime s.cfg.outA (s.pulses.a - 1),
            s.pulsed s.slotBegun.tickTime s.cfg.outB (s.pulses.b - 1)⟩ } := by
  unfold State.slotTimed
  rw [State.tickClock_eq, State.setClock_of_live (s := s.slotBegun) live]
  rfl

/-! #### The clock a slot leaves (R112, R113) -/

theorem State.tickTime_of_console (live : s.live) (console : s.station = .console) :
    s.slotBegun.tickTime = slotTime s.tx.down.count s.tx.down.frame s.slotBegun.tx.down.offset := by
  have count : s.tx.down.tick.count = s.tx.down.count := by unfold Tx.tick; split <;> rfl
  have frame : s.tx.down.tick.frame = s.tx.down.frame := by unfold Tx.tick; split <;> rfl
  unfold State.tickTime State.laneTime
  rw [if_pos (.inl (show s.slotBegun.station = .console from console)), if_pos (show s.slotBegun.station = .console from console),
    if_pos (show s.slotBegun.live from live)]
  change slotTime s.tx.down.tick.count s.tx.down.tick.frame _ = _
  rw [count, frame]

theorem State.tickTime_of_following (other : s.station ≠ .console) (locked : s.rx.down.state = .locked) {n : Count32}
    (count : s.rx.down.count = some n) :
    s.slotBegun.tickTime = slotTime n s.rx.down.frame (s.rx.down.offset + 1) + s.surveyed.offset := by
  have follows : s.slotBegun.following = true := by
    simp [State.following, State.slotBegun, Rx.tick, other, locked, count]
  unfold State.tickTime State.laneTime
  rw [if_pos (.inr follows), if_neg (show ¬s.slotBegun.station = .console from other), if_pos follows]
  simp [State.slotBegun, Rx.tick, locked, count]

theorem State.tickTime_of_free (other : s.station ≠ .console) (lost : s.rx.down.state ≠ .locked ∨ s.rx.down.count = none) :
    s.slotBegun.tickTime = s.clock + 1 := by
  have free : ¬s.slotBegun.following = true := by
    obtain lost | lost := lost <;> simp [State.following, State.slotBegun, Rx.tick, lost]
  unfold State.tickTime
  rw [if_neg fun h => h.elim (fun h => other h) free]
  rfl

/-! #### The slot as a whole -/

theorem Tx.tick_eq (t : Tx) :
    t.tick = { t with offset := if t.role.sends = true ∧ t.begun = true then t.offset + 1 else t.offset } := by
  unfold Tx.tick
  split <;> rfl

theorem State.slotBegun_tx (l : Lane) : s.slotBegun.tx.get l = (s.tx.get l).tick := by cases l <;> rfl

theorem State.slotBegun_rx (l : Lane) : s.slotBegun.rx.get l = (s.rx.get l).tick := by cases l <;> rfl

theorem Rx.tick_eq (r : Rx) :
    r.tick =
      { r with
        offset := if r.state = .confirm ∨ r.state = .locked then r.offset + 1 else r.offset,
        outOfLock := if r.state = .locked then r.outOfLock else min (r.outOfLock + 1) 65536 } := by
  unfold Rx.tick
  simp only [Bool.or_eq_true, beq_iff_eq]

/-- What the counts that end in a slot leave of its timings, clock and pulses. -/
theorem State.tick_timings (live : s.live) :
    s.tick.clock = s.slotTimed.clock ∧ s.tick.pulses = s.slotTimed.pulses ∧ s.tick.rx = s.slotBegun.rx ∧
      s.tick.localSlot = s.localSlot + 1 ∧ s.slotBegun.SameButFifo s.tick := by
  have tabled : s.slotBegun.SameButFifo s.slotTabled := by
    have timed : s.slotBegun.SameButFifo s.slotTimed :=
      State.SameButFifo.of_tx (.refl _) (by simp [State.slotTimed])
    exact (timed.tickTable _ _).tickTable _ _
  rw [State.tick_of_live live]
  refine ⟨by simp [State.slotTabled], by simp [State.slotTabled], by simp [State.slotTabled, State.slotTimed],
    by simp [State.slotTabled, State.slotTimed, State.slotBegun], tabled.of_tx (by simp)⟩

/-- A slot's work on the relay holder starts from the state's own (R195). -/
theorem State.tick_service (live : s.live) : s.tick.service = s.tickRelay.service := by
  have service : s.slotTabled.tickSilence.service = s.service := by simp [State.slotTabled, State.slotTimed, State.slotBegun]
  rw [State.tick_of_live live]
  generalize s.slotTabled.tickSilence = u at *
  by_cases outstanding : s.service.holder.state = .outstanding
  · by_cases early : 2 ≤ s.service.holder.wait
    · rw [State.tickRelay_of_early outstanding early, State.tickRelay_of_early (by rwa [service]) (by rwa [service])]
      simp [service]
    · rw [State.tickRelay_of_end outstanding (by omega), State.tickRelay_of_end (by rwa [service]) (by rw [service]; omega)]
      simp [service]
  · rw [State.tickRelay_of_other outstanding, State.tickRelay_of_other (by rwa [service]), service]

/-- The 524 288th slot of a relay's wait posts RELAY_TIMEOUT (R195). -/
theorem State.tick_posts (live : s.live) (outstanding : s.service.holder.state = .outstanding) (ends : s.service.holder.wait ≤ 1) :
    ∃ n ∈ s.tick.notices, n.kind = .relayTimeout ∧ n.subject = .relay ∧
      n.value = BitVec.ofNat 32 s.service.holder.noticeValue := by
  have service : s.slotTabled.tickSilence.service = s.service := by simp [State.slotTabled, State.slotTimed, State.slotBegun]
  have alive : s.slotTabled.tickSilence.live := by
    simpa [State.live, State.slotTabled, State.slotTimed, State.slotBegun] using live
  rw [State.tick_of_live live]
  generalize s.slotTabled.tickSilence = u at *
  rw [State.tickRelay_of_end (by rwa [service]) (by rwa [service]), service]
  exact State.exists_posted (s := u.modHolder fun h => { h with state := .idle, wait := 0, count := none, parts := [] }) alive _ _ _

theorem State.tick_stations (live : s.live) : s.tick.stations = s.slotTabled.stations := by
  rw [State.tick_of_live live]
  simp

/-- A slot in which no lane is long lost moves timings, clock, pulses, motion unit and relay holder alone. -/
theorem State.tick_of_none (live : s.live) (none : ∀ l, ¬s.lastOut l) :
    s.tick =
      { s with
        localSlot := s.tick.localSlot, clock := s.tick.clock, pulses := s.tick.pulses, rx := s.tick.rx, tx := s.tick.tx,
        motion := s.tick.motion, notices := s.tick.notices, service := s.tick.service } := by
  rw [State.tick_of_live live, State.slotTabled_of_none none]
  refine State.eq_of_fields ?_
  simp [State.slotTimed, State.slotBegun]

/-- What the slot makes of the motion unit where no lane is long lost (R124). -/
theorem State.tick_motion (live : s.live) (none : ∀ l, ¬s.lastOut l) :
    s.tick.motion = s.slotTimed.tickSilence.motion ∧
      ∀ n ∈ s.slotTimed.tickSilence.notices, n.subject = .flow .motion → n ∈ s.tick.notices := by
  rw [State.tick_of_live live, State.slotTabled_of_none none]
  exact ⟨by simp, fun n waits subject => State.mem_tickRelay waits (by rw [subject]; nofun)⟩

theorem State.slotTimed_kept (live : s.live) :
    s.slotTimed.station = s.station ∧ s.slotTimed.motion = s.motion ∧ s.slotTimed.cfg = s.cfg ∧ s.slotTimed.live := by
  simpa [State.slotTimed, State.slotBegun, State.live] using live

theorem State.slotTimed_silence_of_early (live : s.live) (headset : s.station = .headset) (sampling : s.motion.state = .sampling)
    (early : s.motion.silence + 1 < silenceThreshold s.cfg.motionRate) :
    s.slotTimed.tickSilence.motion = { s.motion with silence := s.motion.silence + 1 } := by
  obtain ⟨station, same, cfg, -⟩ := State.slotTimed_kept live
  generalize s.slotTimed = u at *
  rw [State.tickSilence_of_early (by rw [station, headset]) (by rw [same, sampling]) (by rw [same, cfg]; exact early), ← same]

/-- The slot that brings the silence count to its threshold (R124). -/
theorem State.tick_silent (live : s.live) (none : ∀ l, ¬s.lastOut l) (headset : s.station = .headset)
    (sampling : s.motion.state = .sampling) (ends : s.motion.silence + 1 = silenceThreshold s.cfg.motionRate) :
    s.tick.motion = { s.motion with silence := silenceThreshold s.cfg.motionRate } ∧
      ∃ n ∈ s.tick.notices, n.kind = .sensorSilent ∧ n.subject = .flow .motion ∧
        n.value = BitVec.ofNat 32 (motionHz s.cfg.motionRate) := by
  obtain ⟨motion, waits⟩ := State.tick_motion live none
  obtain ⟨station, same, cfg, alive⟩ := State.slotTimed_kept live
  generalize s.slotTimed = u at *
  rw [State.tickSilence_of_end (by rw [station, headset]) (by rw [same, sampling]) (by rw [same, cfg, ends])] at motion waits
  obtain ⟨n, posted, kind, subject, value⟩ := State.exists_posted
    (s := { u with motion := { u.motion with silence := silenceThreshold u.cfg.motionRate } }) alive .sensorSilent (.flow .motion)
    (motionHz u.cfg.motionRate)
  rw [cfg] at value
  exact ⟨by rw [motion, ← same, ← cfg]; simp, n, waits n posted subject, kind, subject, value⟩

/-- Time is settled after the slot as the chapter gives it (R112, R114). -/
theorem State.tick_settled_of_console (live : s.live) (console : s.station = .console) : s.tick.settled = true := by
  unfold State.settled
  rw [if_pos (by simpa using console)]
  simpa [State.live] using live

theorem State.tick_settled_iff (live : s.live) (other : s.station ≠ .console) :
    s.tick.settled = true ↔
      s.surveyed.known = true ∧ s.rx.down.state = .locked ∧ s.rx.down.count ≠ none ∧ s.rx.down.fault = false := by
  unfold State.settled
  rw [if_neg (by simpa using other), (State.tick_timings live).2.2.1, show s.tick.surveyed = s.surveyed by simp]
  simp [State.slotBegun, Rx.tick, and_assoc, Option.isSome_iff_ne_none]

end

/-- Settles O6: the slot is the timings moved on, the clock, and then the counts that end, of which each leaves what the ones
before it made. -/
theorem anEmptyStepIsOneSlot : Obligations.AnEmptyStepIsOneSlot := by
  unfold Obligations.AnEmptyStepIsOneSlot
  intro s empty
  have steps : step s = .next s.tick := by
    unfold step
    rw [empty]
  refine ⟨fun early => by rw [steps, show s.tick = s from if_neg early], fun live => ?_⟩
  intro h lastOut pulse threshold
  obtain ⟨clock, pulses, rx, slot, tx⟩ := State.tick_timings live
  have reads : s.tick.clock = s.slotBegun.tickTime := by rw [clock, State.slotTimed_eq live]
  have runs (f : OutFn) (left : Nat) : s.pulsed s.slotBegun.tickTime f (left - 1) = pulse f left s.tick := by
    rw [← reads]
    rfl
  refine ⟨s.tick, steps, slot, by simp, by simp [empty], by simp, by simp, fun l => ?_, fun l => ?_,
    fun console => ⟨?_, State.tick_settled_of_console live console⟩, fun other locked n count => ?_, fun other lost => ?_,
    State.tick_settled_iff live, fun outstanding early => ?_, fun outstanding ends => ⟨?_, State.tick_posts live outstanding ends⟩,
    fun other => ?_, ?_, ?_, fun l last x fed => ?_, fun x other => ?_, fun none => ⟨State.tick_of_none live none, fun l => ?_,
      fun headset sampling => ⟨fun early => ?_, fun ends => ?_, fun past => ?_⟩, fun other => ?_⟩⟩
  · rw [tx l, State.slotBegun_tx, Tx.tick_eq]
  · rw [rx, State.slotBegun_rx, Rx.tick_eq]
  · rw [reads, State.tickTime_of_console live console, show s.tick.tx.down = s.tick.tx.get .down from rfl, tx .down]
    rfl
  · rw [reads, State.tickTime_of_following other locked count]
  · rw [reads, State.tickTime_of_free other lost]
  · rw [State.tick_service live, State.tickRelay_of_early outstanding early]
    rfl
  · rw [State.tick_service live, State.tickRelay_of_end outstanding ends]
    simp [h]
  · rw [State.tick_service live, State.tickRelay_of_other other]
  · rw [pulses, State.slotTimed_eq live]
    exact runs _ _
  · rw [pulses, State.slotTimed_eq live]
    exact runs _ _
  · rw [State.tick_stations live]
    exact State.slotTabled_get_of_last last fed
  · rw [State.tick_stations live]
    exact State.slotTabled_get_of_other fun l fed => other l fed
  · have same : s.tick.tx = s.slotBegun.tx := by
      rw [State.tick_of_live live, State.slotTabled_of_none none]
      simp [State.slotTimed]
    rw [same, State.slotBegun_tx, Tx.tick_eq]
  · rw [(State.tick_motion live none).1, State.slotTimed_silence_of_early live headset sampling early]
  · exact State.tick_silent live none headset sampling ends
  · have past : silenceThreshold s.cfg.motionRate ≤ s.motion.silence := past
    rw [(State.tick_motion live none).1, State.tickSilence_of_past (by simpa [State.slotTimed, State.slotBegun] using past)]
    simp [State.slotTimed, State.slotBegun]
  · rw [(State.tick_motion live none).1, State.tickSilence_of_other (by simpa [State.slotTimed, State.slotBegun] using other)]
    simp [State.slotTimed, State.slotBegun]

end Sys2Proof.Machine

namespace Sys2Proof.Machine

/-! ### The audio station and the units (R48) -/

section
variable {s t v : State}

/-! #### A change of the audio station (R48) -/

/-- What a change of this station's judgement does to records and audio, from `s` to `t`, as O12 lists it. -/
def State.AudioMoves (s t : State) : Prop :=
  let follows (y : State) := t.audio = y.followSource.followSink.audio
  let after : State := { s with stations := t.stations, dst := t.dst }
  (t.audioStation = s.audioStation → t.dst = s.dst ∧ t.audio = s.audio) ∧
    (t.audioStation ≠ s.audioStation →
      (s.station = .headset → t.audioStation = .headset →
        t.dst = s.dst.set .audioOut (some ⟨if s.running then .listening else .closed, none⟩) ∧ follows after) ∧
      (s.station = .headset → t.audioStation = .pod →
        t.dst = s.dst.set .audioOut none ∧ t.audio.source.queue = [] ∧ t.audio.source.opened = false ∧
        t.audio.sink.state = .muted ∧
        follows { after with audio := { s.audio with source := { s.audio.source with queue := [] } } }) ∧
      (s.station = .console →
        t.dst =
          (match s.dst.get .audioIn with
           | some ⟨.listening, _⟩ => s.dst.set .audioIn (some ⟨.listening, none⟩)
           | _ => s.dst) ∧ t.audio = s.audio) ∧
      (s.station = .strap → t.dst = s.dst ∧ t.audio = s.audio))

theorem State.audioStation_congr (cfg : t.cfg = s.cfg) (pod : t.stations.pod.present = s.stations.pod.present) :
    t.audioStation = s.audioStation := by
  unfold State.audioStation
  rw [cfg, pod]

theorem State.audioChange_of_same (same : t.audioStation = s.audioStation) : State.audioChange s t = t := if_pos same

theorem State.audioChange_of_headset (moved : t.audioStation ≠ s.audioStation) (headset : t.station = .headset) :
    State.audioChange s t = if t.isAudio then t.becomeAudio else t.ceaseAudio := by
  unfold State.audioChange
  rw [if_neg moved, headset]

theorem State.audioChange_of_console (moved : t.audioStation ≠ s.audioStation) (console : t.station = .console) :
    State.audioChange s t = t.forgetSeq .audioIn := by
  unfold State.audioChange
  rw [if_neg moved, console]

theorem State.audioChange_of_strap (strap : t.station = .strap) : State.audioChange s t = t := by
  unfold State.audioChange
  rw [strap]
  exact ite_self _

theorem State.forgetSeq_dst_eq (s : State) (f : FlowId) :
    (s.forgetSeq f).dst =
      match s.dst.get f with
      | some ⟨.listening, _⟩ => s.dst.set f (some ⟨.listening, none⟩)
      | _ => s.dst := by
  unfold State.forgetSeq
  obtain _ | ⟨state, expected⟩ := s.dst.get f
  · rfl
  · cases state <;> rfl

theorem Sink.follow_sleeps (k : Sink) : (k.follow false).state = .muted := by
  unfold Sink.follow
  rw [if_neg Bool.false_ne_true]
  split
  · assumption
  · rfl

/-- What audio follows. -/
structure State.HearsAs (s v : State) : Prop where
  start : v.start = s.start
  station : v.station = s.station
  cfg : v.cfg = s.cfg
  dst : v.dst = s.dst
  audio : v.audio = s.audio
  domains : v.power.domains = s.power.domains

/-- A state in which the entries alone were moved takes the change of the audio station as R48 gives it. -/
theorem State.audioChange_moves (same : s.HearsAs v) : s.AudioMoves (State.audioChange s v) := by
  obtain ⟨start, station, cfg, dst, audio, domains⟩ := same
  have judged : (State.audioChange s v).audioStation = v.audioStation := State.audioStation_congr (by simp) (by simp)
  refine ⟨fun kept => ?_, fun moved => ⟨fun headset on => ?_, fun headset off => ?_, fun console => ?_, fun strap => ?_⟩⟩
  · rw [State.audioChange_of_same (judged.symm.trans kept)]
    exact ⟨dst, audio⟩
  · rw [judged] at moved on
    have is_audio : v.isAudio = true := by
      rw [State.isAudio, on, station, headset]
      rfl
    have running : v.running ↔ s.running := by simp only [State.running, start]
    rw [State.audioChange_of_headset moved (station.trans headset), if_pos is_audio]
    unfold State.becomeAudio
    have set : v.dst.set .audioOut (some ⟨if v.running then .listening else .closed, none⟩) =
        s.dst.set .audioOut (some ⟨if s.running then .listening else .closed, none⟩) := by
      rw [dst, if_congr running rfl rfl]
    rw [set]
    refine ⟨by simp, ?_⟩
    exact State.followAudio_congr (by simpa using station) (by simpa using cfg) (by simp) (by simpa using audio)
      (by simpa using domains) fun f _ => by simp
  · rw [judged] at moved off
    have not_audio : v.isAudio = false := by
      rw [State.isAudio, off, station, headset]
      rfl
    rw [State.audioChange_of_headset moved (station.trans headset), if_neg (by rw [not_audio]; exact Bool.false_ne_true)]
    unfold State.ceaseAudio
    have closed : (({ v with dst := v.dst.set .audioOut none } : State).modSource fun k => { k with queue := [] }).sourceOpen =
        false := by
      rw [State.sourceOpen_eq, decide_eq_false_iff_not]
      rintro ⟨holds | holds, -⟩
      · have console : v.station = .console := holds
        rw [station, headset] at console
        cases console
      · have own : v.audioStation = v.station := holds
        rw [off, station, headset] at own
        cases own
    have asleep : ¬(({ v with dst := v.dst.set .audioOut none } : State).modSource fun k => { k with queue := [] }).sinkAwake =
        true := by
      rw [State.sinkAwake_iff]
      rintro ⟨listening, -⟩
      simp [station, headset, sinkFlow] at listening
    have hears := State.followAudio_eq (({ v with dst := v.dst.set .audioOut none } : State).modSource fun k => { k with queue := [] })
    rw [closed, Bool.eq_false_iff.2 asleep] at hears
    obtain ⟨opened, queue, -⟩ := Source.follow_closes
      (({ v with dst := v.dst.set .audioOut none } : State).modSource fun k => { k with queue := [] }).audio.source
    refine ⟨by simp [dst], ?_, ?_, ?_, ?_⟩
    · rw [hears]
      exact queue
    · rw [hears]
      exact opened
    · rw [hears]
      exact Sink.follow_sleeps _
    · exact State.followAudio_congr (by simpa using station) (by simpa using cfg) (by simp) (by simp [audio])
        (by simpa using domains) fun f _ => by simp
  · rw [judged] at moved
    rw [State.audioChange_of_console moved (station.trans console)]
    exact ⟨by rw [State.forgetSeq_dst_eq, dst], by simpa using audio⟩
  · rw [State.audioChange_of_strap (station.trans strap)]
    exact ⟨dst, audio⟩

/-! #### Units that stand as their domains have them (R121, R151) -/

/-- The units stand as the domain table has them. -/
structure State.UnitsStand (s : State) : Prop where
  sensors : s.SensorsMatch
  records : s.followDisplay.dst = s.dst
  eyes : s.followDisplay.eyes = s.eyes
  audio : s.followSource.followSink.audio = s.audio

theorem State.SensorsMatch.rests (h : s.SensorsMatch) : ¬s.starts = true := by
  rw [State.starts_iff]
  rintro ⟨headset, on, off⟩
  rw [(h headset).1 off] at on
  cases on

theorem State.UnitsStand.of_follow (h : s.follow = s) : s.UnitsStand := by
  have sensed : s.sensed = s.motion := by rw [← State.follow_motion, h]
  have sensors : s.SensorsMatch := by
    intro headset
    unfold State.sensed at sensed
    rw [if_pos headset] at sensed
    cases on : s.domainOn 2 with
    | true =>
      rw [if_pos on] at sensed
      refine ⟨fun off => ?_, nofun⟩
      rw [if_pos off] at sensed
      have state := congrArg Motion.state sensed
      rw [off] at state
      revert state
      cases s.motion.worn <;> nofun
    | false =>
      rw [on, if_neg Bool.false_ne_true] at sensed
      refine ⟨fun _ => rfl, fun _ => ?_⟩
      by_cases off : s.motion.state = .off
      · exact off
      · rw [if_neg off] at sensed
        exact (congrArg Motion.state sensed).symm
  obtain ⟨dst, eyes, audio⟩ := State.follow_of_not_starts sensors.rests
  rw [h] at dst eyes audio
  exact ⟨sensors, dst.symm, eyes.symm, audio.symm⟩

/-- Two states alike in what the units look at. -/
structure State.UnitsAs (s v : State) : Prop where
  station : v.station = s.station
  judged : v.audioStation = s.audioStation
  domains : v.power.domains = s.power.domains
  dst : v.dst = s.dst
  eyes : v.eyes = s.eyes
  audio : v.audio = s.audio
  motion : v.motion = s.motion

theorem State.UnitsAs.trans (h : s.UnitsAs t) (k : t.UnitsAs v) : s.UnitsAs v :=
  ⟨k.station.trans h.station, k.judged.trans h.judged, k.domains.trans h.domains, k.dst.trans h.dst, k.eyes.trans h.eyes,
    k.audio.trans h.audio, k.motion.trans h.motion⟩

theorem State.UnitsAs.follows (h : s.UnitsAs v) : v.followSource.followSink.audio = s.followSource.followSink.audio := by
  have opens : v.sourceOpen = s.sourceOpen := by
    rw [State.sourceOpen_eq, State.sourceOpen_eq, h.judged, h.station, h.audio, State.domainOn_congr h.domains]
  have wakes : v.sinkAwake = s.sinkAwake := by
    simp only [State.sinkAwake, State.listening, h.station, h.dst, State.domainOn_congr h.domains]
  rw [State.followAudio_eq, State.followAudio_eq, h.audio, opens, wakes]

theorem State.UnitsStand.of_as (h : s.UnitsStand) (same : s.UnitsAs v) : v.UnitsStand := by
  have display := State.followDisplay_congr same.station same.domains same.dst same.eyes
  refine ⟨fun headset => ?_, ?_, ?_, ?_⟩
  · rw [same.motion, State.domainOn_congr same.domains]
    exact h.sensors (same.station.symm.trans headset)
  · rw [display.1, h.records, same.dst]
  · rw [display.2, h.eyes, same.eyes]
  · rw [same.follows, h.audio, same.audio]

/-- An applied level that does not rise leaves the units that stand (R154). -/
theorem State.UnitsStand.relevel (units : s.UnitsStand)
    (allowed : ∀ d ∈ s.power.domains, d.state = .on → d.priority < 8 - s.power.applied)
    (falls : s.appliedLevel ≤ s.power.applied) : s.UnitsAs s.relevel := by
  have quieter := State.relevel_quieter allowed units.sensors falls
  have judged : s.relevel.audioStation = s.audioStation := State.audioStation_congr (by simp) (by simp)
  by_cases same : s.appliedLevel = s.power.applied
  · rw [State.relevel_of_same same]
    exact ⟨rfl, rfl, rfl, rfl, rfl, rfl, rfl⟩
  · have still : s.power.domains.map (shedIf fun d => decide (8 - s.appliedLevel ≤ d.priority)) = s.power.domains := by
      have stands : shedDomains s.power.applied s.appliedLevel s.power.domains = s.power.domains :=
        shedDomains_of_allowed fun d mem on => by
          have := allowed d mem on
          omega
      unfold shedDomains at stands
      rw [if_neg same] at stands
      exact (List.map_congr_left fun d _ => shedIf_decide _ d).trans stands
    have alike : s.UnitsAs ((s.modPower fun q => { q with applied := s.appliedLevel }).changeDomains
        (shedIf fun d => decide (8 - s.appliedLevel ≤ d.priority))) :=
      ⟨by simp, State.audioStation_congr (by simp) (by simp), by rw [State.changeDomains_power]; exact still, by simp, by simp,
        by simp, by simp⟩
    have follows : s.relevel.dst = (s.shedTo s.appliedLevel).dst ∧ s.relevel.eyes = (s.shedTo s.appliedLevel).eyes ∧
        s.relevel.audio = (s.shedTo s.appliedLevel).audio := by
      rw [State.relevel_of_changed same]
      simp
    unfold State.shedTo at follows
    rw [State.shedWhere_eq] at follows
    have units := units.of_as alike
    generalize ((s.modPower fun q => { q with applied := s.appliedLevel }).changeDomains
        (shedIf fun d => decide (8 - s.appliedLevel ≤ d.priority))) = w at *
    obtain ⟨dst, eyes, audio⟩ := State.follow_of_not_starts units.sensors.rests
    rw [dst, eyes, audio, units.records, units.eyes, units.audio, alike.dst, alike.eyes, alike.audio] at follows
    exact ⟨quieter.station, judged, quieter.domains, follows.1, follows.2.1, follows.2.2, quieter.motion⟩

/-! #### Entries that become present or absent (R22, R23, R48) -/

/-- The state with a station's entry present and its notice posted (R22). -/
def State.presented (s : State) (x : Station) : State :=
  (s.modStation x fun v => { v with present := true }).post .stationPresent (.station x) 0

theorem State.becomePresent_eq (s : State) (x : Station) :
    s.becomePresent x = State.audioChange s ((s.presented x).relevel.startSurvey x) := rfl

/-- The state with a station's entry absent, its survey ended and its notice posted (R23, R115). -/
def State.absented (s : State) (x : Station) : State :=
  ((s.modStation x fun v => { v with present := false, delay := none }).modSurvey x Survey.abandon).post .stationAbsent
    (.station x) 0

theorem State.becomeAbsent_eq (s : State) (x : Station) : s.becomeAbsent x = State.audioChange s (s.absented x).relevel := rfl

/-- The levels that count look at the entries of CONSOLE and STRAP alone (R154). -/
theorem State.appliedLevel_of_pod (station : t.station = s.station) (views : t.views = s.views)
    (level : t.power.supplyLevel = s.power.supplyLevel) (entries : ∀ y, y ≠ .pod → t.stations.get y = s.stations.get y) :
    t.appliedLevel = s.appliedLevel := by
  simp only [State.appliedLevel, State.levelOf, station, views, level, entries .console (by decide), entries .strap (by decide)]

/-- An entry that becomes absent raises no level (R154). -/
theorem State.appliedLevel_le_of_absent (station : t.station = s.station) (views : t.views = s.views)
    (level : t.power.supplyLevel = s.power.supplyLevel)
    (present : ∀ y, (t.stations.get y).present = true → (s.stations.get y).present = true) :
    t.appliedLevel ≤ s.appliedLevel := by
  have each (y : Station) : t.levelOf y ≤ s.levelOf y := by
    unfold State.levelOf
    rw [station, views, level]
    split
    · exact Nat.le_refl _
    · split
      · rename_i counts
        rw [if_pos ⟨present y counts.1, counts.2⟩]
      · exact Nat.zero_le _
  exact max_le_max (each _) (each _)

theorem State.audioChange_congr {b : State} (judged : b.audioStation = s.audioStation) :
    State.audioChange b v = State.audioChange s v := by
  unfold State.audioChange
  rw [judged]

theorem State.modStation_audioStation {x : Station} {f : StationEntry → StationEntry}
    (same : (f (s.stations.get x)).present = (s.stations.get x).present) : (s.modStation x f).audioStation = s.audioStation := by
  refine State.audioStation_congr rfl ?_
  cases x with
  | pod => exact same
  | console | headset | strap => rfl

/-- Where the applied level is the one its inputs give, POD's absence moves the audio station alone (R48). -/
theorem State.becomeAbsent_moves (level : s.power.applied = s.appliedLevel) : s.AudioMoves (s.becomeAbsent .pod) := by
  have same : (s.absented .pod).appliedLevel = (s.absented .pod).power.applied := by
    rw [State.appliedLevel_of_pod (s := s) (by simp [State.absented]) (by simp [State.absented]) (by simp [State.absented])
      fun y other => by simp [State.absented, PerStation.get_set, other]]
    simp [State.absented, level]
  rw [State.becomeAbsent_eq, State.relevel_of_same same]
  exact State.audioChange_moves ⟨by simp [State.absented], by simp [State.absented], by simp [State.absented],
    by simp [State.absented], by simp [State.absented], by simp [State.absented]⟩

theorem State.becomePresent_moves (level : s.power.applied = s.appliedLevel) : s.AudioMoves (s.becomePresent .pod) := by
  have same : (s.presented .pod).appliedLevel = (s.presented .pod).power.applied := by
    rw [State.appliedLevel_of_pod (s := s) (by simp [State.presented]) (by simp [State.presented]) (by simp [State.presented])
      fun y other => by simp [State.presented, PerStation.get_set, other]]
    simp [State.presented, level]
  rw [State.becomePresent_eq, State.relevel_of_same same]
  exact State.audioChange_moves ⟨by simp [State.presented], by simp [State.presented], by simp [State.presented],
    by simp [State.presented], by simp [State.presented], by simp [State.presented]⟩

/-- A note in an entry that leaves its presence changes no judgement; what follows moves as from the state before. -/
theorem State.AudioMoves.of_note {x : Station} {f : StationEntry → StationEntry}
    (same : (f (s.stations.get x)).present = (s.stations.get x).present) (h : (s.modStation x f).AudioMoves t) : s.AudioMoves t := by
  unfold State.AudioMoves at h ⊢
  rw [State.modStation_audioStation same] at h
  exact h

theorem State.AudioMoves.of_same (judged : t.audioStation = s.audioStation) (dst : t.dst = s.dst) (audio : t.audio = s.audio) :
    s.AudioMoves t := ⟨fun _ => ⟨dst, audio⟩, fun moved => absurd judged moved⟩

/-! #### A lane long out of LOCKED, in states in which the power rules hold (R23, R48) -/

theorem State.absented_as (s : State) {x : Station} (other : x ≠ .pod) : s.UnitsAs (s.absented x) := by
  refine ⟨by simp [State.absented], State.audioStation_congr (by simp [State.absented]) ?_, by simp [State.absented],
    by simp [State.absented], by simp [State.absented], by simp [State.absented], by simp [State.absented]⟩
  cases x with
  | pod => exact absurd rfl other
  | console | headset | strap => simp [State.absented, PerStation.set]

/-- The absence of another station than POD moves neither records nor audio where the power rules hold (R154). -/
theorem State.becomeAbsent_as (holds : s.ShedLevelHolds) (units : s.UnitsStand) {x : Station} (other : x ≠ .pod) :
    s.UnitsAs (s.becomeAbsent x) := by
  have alike := s.absented_as other
  have power : (s.absented x).power = s.power := by simp [State.absented]
  have falls : (s.absented x).appliedLevel ≤ (s.absented x).power.applied := by
    rw [power, holds.applied]
    refine State.appliedLevel_le_of_absent (by simp [State.absented]) (by simp [State.absented]) (by rw [power]) fun y present => ?_
    simp only [State.absented, State.post_stations, State.modSurvey, State.modStation, PerStation.get_set] at present
    split at present
    · cases present
    · exact present
  have levelled := alike.trans ((units.of_as alike).relevel (by rw [power]; exact holds.allowed) falls)
  rw [State.becomeAbsent_eq, State.audioChange_of_same levelled.judged]
  exact levelled

theorem State.timeoutEntry_as (holds : s.ShedLevelHolds) (units : s.UnitsStand) (l : Lane) {x : Station} (other : x ≠ .pod) :
    s.UnitsAs (s.timeoutEntry l x) := by
  have noted : s.UnitsAs (s.modStation x fun v => { v with status := 0 }) :=
    ⟨rfl, State.modStation_audioStation rfl, rfl, rfl, rfl, rfl, rfl⟩
  unfold State.timeoutEntry
  dsimp only
  split
  · exact ⟨rfl, rfl, rfl, rfl, rfl, rfl, rfl⟩
  · split
    · exact noted.trans (State.becomeAbsent_as (holds.modStation x _ rfl) (units.of_as noted) other)
    · exact noted

theorem State.timeoutEntry_moves (holds : s.ShedLevelHolds) (l : Lane) : s.AudioMoves (s.timeoutEntry l .pod) := by
  unfold State.timeoutEntry
  dsimp only
  split
  · exact .of_same rfl rfl rfl
  · split
    · refine State.AudioMoves.of_note (f := fun v => { v with status := 0 }) rfl (State.becomeAbsent_moves ?_)
      exact (holds.modStation .pod _ rfl).applied
    · exact .of_same (State.modStation_audioStation rfl) rfl rfl

theorem State.timeoutEntry_power (holds : s.ShedLevelHolds) (l : Lane) : (s.timeoutEntry l .pod).power = s.power := by
  unfold State.timeoutEntry
  dsimp only
  split
  · rfl
  · split
    · have noted := holds.modStation .pod (fun v => { v with status := 0 }) rfl
      have same : ((s.modStation .pod fun v => { v with status := 0 }).absented .pod).appliedLevel =
          ((s.modStation .pod fun v => { v with status := 0 }).absented .pod).power.applied := by
        rw [State.appliedLevel_of_pod (s := s.modStation .pod fun v => { v with status := 0 }) (by simp [State.absented])
          (by simp [State.absented]) (by simp [State.absented]) fun y other => by simp [State.absented, PerStation.get_set, other],
          ← noted.applied]
        simp [State.absented]
      rw [State.becomeAbsent_eq, State.relevel_of_same same]
      simp [State.absented]
    · rfl

/-- A move of the audio station that is not HEADSET's leaves the records and the audio as the units have them (R48). -/
theorem State.UnitsStand.moved (units : s.UnitsStand) (moves : s.AudioMoves t) (station : t.station = s.station)
    (power : t.power = s.power) (at_edge : s.station = .console ∨ s.station = .strap) : t.UnitsStand := by
  have other : t.station ≠ .headset := by
    rw [station]
    obtain h | h := at_edge <;> rw [h] <;> nofun
  have display : t.followDisplay = t := if_neg other
  have audio : t.audio = s.audio := by
    by_cases kept : t.audioStation = s.audioStation
    · exact (moves.1 kept).2
    · obtain ⟨-, -, console, strap⟩ := moves.2 kept
      obtain h | h := at_edge
      · exact (console h).2
      · exact (strap h).2
  have listens : (t.dst.get (sinkFlow s.station)).map (fun x => x.state) = (s.dst.get (sinkFlow s.station)).map fun x => x.state := by
    by_cases kept : t.audioStation = s.audioStation
    · rw [(moves.1 kept).1]
    · obtain ⟨-, -, console, strap⟩ := moves.2 kept
      obtain h | h := at_edge
      · rw [(console h).1, h]
        cases record : s.dst.get .audioIn with
        | none => simp [sinkFlow, record]
        | some d =>
          obtain ⟨state, expected⟩ := d
          cases state <;> simp [sinkFlow, record]
      · rw [(strap h).1]
  have opens : t.sourceOpen = s.sourceOpen := by
    have holds (u : State) (same : u.station = s.station) :
        (u.station = .console ∨ u.audioStation = u.station) ↔ s.station = .console := by
      rw [same]
      refine ⟨fun h => h.elim id fun own => ?_, .inl⟩
      obtain h | h := at_edge
      · exact h
      · rw [h] at own
        unfold State.audioStation at own
        split at own <;> cases own
    rw [State.sourceOpen_eq, State.sourceOpen_eq, decide_eq_decide, holds t station, holds s rfl, audio, station,
      State.domainOn_congr (t := t) (s := s) (by rw [power])]
  have wakes : t.sinkAwake = s.sinkAwake := by
    rw [Bool.eq_iff_iff, State.sinkAwake_iff, State.sinkAwake_iff, station, listens,
      State.domainOn_congr (t := t) (s := s) (by rw [power])]
  refine ⟨fun headset => absurd headset other, by rw [display], by rw [display], ?_⟩
  have stood := units.audio
  rw [State.followAudio_eq] at stood ⊢
  rw [opens, wakes, audio, stood]

theorem State.timeoutEntry_of_not_fed {l : Lane} {x : Station} (h : feeds s.station l x = false) : s.timeoutEntry l x = s :=
  if_pos h

/-- A move after a change that the units do not see is a move from before it. -/
theorem State.AudioMoves.after (alike : s.UnitsAs t) (start : t.start = s.start) (cfg : t.cfg = s.cfg) (h : t.AudioMoves v) :
    s.AudioMoves v := by
  have running : (if t.running then DstState.listening else .closed) = if s.running then .listening else .closed := by
    simp only [State.running, start]
  obtain ⟨station, judged, domains, dst, -, audio, -⟩ := alike
  have hears : ({ t with stations := v.stations, dst := v.dst } : State).followSource.followSink.audio =
      ({ s with stations := v.stations, dst := v.dst } : State).followSource.followSink.audio :=
    State.followAudio_congr station cfg rfl audio domains fun _ _ => rfl
  have ceases : ({ t with
        stations := v.stations, dst := v.dst,
        audio := { t.audio with source := { t.audio.source with queue := [] } } } : State).followSource.followSink.audio =
      ({ s with
        stations := v.stations, dst := v.dst,
        audio := { s.audio with source := { s.audio.source with queue := [] } } } : State).followSource.followSink.audio :=
    State.followAudio_congr station cfg rfl (by simp only [audio]) domains fun _ _ => rfl
  unfold State.AudioMoves at h ⊢
  dsimp only at h ⊢
  rw [hears, ceases, running, judged, station, dst, audio] at h
  exact h

/-- A change that the units do not see leaves a move before it as it was. -/
theorem State.AudioMoves.followed (h : s.AudioMoves t) (alike : t.UnitsAs v) (before : t.cfg = s.cfg) (after : v.cfg = s.cfg) :
    s.AudioMoves v := by
  obtain ⟨-, judged, -, dst, -, audio, -⟩ := alike
  have reads (u : State) (cfg : u.cfg = s.cfg) (a : Audio) :
      ({ s with stations := u.stations, dst := u.dst, audio := a } : State).audioStation = u.audioStation :=
    State.audioStation_congr cfg.symm rfl
  have hears (a : Audio) : ({ s with stations := v.stations, dst := v.dst, audio := a } : State).followSource.followSink.audio =
      ({ s with stations := t.stations, dst := t.dst, audio := a } : State).followSource.followSink.audio :=
    State.UnitsAs.follows ⟨rfl, by rw [reads v after, reads t before, judged], rfl, dst, rfl, rfl, rfl⟩
  have own := hears s.audio
  unfold State.AudioMoves at h ⊢
  dsimp only at h own ⊢
  rw [own, hears, judged, dst, audio]
  exact h

/-- A lane long lost moves the audio station, and the records and the audio with it, as R48 gives (R23, R48). -/
theorem State.timeoutLane_moves (live : s.live) (holds : s.ShedLevelHolds) (units : s.UnitsStand) (l : Lane) :
    s.AudioMoves (s.timeoutLane l) := by
  have first := State.timeoutEntry_as holds units l (x := .console) (by decide)
  have holds := holds.timeoutEntry live l .console
  have units := units.of_as first
  have live : (s.timeoutEntry l .console).live := by simpa [State.live] using live
  have moves := (State.timeoutEntry_moves holds l).after first (by simp) (by simp)
  have rest (u : State) (live : u.live) (holds : u.ShedLevelHolds) (units : u.UnitsStand) :
      u.UnitsAs ((u.timeoutEntry l .headset).timeoutEntry l .strap) := by
    have third := State.timeoutEntry_as holds units l (x := .headset) (by decide)
    exact third.trans (State.timeoutEntry_as (holds.timeoutEntry live l .headset) (units.of_as third) l (by decide))
  have station : (s.timeoutEntry l .console).station = s.station := by simp
  have whole : s.timeoutLane l = (((s.timeoutEntry l .console).timeoutEntry l .pod).timeoutEntry l .headset).timeoutEntry l .strap :=
    rfl
  rw [whole]
  have second := holds.timeoutEntry live l .pod
  by_cases unfed : feeds s.station l .pod = false ∨ s.station = .console ∨ s.station = .strap
  · refine moves.followed (rest _ (by simpa [State.live] using live) second ?_) (by simp) (by simp)
    obtain unfed | edge := unfed
    · rw [State.timeoutEntry_of_not_fed (by rw [station]; exact unfed)]
      exact units
    · exact units.moved (State.timeoutEntry_moves holds l) (by simp) (State.timeoutEntry_power holds l) (by rw [station]; exact edge)
  · have quiet : feeds s.station l .headset = false ∧ feeds s.station l .strap = false := by
      revert unfed
      cases l <;> cases s.station <;> decide
    rw [State.timeoutEntry_of_not_fed (x := .headset) (by simpa using quiet.1),
      State.timeoutEntry_of_not_fed (x := .strap) (by simpa using quiet.2)]
    exact moves

end

end Sys2Proof.Machine

namespace Sys2Proof.Machine

/-! ### States alike in what a status byte looks at and changes (R22, R48, R115, R154) -/

/-- Two states alike but for clocks, pulses, receivers, most of the transmitters and what waits as notices. -/
structure State.Twin (s t : State) : Prop where
  start : t.start = s.start
  station : t.station = s.station
  cfg : t.cfg = s.cfg
  sup : t.sup = s.sup
  stations : t.stations = s.stations
  views : t.views = s.views
  dst : t.dst = s.dst
  eyes : t.eyes = s.eyes
  audio : t.audio = s.audio
  power : t.power = s.power
  moves : t.motion.state = s.motion.state
  worn : t.motion.worn = s.motion.worn
  surveys : t.surveys = s.surveys
  tokens : t.tokens = s.tokens

namespace State.Twin
variable {s t : State}

theorem judged (h : s.Twin t) : t.audioStation = s.audioStation := State.audioStation_congr h.cfg (by rw [h.stations])

theorem domains (h : s.Twin t) : t.power.domains = s.power.domains := by rw [h.power]

theorem on (h : s.Twin t) (n : Nat) : t.domainOn n = s.domainOn n := State.domainOn_congr h.domains n

theorem post (h : s.Twin t) (k : NoticeKind) (x : Subject) (n : Nat) : (s.post k x n).Twin (t.post k x n) := by
  obtain ⟨⟩ := h
  constructor <;> simp [*]

theorem changeDomains (h : s.Twin t) (f : Domain → Domain) : (s.changeDomains f).Twin (t.changeDomains f) := by
  have power : (t.changeDomains f).power = (s.changeDomains f).power := by
    rw [State.changeDomains_power, State.changeDomains_power, h.power]
  obtain ⟨⟩ := h
  constructor <;> simp [*]

theorem withPower (h : s.Twin t) (p : Power) : State.Twin { s with power := p } { t with power := p } :=
  { h with power := rfl }

theorem withDst (h : s.Twin t) (d : PerFlow (Option DstRec)) : State.Twin { s with dst := d } { t with dst := d } :=
  { h with dst := rfl }

theorem withAudio (h : s.Twin t) (a : Audio) : State.Twin { s with audio := a } { t with audio := a } :=
  { h with audio := rfl }

/-- A change of the motion state that comes to the same state in both. -/
theorem motionTo (h : s.Twin t) {f g : Motion → Motion} (state : (g t.motion).state = (f s.motion).state)
    (worn : (g t.motion).worn = (f s.motion).worn) : (s.motionTo f).Twin (t.motionTo g) := by
  obtain ⟨⟩ := h
  constructor <;> simp [*]

theorem followDisplay (h : s.Twin t) : s.followDisplay.Twin t.followDisplay := by
  obtain ⟨dst, eyes⟩ := State.followDisplay_congr h.station h.domains h.dst h.eyes
  obtain ⟨⟩ := h
  constructor <;> simp [*]

theorem wearLink (h : s.Twin t) (v : Bool) : (s.wearLink v).Twin (t.wearLink v) := by
  unfold State.wearLink
  rw [h.station, h.cfg]
  split
  · exact (h.changeDomains _).followDisplay
  · exact h

theorem followSensors (h : s.Twin t) : s.followSensors.Twin t.followSensors := by
  unfold State.followSensors
  rw [h.station, h.on, h.moves, h.worn]
  split
  · exact h
  · split
    · split
      · exact h
      · split
        · exact (h.motionTo rfl h.worn).wearLink true
        · exact (h.motionTo rfl h.worn).wearLink false
    · split
      · exact h
      · exact h.motionTo rfl h.worn

theorem followSource (h : s.Twin t) : s.followSource.Twin t.followSource := by
  have opens : t.sourceOpen = s.sourceOpen := by
    rw [State.sourceOpen_eq, State.sourceOpen_eq, h.judged, h.station, h.audio, h.on]
  rw [State.followSource_eq, State.followSource_eq, opens, h.audio]
  exact h.withAudio _

theorem followSink (h : s.Twin t) : s.followSink.Twin t.followSink := by
  have wakes : t.sinkAwake = s.sinkAwake := by
    rw [Bool.eq_iff_iff, State.sinkAwake_iff, State.sinkAwake_iff, h.station, h.dst, h.on]
  rw [State.followSink_eq, State.followSink_eq, wakes, h.audio]
  exact h.withAudio _

theorem level (h : s.Twin t) : t.appliedLevel = s.appliedLevel :=
  State.appliedLevel_congr h.station h.stations h.views (by rw [h.power])

theorem lowerLevel (h : s.Twin t) : s.lowerLevel.Twin t.lowerLevel := by
  unfold State.lowerLevel
  rw [h.level, h.power]
  split
  · exact h
  · exact (h.withPower { s.power with applied := s.appliedLevel }).post _ _ _

theorem followOffer (h : s.Twin t) : s.followOffer.Twin t.followOffer := by
  have offer : t.ownOffer = s.ownOffer :=
    State.ownOffer_congr h.station h.cfg h.sup (by rw [h.power]) (by rw [h.power]) h.domains
  unfold State.followOffer
  by_cases empty : s.station = .strap ∧ s.ownOffer = 0
  · rw [if_pos empty, if_pos ⟨h.station.trans empty.1, offer.trans empty.2⟩, h.power]
    exact (h.withPower { s.power with supplyLevel := 0 }).lowerLevel
  · rw [if_neg empty, if_neg fun both => empty ⟨h.station.symm.trans both.1, offer.symm.trans both.2⟩]
    exact h

theorem follow (h : s.Twin t) : s.follow.Twin t.follow := h.followSensors.followDisplay.followSource.followSink.followOffer

theorem relevel (h : s.Twin t) : s.relevel.Twin t.relevel := by
  unfold State.relevel
  dsimp only
  rw [h.level, h.power]
  split
  · exact h
  · exact ((h.withPower { s.power with applied := s.appliedLevel }).changeDomains _).follow.post _ _ _

/-- A survey that starts finds the same tokens and the same room in both (R115). -/
theorem startSurvey (h : s.Twin t) (room : t.room .down ↔ s.room .down) (x : Station) :
    (s.startSurvey x).Twin (t.startSurvey x) := by
  have running : t.running ↔ s.running := by simp only [State.running, h.start]
  unfold State.startSurvey
  by_cases starts : s.station = .console ∧ s.running ∧ x ≠ .console
  · obtain ⟨console, runs, other⟩ := starts
    rw [if_pos ⟨console, runs, other⟩, if_pos ⟨h.station.trans console, running.2 runs, other⟩,
      State.beginAttempt_eq (by exact console) other, State.beginAttempt_eq (by exact h.station.trans console) other]
    have surveys : (t.modSurvey x fun v => { v with failed := 0, unknown := false }).surveys =
        (s.modSurvey x fun v => { v with failed := 0, unknown := false }).surveys := by
      simp only [State.modSurvey, h.surveys]
    have tokens : (t.modSurvey x fun v => { v with failed := 0, unknown := false }).tokens =
        (s.modSurvey x fun v => { v with failed := 0, unknown := false }).tokens := h.tokens
    have space : (t.modSurvey x fun v => { v with failed := 0, unknown := false }).room .down ↔
        (s.modSurvey x fun v => { v with failed := 0, unknown := false }).room .down := room
    rw [surveys, tokens, decide_eq_decide.2 space]
    exact { h with surveys := rfl, tokens := rfl }
  · rw [if_neg starts, if_neg fun both => starts ⟨h.station.symm.trans both.1, running.1 both.2.1, both.2.2⟩]
    exact h

theorem forgetSeq (h : s.Twin t) (f : FlowId) : (s.forgetSeq f).Twin (t.forgetSeq f) := by
  have dst : (t.forgetSeq f).dst = (s.forgetSeq f).dst := by rw [State.forgetSeq_dst_eq, State.forgetSeq_dst_eq, h.dst]
  obtain ⟨⟩ := h
  constructor <;> simp [*]

theorem becomeAudio (h : s.Twin t) : s.becomeAudio.Twin t.becomeAudio := by
  have running : (if t.running then DstState.listening else .closed) = if s.running then .listening else .closed := by
    simp only [State.running, h.start]
  unfold State.becomeAudio
  rw [running, h.dst]
  exact (h.withDst _).followSource.followSink

theorem ceaseAudio (h : s.Twin t) : s.ceaseAudio.Twin t.ceaseAudio := by
  have ceased := (h.withDst (s.dst.set .audioOut none)).withAudio { s.audio with source := { s.audio.source with queue := [] } }
  unfold State.ceaseAudio State.modSource
  dsimp only
  rw [h.audio, h.dst]
  exact ceased.followSource.followSink

theorem audioChange {b c : State} (before : b.Twin c) (h : s.Twin t) : (State.audioChange b s).Twin (State.audioChange c t) := by
  have audio : t.isAudio = s.isAudio := by
    unfold State.isAudio
    rw [h.judged, h.station]
  unfold State.audioChange
  rw [before.judged, h.judged, h.station, audio]
  split
  · exact h
  · split
    · split
      · exact h.becomeAudio
      · exact h.ceaseAudio
    · exact h.forgetSeq _
    · exact h

theorem modStation (h : s.Twin t) (x : Station) (f : StationEntry → StationEntry) : (s.modStation x f).Twin (t.modStation x f) := by
  obtain ⟨⟩ := h
  constructor <;> simp [*]

theorem modSurvey (h : s.Twin t) (x : Station) (f : Survey → Survey) : (s.modSurvey x f).Twin (t.modSurvey x f) := by
  obtain ⟨⟩ := h
  constructor <;> simp [*]

theorem becomePresent (h : s.Twin t) (room : t.room .down ↔ s.room .down) (x : Station) :
    (s.becomePresent x).Twin (t.becomePresent x) := by
  have levelled := ((h.modStation x fun v => { v with present := true }).post .stationPresent (.station x) 0).relevel
  exact h.audioChange (levelled.startSurvey (by simpa [State.room] using room) x)

theorem becomeAbsent (h : s.Twin t) (x : Station) : (s.becomeAbsent x).Twin (t.becomeAbsent x) :=
  h.audioChange (((h.modStation x _).modSurvey x Survey.abandon).post .stationAbsent (.station x) 0).relevel

/-- A status byte has the same outcome in both (R22). -/
theorem takeStatus (h : s.Twin t) (room : t.room .down ↔ s.room .down) (l : Lane) (x : Station) (b : Byte) :
    (s.takeStatus l x b).Twin (t.takeStatus l x b) := by
  unfold State.takeStatus
  dsimp only
  rw [h.station, h.stations]
  split
  · exact h
  · split
    · split
      · exact h.modStation x _
      · exact (h.modStation x _).becomePresent room x
    · split
      · exact (h.modStation x _).becomeAbsent x
      · exact h.modStation x _

end State.Twin
end Sys2Proof.Machine

namespace Sys2Proof.Machine

/-! ### Status bytes, long losses and presence (R22, R23, R48, R115) -/

section
variable {s : State}

/-! #### A status byte handed on (R22) -/

/-- The state with a status byte and its run stored in a station's entry (R22). -/
def State.noted (s : State) (x : Station) (b : Byte) (n : Nat) : State :=
  s.modStation x fun v => { v with status := b, absentRun := n }

theorem State.takeStatus_of_fed {l : Lane} {x : Station} (fed : feeds s.station l x = true) (b : Byte) :
    s.takeStatus l x b =
      if b.getLsbD 7 = true then
        if (s.stations.get x).present = true then s.noted x b 0 else (s.noted x b 0).becomePresent x
      else if 3 ≤ (s.stations.get x).absentRun ∧ (s.stations.get x).present = true then
        (s.noted x b (min ((s.stations.get x).absentRun + 1) 4)).becomeAbsent x
      else s.noted x b (min ((s.stations.get x).absentRun + 1) 4) := by
  unfold State.takeStatus
  rw [if_neg (by rw [fed]; nofun)]
  dsimp only
  have fourth : min ((s.stations.get x).absentRun + 1) 4 = 4 ↔ 3 ≤ (s.stations.get x).absentRun := by omega
  exact if_congr Iff.rfl rfl (if_congr (and_congr_left' fourth) rfl rfl)

theorem State.noted_stations (s : State) (x : Station) (b : Byte) (n : Nat) :
    (s.noted x b n).stations = s.stations.set x { s.stations.get x with status := b, absentRun := n } := rfl

/-- The entry's station and the others after a status byte (R22). -/
theorem State.takeStatus_stations {l : Lane} {x : Station} (fed : feeds s.station l x = true) (b : Byte) :
    (s.takeStatus l x b).stations =
      s.stations.set x
        (if b.getLsbD 7 = true then { s.stations.get x with status := b, absentRun := 0, present := true }
        else if 3 ≤ (s.stations.get x).absentRun ∧ (s.stations.get x).present = true then
          { s.stations.get x with
            status := b, absentRun := min ((s.stations.get x).absentRun + 1) 4, present := false, delay := none }
        else { s.stations.get x with status := b, absentRun := min ((s.stations.get x).absentRun + 1) 4 }) := by
  rw [State.takeStatus_of_fed fed]
  split
  · split
    · rename_i present
      rw [State.noted_stations, ← present]
    · rw [State.becomePresent_stations, State.noted_stations]
      simp
  · split
    · rw [State.becomeAbsent_stations, State.noted_stations]
      simp
    · rfl

/-! #### The survey that presence starts, and absence ends (R115, R116) -/

/-- The ECHO's room at the down FIFO (R41, R116). -/
def State.echoRoom (s : State) : Bool := decide (s.tx.down.role.sends = true ∧ s.tx.down.fifo.length < 8)

theorem State.becomePresent_kept (s : State) (x : Station) :
    (s.becomePresent x).tokens = ((s.presented x).relevel.startSurvey x).tokens ∧
      (s.becomePresent x).surveys = ((s.presented x).relevel.startSurvey x).surveys ∧
      (s.becomePresent x).tx = ((s.presented x).relevel.startSurvey x).tx := by
  rw [State.becomePresent_eq]
  simp

/-- A station that becomes present at CONSOLE in RUNNING starts its survey (R115). -/
theorem State.becomePresent_starts {x : Station} (console : s.station = .console) (running : s.running) (other : x ≠ .console) :
    (s.becomePresent x).tokens = s.tokens + 1 ∧
      (s.becomePresent x).surveys =
        s.surveys.set x
          { s.surveys.get x with
            state := .sending, token := s.tokens + 1, failed := 0, unknown := false, discarded := !s.echoRoom } ∧
      (s.becomePresent x).tx = { s.tx with down := s.tx.down.joined (.echo x (s.tokens + 1)) } := by
  obtain ⟨tokens, surveys, tx⟩ := s.becomePresent_kept x
  have station : (s.presented x).relevel.station = .console := by simpa [State.presented] using console
  have runs : (s.presented x).relevel.running := by simpa [State.presented, State.running] using running
  have present : ((s.presented x).relevel.stations.get x).present = true := by simp [State.presented]
  have kept : (s.presented x).relevel.tokens = s.tokens ∧ (s.presented x).relevel.surveys = s.surveys ∧
      (s.presented x).relevel.tx = s.tx := by simp [State.presented]
  rw [tokens, surveys, tx]
  generalize (s.presented x).relevel = u at *
  obtain ⟨tokens, surveys, tx⟩ := kept
  have surveyed : u.startSurvey x = u.surveyPresent x := (if_pos present).symm
  rw [surveyed, State.surveyPresent_eq station runs other, if_pos present, tokens, surveys, tx]
  exact ⟨rfl, rfl, rfl⟩

theorem State.becomePresent_of_quiet {x : Station} (quiet : ¬(s.station = .console ∧ s.running ∧ x ≠ .console)) :
    (s.becomePresent x).tokens = s.tokens ∧ (s.becomePresent x).surveys = s.surveys ∧ (s.becomePresent x).tx = s.tx := by
  obtain ⟨tokens, surveys, tx⟩ := s.becomePresent_kept x
  have idle : (s.presented x).relevel.startSurvey x = (s.presented x).relevel :=
    if_neg (by simpa [State.presented, State.running] using quiet)
  rw [tokens, surveys, tx, idle]
  simp [State.presented]

theorem State.becomeAbsent_surveys (s : State) (x : Station) :
    (s.becomeAbsent x).surveys = s.surveys.set x (s.surveys.get x).abandon := by
  rw [State.becomeAbsent_eq]
  simp [State.absented, State.modSurvey]

/-- The survey of a station, and the tokens, after a status byte (R115, R116). -/
theorem State.takeStatus_surveys {l : Lane} {x : Station} (fed : feeds s.station l x = true) (b : Byte) :
    let starts := s.station = .console ∧ s.running ∧ b.getLsbD 7 = true ∧ (s.stations.get x).present = false
    let ends := b.getLsbD 7 = false ∧ (s.stations.get x).present = true ∧ 3 ≤ (s.stations.get x).absentRun
    (starts →
      (s.takeStatus l x b).tokens = s.tokens + 1 ∧
      (s.takeStatus l x b).surveys =
        s.surveys.set x
          { s.surveys.get x with
            state := .sending, token := s.tokens + 1, failed := 0, unknown := false, discarded := !s.echoRoom } ∧
      (s.takeStatus l x b).tx = { s.tx with down := s.tx.down.joined (.echo x (s.tokens + 1)) }) ∧
    (¬starts → (s.takeStatus l x b).tokens = s.tokens ∧ (s.takeStatus l x b).tx = s.tx) ∧
    (ends → (s.takeStatus l x b).surveys = s.surveys.set x (s.surveys.get x).abandon) ∧
    (¬starts → ¬ends → (s.takeStatus l x b).surveys = s.surveys) := by
  intro starts ends
  rw [State.takeStatus_of_fed fed]
  cases bit : b.getLsbD 7 with
  | true =>
    rw [if_pos rfl]
    cases present : (s.stations.get x).present with
    | true =>
      rw [if_pos rfl]
      exact ⟨fun h => absurd h.2.2.2 (by simp [present]), fun _ => ⟨rfl, rfl⟩, fun h => absurd h.1 (by simp [bit]), fun _ _ => rfl⟩
    | false =>
      rw [if_neg Bool.false_ne_true]
      refine ⟨fun h => ?_, fun h => ?_, fun h => absurd h.1 (by simp [bit]), fun h _ => ?_⟩
      · have other : x ≠ .console := by
          rintro rfl
          rw [h.1] at fed
          revert fed
          cases l <;> decide
        exact State.becomePresent_starts (s := s.noted x b 0) h.1 h.2.1 other
      · have quiet := State.becomePresent_of_quiet (s := s.noted x b 0) (x := x) fun c => h ⟨c.1, c.2.1, bit, present⟩
        exact ⟨quiet.1, quiet.2.2⟩
      · exact (State.becomePresent_of_quiet (s := s.noted x b 0) (x := x) fun c => h ⟨c.1, c.2.1, bit, present⟩).2.1
  | false =>
    rw [if_neg Bool.false_ne_true]
    have idle : ¬starts := fun h => by
      have := h.2.2.1
      rw [bit] at this
      cases this
    by_cases fourth : 3 ≤ (s.stations.get x).absentRun ∧ (s.stations.get x).present = true
    · rw [if_pos fourth]
      refine ⟨fun h => absurd h idle, fun _ => by simp [State.noted], fun _ => State.becomeAbsent_surveys _ _,
        fun _ h => absurd ⟨bit, fourth.2, fourth.1⟩ h⟩
    · rw [if_neg fourth]
      exact ⟨fun h => absurd h idle, fun _ => ⟨rfl, rfl⟩, fun h => absurd ⟨h.2.2, h.2.1⟩ fourth, fun _ _ => rfl⟩

/-! #### The notices of presence (R184) -/

theorem State.takeStatus_posts {l : Lane} {x : Station} (live : s.live) (fed : feeds s.station l x = true) (b : Byte) :
    (b.getLsbD 7 = true → (s.stations.get x).present = false →
      ∃ n ∈ (s.takeStatus l x b).notices, n.kind = .stationPresent ∧ n.subject = .station x) ∧
    (b.getLsbD 7 = false → 3 ≤ (s.stations.get x).absentRun → (s.stations.get x).present = true →
      ∃ n ∈ (s.takeStatus l x b).notices, n.kind = .stationAbsent ∧ n.subject = .station x) := by
  rw [State.takeStatus_of_fed fed]
  refine ⟨fun bit absent => ?_, fun bit fourth present => ?_⟩
  · rw [if_pos bit, if_neg (by rw [absent]; exact Bool.false_ne_true)]
    exact State.becomePresent_posts (s := s.noted x b 0) live x
  · rw [if_neg (by rw [bit]; exact Bool.false_ne_true), if_pos ⟨fourth, present⟩]
    exact State.becomeAbsent_posts (s := s.noted x b _) live x

/-- POD's byte moves the audio station as R48 gives. -/
theorem State.takeStatus_moves {l : Lane} (fed : feeds s.station l .pod = true) (b : Byte)
    (level : s.power.applied = s.appliedLevel) : s.AudioMoves (s.takeStatus l .pod b) := by
  have noted (n : Nat) : (s.noted .pod b n).power.applied = (s.noted .pod b n).appliedLevel := by
    rw [State.appliedLevel_of_pod (s := s) (t := s.noted .pod b n) rfl rfl rfl fun y other => by
      rw [State.noted_stations, PerStation.get_set, if_neg other]]
    exact level
  rw [State.takeStatus_of_fed fed]
  split
  · split
    · exact .of_same (State.modStation_audioStation rfl) rfl rfl
    · exact .of_note rfl (State.becomePresent_moves (noted _))
  · split
    · exact .of_note rfl (State.becomeAbsent_moves (noted _))
    · exact .of_same (State.modStation_audioStation rfl) rfl rfl

/-! #### The byte of a correct cell in LOCKED (R5, R14) -/

/-- The state in which a correct cell's status byte is handed on (R14, R17). -/
def State.atStatus (s : State) (l : Lane) (i : AlignInfo) : State := (s.atCorrect l i).beforeStatus l (s.rx.get l) i

/-- The station whose byte a correct cell hands on (R5). -/
def State.byteOwner (s : State) (l : Lane) (i : AlignInfo) : Station :=
  stationOf (if i.frame = 0 ∧ ((s.rx.get l).inEffect = some .deep ∨ i.lane = .deep) then i.count.toNat else i.frame.toNat)

theorem State.byteOwner_eq (s : State) (l : Lane) (i : AlignInfo) :
    statusOwner (((s.atCorrect l i).rx.get l).underDeep i) i.frame i.count = s.byteOwner l i := by
  have deep : ((s.atCorrect l i).rx.get l).underDeep i = true ↔
      i.frame = 0 ∧ ((s.rx.get l).inEffect = some .deep ∨ i.lane = .deep) := by
    rw [State.atCorrect_rx]
    simp [State.corrected, Rx.lockedCorrect, Rx.underDeep, Rx.accept, Rx.advance]
  exact congrArg stationOf (if_congr deep rfl rfl)

/-- A correct cell that does not lose the lock hands its byte on, with the calls of the changes (R14, R22, R178). -/
theorem State.alignCorrect_byte {l : Lane} {i : AlignInfo} (held : hopLost ((s.rx.get l).hopHistory i.hop) = false) :
    s.alignCorrect l i =
      if leavesDeep (s.rx.get l).inEffect i.lane then
        ((s.atStatus l i).calling fun t => t.takeStatus l (s.byteOwner l i) i.status).setFresh
      else (s.atStatus l i).calling fun t => t.takeStatus l (s.byteOwner l i) i.status := by
  rw [State.alignCorrect_of_held held, State.handAlign_eq, State.byteOwner_eq]
  rfl

theorem State.returnToRepeating_tx (s : State) (l k : Lane) :
    (((s.returnToRepeating l).tx.get k).role.sends = (s.tx.get k).role.sends) ∧
      ((s.returnToRepeating l).tx.get k).fifo = (s.tx.get k).fifo := by
  have returned (role : (s.tx.get l).role.sends = true) :
      (((s.modTx l fun t => { t with role := .repeating, follows := false, own := false, carry := none, whole := false }).tx.get
        k).role.sends = (s.tx.get k).role.sends) ∧
      ((s.modTx l fun t => { t with role := .repeating, follows := false, own := false, carry := none, whole := false }).tx.get
        k).fifo = (s.tx.get k).fifo := by
    rw [State.modTx_tx, PerLane.get_set]
    split
    · rename_i same
      rw [same, role]
      exact ⟨rfl, rfl⟩
    · exact ⟨rfl, rfl⟩
  unfold State.returnToRepeating
  dsimp only
  split
  · rename_i substitute
    simpa [State.postLane] using returned (by rw [substitute]; rfl)
  · split
    · rename_i waits
      exact returned (by rw [waits.1]; rfl)
    · exact ⟨rfl, rfl⟩

theorem State.atStatus_down (s : State) (l : Lane) (i : AlignInfo) :
    (s.atStatus l i).tx.down.role.sends = s.tx.down.role.sends ∧ (s.atStatus l i).tx.down.fifo = s.tx.down.fifo := by
  have tx : (s.atCorrect l i).tx = s.tx := by simp [State.atCorrect, State.modRx]
  unfold State.atStatus
  rw [State.beforeStatus_tx]
  split
  · have back := (s.atCorrect l i).returnToRepeating_tx l .down
    rw [tx] at back
    exact back
  · rw [tx]
    exact ⟨rfl, rfl⟩

theorem State.atStatus_twin (s : State) (l : Lane) (i : AlignInfo) : s.Twin (s.atStatus l i) := by
  constructor <;> simp [State.atStatus, State.atCorrect, State.modRx]

/-- What a correct cell's byte comes to: the entries, records, audio, surveys and tokens that the byte gives the state (R22). -/
theorem State.alignCorrect_entries {l : Lane} {i : AlignInfo} (held : hopLost ((s.rx.get l).hopHistory i.hop) = false) :
    let u := s.takeStatus l (s.byteOwner l i) i.status
    (s.alignCorrect l i).stations = u.stations ∧ (s.alignCorrect l i).dst = u.dst ∧ (s.alignCorrect l i).audio = u.audio ∧
      (s.alignCorrect l i).surveys = u.surveys ∧ (s.alignCorrect l i).tokens = u.tokens := by
  intro u
  have room : (s.atStatus l i).room .down ↔ s.room .down := by
    obtain ⟨role, fifo⟩ := s.atStatus_down l i
    show (s.atStatus l i).tx.down.role.sends = true ∧ (s.atStatus l i).tx.down.fifo.length < 8 ↔ _
    rw [role, fifo]
    rfl
  have twin := (s.atStatus_twin l i).takeStatus room l (s.byteOwner l i) i.status
  rw [State.alignCorrect_byte held]
  split <;> simp [twin.stations, twin.dst, twin.audio, twin.surveys, twin.tokens, u]

/-- Calls for reports leave a cell other than POWER where it waits in the down FIFO (R42, R178). -/
theorem State.calling_down_getElem {f : State → State} {d : Ctl} (other : ∀ r n, d ≠ .power r n) {i : Nat}
    (here : (f s).tx.down.fifo[i]? = some d) :
    (s.calling f).tx.down.fifo[i]? = some d ∧ (s.calling f).setFresh.tx.down.fifo[i]? = some d := by
  have build (t : State) (_ : t.reportDue = true) (h : t.tx.down.fifo[i]? = some d) : t.buildReport.tx.down.fifo[i]? = some d := by
    show ((t.offer .down (.power t.report t.balance.built)).offer .up (.power t.report t.balance.built)).tx.down.fifo[i]? = some d
    exact offerFifo_getElem other _ h
  have called : (s.calling f).tx.down.fifo[i]? = some d :=
    State.calling_preserves (P := fun t => t.tx.down.fifo[i]? = some d) build (fun _ h => h) here
  exact ⟨called, State.callEvent_preserves (P := fun t => t.tx.down.fifo[i]? = some d) build (fun _ h => h) called⟩

/-- The ECHO of a survey that a correct cell's byte starts stands where the FIFO ended before it (R42, R116). -/
theorem State.alignCorrect_echo {l : Lane} {i : AlignInfo} (held : hopLost ((s.rx.get l).hopHistory i.hop) = false)
    (fed : feeds s.station l (s.byteOwner l i) = true) (console : s.station = .console) (running : s.running)
    (bit : i.status.getLsbD 7 = true) (absent : (s.stations.get (s.byteOwner l i)).present = false)
    (sends : s.tx.down.role.sends = true) (room : s.tx.down.fifo.length < 8) :
    (s.alignCorrect l i).tx.down.fifo[s.tx.down.fifo.length]? = some (.echo (s.byteOwner l i) (s.tokens + 1)) := by
  have twin := s.atStatus_twin l i
  obtain ⟨role, fifo⟩ := s.atStatus_down l i
  have starts := (State.takeStatus_surveys (s := s.atStatus l i) (by rw [twin.station]; exact fed) i.status).1
    ⟨twin.station.trans console, by simpa only [State.running, twin.start] using running, bit, by rw [twin.stations]; exact absent⟩
  have here : ((s.atStatus l i).takeStatus l (s.byteOwner l i) i.status).tx.down.fifo[s.tx.down.fifo.length]? =
      some (.echo (s.byteOwner l i) (s.tokens + 1)) := by
    rw [starts.2.2]
    show ((s.atStatus l i).tx.down.joined _).fifo[_]? = _
    rw [Tx.joined_fifo, role, fifo, twin.tokens, if_pos ⟨sends, room⟩]
    simp
  obtain ⟨called, fresh⟩ := State.calling_down_getElem (s := s.atStatus l i)
    (f := fun t => t.takeStatus l (s.byteOwner l i) i.status) (by nofun) here
  rw [State.alignCorrect_byte held]
  split
  · exact fresh
  · exact called

/-- The notices of a presence that a correct cell's byte changes (R184). -/
theorem State.alignCorrect_posts {l : Lane} {i : AlignInfo} (live : s.live)
    (held : hopLost ((s.rx.get l).hopHistory i.hop) = false) (fed : feeds s.station l (s.byteOwner l i) = true) :
    (i.status.getLsbD 7 = true → (s.stations.get (s.byteOwner l i)).present = false →
      ∃ n ∈ (s.alignCorrect l i).notices, n.kind = .stationPresent ∧ n.subject = .station (s.byteOwner l i)) ∧
    (i.status.getLsbD 7 = false → 3 ≤ (s.stations.get (s.byteOwner l i)).absentRun →
      (s.stations.get (s.byteOwner l i)).present = true →
      ∃ n ∈ (s.alignCorrect l i).notices, n.kind = .stationAbsent ∧ n.subject = .station (s.byteOwner l i)) := by
  have twin := s.atStatus_twin l i
  have posts := State.takeStatus_posts (s := s.atStatus l i) (by simpa only [State.live, twin.start] using live)
    (show feeds (s.atStatus l i).station l (s.byteOwner l i) = true by rw [twin.station]; exact fed) i.status
  have notices : (s.alignCorrect l i).notices = ((s.atStatus l i).takeStatus l (s.byteOwner l i) i.status).notices := by
    rw [State.alignCorrect_byte held]
    split <;> simp
  rw [twin.stations] at posts
  rw [notices]
  exact posts

/-! #### A lane long out of LOCKED (R23) -/

theorem State.timeoutEntry_surveys_get (s : State) (l : Lane) (x y : Station) :
    (s.timeoutEntry l x).surveys.get y =
      if y = x ∧ feeds s.station l x = true ∧ (s.stations.get x).present = true then (s.surveys.get y).abandon
      else s.surveys.get y := by
  unfold State.timeoutEntry
  dsimp only
  by_cases fed : feeds s.station l x = true
  · rw [if_neg (by rw [fed]; nofun)]
    by_cases present : (s.stations.get x).present = true
    · rw [if_pos present, State.becomeAbsent_surveys]
      by_cases same : y = x
      · rw [if_pos ⟨same, fed, present⟩, same]
        simp [State.modStation]
      · rw [if_neg fun h => same h.1, PerStation.get_set, if_neg same]
        rfl
    · rw [if_neg present, if_neg fun h => present h.2.2]
      rfl
  · rw [if_pos (Bool.eq_false_iff.2 fed), if_neg fun h => fed h.2.1]

/-- The surveys of stations that become absent end (R115, R116). -/
theorem State.timeoutLane_surveys_get (s : State) (l : Lane) (x : Station) :
    (s.timeoutLane l).surveys.get x =
      if feeds s.station l x = true ∧ (s.stations.get x).present = true then (s.surveys.get x).abandon
      else s.surveys.get x := by
  unfold State.timeoutLane
  simp only [State.timeoutEntry_surveys_get, State.timeoutEntry_get, State.timeoutEntry_keeps]
  cases x <;> simp

theorem State.timeoutEntry_posts {l : Lane} {x : Station} (live : s.live) (fed : feeds s.station l x = true)
    (present : (s.stations.get x).present = true) :
    ∃ n ∈ (s.timeoutEntry l x).notices, n.kind = .stationAbsent ∧ n.subject = .station x := by
  unfold State.timeoutEntry
  rw [if_neg (by rw [fed]; nofun)]
  dsimp only
  rw [if_pos present]
  exact State.becomeAbsent_posts (s := s.modStation x fun v => { v with status := 0 }) live x

/-- STATION_ABSENT waits for a station (R184). -/
def State.AbsencePosted (s : State) (x : Station) : Prop := ∃ n ∈ s.notices, n.kind = .stationAbsent ∧ n.subject = .station x

theorem State.AbsencePosted.timeoutEntry {x y : Station} (h : s.AbsencePosted x) (other : x ≠ y) (l : Lane) :
    (s.timeoutEntry l y).AbsencePosted x := by
  obtain ⟨n, waits, kind, subject⟩ := h
  refine ⟨n, ?_, kind, subject⟩
  unfold State.timeoutEntry
  dsimp only
  split
  · exact waits
  · split
    · exact State.mem_becomeAbsent (s := s.modStation y fun v => { v with status := 0 }) waits subject other
    · exact waits

theorem State.timeoutLane_posts {l : Lane} {x : Station} (live : s.live) (fed : feeds s.station l x = true)
    (present : (s.stations.get x).present = true) : (s.timeoutLane l).AbsencePosted x := by
  have entry (t : State) (alive : t.start = s.start) (station : t.station = s.station)
      (same : t.stations.get x = s.stations.get x) : (t.timeoutEntry l x).AbsencePosted x :=
    State.timeoutEntry_posts (by simpa only [State.live, alive] using live) (by rw [station]; exact fed) (by rw [same]; exact present)
  unfold State.timeoutLane
  cases x with
  | console =>
    have first := entry s rfl rfl rfl
    exact ((first.timeoutEntry (by decide) l).timeoutEntry (by decide) l).timeoutEntry (by decide) l
  | pod =>
    have second := entry (s.timeoutEntry l .console) (by simp) (by simp) (by simp [State.timeoutEntry_get])
    exact (second.timeoutEntry (by decide) l).timeoutEntry (by decide) l
  | headset =>
    have third := entry ((s.timeoutEntry l .console).timeoutEntry l .pod) (by simp) (by simp) (by simp [State.timeoutEntry_get])
    exact third.timeoutEntry (by decide) l
  | strap =>
    exact entry (((s.timeoutEntry l .console).timeoutEntry l .pod).timeoutEntry l .headset) (by simp) (by simp)
      (by simp [State.timeoutEntry_get])

/-- POD's absence makes HEADSET the audio station (R48). -/
theorem State.timeoutLane_audioStation (s : State) (l : Lane) :
    (s.timeoutLane l).audioStation = if feeds s.station l .pod = true then .headset else s.audioStation := by
  have pod : (s.timeoutLane l).stations.pod = _ := s.timeoutLane_get l .pod
  unfold State.audioStation
  rw [pod, show (s.timeoutLane l).cfg = s.cfg by simp]
  split
  · rw [if_neg fun h => by cases h.2]
  · rfl

end

/-- Settles O12: a byte's outcome by its present flag and run; a correct cell hands its byte on in a state that is a twin of the
one before it; and a lane long lost is four entries timed out one after another. -/
theorem statusBytesAndLongLossDecidePresence : Obligations.StatusBytesAndLongLossDecidePresence := by
  unfold Obligations.StatusBytesAndLongLossDecidePresence
  refine ⟨fun l x b s live => ?_, fun l found i s live locked right => ?_, fun l found s live wrong => ?_, fun l s live lost => ?_⟩
  · intro t
    refine ⟨fun unfed => if_pos unfed, fun fed => ?_⟩
    have stations : t.stations = _ := State.takeStatus_stations fed b
    have posts := State.takeStatus_posts live fed b
    refine ⟨?_, fun bit => ?_, fun bit => ?_, fun y other => ?_, ?_, fun pod level => ?_⟩
    · rw [stations, PerStation.get_set_self]
      (repeat' split) <;> rfl
    · rw [stations, PerStation.get_set_self, if_pos bit]
      exact ⟨rfl, rfl, posts.1 bit⟩
    · rw [stations, PerStation.get_set_self, if_neg (by rw [bit]; exact Bool.false_ne_true)]
      refine ⟨?_, fun early => ?_, fun fourth => ?_, fun fourth present => ⟨?_, posts.2 bit fourth present⟩⟩
      · split <;> rfl
      · rw [if_neg fun h => absurd h.1 (not_le.2 early)]
      · split
        · rfl
        · rename_i absent
          exact Bool.eq_false_iff.2 fun present => absent ⟨fourth, present⟩
      · rw [if_pos ⟨fourth, present⟩]
    · rw [stations, PerStation.get_set, if_neg other]
    · obtain ⟨begins, rests, ends, stays⟩ := State.takeStatus_surveys fed b
      intro v down room starts ending
      refine ⟨fun h => ?_, rests, fun _ => ends, stays⟩
      obtain ⟨tokens, surveys, tx⟩ := begins h
      refine ⟨tokens, surveys, tx.trans ?_⟩
      unfold Tx.joined
      simp only [room, down, decide_eq_true_eq]
    · subst pod
      exact State.takeStatus_moves fed b level
  · intro r history x v
    have judged : r.hopHistory i.hop = history := if_congr (Rx.hopDue_iff locked) rfl rfl
    have lost : hopLost (r.hopHistory i.hop) = true ↔ 12 ≤ history.count true := by rw [hopLost_iff, judged]
    have held : history.count true < 12 → hopLost ((s.rx.get l).hopHistory i.hop) = false := fun few =>
      Bool.eq_false_iff.2 fun gone => absurd (lost.1 gone) (not_le.2 few)
    refine ⟨_, exec_expectedAlignmentCell_of_correct live locked right, fun few => State.alignCorrect_entries (held few),
      fun few fed console running bit absent sends room =>
        State.alignCorrect_echo (held few) fed console running bit absent sends room,
      fun few fed => ?_, fun many => ?_⟩
    · obtain ⟨presence, absence⟩ := State.alignCorrect_posts live (held few) fed
      exact ⟨presence, fun bit present fourth => absence bit fourth present⟩
    · rw [State.alignCorrect_of_lost (lost.2 many)]
      simp [State.atCorrect, State.modRx]
  · obtain ⟨locked, wrong⟩ | confirm := wrong
    · refine ⟨_, exec_expectedAlignmentCell_of_error live locked wrong, ?_⟩
      by_cases early : (s.rx.get l).errRun < 3
      · rw [State.alignError_of_early early]
        simp [State.atError, State.modRx]
      · rw [State.alignError_of_fourth (not_lt.1 early)]
        simp [State.atError, State.modRx]
    · exact ⟨_, exec_expectedAlignmentCell_of_confirm live confirm, by simp⟩
  · refine ⟨s.calling fun t => t.timeoutLane l, if_pos ⟨live, lost⟩, fun x fed => ?_, fun x unfed => ?_, fun x fed present => ?_,
      ?_, fun holds follows => ?_, fun console x => ?_, by simp, by simp, by simp, by simp, by simp⟩
    · rw [show (s.calling fun t => t.timeoutLane l).stations = (s.timeoutLane l).stations by simp, State.timeoutLane_get, if_pos fed]
      exact ⟨rfl, rfl, fun present => if_pos present⟩
    · rw [show (s.calling fun t => t.timeoutLane l).stations = (s.timeoutLane l).stations by simp, State.timeoutLane_get,
        if_neg (by rw [unfed]; nofun)]
    · rw [show (s.calling fun t => t.timeoutLane l).notices = (s.timeoutLane l).notices by simp]
      exact State.timeoutLane_posts live fed present
    · rw [State.audioStation_congr (s := s.timeoutLane l) (by simp) (by simp), State.timeoutLane_audioStation]
    · have judged : (s.calling fun t => t.timeoutLane l).audioStation = (s.timeoutLane l).audioStation :=
        State.audioStation_congr (by simp) (by simp)
      have moves := State.timeoutLane_moves live holds (.of_follow follows) l
      rw [judged, show (s.calling fun t => t.timeoutLane l).dst = (s.timeoutLane l).dst by simp,
        show (s.calling fun t => t.timeoutLane l).audio = (s.timeoutLane l).audio by simp,
        show (s.calling fun t => t.timeoutLane l).stations = (s.timeoutLane l).stations by simp]
      refine ⟨moves.1, fun moved => ?_⟩
      have on : (s.timeoutLane l).audioStation = .headset := by
        rw [State.timeoutLane_audioStation] at moved ⊢
        split
        · rfl
        · rename_i unfed
          rw [if_neg unfed] at moved
          exact absurd rfl moved
      obtain ⟨headset, -, console, strap⟩ := moves.2 moved
      exact ⟨fun station => headset station on, console, strap⟩
    · intro ending
      rw [show (s.calling fun t => t.timeoutLane l).surveys = (s.timeoutLane l).surveys by simp, State.timeoutLane_surveys_get]
      exact ⟨fun ends => by rw [if_pos ends]; rfl, fun stays => if_neg stays⟩

end Sys2Proof.Machine

namespace Sys2Proof.Machine

/-! ### The start record (R198, R199) -/

/-! #### The numbers of the layout -/

theorem byteAt_lt (m : List Byte) (i : Nat) : byteAt m i < 256 := (m.getD i 0).isLt

theorem clamp_range {lo hi : Nat} (h : lo ≤ hi) (v : Nat) : lo ≤ clamp lo hi v ∧ clamp lo hi v ≤ hi := by
  unfold clamp
  omega

theorem clamp_eq {lo hi : Nat} (h : lo ≤ hi) (v : Nat) : clamp lo hi v = if v < lo then lo else if hi < v then hi else v := by
  unfold clamp
  split
  · omega
  · split <;> omega

theorem bitsOf_lt (v lo w : Nat) : bitsOf v lo w < 2 ^ w := Nat.mod_lt _ (Nat.two_pow_pos w)

theorem fieldAt_two (m : List Byte) (i : Nat) : fieldAt m i 2 = byteAt m i * 256 + byteAt m (i + 1) := by simp [fieldAt]

theorem fieldAt_three (m : List Byte) (i : Nat) :
    fieldAt m i 3 = (byteAt m i * 256 + byteAt m (i + 1)) * 256 + byteAt m (i + 2) := by simp [fieldAt]

theorem fieldAt_three_lt (m : List Byte) (i : Nat) : fieldAt m i 3 < 2 ^ 24 := by
  have first := byteAt_lt m i
  have second := byteAt_lt m (i + 1)
  have third := byteAt_lt m (i + 2)
  rw [fieldAt_three]
  omega

/-- A number of `w` bits read as two's complement. -/
theorem signedOf_eq {w v : Nat} (some_bits : 0 < w) (h : v < 2 ^ w) :
    signedOf w v = if v < 2 ^ (w - 1) then (v : Int) else (v : Int) - 2 ^ w := by
  have twice : 2 ^ w = 2 * 2 ^ (w - 1) := by rw [← Nat.pow_succ', Nat.succ_eq_add_one, Nat.sub_add_cancel some_bits]
  unfold signedOf
  rw [BitVec.toInt_eq_toNat_cond, BitVec.toNat_ofNat, Nat.mod_eq_of_lt h]
  by_cases low : v < 2 ^ (w - 1)
  · rw [if_pos (by omega), if_pos low]
  · rw [if_neg (by omega), if_neg low]
    push_cast
    rfl

theorem signedOf_range (w v : Nat) : -(2 ^ (w - 1) : Int) ≤ signedOf w v ∧ signedOf w v < 2 ^ (w - 1) :=
  ⟨BitVec.le_toInt _, BitVec.toInt_lt⟩

/-! #### The validated record keeps the layout's ranges (R199) -/

/-- The ranges and relations of a paced flow's parameters. -/
def FlowParams.Valid (fp : FlowParams) : Prop :=
  16 ≤ fp.peak ∧ fp.peak ≤ 1008 ∧ fp.floor ≤ fp.start ∧ fp.start ≤ fp.peak ∧ fp.peak ≤ 16 * fp.burst ∧
    1 ≤ fp.burst ∧ fp.burst ≤ 255 ∧
    fp.scarce < fp.ease ∧ fp.ease ≤ fp.low ∧ fp.low < fp.ok ∧ fp.ok ≤ fp.peak ∧
    1 ≤ fp.rise ∧ fp.rise ≤ 255 ∧ 1 ≤ fp.fall ∧ fp.fall ≤ 255 ∧ 1 ≤ fp.fade ∧ fp.fade ≤ 255 ∧
    4 ≤ fp.spacing ∧ fp.spacing ≤ 255 ∧ 1 ≤ fp.interval ∧ fp.interval ≤ 63 ∧
    1 ≤ fp.patience ∧ fp.patience ≤ 15 ∧ 1 ≤ fp.idleReset ∧ fp.idleReset ≤ 1023

/-- The second pass writes floor, start, burst and thresholds alone (R199). -/
theorem flowRelated_eq (p : FlowParams) :
    flowRelated p =
      { p with
        floor := clamp 0 p.peak p.floor, start := clamp (clamp 0 p.peak p.floor) p.peak p.start,
        burst := max p.burst (ceilDiv p.peak 16), scarce := if bandsOk p then p.scarce else p.peak / 8,
        ease := if bandsOk p then p.ease else p.peak * 3 / 16, low := if bandsOk p then p.low else p.peak * 3 / 8,
        ok := if bandsOk p then p.ok else p.peak / 2 } := by
  unfold flowRelated
  dsimp only
  have bands : bandsOk { p with
      floor := clamp 0 p.peak p.floor, start := clamp (clamp 0 p.peak p.floor) p.peak p.start,
      burst := max p.burst (ceilDiv p.peak 16) } = bandsOk p := rfl
  rw [bands]
  cases bandsOk p <;> rfl

theorem bandsOk_iff (p : FlowParams) :
    bandsOk p = true ↔ p.scarce < p.ease ∧ p.ease ≤ p.low ∧ p.low < p.ok ∧ p.ok ≤ p.peak := by
  simp [bandsOk, and_assoc]

theorem flowRelated_valid (m : List Byte) (o : Nat) : FlowParams.Valid (flowRelated (flowClamped m o)) := by
  have peak : 16 ≤ (flowClamped m o).peak ∧ (flowClamped m o).peak ≤ 1008 := clamp_range (by decide) _
  have rise : 1 ≤ (flowClamped m o).rise ∧ (flowClamped m o).rise ≤ 255 := clamp_range (by decide) _
  have fall : 1 ≤ (flowClamped m o).fall ∧ (flowClamped m o).fall ≤ 255 := clamp_range (by decide) _
  have fade : 1 ≤ (flowClamped m o).fade ∧ (flowClamped m o).fade ≤ 255 := clamp_range (by decide) _
  have spacing : 4 ≤ (flowClamped m o).spacing ∧ (flowClamped m o).spacing ≤ 255 := clamp_range (by decide) _
  have interval : 1 ≤ (flowClamped m o).interval ∧ (flowClamped m o).interval ≤ 63 := clamp_range (by decide) _
  have patience : 1 ≤ (flowClamped m o).patience ∧ (flowClamped m o).patience ≤ 15 := clamp_range (by decide) _
  have reset : 1 ≤ (flowClamped m o).idleReset ∧ (flowClamped m o).idleReset ≤ 1023 := clamp_range (by decide) _
  have burst : 1 ≤ (flowClamped m o).burst ∧ (flowClamped m o).burst ≤ 255 := clamp_range (by decide) _
  have bands := bandsOk_iff (flowClamped m o)
  rw [flowRelated_eq]
  generalize flowClamped m o = p at *
  have floor := clamp_range (lo := 0) (hi := p.peak) (Nat.zero_le _) p.floor
  have start := clamp_range floor.2 p.start
  have whole : ceilDiv p.peak 16 = (p.peak + 15) / 16 := rfl
  unfold FlowParams.Valid
  dsimp only
  rw [whole]
  refine ⟨peak.1, peak.2, start.1, start.2, by omega, by omega, by omega, ?_, ?_, ?_, ?_, rise.1, rise.2, fall.1, fall.2, fade.1,
    fade.2, spacing.1, spacing.2, interval.1, interval.2, patience.1, patience.2, reset.1, reset.2⟩
  all_goals
    cases ordered : bandsOk p with
    | true =>
      have := bands.1 ordered
      simp only [if_true]
      omega
    | false =>
      simp only [Bool.false_eq_true, if_false]
      omega

/-- The RAIL thresholds keep their order (R199). -/
theorem railRelated_ordered {p : Params} (h : p.admitMv ≤ 25500) :
    (railRelated p).brownoutMv < (railRelated p).cutoffMv ∧ (railRelated p).cutoffMv < (railRelated p).shedMv ∧
      (railRelated p).shedMv < (railRelated p).admitMv ∧ (railRelated p).admitMv ≤ 25500 := by
  unfold railRelated
  split
  · rename_i ordered
    exact ⟨ordered.1, ordered.2.1, ordered.2.2, h⟩
  · exact ⟨(by decide : 9000 < 9800), (by decide : 9800 < 10400), (by decide : 10400 < 11000), (by decide : 11000 ≤ 25500)⟩

/-- The second pass over the RAIL thresholds writes these alone (R199). -/
theorem railRelated_eq (p : Params) :
    railRelated p =
      { p with
        admitMv := (railRelated p).admitMv, shedMv := (railRelated p).shedMv, cutoffMv := (railRelated p).cutoffMv,
        brownoutMv := (railRelated p).brownoutMv } := by
  unfold railRelated
  split <;> rfl

/-- What R199 says of the validated fields beside the domain table. -/
def Params.Valid (p : Params) : Prop :=
  (∀ fp ∈ [p.flowL, p.flowR], FlowParams.Valid fp) ∧
    p.brownoutMv < p.cutoffMv ∧ p.cutoffMv < p.shedMv ∧ p.shedMv < p.admitMv ∧ p.admitMv ≤ 25500 ∧
    1 ≤ p.crowd ∧ p.crowd ≤ 32 ∧ p.volume ≤ 14 ∧ p.sidetone ≤ 15 ∧ p.motionRate ≤ 2 ∧
    p.strapLimit ≤ 20000 ∧ p.batteryFloor ≤ 20000 ∧ p.domains.length = 6 ∧
    (∀ d ∈ p.domains, d.priority ≤ 7 ∧ d.nominal ≤ 6000) ∧
    (∀ k ∈ [p.rail, p.load, p.aux], k.gain ≤ 4095 ∧ -512 ≤ k.offset ∧ k.offset ≤ 511) ∧
    (∀ x ∈ [p.idleOut.ch1, p.idleOut.ch2, p.idleIn.ch1, p.idleIn.ch2], -8388608 ≤ x ∧ x ≤ 8388607)

theorem domainAt_range (m : List Byte) (i : Nat) : (domainAt m i).priority ≤ 7 ∧ (domainAt m i).nominal ≤ 6000 := by
  have priority := bitsOf_lt (fieldAt m (64 + 2 * i) 2) 13 3
  exact ⟨by show bitsOf _ 13 3 ≤ 7; omega, (clamp_range (by decide) _).2⟩

theorem scaleAt_range (m : List Byte) (i : Nat) :
    (scaleAt m i).gain ≤ 4095 ∧ -512 ≤ (scaleAt m i).offset ∧ (scaleAt m i).offset ≤ 511 := by
  have gain := bitsOf_lt (fieldAt m i 3) 12 12
  have offset := signedOf_range 10 (bitsOf (fieldAt m i 3) 0 10)
  exact ⟨by show bitsOf _ 12 12 ≤ 4095; omega, by show -512 ≤ signedOf 10 _; omega, by show signedOf 10 _ ≤ 511; omega⟩

theorem patternAt_range (m : List Byte) (i : Nat) :
    (-8388608 ≤ (patternAt m i).ch1 ∧ (patternAt m i).ch1 ≤ 8388607) ∧
      (-8388608 ≤ (patternAt m i).ch2 ∧ (patternAt m i).ch2 ≤ 8388607) := by
  have one (v : Nat) : -8388608 ≤ signedOf 24 v ∧ signedOf 24 v ≤ 8388607 := by
    have range := signedOf_range 24 v
    omega
  exact ⟨one _, one _⟩

theorem readRecord_valid (m : List Byte) : Params.Valid (railRelated (readRecord m)) := by
  have top : (readRecord m).admitMv ≤ 25500 := by
    have := byteAt_lt m 85
    show 100 * byteAt m 85 ≤ 25500
    omega
  obtain ⟨brownout, cutoff, shed, admits⟩ := railRelated_ordered top
  have limit (v : Nat) : 100 * clamp 0 200 v ≤ 20000 := by
    have := clamp_range (lo := 0) (hi := 200) (by decide) v
    omega
  have tone := bitsOf_lt (byteAt m 60) 0 4
  rw [railRelated_eq]
  refine ⟨?_, brownout, cutoff, shed, admits, (clamp_range (by decide) _).1, (clamp_range (by decide) _).2,
    (clamp_range (by decide) _).2, ?_, (clamp_range (by decide) _).2, limit _, limit _, rfl, ?_, ?_, ?_⟩
  · exact List.forall_mem_cons.2 ⟨flowRelated_valid m 2, List.forall_mem_singleton.2 (flowRelated_valid m 24)⟩
  · show bitsOf (byteAt m 60) 0 4 ≤ 15
    omega
  · show ∀ d ∈ [domainAt m 0, domainAt m 1, domainAt m 2, domainAt m 3, domainAt m 4, domainAt m 5], _
    simp only [List.forall_mem_cons, domainAt_range, List.not_mem_nil, false_imp_iff, implies_true, and_self]
  · show ∀ k ∈ [scaleAt m 76, scaleAt m 79, scaleAt m 82], _
    simp only [List.forall_mem_cons, scaleAt_range, List.not_mem_nil, false_imp_iff, implies_true, and_self]
  · show ∀ x ∈ [(patternAt m 48).ch1, (patternAt m 48).ch2, (patternAt m 54).ch1, (patternAt m 54).ch2], _
    simp only [List.forall_mem_cons, patternAt_range, List.not_mem_nil, false_imp_iff, implies_true, and_self]

/-- Whatever bytes came, the validated record keeps the ranges of the layout (R199). -/
theorem loadRecord_valid (srec : Bool) (m : List Byte) : Params.Valid (loadRecord srec m) := by
  unfold loadRecord
  split
  · exact readRecord_valid m
  · unfold Params.Valid FlowParams.Valid
    decide

/-! #### The role's domain table (R151, R152) -/

theorem domainEntry_state {stn : Station} {w : DomainWord} {n : Nat} {d : Domain} (h : domainEntry stn w n = some d) :
    d.state = .off := by
  unfold domainEntry at h
  split at h
  · cases h
    rfl
  · obtain ⟨_, _, rfl⟩ := Option.map_eq_some_iff.1 h
    rfl

/-- The defaults of a role: core at priority 0, and their ranges (R151). -/
theorem defaultDomains_range (stn : Station) :
    ∀ n, ∀ x ∈ (defaultDomains stn)[n]?, (n = 0 → x.1 = 0) ∧ (x.1 = 0 → x.2.2 = true) ∧ x.1 ≤ 7 ∧ x.2.1 ≤ 60000 := by
  intro n x mem
  have inside : n < 5 := by
    have := (List.getElem?_eq_some_iff.1 (Option.mem_def.1 mem)).1
    have few : (defaultDomains stn).length ≤ 5 := by cases stn <;> decide
    omega
  revert x
  interval_cases n <;> cases stn <;> decide

theorem domainEntry_range {stn : Station} {w : DomainWord} {n : Nat} {d : Domain} (priority : w.priority ≤ 7)
    (nominal : w.nominal ≤ 6000) (h : domainEntry stn w n = some d) :
    (d.number = 0 → d.priority = 0) ∧ (d.priority = 0 → d.wanted = true) ∧ d.priority ≤ 7 ∧ d.nominal ≤ 60000 := by
  unfold domainEntry at h
  split at h
  · cases h
    dsimp only
    refine ⟨fun core => if_pos core, fun core => by rw [core]; rfl, ?_, by omega⟩
    split
    · exact Nat.zero_le _
    · exact priority
  · obtain ⟨x, mem, rfl⟩ := Option.map_eq_some_iff.1 h
    obtain ⟨core, wanted, top, most⟩ := defaultDomains_range stn n x mem
    exact ⟨core, fun first => by simp [wanted first], top, most⟩

theorem domainTable_range (stn : Station) {p : Params} (h : ∀ d ∈ p.domains, d.priority ≤ 7 ∧ d.nominal ≤ 6000) :
    ∀ d ∈ domainTable stn p, (d.number = 0 → d.priority = 0) ∧ (d.priority = 0 → d.wanted = true) ∧
      d.number < 6 ∧ d.priority ≤ 7 ∧ d.nominal ≤ 60000 := by
  intro d mem
  obtain ⟨n, inside, entry⟩ := List.mem_filterMap.1 mem
  have word : (p.domains.getD n {}).priority ≤ 7 ∧ (p.domains.getD n {}).nominal ≤ 6000 := by
    rw [List.getD_eq_getElem?_getD]
    cases here : p.domains[n]? with
    | none => decide
    | some w => exact h w (List.mem_of_getElem? here)
  obtain ⟨core, wanted, top, most⟩ := domainEntry_range word.1 word.2 entry
  exact ⟨core, wanted, by rw [domainEntry_number entry]; exact List.mem_range.1 inside, top, most⟩

theorem domainTable_ordered (stn : Station) (p : Params) : (domainTable stn p).Pairwise fun a b => a.number < b.number := by
  have numbers := List.pairwise_lt_range.sublist (domainTable_numbers stn p)
  exact List.pairwise_map.1 numbers

/-- The entry of a number in a table made number by number is the one made for it. -/
theorem find_filterMap {f : Nat → Option Domain} (numbered : ∀ n d, f n = some d → d.number = n) (n : Nat) (l : List Nat) :
    (l.filterMap f).find? (fun d => d.number == n) = if n ∈ l then f n else none := by
  induction l with
  | nil => rfl
  | cons m l ih =>
    rw [List.filterMap_cons]
    cases made : f m with
    | none =>
      dsimp only
      rw [ih]
      by_cases same : n = m
      · subst same
        rw [made, ite_self, ite_self]
      · simp [same]
    | some d =>
      dsimp only
      rw [List.find?_cons]
      by_cases same : n = m
      · subst same
        rw [numbered n d made, beq_self_eq_true, if_pos List.mem_cons_self, made]
      · rw [show (d.number == n) = false from beq_false_of_ne (by rw [numbered m d made]; exact Ne.symm same)]
        dsimp only
        rw [ih]
        simp [same]

theorem domainTable_find (stn : Station) (p : Params) {n : Nat} (h : n < 6) :
    (domainTable stn p).find? (fun d => d.number == n) = domainEntry stn (p.domains.getD n {}) n := by
  unfold domainTable
  rw [find_filterMap fun n d made => domainEntry_number made]
  exact if_pos (List.mem_range.2 h)

/-! #### The layout's fields (R198, R199) -/

theorem loadRecord_of_refused {srec : Bool} {m : List Byte} (h : ¬(srec = true ∧ accepted m = true)) :
    loadRecord srec m = Params.default := if_neg (by simpa using h)

theorem loadRecord_of_accepted {srec : Bool} {m : List Byte} (fitted : srec = true) (h : accepted m = true) :
    loadRecord srec m = railRelated (readRecord m) := if_pos (by rw [fitted, h]; rfl)

theorem accepted_iff (m : List Byte) : accepted m = true ↔ m.length = 96 ∧ byteAt m 0 = 0xA6 ∧ byteAt m 1 = 1 := by
  simp [accepted, and_assoc]

theorem outFnOf_eq {n : Nat} (h : n < 8) :
    outFnOf n =
      [OutFn.laneFault, .rateLow, .shed, .attention, .superframePulse, .slipPulse, .fixedLow, .fixedHigh].getD n .fixedHigh := by
  interval_cases n <;> rfl

theorem flagAt_eq (m : List Byte) (i k : Nat) : flagAt m i k = decide (byteAt m i / 2 ^ k % 2 ^ (k + 1 - k) = 1) := by
  rw [Nat.add_sub_cancel_left]
  rfl

theorem patternAt_eq (m : List Byte) (i : Nat) :
    patternAt m i =
      { ch1 := if fieldAt m i 3 < 2 ^ (24 - 1) then (fieldAt m i 3 : Int) else (fieldAt m i 3 : Int) - 2 ^ 24,
        ch2 := if fieldAt m (i + 3) 3 < 2 ^ (24 - 1) then (fieldAt m (i + 3) 3 : Int) else (fieldAt m (i + 3) 3 : Int) - 2 ^ 24 } := by
  unfold patternAt
  rw [signedOf_eq (by decide) (fieldAt_three_lt m i), signedOf_eq (by decide) (fieldAt_three_lt m (i + 3))]

theorem scaleAt_eq (m : List Byte) (i : Nat) :
    scaleAt m i =
      { gain := fieldAt m i 3 / 2 ^ 12 % 2 ^ 12,
        offset := if fieldAt m i 3 / 2 ^ 0 % 2 ^ 10 < 2 ^ (10 - 1) then ((fieldAt m i 3 / 2 ^ 0 % 2 ^ 10 : Nat) : Int)
          else ((fieldAt m i 3 / 2 ^ 0 % 2 ^ 10 : Nat) : Int) - 2 ^ 10 } := by
  unfold scaleAt
  rw [signedOf_eq (by decide) (bitsOf_lt _ 0 10)]
  rfl

/-- The second pass over the RAIL thresholds, field by field (R199). -/
theorem railRelated_readRecord (m : List Byte) :
    let rails : Bool := decide (byteAt m 88 < byteAt m 87 ∧ byteAt m 87 < byteAt m 86 ∧ byteAt m 86 < byteAt m 85)
    railRelated (readRecord m) =
      { readRecord m with
        admitMv := if rails then 100 * byteAt m 85 else 11000, shedMv := if rails then 100 * byteAt m 86 else 10400,
        cutoffMv := if rails then 100 * byteAt m 87 else 9800, brownoutMv := if rails then 100 * byteAt m 88 else 9000 } := by
  intro rails
  have ordered : ((readRecord m).brownoutMv < (readRecord m).cutoffMv ∧ (readRecord m).cutoffMv < (readRecord m).shedMv ∧
      (readRecord m).shedMv < (readRecord m).admitMv) ↔ rails = true := by
    show (100 * byteAt m 88 < 100 * byteAt m 87 ∧ 100 * byteAt m 87 < 100 * byteAt m 86 ∧ 100 * byteAt m 86 < 100 * byteAt m 85) ↔ _
    rw [decide_eq_true_iff]
    omega
  unfold railRelated
  rw [if_congr ordered rfl rfl]
  cases rails <;> rfl

/-- A value clamped, by the two comparisons of R199. -/
def clampIn (v low high : Nat) : Nat := if v < low then low else if high < v then high else v

theorem clamp_in {low high : Nat} (h : low ≤ high) (v : Nat) : clamp low high v = clampIn v low high := clamp_eq h v

theorem clampIn_le {low high : Nat} (h : low ≤ high) (v : Nat) : clampIn v low high ≤ high := by
  rw [← clamp_in h]
  exact (clamp_range h v).2

/-- Two bytes of the layout, most significant first. -/
def twoBytes (m : List Byte) (i : Nat) : Nat := byteAt m i * 256 + byteAt m (i + 1)

/-- A paced flow's fields from the 22 bytes of its block at `o` (R199). -/
def flowLayout (m : List Byte) (o : Nat) : FlowParams :=
  let peak := clampIn (twoBytes m o) 16 1008
  let floor := clampIn (clampIn (twoBytes m (o + 2)) 0 1008) 0 peak
  let scarce := clampIn (twoBytes m (o + 14)) 0 1008
  let ease := clampIn (twoBytes m (o + 16)) 0 1008
  let low := clampIn (twoBytes m (o + 18)) 0 1008
  let ok := clampIn (twoBytes m (o + 20)) 0 1008
  let ordered : Bool := decide (scarce < ease ∧ ease ≤ low ∧ low < ok ∧ ok ≤ peak)
  { peak := peak, floor := floor, start := clampIn (clampIn (twoBytes m (o + 4)) 0 1008) floor peak,
    rise := clampIn (byteAt m (o + 6)) 1 255, fall := clampIn (byteAt m (o + 7)) 1 255,
    fade := clampIn (byteAt m (o + 8)) 1 255, spacing := clampIn (byteAt m (o + 9)) 4 255,
    interval := clampIn (byteAt m (o + 10)) 1 63, patience := clampIn (bitsOf (twoBytes m (o + 11)) 10 4) 1 15,
    idleReset := clampIn (bitsOf (twoBytes m (o + 11)) 0 10) 1 1023,
    burst := max (clampIn (byteAt m (o + 13)) 1 255) ((peak + 15) / 16), scarce := if ordered then scarce else peak / 8,
    ease := if ordered then ease else peak * 3 / 16, low := if ordered then low else peak * 3 / 8,
    ok := if ordered then ok else peak / 2 }

/-- The first pass, by the two comparisons. -/
theorem flowClamped_eq (m : List Byte) (o : Nat) :
    flowClamped m o =
      { peak := clampIn (twoBytes m o) 16 1008, floor := clampIn (twoBytes m (o + 2)) 0 1008,
        start := clampIn (twoBytes m (o + 4)) 0 1008, rise := clampIn (byteAt m (o + 6)) 1 255,
        fall := clampIn (byteAt m (o + 7)) 1 255, fade := clampIn (byteAt m (o + 8)) 1 255,
        spacing := clampIn (byteAt m (o + 9)) 4 255, interval := clampIn (byteAt m (o + 10)) 1 63,
        patience := clampIn (bitsOf (twoBytes m (o + 11)) 10 4) 1 15,
        idleReset := clampIn (bitsOf (twoBytes m (o + 11)) 0 10) 1 1023, burst := clampIn (byteAt m (o + 13)) 1 255,
        scarce := clampIn (twoBytes m (o + 14)) 0 1008, ease := clampIn (twoBytes m (o + 16)) 0 1008,
        low := clampIn (twoBytes m (o + 18)) 0 1008, ok := clampIn (twoBytes m (o + 20)) 0 1008 } := by
  have two (i : Nat) : fieldAt m i 2 = twoBytes m i := fieldAt_two m i
  unfold flowClamped
  simp only [two, clamp_in (show 16 ≤ 1008 by decide), clamp_in (Nat.zero_le 1008), clamp_in (show 1 ≤ 255 by decide),
    clamp_in (show 4 ≤ 255 by decide), clamp_in (show 1 ≤ 63 by decide), clamp_in (show 1 ≤ 15 by decide),
    clamp_in (show 1 ≤ 1023 by decide)]

theorem flowRelated_layout (m : List Byte) (o : Nat) : flowRelated (flowClamped m o) = flowLayout m o := by
  have bands : bandsOk (flowClamped m o) = decide
      ((flowClamped m o).scarce < (flowClamped m o).ease ∧ (flowClamped m o).ease ≤ (flowClamped m o).low ∧
        (flowClamped m o).low < (flowClamped m o).ok ∧ (flowClamped m o).ok ≤ (flowClamped m o).peak) := by
    rw [Bool.eq_iff_iff, bandsOk_iff, decide_eq_true_iff]
  rw [flowRelated_eq, bands, flowClamped_eq]
  dsimp only
  rw [clamp_in (Nat.zero_le _), clamp_in (clampIn_le (Nat.zero_le _) _)]
  rfl

theorem domainAt_layout (m : List Byte) (i : Nat) :
    domainAt m i =
      { override := flagAt m 62 i, wanted := flagAt m 63 i, priority := bitsOf (twoBytes m (64 + 2 * i)) 13 3,
        nominal := clampIn (bitsOf (twoBytes m (64 + 2 * i)) 0 13) 0 6000 } := by
  have two : fieldAt m (64 + 2 * i) 2 = twoBytes m (64 + 2 * i) := fieldAt_two m _
  unfold domainAt
  dsimp only
  rw [two, clamp_in (Nat.zero_le _)]

/-- The first pass over an accepted record, from the layout's bytes (R199). -/
theorem readRecord_layout (m : List Byte) :
    readRecord m =
      { readRecord m with
        flowL := flowLayout m 2, flowR := flowLayout m 24, crowd := clampIn (byteAt m 46) 1 32,
        volume := clampIn (bitsOf (byteAt m 60) 4 4) 0 14, motionRate := clampIn (bitsOf (byteAt m 61) 0 2) 0 2,
        strapLimit := 100 * clampIn (byteAt m 89) 0 200, batteryFloor := 100 * clampIn (byteAt m 90) 0 200,
        outA := [OutFn.laneFault, .rateLow, .shed, .attention, .superframePulse, .slipPulse, .fixedLow, .fixedHigh].getD
          (bitsOf (byteAt m 94) 0 3) .fixedHigh,
        outB := [OutFn.laneFault, .rateLow, .shed, .attention, .superframePulse, .slipPulse, .fixedLow, .fixedHigh].getD
          (bitsOf (byteAt m 94) 4 3) .fixedHigh } := by
  rw [← outFnOf_eq (bitsOf_lt _ 0 3), ← outFnOf_eq (bitsOf_lt _ 4 3), ← flowRelated_layout, ← flowRelated_layout,
    ← clamp_in (by decide), ← clamp_in (by decide), ← clamp_in (by decide), ← clamp_in (by decide), ← clamp_in (by decide)]
  rfl

end Sys2Proof.Machine

namespace Sys2Proof.Machine

/-! ### The end of LOADING (R200) -/

section
variable {s : State}

/-! #### The domains as power comes up (R151, R153, R123) -/

/-- The wear link's write to a domain that power brought up (R123, R153). -/
theorem wantOf_begin {d : Domain} (core : d.priority = 0 → d.wanted = true) (v : Bool) :
    wantOf 1 v d.begin =
      if d.begin.number = 1 ∧ d.begin.priority ≠ 0 then { d.begin with wanted := v, state := if v then .waiting else .off }
      else d.begin := by
  by_cases writes : d.begin.number = 1 ∧ d.begin.priority ≠ 0
  · refine Eq.trans ?_ (if_pos writes).symm
    have state : d.begin.state = if d.begin.wanted then .waiting else .off := if_neg writes.2
    rw [wantOf_eq]
    by_cases same : d.begin.wanted = v
    · rw [if_neg fun h => h.2.1 same, ← same, ← state]
    · rw [if_pos ⟨writes.1, same, .inr writes.2⟩, state]
      cases v with
      | false => rfl
      | true => simp [Bool.eq_false_iff.2 same]
  · refine Eq.trans ?_ (if_neg writes).symm
    rw [wantOf_eq, if_neg]
    rintro ⟨number, differs, sets | other⟩
    · by_cases first : d.priority = 0
      · exact differs ((core first).trans sets.symm)
      · exact writes ⟨number, first⟩
    · exact writes ⟨number, other⟩

/-- The state with the role's domain table, before its domains take their states. -/
def State.tabled (s : State) : State :=
  s.modPower fun p =>
    { p with domains := domainTable s.station s.cfg, switchClosed := if s.station = .console then true else p.switchClosed }

/-- The state with the domains in their first states, before the units follow. -/
def State.powered (s : State) : State := s.tabled.changeDomains Domain.begin

theorem State.powerUp_eq (s : State) : s.powerUp = s.tabled.calling fun t => (t.changeDomains Domain.begin).follow := rfl

theorem State.powered_domains (s : State) : s.powered.power.domains = (domainTable s.station s.cfg).map Domain.begin := by
  simp [State.powered, State.tabled]

theorem State.powered_kept (s : State) :
    s.powered.station = s.station ∧ s.powered.cfg = s.cfg ∧ s.powered.motion = s.motion := by
  simp [State.powered, State.tabled]

theorem State.powerUp_follow (s : State) : s.powerUp.power.domains = s.powered.follow.power.domains := by
  rw [State.powerUp_eq, State.calling_power]
  unfold State.powered
  dsimp only

/-- The sensors start with power at a HEADSET whose wear link is enabled (R121, R123). -/
def State.linksUp (s : State) : Prop :=
  s.station = .headset ∧ s.cfg.wearLink = true ∧ s.motion.state = .off ∧
    ∃ d ∈ (domainTable s.station s.cfg).map Domain.begin, d.number = 2 ∧ d.state = .on

theorem State.linksUp_iff (s : State) : s.linksUp ↔ s.powered.starts = true ∧ s.cfg.wearLink = true := by
  obtain ⟨station, -, motion⟩ := s.powered_kept
  have on : s.powered.domainOn 2 = true ↔
      ∃ d ∈ (domainTable s.station s.cfg).map Domain.begin, d.number = 2 ∧ d.state = .on := by
    unfold State.domainOn
    rw [s.powered_domains]
    simp only [List.any_eq_true, Bool.and_eq_true, beq_iff_eq]
  rw [State.starts_iff, on, station, motion]
  exact ⟨fun ⟨headset, enabled, off, sensors⟩ => ⟨⟨headset, sensors, off⟩, enabled⟩,
    fun ⟨⟨headset, sensors, off⟩, enabled⟩ => ⟨headset, enabled, off, sensors⟩⟩

/-- The domains as power leaves them where the wear link writes (R123). -/
theorem State.powerUp_domains_of_link (core : ∀ d ∈ domainTable s.station s.cfg, d.priority = 0 → d.wanted = true)
    (link : s.linksUp) :
    s.powerUp.power.domains = ((domainTable s.station s.cfg).map Domain.begin).map fun d =>
      if d.number = 1 ∧ d.priority ≠ 0 then
        { d with wanted := s.motion.worn, state := if s.motion.worn then .waiting else .off }
      else d := by
  obtain ⟨begins, enabled⟩ := s.linksUp_iff.1 link
  obtain ⟨-, cfg, motion⟩ := s.powered_kept
  rw [State.powerUp_follow, State.follow_domains, if_pos begins]
  unfold State.wearLinked
  rw [cfg, motion, if_pos enabled, s.powered_domains]
  refine List.map_congr_left fun d mem => ?_
  obtain ⟨e, here, rfl⟩ := List.mem_map.1 mem
  exact wantOf_begin (core e here) _

/-- The domains as power leaves them elsewhere (R153). -/
theorem State.powerUp_domains_of_no_link (link : ¬s.linksUp) :
    s.powerUp.power.domains = (domainTable s.station s.cfg).map Domain.begin := by
  obtain ⟨-, cfg, -⟩ := s.powered_kept
  rw [State.powerUp_follow, State.follow_domains]
  split
  · rename_i begins
    unfold State.wearLinked
    rw [cfg, if_neg fun enabled => link (s.linksUp_iff.2 ⟨begins, enabled⟩), s.powered_domains]
  · rw [s.powered_domains]

/-- Power leaves the priority-0 domains alone ON (R153). -/
theorem State.powerUp_on (core : ∀ d ∈ domainTable s.station s.cfg, d.priority = 0 → d.wanted = true) :
    ∀ d ∈ s.powerUp.power.domains, d.state = .on ↔ d.priority = 0 := by
  have begun : ∀ d ∈ (domainTable s.station s.cfg).map Domain.begin, d.state = .on ↔ d.priority = 0 := by
    rw [List.forall_mem_map]
    exact fun d _ => d.begin_on
  by_cases link : s.linksUp
  · rw [State.powerUp_domains_of_link core link, List.forall_mem_map]
    intro d mem
    split
    · rename_i writes
      refine ⟨fun on => ?_, fun first => absurd first writes.2⟩
      revert on
      cases s.motion.worn <;> nofun
    · exact begun d mem
  · rw [State.powerUp_domains_of_no_link link]
    exact begun

/-! #### The records and the audio as power comes up (R55, R57) -/

/-- The display domain moves no record that is CLOSED (R57). -/
theorem State.followDisplay_of_closed
    (closed : ∀ e, s.dst.get (Eye.flow e) = none ∨ s.dst.get (Eye.flow e) = some ⟨.closed, none⟩) :
    s.followDisplay = s := by
  have eye (e : Eye) : s.followEye e = s := by
    unfold State.followEye
    obtain none | made := closed e
    · rw [none]
    · rw [made]
  unfold State.followDisplay
  rw [eye .left, eye .right, ite_self]

theorem State.followSensors_dst_of_closed
    (closed : ∀ e, s.dst.get (Eye.flow e) = none ∨ s.dst.get (Eye.flow e) = some ⟨.closed, none⟩) :
    s.followSensors.dst = s.dst := by
  have linked (f : Motion → Motion) (v : Bool) : ((s.motionTo f).wearLink v).dst = s.dst := by
    unfold State.wearLink
    split
    · rw [State.followDisplay_of_closed (by simpa using closed)]
      simp
    · simp
  unfold State.followSensors
  (repeat' split) <;> first | rfl | exact linked _ _ | simp

theorem State.follow_dst_of_closed
    (closed : ∀ e, s.dst.get (Eye.flow e) = none ∨ s.dst.get (Eye.flow e) = some ⟨.closed, none⟩) : s.follow.dst = s.dst := by
  have sensors := State.followSensors_dst_of_closed closed
  have display : s.followSensors.followDisplay = s.followSensors :=
    State.followDisplay_of_closed (by rw [sensors]; exact closed)
  unfold State.follow
  simp [display, sensors]

theorem State.follow_volume (s : State) : s.follow.audio.volume = s.audio.volume := by
  have units : s.followSensors.followDisplay.followSource.followSink.audio.volume = s.audio.volume := by
    rw [State.followAudio_eq]
    simp
  simpa [State.follow] using units

/-! #### What the end of LOADING leaves (R19, R47, R200) -/

/-- Before RUNNING a change calls no report (R178). -/
theorem State.calling_outstanding {f : State → State} (early : ¬(f s).running) :
    (s.calling f).balance.outstanding = (f s).balance.outstanding :=
  (State.calling_preserves (P := fun t => ¬t.running ∧ t.balance.outstanding = (f s).balance.outstanding)
    (fun t due h => absurd (t.reportDue_iff.1 due).1 h.1) (fun _ h => h) ⟨early, rfl⟩).2

theorem State.SameButFifo.powerUp (s : State) : s.SameButFifo s.powerUp := by
  have followed : s.SameButFifo (s.tabled.changeDomains Domain.begin).follow := .of_tx (.refl s) (by simp [State.tabled])
  rw [State.powerUp_eq]
  exact State.SameButFifo.calling followed

theorem State.startTx_role (s : State) :
    (s.startTx.tx.get .down).role = .provisional ∧ (s.station ≠ .console → (s.startTx.tx.get .up).role = .provisional) ∧
      (s.station = .console → s.startTx.tx.up = s.tx.up) := by
  unfold State.startTx
  dsimp only
  by_cases console : s.station = .console
  · rw [if_pos console]
    exact ⟨rfl, fun h => absurd console h, fun _ => rfl⟩
  · rw [if_neg console]
    exact ⟨rfl, fun _ => rfl, fun h => absurd h console⟩

theorem State.makeRecords_get (s : State) (f : FlowId) :
    s.makeRecords.dst.get f = if s.planDest f = s.station then some ⟨.closed, none⟩ else none := by
  cases f <;> rfl

/-- The state with the record and the flow plan in effect, before power comes up (R200). -/
def State.recorded (s : State) (memory : List Byte) : State := (s.applyRecord memory).makeRecords

/-- The state that END_OF_LOADING leaves (R200). -/
def State.linkingFrom (s : State) (memory : List Byte) : State :=
  (((s.recorded memory).powerUp.startTx.startRx .down).startRx .up)

theorem exec_endOfLoading {memory : List Byte} (loading : s.start = .loading) :
    exec (.endOfLoading memory) s = .next (s.linkingFrom memory) := if_pos loading

theorem State.recorded_kept (s : State) (memory : List Byte) :
    (s.recorded memory).start = .linking ∧ (s.recorded memory).station = s.station ∧
      (s.recorded memory).cfg = loadRecord s.srec memory ∧ (s.recorded memory).motion = s.motion ∧ (s.recorded memory).tx = s.tx ∧
      (s.recorded memory).audio.volume = (loadRecord s.srec memory).volume ∧ (s.recorded memory).balance = s.balance := by
  simp [State.recorded]

theorem State.linkingFrom_power (s : State) (memory : List Byte) : (s.linkingFrom memory).power = (s.recorded memory).powerUp.power := by
  simp [State.linkingFrom]

theorem State.recorded_dst (s : State) (memory : List Byte) (f : FlowId) :
    (s.recorded memory).dst.get f = if (s.recorded memory).planDest f = s.station then some ⟨.closed, none⟩ else none := by
  have plan : (s.recorded memory).planDest f = (s.applyRecord memory).planDest f := by cases f <;> rfl
  rw [plan, ← (State.applyRecord_keeps s memory).2.1]
  exact State.makeRecords_get _ f

theorem State.powerUp_dst (closed : ∀ e, s.dst.get (Eye.flow e) = none ∨ s.dst.get (Eye.flow e) = some ⟨.closed, none⟩) :
    s.powerUp.dst = s.dst := by
  have kept : (s.tabled.changeDomains Domain.begin).dst = s.dst := by simp [State.tabled]
  have stands := State.follow_dst_of_closed (s := s.tabled.changeDomains Domain.begin) (by rw [kept]; exact closed)
  rw [State.powerUp_eq]
  simpa [State.tabled] using stands

theorem State.planDest_congr {t : State} (judged : t.audioStation = s.audioStation) (f : FlowId) : t.planDest f = s.planDest f := by
  cases f <;> simp only [State.planDest, judged]

theorem State.linkingFrom_dst (s : State) (memory : List Byte) (f : FlowId) :
    (s.linkingFrom memory).dst.get f =
      if (s.linkingFrom memory).planDest f = (s.linkingFrom memory).station then some ⟨.closed, none⟩ else none := by
  have dst : (s.linkingFrom memory).dst = (s.recorded memory).dst := by
    have up : (s.recorded memory).powerUp.dst = (s.recorded memory).dst := by
      refine State.powerUp_dst fun e => ?_
      rw [State.recorded_dst]
      split
      · exact .inr rfl
      · exact .inl rfl
    rw [← up]
    simp [State.linkingFrom]
  have judged : (s.linkingFrom memory).audioStation = (s.recorded memory).audioStation :=
    State.audioStation_congr (by simp [State.linkingFrom]) (by simp [State.linkingFrom])
  have plan : (s.linkingFrom memory).planDest f = (s.recorded memory).planDest f := State.planDest_congr judged f
  have station : (s.linkingFrom memory).station = s.station := by simp [State.linkingFrom, State.recorded]
  rw [dst, plan, station, State.recorded_dst]

/-- CONSOLE's switch closes, and its records read their parameters (R89, R164). -/
theorem State.linkingFrom_of_console (memory : List Byte) (console : s.station = .console) :
    (s.linkingFrom memory).power.switchClosed = true ∧
      ∀ e, ((s.linkingFrom memory).paced.get e).ar = ((s.linkingFrom memory).params e).start ∧
        ((s.linkingFrom memory).paced.get e).band = loadBand ((s.linkingFrom memory).params e) := by
  obtain ⟨-, station, cfg, -⟩ := s.recorded_kept memory
  refine ⟨?_, fun e => ?_⟩
  · rw [State.linkingFrom_power, State.powerUp_eq]
    simp [State.tabled, station, console]
  · have paced : (s.linkingFrom memory).paced = (s.applyRecord memory).paced := by simp [State.linkingFrom, State.recorded]
    have settings : (s.linkingFrom memory).cfg = loadRecord s.srec memory := by simp [State.linkingFrom, cfg]
    rw [paced, State.applyRecord_paced_of_console memory console]
    unfold State.params
    rw [settings]
    cases e <;> exact ⟨rfl, rfl⟩

theorem State.linkingFrom_role (s : State) (memory : List Byte) :
    ((s.linkingFrom memory).tx.get .down).role = .provisional ∧
      (s.station ≠ .console → ((s.linkingFrom memory).tx.get .up).role = .provisional) ∧
      (s.station = .console → (s.linkingFrom memory).tx.up.role = s.tx.up.role) := by
  obtain ⟨-, station, -, -, tx, -⟩ := s.recorded_kept memory
  have same : (s.linkingFrom memory).tx = (s.recorded memory).powerUp.startTx.tx := by simp [State.linkingFrom]
  obtain ⟨down, up, console⟩ := (s.recorded memory).powerUp.startTx_role
  rw [(State.powerUp_keeps _).2.2.1, station] at up console
  rw [same]
  refine ⟨down, up, fun at_console => ?_⟩
  rw [console at_console, show (s.recorded memory).powerUp.tx.up = (s.recorded memory).powerUp.tx.get .up from rfl,
    State.SameButFifo.powerUp (s.recorded memory) .up, tx]
  rfl

theorem State.powerUp_balance (early : ¬s.running) : s.powerUp.balance.outstanding = s.balance.outstanding := by
  have same : ((s.tabled.changeDomains Domain.begin).follow).balance = s.balance := by simp [State.tabled]
  rw [State.powerUp_eq, State.calling_outstanding (by simpa [State.running, State.tabled] using early), same]

theorem State.powerUp_volume (s : State) : s.powerUp.audio.volume = s.audio.volume := by
  have same := State.follow_volume (s.tabled.changeDomains Domain.begin)
  rw [State.powerUp_eq]
  simpa [State.tabled] using same

end

/-- The 19 lowest bits of a mask (R199). -/
theorem mask_eq (v : Nat) : BitVec.ofNat 19 v = BitVec.ofNat 19 (v / 2 ^ 0 % 2 ^ (18 + 1 - 0)) := by
  apply BitVec.eq_of_toNat_eq
  simp

/-- Settles O5: the state after END_OF_LOADING part by part, the ranges of the two passes of validation, the table number by
number, and the record field by field. -/
theorem endOfLoadingStartsLinking : Obligations.EndOfLoadingStartsLinking := by
  unfold Obligations.EndOfLoadingStartsLinking
  refine ⟨fun memory s loading => ?_, fun srec memory => ?_, fun stn p => ⟨domainTable_ordered stn p, fun n inside => ?_⟩,
    fun srec memory => ?_⟩
  · obtain ⟨start, station, cfg, motion, tx, volume, balance⟩ := s.recorded_kept memory
    obtain ⟨down, up, console⟩ := s.linkingFrom_role memory
    have settings : (s.linkingFrom memory).cfg = loadRecord s.srec memory := by simp [State.linkingFrom, cfg]
    have core : ∀ d ∈ domainTable (s.recorded memory).station (s.recorded memory).cfg, d.priority = 0 → d.wanted = true := by
      rw [cfg]
      obtain ⟨-, -, -, -, -, -, -, -, -, -, -, -, -, words, -⟩ := loadRecord_valid s.srec memory
      exact fun d mem => (domainTable_range _ words d mem).2.1
    refine ⟨s.linkingFrom memory, exec_endOfLoading loading, by simp [State.linkingFrom, start], settings,
      by simp [State.linkingFrom, station], by simp [State.linkingFrom, State.recorded], down, up,
      fun at_console => ⟨console at_console, State.linkingFrom_of_console memory at_console⟩, s.linkingFrom_dst memory,
      ?_, ?_, ?_, ?_, ?_, ?_⟩
    · rw [State.linkingFrom_power]
      exact State.powerUp_on core
    · intro begun linked
      have table : begun = (domainTable (s.recorded memory).station (s.recorded memory).cfg).map Domain.begin := by
        rw [station, cfg, ← settings]
        rfl
      have links : linked = true ↔ (s.recorded memory).linksUp := by
        unfold State.linksUp
        rw [← table, station, cfg, motion, ← settings]
        exact decide_eq_true_iff
      rw [State.linkingFrom_power, table]
      by_cases link : (s.recorded memory).linksUp
      · rw [State.powerUp_domains_of_link core link, motion]
        exact List.map_congr_left fun d _ => if_congr (iff_and_self.2 fun _ => links.2 link) rfl rfl
      · rw [State.powerUp_domains_of_no_link link]
        refine (List.map_id _).symm.trans (List.map_congr_left fun d _ => ?_)
        exact (if_neg fun h => link (links.1 h.1)).symm
    · simp [State.linkingFrom, State.powerUp_volume, volume, cfg]
    · have same : (s.linkingFrom memory).balance = (s.recorded memory).powerUp.balance := by simp [State.linkingFrom]
      rw [same, State.powerUp_balance (by simp [State.running, start]), balance]
    · simp [State.linkingFrom, State.recorded]
    · simp [State.linkingFrom, State.recorded]
  · intro p
    have valid : Params.Valid p := loadRecord_valid srec memory
    obtain ⟨flows, brownout, cutoff, shed, admits, crowd, crowds, volume, sidetone, rate, limit, floor, six, domains, scales,
      patterns⟩ := valid
    exact ⟨flows, brownout, cutoff, shed, admits, crowd, crowds, volume, sidetone, rate, limit, floor, six, domains, scales,
      patterns, fun stn => domainTable_range stn domains⟩
  · intro default w priority
    rw [domainTable_find stn p inside]
    unfold domainEntry
    refine if_congr Iff.rfl rfl ?_
    revert default
    interval_cases n <;> cases stn <;> rfl
  · intro b two three bits flag signed clamped accepted flow rails scale pattern output standard
    refine ⟨fun refused => ?_, fun ok => ?_⟩
    · rw [loadRecord_of_refused (by rw [accepted_iff]; exact refused)]
      rfl
    · rw [loadRecord_of_accepted ok.1 ((accepted_iff memory).2 ok.2), railRelated_readRecord, readRecord_layout]
      dsimp only [readRecord]
      simp only [patternAt_eq, scaleAt_eq, domainAt_layout, flagAt_eq, fieldAt_three]
      rw [mask_eq ((byteAt memory 91 * 256 + byteAt memory (91 + 1)) * 256 + byteAt memory (91 + 2))]
      rfl

end Sys2Proof.Machine
